-- ==== Sys2Proof/Word.lean ====
section
/-! DEFINITION. The word types of the block: registers are 32 bits wide (R5), memories are addressed in bytes. -/
namespace Sys2Proof

/-- A register of the block: 32 bits, whole aligned words only (R5). -/
abbrev Word := BitVec 32

/-- One byte of board SDRAM, of a frame or of a command. -/
abbrev Byte := BitVec 8

/-- A sparse table: keys strictly rising, and no entry equal to what an unlisted key reads as. -/
abbrev Tab (α : Type) := List (Nat × α)

/-- One field of a register: the byte offset of its word in BAR0 (R431), its lowest bit and its length. -/
structure Fld where
  off : Nat
  lo  : Nat
  len : Nat
deriving DecidableEq, Repr

end Sys2Proof
end

