-- ==== Sys2Proof/Syntax.lean ====
section
/-! DEFINITION. The commands of the block: one constructor for every row of the table of operations and events, with the operands its chapter gives it. A command is an OCCURRENCE: what the host or the ring controller sends, what happens on a pin, what a sensor, a converter or a photodiode measured, or that an internal event comes due. -/
namespace Sys2Proof

/-- The path by which a register access arrives: PCI Express, SMBus (R441), or a REG_READ or REG_WRITE op (R370) of a command carried by PCI Express or by the ring. -/
inductive HostPath where
  | pcie | smbus | opPcie | opRing
deriving DecidableEq, Repr

/-- How a board-SDRAM read (R445) or a tile-bus transfer (R11) came out of its check bits. -/
inductive Ecc where
  | ok | corrected | uncorrectable
deriving DecidableEq, Repr

/-- An uncorrectable error of an on-chip memory: a byte of the working set (R296), or a word of memory 0 the image cache, 1 bench memory, 2 Bramble state, 3 the element table (R388). -/
inductive MemErr where
  | workingSet (off : Nat) | sram (mem word : Nat)
deriving DecidableEq, Repr

/-- How a received frame's check sequence came out (R322): right, wrong, or the inverse of the right one. -/
inductive Fcs where
  | ok | bad | stomped
deriving DecidableEq, Repr

/-- A block of host memory that a fetch over PCI Express returns: its address and bytes. -/
abbrev HostMem := List (Nat × List Byte)

/-- A background job's work (R281): a lane's next solve, a Plumb run, or the wrap of an element. -/
inductive JobKind where
  | seam (lane : Nat) | plumb | wrap (eid : Nat)
deriving DecidableEq, Repr

/-- What a sensor gave in a round (R265, R268): a reading in 1/16 °C, open, short, or nothing. -/
inductive Sample where
  | ok (t : Int) | opened | shorted | silent
deriving DecidableEq, Repr

/-- How the burning of a commit went (R310): every fuse programmed, with the re-burns made; a byte of the region that would not verify; or a marker that would not. -/
inductive FuseEnd where
  | done (retries : Nat)
  | verifyFail (held : List (Nat × Byte))
  | markerFail (marker : Byte)
deriving DecidableEq, Repr

/-- What a test of chapter 18 has measured when it ends: symbol errors by lane (R457); errors by tile bus (R460); failing words, each with its address and byte lane (R459); readback samples, each with its slot and its difference from the code stepped to (R461); the 14-bit values of an amplifier in a range without and with the test current (R462); the readings of the optical path in 1/256 dB (R463). -/
inductive Findings where
  | ring (errs : List Nat)
  | tileBus (errs : List Nat)
  | sdram (fails : List (Nat × Nat))
  | dac (samples : List (Nat × Int))
  | amplifier (pairs : List (Nat × Nat × Nat × Nat))
  | optical (ingress : Int) (planes : List (List Int × Int × Int))
deriving DecidableEq, Repr

/-- The balls with boundary cells (R465, R472): those of SDRAM channel c; the transmit and receive lanes of PCI Express and of the ring ports, which take IEEE 1149.6 cells; the reference clocks, 0 PCIEREF, 1 RINGREF, 2 REFCLK, which are only observed; and the digital, timing and management pins. The pins of the test port itself have none. -/
inductive Ball where
  | sdram (c n : Nat)
  | pcieTx (lane : Nat) | pcieRx (lane : Nat) | ringTx (port lane : Nat) | ringRx (port lane : Nat)
  | ref (k : Nat)
  | trigo (k : Nat) | trigin (k : Nat) | ppsIn | ppsOut | syncIn | syncOut | gpio (k : Nat)
  | poreset | sysreset | perst | ready | fault | int | bootmode (k : Nat)
  | smbClk | smbData | avsClk | avsMdata | avsSdata
deriving DecidableEq, Repr

/-- A scan of the boundary register (R464, R465): the levels on the balls that the tester looks at, as far as the device does not drive them itself, and what it shifts into the control and output cells of balls. -/
structure Scan where
  levels : List (Ball × Bool)
  load   : List (Ball × Bool × Bool)
deriving DecidableEq, Repr

/-- The commands (the table of operations and events), one constructor for each row. -/
inductive Instr where
  /-- PORESET_N_RISE (R25): PORESET_N rises with VDD_AON in tolerance, moving the device from OFF to BOOT and starting PLL lock, fuse load and self-test. Operands: `mode` BOOTMODE as sampled. -/
  | poresetNRise (mode : Nat)
  /-- POWER_ON_RESET (R415): PORESET_N is low for at least 10 µs or VDD_AON leaves tolerance; all blocks reset and the device goes to OFF. Operands: `burnt` what a fuse commit in progress has burnt. -/
  | powerOnReset (burnt : List (Nat × Byte))
  /-- SYSRESET_N (R415): SYSRESET_N is low for at least 1 µs; the device restarts BOOT, keeping the always-on domain, the working set and SDRAM. Operands: `burnt` what a fuse commit in progress has burnt. -/
  | sysresetN (burnt : List (Nat × Byte))
  /-- JTAG_TRST (R415): TRST resets the test logic only. -/
  | jtagTrst
  /-- ROOT_PLL_LOCK (R22): The root PLL locks after PORESET_N rises; the time counter starts and BOOT continues. Operands: `us` µs since the rise of PORESET_N. -/
  | rootPllLock (us : Nat)
  /-- PLL_LOSS_OF_LOCK (R23): A PLL loses lock and raises its own Sump source. Operands: `k` 0 root, 1 ring SerDes, 2 PCI Express, 3 SDRAM. -/
  | pllLossOfLock (k : Nat)
  /-- BOOT_FUSE_LOAD (R294): The fuse phase ends; the highest qualifying generation becomes the working set, or CAL_ABSENT is set. -/
  | bootFuseLoad
  /-- SELF_TEST_COMPLETE (R417): Self-test ends; on a failure the device enters HALT and a SELFTEST record opens. Operands: `failing` the blocks that failed. -/
  | selfTestComplete (failing : List Nat)
  /-- BOOT_DOMAINS_ON (R417): All domains reach ON during BOOT; drive tiles are in LIMIT at zero codes and the monitors start converting. -/
  | bootDomainsOn
  /-- SDRAM_TRAINING_DONE (R447): Training of the SDRAM channels completes or fails, setting TRAINED or FAILED. Operands: `res` ranks, density code and failing byte lane of each channel; `time` the time it took. -/
  | sdramTrainingDone (res : List (Nat × Nat × Option Nat)) (time : Nat)
  /-- BOOT_CTRL_CONTINUE (R416): A write of BOOT_CTRL.CONTINUE releases the BOOT WAIT held by BOOTMODE1. Operands: `path` the path of the write. -/
  | bootCtrlContinue (path : HostPath)
  /-- SMB_CONTINUE (R441): The SMBus CONTINUE command with 0xC0 releases the BOOT WAIT. Operands: `v` the data byte; `pec` the packet error check that came, if any, and whether it was right. -/
  | smbContinue (v : Nat) (pec : Option Bool)
  /-- JTAG_BOOT_CONTINUE (R464): An Update-DR of the BOOT_CONTINUE register with its bit at 1 releases the BOOT WAIT. Operands: `bit` the bit of the data register. -/
  | jtagBootContinue (bit : Bool)
  /-- RAIL_EXCURSION (R410): A rail stays out of tolerance for 1 µs; its status bits change and the device reacts by rail. Operands: `rail` the rail; `burnt` what a fuse commit in progress has burnt. -/
  | railExcursion (rail : Nat) (burnt : List (Nat × Byte))
  /-- POWER_DOWN_REQUEST (R412): PG_PWR.ON is written 0; the power-down is granted under R411 or refused. Operands: `path` the path of the write; `pg` the base of the page. -/
  | powerDownRequest (path : HostPath) (pg : Nat)
  /-- POWER_UP_REQUEST (R412): PG_PWR.ON is written 1; the domain starts powering up, at most 16 domains at once. Operands: `path` the path of the write; `pg` the base of the page. -/
  | powerUpRequest (path : HostPath) (pg : Nat)
  /-- DOMAIN_POWERED_DOWN (R412): A domain reaches OFF after its outputs are quiesced; its pages read as off. Operands: `d` the domain. -/
  | domainPoweredDown (d : Nat)
  /-- DOMAIN_POWERED_UP (R412): A domain reaches ON with every register at its reset value; a drive tile enters LIMIT. Operands: `d` the domain. -/
  | domainPoweredUp (d : Nat)
  /-- COMMISSION_GO (R419): BOOT.COMMIT.GO starts the check of the commissioning record with COMMIT_CRC. Operands: `path` the path of the write. -/
  | commissionGo (path : HostPath)
  /-- COMMISSION_CHECK_DONE (R421): The commissioning check ends; on a pass the device enters ARMED, otherwise it stays in HOLD with reasons. -/
  | commissionCheckDone
  /-- READY_RELEASE (R422): READY, driven low for 100 ns after the device leaves RUN, stops being driven. -/
  | readyRelease
  /-- PG_ENABLE_CLEAR (R434): PG_CTRL.ENABLE is written 0; the page latches STOP_MODE and enters DRAINING. Operands: `path` the path of the write; `pg` the base of the page; `abort` STOP_MODE ABORT. -/
  | pgEnableClear (path : HostPath) (pg : Nat) (abort : Bool)
  /-- PG_ENABLE_SET (R434): PG_CTRL.ENABLE is written 1 from HALTED; the page enters STARTING. Operands: `path` the path of the write; `pg` the base of the page. -/
  | pgEnableSet (path : HostPath) (pg : Nat)
  /-- PG_SOFT_RESET (R434): PG_CTRL.SOFT_RESET returns the page's registers to reset and locks the page. Operands: `path` the path of the write; `pg` the base of the page. -/
  | pgSoftReset (path : HostPath) (pg : Nat)
  /-- PG_DRAIN_COMPLETE (R434): The block's work in flight settles and the page moves from DRAINING to HALTED. Operands: `pg` the base of the page. -/
  | pgDrainComplete (pg : Nat)
  /-- PG_BLOCK_READY (R434): The block becomes ready and the page moves from STARTING to RUN. Operands: `pg` the base of the page. -/
  | pgBlockReady (pg : Nat)
  /-- PG_EVT_RAW_CLEAR (R435): Writing 1s to PG_EVT_RAW clears those event bits and their PEND bits. Operands: `path` the path of the write; `pg` the base of the page; `w` the word written; `set` the bits that hardware sets in the same cycle (R9). -/
  | pgEvtRawClear (path : HostPath) (pg : Nat) (w : Word) (set : Word)
  /-- PG_EVT_EN_WRITE (R435): Writing PG_EVT_EN sets or clears PEND for raised events, posting events for new PEND bits. Operands: `path` the path of the write; `pg` the base of the page; `w` the word written. -/
  | pgEvtEnWrite (path : HostPath) (pg : Nat) (w : Word)
  /-- PG_EVT_SET (R435): Writing 1s to PG_EVT_SET sets those RAW bits as if hardware had raised them. Operands: `path` the path of the write; `pg` the base of the page; `w` the word written. -/
  | pgEvtSet (path : HostPath) (pg : Nat) (w : Word)
  /-- PG_ERRCNT_CLEAR (R433): PG_ERRCNT.CLEAR zeroes COUNT and LAST_OFFSET. Operands: `path` the path of the write; `pg` the base of the page. -/
  | pgErrcntClear (path : HostPath) (pg : Nat)
  /-- PG_LOCK_KEY (R436): A key written to PG_LOCK unlocks or locks the page; a wrong key is counted and raises PG_LOCK_FAIL. Operands: `path` the path of the write; `pg` the base of the page; `key` KEY. -/
  | pgLockKey (path : HostPath) (pg : Nat) (key : Nat)
  /-- CNT_CLEAR (R73): A page's CNT_CLEAR zeroes the counters that the page names. Operands: `path` the path of the write; `pg` the base of the page; `rel` the page offset of CNT_CLEAR. -/
  | cntClear (path : HostPath) (pg : Nat) (rel : Nat)
  /-- MULTIWORD_LOW_READ (R8): A read of the lowest word of a multi-word quantity latches its higher words. Operands: `path` the path of the write; `off` the BAR0 offset. -/
  | multiwordLowRead (path : HostPath) (off : Nat)
  /-- MULTIWORD_HIGH_WRITE (R8): A write of the highest word of a multi-word quantity makes the held lower words and it take effect together. Operands: `path` the path of the write; `off` the BAR0 offset; `w` the word written. -/
  | multiwordHighWrite (path : HostPath) (off : Nat) (w : Word)
  /-- REGISTER_WRITE (R7): A write to a register without a row of its own acts by its access code, or is ignored and counted. Operands: `path` the path of the write; `off` the BAR0 offset; `w` the word written; `all` its byte enables cover the whole word. -/
  | registerWrite (path : HostPath) (off : Nat) (w : Word) (all : Bool)
  /-- SEAM_DOORBELL (R52): SEAM.DOORBELL.GO latches REQ_ADDR and RES_ADDR and starts the descriptor fetch. Operands: `path` the path of the write. -/
  | seamDoorbell (path : HostPath)
  /-- SEAM_REQUEST_ACCEPT (R51): A fetched or delivered solve descriptor is checked in order and is queued or answered with an error. Operands: `ecc` how the read came back. -/
  | seamRequestAccept (ecc : Ecc)
  /-- SEAM_SOLVE_COMPLETE (R62): A solve completes, writing the image slot, the path list and the result record. Operands: `lane` the lane. -/
  | seamSolveComplete (lane : Nat)
  /-- SEAM_TIMEOUT (R71): A solve still running 200 µs after its first lane start ends with TIMEOUT and raises SEAM_TIMEOUT. Operands: `lane` the lane. -/
  | seamTimeout (lane : Nat)
  /-- SLOT_WINDOW_WRITE (R84): A host write to an image-cache slot clears its VALID bit, or is ignored for the live or fixed slot. Operands: `path` the path of the write; `n` the slot; `i` the word of the slot; `w` the word written. -/
  | slotWindowWrite (path : HostPath) (n : Nat) (i : Nat) (w : Word)
  /-- SLOT_CHECK (R83): GANTRY.SLOT_CHECK.GO starts the R82 check of a slot. Operands: `path` the path of the write; `n` the slot. -/
  | slotCheck (path : HostPath) (n : Nat)
  /-- SLOT_CHECK_DONE (R83): The slot check ends within 2 µs, setting VALID on success and reporting the result. -/
  | slotCheckDone
  /-- STORE_FETCH_ARRIVAL (R85): A store image arrives in a prefetch buffer and is checked by R82. Operands: `addr` the store address; `ecc` how the read came back. -/
  | storeFetchArrival (addr : Nat) (ecc : Ecc)
  /-- COMMIT_POINT (R207): At T − L granules Gantry fixes the next bench, requests store fetches and hands the bench to admission. -/
  | commitPoint
  /-- STAGING_START (R90): 50 ns after the commit point, staging starts writing shadow codes and marks, and suspends probing on marked channels. Operands: `errs` the tiles whose tile-bus transfer met an uncorrectable error, `corrs` a corrected one. -/
  | stagingStart (errs corrs : List Nat)
  /-- STAGING_COMPLETE (R90): Shadow codes, marks, shapes and group steps are in place in all 128 tiles. -/
  | stagingComplete
  /-- ARMING_DEADLINE (R91): At T − 10 ns the strobe is armed, or withheld as STAGE_LATE with its marks discarded. -/
  | armingDeadline
  /-- BENCH_BOUNDARY (R99): At T the incoming image becomes live and the blanked shutters close. -/
  | benchBoundary
  /-- GROUP_STROBE (R93): A strobe group fires; its marked channels go live, fast channels start shapes, and elements enter holdoff. Operands: `g` the strobe group. -/
  | groupStrobe (g : Nat)
  /-- SHAPE_END (R95): 400 ns after its strobe a shape ends, and any pending shape-bank swap takes place. Operands: `t` the drive tile; `k` the channel. -/
  | shapeEnd (t : Nat) (k : Nat)
  /-- HOLDOFF_END (R100): An element's holdoff ends; its loop enters ACQUIRE, or HOLD for a FIXED override. Operands: `eid` the element. -/
  | holdoffEnd (eid : Nat)
  /-- BLANK_RELEASE (R98): At T + 700 ns the blanked shutters go to their new setpoint codes with the opening shape. -/
  | blankRelease
  /-- TILE_MODE_REQ (R108): TILE_CFG.MODE_REQ moves a tile between LIMIT and SERVICE, or is refused. Operands: `path` the path of the write; `t` the drive tile; `req` MODE_REQ. -/
  | tileModeReq (path : HostPath) (t : Nat) (req : Nat)
  /-- DRIVE_SHORT_DETECT (R109): A channel stays at its current limit for 200 ns; its SHORT flag is set and DRIVE_SHORT is raised. Operands: `t` the drive tile; `kind` 0 fast, 1 heater; `k` the channel. -/
  | driveShortDetect (t : Nat) (kind : Nat) (k : Nat)
  /-- HOST_SHADOW_WRITE (R113): A host write of a SHADOW field goes to shadow, to shadow and live, or is refused by state. Operands: `path` the path of the write; `t` the drive tile; `kind` 0 fast, 1 heater; `k` the channel; `code` the code. -/
  | hostShadowWrite (path : HostPath) (t : Nat) (kind : Nat) (k : Nat) (code : Nat)
  /-- HOST_DIRECT_WRITE (R113): A host write of DIRECT sets a live code at once, or is refused by state and element status. Operands: `path` the path of the write; `t` the drive tile; `chan` the channel; `kind` 0 fast, 1 heater; `code` the code. -/
  | hostDirectWrite (path : HostPath) (t : Nat) (chan : Nat) (kind : Nat) (code : Nat)
  /-- COMMIT_CODES (R113): PG_COMMIT.CODES makes every HOST_DIRTY channel of the tile live at once. Operands: `path` the path of the write; `t` the drive tile. -/
  | commitCodes (path : HostPath) (t : Nat)
  /-- COMMIT_SHAPES (R125): PG_COMMIT.SHAPES swaps the shape banks at once, or sets SWAP_PENDING while shapes play. Operands: `path` the path of the write; `t` the drive tile. -/
  | commitShapes (path : HostPath) (t : Nat)
  /-- SHAPE_DATA_ACCESS (R125): An access to SHAPE_DATA reads or writes one point of the shadow bank and advances the address when AUTOINC is 1. Operands: `path` the path of the write; `t` the drive tile; `v` the value written, none for a read. -/
  | shapeDataAccess (path : HostPath) (t : Nat) (v : Option Nat)
  /-- DIRECT_UPDATE (R112): A direct update reaches a tile and goes live, is held by pacing, or is discarded. Operands: `t` the drive tile; `kind` 0 fast, 1 heater; `k` the channel; `code` the code; `beaten` a strobe or a commit of the same cycle goes before it; `bus` its tile-bus transfer as its check bits found it. -/
  | directUpdate (t : Nat) (kind : Nat) (k : Nat) (code : Nat) (beaten : Bool) (bus : Ecc)
  /-- PACED_UPDATE_RELEASE (R112): A held heater update goes live when the 1 µs pacing interval ends. Operands: `t` the drive tile; `k` the channel. -/
  | pacedUpdateRelease (t : Nat) (k : Nat)
  /-- DEGLITCH_RELEASE (R116): A major transition's 40 ns hold ends and the pending code is released. Operands: `t` the drive tile; `kind` 0 fast, 1 heater; `k` the channel. -/
  | deglitchRelease (t : Nat) (kind : Nat) (k : Nat)
  /-- READBACK_SAMPLE (R118): The readback converter samples one slot, compares it, counts a mismatch and sets FAIL at MISS_LIMIT. Operands: `t` the drive tile; `v` the sample: in codes, of a reference slot in mV. -/
  | readbackSample (t : Nat) (v : Int)
  /-- RANGE_CHANGE_GO (R121): RANGE.GO starts a range change, rescaling shadows and forcing outputs to zero, or is refused. Operands: `path` the path of the write; `t` the drive tile; `fast` REQ_FAST; `htr` REQ_HTR. -/
  | rangeChangeGo (path : HostPath) (t : Nat) (fast : Bool) (htr : Bool)
  /-- RANGE_SETTLE_END (R121): A kind's RANGE_SETTLE ends; its shadows go live in the new range and the change completes. Operands: `t` the drive tile; `kind` 0 fast, 1 heater. -/
  | rangeSettleEnd (t : Nat) (kind : Nat)
  /-- CHSEL_WRITE (R131): A CHSEL write reaches a converter and takes effect at the next deadline it meets, or is refused by mode. Operands: `n` the converter; `byBramble` attention's write, else the host's; `sel` SEL. -/
  | chselWrite (n : Nat) (byBramble : Bool) (sel : Nat)
  /-- CONV_MODE_WRITE (R132): A CONV_CTRL.MODE write takes effect at the first conversion whose deadline it meets. Operands: `path` the path of the write; `n` the converter; `mode` MODE. -/
  | convModeWrite (path : HostPath) (n : Nat) (mode : Nat)
  /-- MON_RANGE_WRITE (R129): A host write of MON_CFG.RANGE switches the amplifier within 20 ns and opens a SETTLING window. Operands: `path` the path of the write; `mid` the monitor; `r` RANGE. -/
  | monRangeWrite (path : HostPath) (mid : Nat) (r : Nat)
  /-- CONVERSION_END (R130): A conversion ends; its result is corrected, flagged and delivered to Bramble and capture. Operands: `n` the converter; `raw` the 14-bit result; `bus` its tile-bus transfer as its check bits found it. -/
  | conversionEnd (n : Nat) (raw : Nat) (bus : Ecc)
  /-- TAG_WRAP (R141): The time tag wraps and a sync record is written into every running ring. -/
  | tagWrap
  /-- CAPTURE_RING_ENABLE (R142): Setting RING_CTRL.ENABLE checks the ring's size and placement, and refuses it on a failure. Operands: `path` the path of the write; `r` the ring. -/
  | captureRingEnable (path : HostPath) (r : Nat)
  /-- CAPTURE_RUN_WRITE (R148): Setting or clearing RUN starts or ends a ring's records at a conversion start. Operands: `path` the path of the write; `r` the ring; `on` RUN. -/
  | captureRunWrite (path : HostPath) (r : Nat) (on : Bool)
  /-- CAPTURE_FLUSH (R145): A partial burst is written FLUSH µs after its first record. Operands: `r` the ring. -/
  | captureFlush (r : Nat)
  /-- CAPTURE_BURST_WRITTEN (R146): A burst becomes visible in SDRAM and WR_PTR advances, raising the watermark event as needed. Operands: `r` the ring. -/
  | captureBurstWritten (r : Nat)
  /-- CAPTURE_RD_PTR_WRITE (R146): A host write of RD_PTR takes effect if it lies between its present value and WR_PTR. Operands: `path` the path of the write; `r` the ring; `v` RD_PTR. -/
  | captureRdPtrWrite (path : HostPath) (r : Nat) (v : Nat)
  /-- PROBE_PAIR_STEP (R156): Bramble applies or removes a probe offset on a cell's fast code as part of a probe pair. Operands: `eid` the element; `act` 0 the offset +δ, 1 -δ, else its removal. -/
  | probePairStep (eid : Nat) (act : Nat)
  /-- ESTIMATE (R162): An estimate completes and the loop law steps the heater and sets the element's status. Operands: `eid` the element. -/
  | estimate (eid : Nat)
  /-- WRAP_SETTLE_END (R166): WRAP_SETTLE ends and the element enters ACQUIRE. Operands: `eid` the element. -/
  | wrapSettleEnd (eid : Nat)
  /-- LOOP_SATURATED (R167): An element SATURATED for QUAR_TIME raises LOOP_SATURATED. Operands: `eid` the element. -/
  | loopSaturated (eid : Nat)
  /-- QUAR_SET (R168): ELEM_CTRL.QUAR_SET quarantines the element and freezes or closes its codes. Operands: `path` the path of the write; `eid` the element. -/
  | quarSet (path : HostPath) (eid : Nat)
  /-- QUAR_CLR (R168): ELEM_CTRL.QUAR_CLR ends a quarantine, returning the element to ACQUIRE or OFF. Operands: `path` the path of the write; `eid` the element. -/
  | quarClr (path : HostPath) (eid : Nat)
  /-- ELEM_EN_WRITE (R178): A write of ELEM_CTRL.EN moves the element to OFF, or to ACQUIRE when the conditions hold. Operands: `path` the path of the write; `eid` the element; `on` EN. -/
  | elemEnWrite (path : HostPath) (eid : Nat) (on : Bool)
  /-- SHUTTER_MEASUREMENT (R172): A shutter measurement updates A, moves Aw toward At, adjusts the fast code and steps the heater. Operands: `eid` the element. -/
  | shutterMeasurement (eid : Nat)
  /-- BALLAST_RAMP_STEP (R175): Bramble moves a ballast heater one step toward its target, at most once per 1 µs. Operands: `b` the ballast heater. -/
  | ballastRampStep (b : Nat)
  /-- GUARD_REQUEST (R181): A lit monitor unconverted for STARVE_CFG.AGE becomes a guard request. Operands: `mid` the monitor. -/
  | guardRequest (mid : Nat)
  /-- LOOP_STARVE (R181): A lit monitor goes 200 µs unconverted; it is counted and raises LOOP_STARVE. Operands: `mid` the monitor. -/
  | loopStarve (mid : Nat)
  /-- RESULT_TIMEOUT (R182): A requested result missing 100 ns after its conversion end is counted and requested again. Operands: `mid` the monitor. -/
  | resultTimeout (mid : Nat)
  /-- LOOP_EPOCH (R183): An 8 µs loop epoch starts; bands, feed-forward, saturation timers and status counts are updated. -/
  | loopEpoch
  /-- GCTL_START (R217): GCTL.START sets Gantry PENDING for the first boundary T0, or refuses it with a reason. Operands: `path` the path of the write. -/
  | gctlStart (path : HostPath)
  /-- GCTL_STOP (R227): GCTL.STOP stops Gantry at a bench boundary, or at once when it is not RUNNING. Operands: `path` the path of the write. -/
  | gctlStop (path : HostPath)
  /-- GCTL_JUMP (R210): GCTL.JUMP requests a jump to JUMP_CFG.LABEL, which is accepted, deferred or refused. Operands: `path` the path of the write. -/
  | gctlJump (path : HostPath)
  /-- GCTL_RESYNC (R226): GCTL.RESYNC requests a realignment at RESYNC_TIME, which is accepted or refused with a reason. Operands: `path` the path of the write. -/
  | gctlResync (path : HostPath)
  /-- GCTL_CANCEL (R230): GCTL.CANCEL withdraws a pending start, jump or RESYNC. Operands: `path` the path of the write. -/
  | gctlCancel (path : HostPath)
  /-- GRANULE_PERIOD_WRITE (R196): A GRANULE_PERIOD write takes effect at once if Gantry is stopped, otherwise at a later boundary. Operands: `path` the path of the write; `v` the period in ps. -/
  | granulePeriodWrite (path : HostPath) (v : Nat)
  /-- LOCK_APPLY (R199): LOCK_APPLY.GO applies LOCK_LIMIT and starts rebuilding the label map while Gantry is STOPPED. Operands: `path` the path of the write. -/
  | lockApply (path : HostPath)
  /-- LOCK_DONE (R199): The label map rebuild ends, reporting duplicates, and raises LOCK_DONE. -/
  | lockDone
  /-- BENCH_MEMORY_WRITE (R200): A descriptor write to bench memory takes effect or is ignored by the running-state rules. Operands: `path` the path of the write; `i` the entry; `ws` its eight words. -/
  | benchMemoryWrite (path : HostPath) (i : Nat) (ws : List Word)
  /-- STREAM_ENABLE (R203): Setting STREAM_CFG.ENABLE checks the ring, the buffer and the Gantry state. Operands: `path` the path of the write. -/
  | streamEnable (path : HostPath)
  /-- STREAM_WR_PTR_WRITE (R203): The host advances STREAM_WR_PTR, making descriptors available for fetch. Operands: `path` the path of the write; `v` WR_PTR. -/
  | streamWrPtrWrite (path : HostPath) (v : Nat)
  /-- STREAM_FETCH (R205): A fetched stream descriptor is checked for SEQ and taken into the buffer, or stalls the fetch. Operands: `ecc` how the read came back. -/
  | streamFetch (ecc : Ecc)
  /-- STREAM_SEQ_EXPECT_WRITE (R205): A write of STREAM_SEQ.EXPECT sets the expected SEQ and, while STALLED, restarts fetching. Operands: `path` the path of the write; `v` EXPECT. -/
  | streamSeqExpectWrite (path : HostPath) (v : Nat)
  /-- UNDERFLOW_RETRY (R224): At each granule edge in EXTENDING, the commit point is taken again until the descriptor is present. -/
  | underflowRetry
  /-- UNDERFLOW_LIMIT (R224): The extension reaches MAX_EXTEND; Gantry freezes and the device enters SAFE. -/
  | underflowLimit
  /-- TRIGGER_WAIT_COMMIT (R213): In WAIT_TRIGGER, Gantry commits and consumes the trigger at the first granule edge 10 ns after it is accepted. -/
  | triggerWaitCommit
  /-- TRIGIN_EDGE (R212): A TRIGIN edge is timestamped and, after deglitching, queued for Gantry or counted. Operands: `i` the input; `t` the time of the edge in ps; `fall` a falling edge; `held` the new level held for DEGLITCH + 1 cycles. -/
  | triginEdge (i : Nat) (t : Nat) (fall : Bool) (held : Bool)
  /-- TRIGO_ASSERT (R214): A TRIGO pulse asserts LEAD granules before its bench's boundary. Operands: `k` the output. -/
  | trigoAssert (k : Nat)
  /-- TRIGO_RELEASE (R216): A TRIGO pulse ends after WIDTH ticks, merged with overlapping pulses. Operands: `k` the output. -/
  | trigoRelease (k : Nat)
  /-- SYNC_OUT_PULSE (R220): A chassis master emits a start pulse or a boundary pulse on SYNC_OUT. Operands: `wide` a start pulse. -/
  | syncOutPulse (wide : Bool)
  /-- SYNC_IN_PULSE (R221): A slave timestamps a SYNC_IN pulse and starts, realigns or resynchronises Gantry. Operands: `tin` the time of the edge; `wide` a start pulse; `turn` in ECHO role the turn-around in ps. -/
  | syncInPulse (tin : Nat) (wide : Bool) (turn : Nat)
  /-- SYNC_PULSE_GO (R222): SYNC_PULSE.GO on a master starts the 64-pulse echo measurement. Operands: `path` the path of the write. -/
  | syncPulseGo (path : HostPath)
  /-- ECHO_DONE (R222): The echo measurement ends and the mean round trip is placed in ECHO_RESULT. Operands: `mean` the mean round trip in ps; `all` all 64 echoes returned. -/
  | echoDone (mean : Nat) (all : Bool)
  /-- PTP_SYNC (R244): A Sync from the grandmaster on the source port gives an offset, and the servo acts on it. Operands: `port` the port; `gm` the sender's clockIdentity; `dom` the PTP domain; `t1` originTimestamp in ps; `t2` receive time in ps; `corr` the correction; `log` logMessageInterval; `twoStep` twoStepFlag. -/
  | ptpSync (port : Nat) (via : Nat) (gm : Nat) (dom : Nat) (t1 : Nat) (t2 : Nat) (corr : Int) (log : Int) (twoStep : Bool)
  /-- PTP_FOLLOW_UP (R240): A Follow_Up supplies the precise origin timestamp for two-step masters. Operands: `port` the port; `gm` the sender's clockIdentity; `dom` the PTP domain; `t1` preciseOriginTimestamp in ps; `corr` the correction. -/
  | ptpFollowUp (port : Nat) (via : Nat) (gm : Nat) (dom : Nat) (t1 : Nat) (corr : Int)
  /-- PTP_DELAY_REQ_SEND (R240): The device sends a Delay_Req on its source port and takes t3 at egress. Operands: `t3` the egress time in ps. -/
  | ptpDelayReqSend (t3 : Nat)
  /-- PTP_DELAY_RESP (R244): A Delay_Resp addressed to the device gives t4 for the mean path delay. Operands: `port` the port; `dom` the PTP domain; `t4` receiveTimestamp in ps; `corr` the correction. -/
  | ptpDelayResp (port : Nat) (via : Nat) (dom : Nat) (t4 : Nat) (corr : Int)
  /-- PTP_PDELAY_REQ (R240): In P2P a port answers a received Pdelay_Req one-step. Operands: `port` the port. -/
  | ptpPdelayReq (port : Nat) (via : Nat) (corr : Int) (turn : Nat)
  /-- PTP_PDELAY_EXCHANGE (R240): A port's own peer-delay exchange completes, or fails, updating meanLinkDelay. Operands: `port` the port; `trip` the round trip and the peer's turn-around in ps, none on failure. -/
  | ptpPdelayExchange (port : Nat) (trip : Option (Nat × Nat))
  /-- PTP_ANNOUNCE (R243): Announce messages select the grandmaster and port states, and may raise GM_CHANGE. Operands: `port` the port; `dom` the PTP domain; `id` grandmasterIdentity; `data` the dataset: priority1, class, accuracy, variance, priority2. -/
  | ptpAnnounce (port : Nat) (via : Nat) (dom : Nat) (id : Nat) (data : List Nat)
  /-- SYNC_LOSS (R246): No Sync arrives for LOSS_INTERVALS; the servo enters HOLDOVER or FREE_RUN. -/
  | syncLoss
  /-- SOURCE_SWITCH (R243): The source port gets no Sync while the other does, so the time source switches. -/
  | sourceSwitch
  /-- TIME_CTRL_WRITE (R246): A TIME_CTRL write that changes SERVO_MODE returns the servo to FREE_RUN. Operands: `path` the path of the write; `w` the word written. -/
  | timeCtrlWrite (path : HostPath) (w : Word)
  /-- TIME_CMD_STEP (R250): TIME_CMD.STEP sets the counter to TIME_SET, or is refused while Gantry runs. Operands: `path` the path of the write. -/
  | timeCmdStep (path : HostPath)
  /-- TIME_CMD_OFFSET (R250): TIME_CMD.OFFSET applies TIME_OFFSET as a step or a slew. Operands: `path` the path of the write. -/
  | timeCmdOffset (path : HostPath)
  /-- SLEW_COMPLETE (R249): SLEW_REMAIN reaches 0 and the slew term ends. -/
  | slewComplete
  /-- PPS_IN_EDGE (R248): A PPS_IN edge is timestamped and in PPS_IN mode gives the servo an offset. Operands: `t` the time of the edge in ps; `fall` a falling edge. -/
  | ppsInEdge (t : Nat) (fall : Bool)
  /-- TIME_EVENT_ARM (R257): A TEV_CTRL write arms or disarms a time event. Operands: `path` the path of the write; `k` the event; `w` the word written. -/
  | timeEventArm (path : HostPath) (k : Nat) (w : Word)
  /-- TIME_EVENT_FIRE (R255): An armed time event fires at its time and acts on its targets. Operands: `ks` the events that fire in one CLK_LOOP cycle. -/
  | timeEventFire (ks : List Nat)
  /-- TS_POP (R259): A read of TS_POP_NS pops one timestamp entry and latches its other words. Operands: `path` the path of the write. -/
  | tsPop (path : HostPath)
  /-- PPS_OUT_ASSERT (R260): PPS_OUT asserts at each whole second minus PPS_COMP. -/
  | ppsOutAssert
  /-- PPS_OUT_END (R260): PPS_OUT deasserts after WIDTH_MS. -/
  | ppsOutEnd
  /-- SENSOR_ROUND (R265): A 50 µs round samples all sensors and sets each zone's level and shutdown values. Operands: `xs` the 120 samples. -/
  | sensorRound (xs : List Sample)
  /-- PIC_STAGE2_ENTRY (R271): The PIC zone has been at THROTTLE for TEMP_DWELL; the heater budget drops to 75 % and sweeps pause. -/
  | picStage2Entry
  /-- SHUTDOWN_PERSIST (R272): A zone still at SHUTDOWN after HALT_DELAY halts its consumers and the device enters HALT. Operands: `k` the protection zone. -/
  | shutdownPersist (k : Nat)
  /-- JOB_OFFER (R281): A background job is offered to the governor's queue, or waits when the queue is full. Operands: `k` the work. -/
  | jobOffer (k : JobKind)
  /-- JOB_GRANT (R282): The governor grants the highest-priority job that fits by the fit-first rule. -/
  | jobGrant
  /-- JOB_END (R282): A granted job ends and releases its cost. -/
  | jobEnd
  /-- JOB_AGED (R282): The head job of a kind waits JOB_AGE and the age guard comes into force. Operands: `heater` the heater kind. -/
  | jobAged (heater : Bool)
  /-- AVS_PERIOD (R284): At the end of PERIOD_US the core supply loop requests a voltage change from the worst margin. Operands: `margin` the worst margin; `mon` its delay monitor. -/
  | avsPeriod (margin : Nat) (mon : Nat)
  /-- MARGIN_CRIT (R284): A margin below CRIT requests +20 mV at once and raises AVS_MARGIN. Operands: `margin` the margin. -/
  | marginCrit (margin : Nat)
  /-- AVS_RESPONSE (R283): The regulator answers an AVSBus transaction. Operands: `mv` the voltage in mV. -/
  | avsResponse (mv : Nat)
  /-- AVS_FAULT (R284): A transaction fails or gets no answer within 2 µs; it is retried, and after three failures AVS_FAULT is raised. Operands: `status` what came back. -/
  | avsFault (status : Nat)
  /-- HOST_SWAP (R296): BANK_CTRL.HOST_SWAP starts the check of the pending bank. Operands: `path` the path of the write. -/
  | hostSwap (path : HostPath)
  /-- HOST_SWAP_CHECK_DONE (R296): The pending-bank check ends, arming the swap or reporting the failing item. -/
  | hostSwapCheckDone
  /-- BANK_ABANDON (R314): BANK_CTRL.ABANDON discards an armed swap. Operands: `path` the path of the write. -/
  | bankAbandon (path : HostPath)
  /-- PENDING_COPY_DONE (R297): The copy of the working set into the pending bank completes. -/
  | pendingCopyDone
  /-- RUN_REQ_GO (R306): RUN_REQ.GO requests a Plumb run, which is merged, queued or refused. Operands: `path` the path of the write; `kinds` KINDS. -/
  | runReqGo (path : HostPath) (kinds : Nat)
  /-- PLUMB_INTERVAL_TRIGGER (R306): CAL_MAX_INTERVAL after the last good run, a run is requested with INTERVAL_KINDS. -/
  | plumbIntervalTrigger
  /-- DARK_MONITOR_STEP (R301): A DARK run sets a monitor's range, collects 16 conversions and sets its OFS. -/
  | darkMonitorStep
  /-- RECENTRE (R302): RECENTRE sets I_Q and KT from the live codes and the atlas. Operands: `errs` the elements whose atlas bin reads with an uncorrectable error; `corrs` those whose bin is corrected. -/
  | recentre (errs corrs : List Nat)
  /-- SWEEP_VISIT_SUBMIT (R303): SWEEP submits a PROBE solve for the next visit once PROBE_SLOT is free. -/
  | sweepVisitSubmit
  /-- PLUMB_WINDOW_OPEN (R304): A Plumb window opens after a fresh probe image goes live, or at a PLUMB time event. -/
  | plumbWindowOpen
  /-- SWEEP_POINT (R304): A sweep point is sampled after its dwell and the next point's code goes live. Operands: `samples` the weak and strong tap of each copy. -/
  | sweepPoint (samples : List (Nat × Int × Int))
  /-- PLUMB_RUN_END (R307): A run ends DONE, NO_CHANGE, FAILED, ABORTED or NO_PROBE, arming its swap on DONE. -/
  | plumbRunEnd
  /-- ATLAS_FREEZE (R309): Setting ATLAS_CTRL.FREEZE stops atlas writes and starts the header CRC. Operands: `path` the path of the write. -/
  | atlasFreeze (path : HostPath)
  /-- ATLAS_FREEZE_DONE (R309): The header CRC is written and VALID is set. -/
  | atlasFreezeDone
  /-- ATLAS_ENABLE (R309): Setting ATLAS_CTRL.ENABLE checks the atlas header and clears it on a failure. Operands: `path` the path of the write. -/
  | atlasEnable (path : HostPath)
  /-- FUSE_CMD_COMMIT (R310): FUSE_CMD.COMMIT with CONFIRM starts a fuse commit, or refuses it with a reason. Operands: `path` the path of the write; `confirm` CONFIRM. -/
  | fuseCmdCommit (path : HostPath) (confirm : Nat)
  /-- FINISH_REVOKE (R311): FUSE_CMD.FINISH_REVOKE completes partial markers and revokes the lower generations. Operands: `path` the path of the write; `confirm` CONFIRM. -/
  | finishRevoke (path : HostPath) (confirm : Nat)
  /-- FUSE_COMMIT_END (R310): A fuse commit ends DONE, VERIFY_FAIL or MARKER_FAIL. Operands: `e` how it went. -/
  | fuseCommitEnd (e : FuseEnd)
  /-- LINK_UP (R318): A ring port's link comes up after training, and its path engine may activate or sync. Operands: `l` the ports whose links come up in one cycle, with the trained words of their lanes. -/
  | linkUp (l : List (Nat × List Nat))
  /-- LINK_DOWN (R334): A ring port's link goes down and its engine goes DOWN. Operands: `p` the port. -/
  | linkDown (p : Nat)
  /-- RING_FRAME_RX (R321): A frame received on a ring port is forwarded, taken locally, or dropped, from its first 20 bytes. Operands: `p` the port; `data` the bytes from DA to before the FCS; `fcs` the FCS; `cut` an uncorrectable codeword cut it; `corr` the codewords corrected; `res` its residence in ps; `full` the far port's transmit FIFO is full. -/
  | ringFrameRx (p : Nat) (data : List Byte) (fcs : Fcs) (cut : Bool) (corr : Nat) (res : Nat) (full : Bool)
  /-- DUP_SOURCE_RELEASE (R325): A duplicate-table source unused for 1 s is released. Operands: `e` the engine; `sa` the source address. -/
  | dupSourceRelease (e : Nat) (sa : Nat)
  /-- PATH_CYCLE_END (R326): At each 10 µs path cycle the engines copy state or exchange digests. Operands: `same` the digests match; `ok` the copy passed its check. -/
  | pathCycleEnd (same : Bool) (ok : Bool)
  /-- STATE_COPY_DONE (R334): A state copy to a syncing engine completes and the engine enters STANDBY. Operands: `e` the engine; `ok` it passed its check. -/
  | stateCopyDone (e : Nat) (ok : Bool)
  /-- DIAG_TRIP (R330): A diagnostic check trips on an engine, which may cause a take-over or DEGRADED. Operands: `e` the engine; `check` the bit of DIAG_EN. -/
  | diagTrip (e : Nat) (check : Nat)
  /-- PATH_CTRL_TAKEOVER (R333): PATH_CTRL.TAKEOVER makes a planned take-over if the standby is eligible. Operands: `path` the path of the write. -/
  | pathCtrlTakeover (path : HostPath)
  /-- REVERT (R335): In a LARGE ring the primary engine, standby and healthy for REVERT_HOLD, takes control back. -/
  | revert
  /-- ABDICATED_RECOVERY (R334): An abdicated engine healthy for one DIAG_WINDOW moves to SYNCING. Operands: `e` the engine. -/
  | abdicatedRecovery (e : Nat)
  /-- PARSE_FIRST_PASS (R347): A local frame is walked through the parse graph and looked up in the classifier. Operands: `port` the port. -/
  | parseFirstPass (port : Nat)
  /-- PARSE_SECOND_PASS (R358): A recirculated frame is parsed again from the strip point and looked up again. -/
  | parseSecondPass
  /-- FRAME_ACTION (R355): Once the frame has fully arrived with a good FCS, the winning action or the port default is carried out. -/
  | frameAction
  /-- NODE_COMMIT (R349): A NODE_CTRL write commits a parse node's shadow into the live node, or is refused. Operands: `path` the path of the write; `n` the node; `valid` VALID. -/
  | nodeCommit (path : HostPath) (n : Nat) (valid : Bool)
  /-- RULE_COMMIT (R357): A rule CONTROL write commits the rule's shadow and VALID into the live rule. Operands: `path` the path of the write; `i` the rule; `valid` VALID. -/
  | ruleCommit (path : HostPath) (i : Nat) (valid : Bool)
  /-- HITS_CLR (R354): HITS_CLR zeroes a rule's hit counter. Operands: `path` the path of the write; `i` the rule. -/
  | hitsClr (path : HostPath) (i : Nat)
  /-- EXEC_DISPATCH (R361): An EXEC frame takes a reorder entry and goes to the next executor with a free place. Operands: `mem` the host memory it fetches; `ecc` how the read came back. -/
  | execDispatch (mem : HostMem) (ecc : Ecc)
  /-- EXEC_COMPLETE (R362): An executor finishes its frame. Operands: `x` the executor. -/
  | execComplete (x : Nat)
  /-- ENTRY_COMMIT (R362): A reorder entry commits once its executor has finished and all earlier entries have committed. -/
  | entryCommit
  /-- EXEC_TIMEOUT (R362): An executor unfinished 20 µs after dispatch is reset and its entry commits as ERROR. Operands: `x` the executor. -/
  | execTimeout (x : Nat)
  /-- FRAGMENT_ARRIVAL (R377): A command fragment is checked and stored in reassembly, or discarded. Operands: `x` the executor. -/
  | fragmentArrival (x : Nat)
  /-- BATCH_TIMEOUT (R378): A batch still incomplete after BATCH_TIMEOUT is discarded and its ID goes on the dead list. Operands: `e` the engine. -/
  | batchTimeout (e : Nat)
  /-- DEAD_LIST_EXPIRY (R378): A BATCH_ID leaves the dead list after 16 × BATCH_TIMEOUT. Operands: `e` the engine. -/
  | deadListExpiry (e : Nat)
  /-- SQ_DOORBELL (R381): A submission-queue tail doorbell makes new commands available for round-robin service. Operands: `k` the queue; `tail` the tail; `mem` the host memory it fetches; `ecc` how the read came back. -/
  | sqDoorbell (k : Nat) (tail : Nat) (mem : HostMem) (ecc : Ecc)
  /-- CQ_HEAD_DOORBELL (R382): A completion-queue head doorbell frees entries and releases a held-back SQ. Operands: `k` the queue; `head` the head; `mem` the host memory it fetches; `ecc` how the read came back. -/
  | cqHeadDoorbell (k : Nat) (head : Nat) (mem : HostMem) (ecc : Ecc)
  /-- EQ_HEAD_DOORBELL (R383): The event-queue head doorbell frees event entries. Operands: `head` the head. -/
  | eqHeadDoorbell (head : Nat)
  /-- PQ_HEAD_DOORBELL (R384): The punt-queue head doorbell frees punt entries. Operands: `head` the head. -/
  | pqHeadDoorbell (head : Nat)
  /-- FAULT_CLASSIFY (R389): A fault event reaching Sump is classed MINOR or SEVERE and its reaction acts. Operands: `i` the place of the event among those raised; `burnt` what a fuse commit in progress has burnt; `mem` an error that the check bits of an on-chip memory have just shown, which is then the event classed. -/
  | faultClassify (i : Nat) (burnt : List (Nat × Byte)) (mem : Option MemErr)
  /-- RECORD_UPDATE (R396): Sump opens a record or merges a fault into it, at most one per cycle. -/
  | recordUpdate
  /-- SUMP_ACK (R397): A write of ACK acknowledges the open record, moving it to history and releasing blanked ports. Operands: `path` the path of the write; `id` the record's identity. -/
  | sumpAck (path : HostPath) (id : Nat)
  /-- LOG_RECORD_WRITE (R398): An acknowledged record is written into the LOG ring, or LOG_WRITE is raised. -/
  | logRecordWrite
  /-- SAFE_CTRL_EXIT (R401): SAFE_CTRL.EXIT returns the device from SAFE to ARMED, or is ignored. Operands: `path` the path of the write. -/
  | safeCtrlExit (path : HostPath)
  /-- INJECT (R403): INJECT.GO raises the named Sump source with INJECT_DATA. Operands: `path` the path of the write; `src` the source. -/
  | inject (path : HostPath) (src : Nat)
  /-- PCIE_LINK_UP (R428): The PCI Express data link comes up. Operands: `speed` SPEED; `width` WIDTH; `ltssm` the training state code. -/
  | pcieLinkUp (speed : Nat) (width : Nat) (ltssm : Nat)
  /-- PCIE_LINK_DOWN (R429): The PCI Express link goes down, disabling host-memory queues and raising PCIE_LINK. Operands: `ltssm` the training state code; `hot` by hot reset or Disable. -/
  | pcieLinkDown (ltssm : Nat) (hot : Bool)
  /-- FUNCTION_LEVEL_RESET (R429): A Function Level Reset resets configuration space and disables host-memory queues. -/
  | functionLevelReset
  /-- D3HOT_ENTRY (R429): In D3hot the function issues no requests and holds its events. -/
  | d3hotEntry
  /-- D0_RETURN (R429): The return to D0 keeps all state and lets pending events go. -/
  | d0Return
  /-- PCIE_PERST (R477): PCIE_PERST_N low resets the link, and configuration space resets when it rises. Operands: `low` the level is low; `ltssm` the training state code. -/
  | pciePerst (low : Bool) (ltssm : Nat)
  /-- PCIE_RETRAIN (R452): LINK_CFG.RETRAIN retrains the PCI Express link. Operands: `speed` the speed reached; `width` the width reached. -/
  | pcieRetrain (speed : Nat) (width : Nat)
  /-- PCIE_COMPLIANCE (R458): The endpoint enters Polling.Compliance, Loopback or Lane Margining under the base specification. Operands: `ltssm` the training state code. -/
  | pcieCompliance (ltssm : Nat)
  /-- BAR2_ACCESS (R444): A BAR2 access reads or writes board SDRAM, or returns all ones when offline or beyond capacity. Operands: `a` the BAR2 offset; `n` the bytes read; `data` the bytes written, none for a read; `ecc` how the read came back; `poisoned` a poisoned request. -/
  | bar2Access (a : Nat) (n : Nat) (data : Option (List Byte)) (ecc : Ecc) (poisoned : Bool)
  /-- SCRUB_LINE (R446): The patrol scrubber reads a line and writes back a corrected one. Operands: `c` the channel; `a` the address; `ecc` how the read came back; `raced` another write reached the line. -/
  | scrubLine (c : Nat) (a : Nat) (ecc : Ecc) (raced : Bool)
  /-- SCRUB_PASS (R446): A scrub pass ends and SCRUB_PASS is raised. Operands: `c` the channel. -/
  | scrubPass (c : Nat)
  /-- TRAIN_GO (R447): TRAIN_CTRL.GO in HOLD trains all four SDRAM channels. Operands: `path` the path of the write; `c` the channel. -/
  | trainGo (path : HostPath) (c : Nat)
  /-- SMB_IDENT (R441): The SMBus IDENT command returns the part, UNIT_ID and BOOT_TIME. Operands: `pec` the packet error check that came, if any, and whether it was right. -/
  | smbIdent (pec : Option Bool)
  /-- SMB_STATUS (R441): The SMBus STATUS command returns the state summary. Operands: `pec` the packet error check that came, if any, and whether it was right. -/
  | smbStatus (pec : Option Bool)
  /-- SMB_ZONES (R441): The SMBus ZONES command returns the zone level values. Operands: `pec` the packet error check that came, if any, and whether it was right. -/
  | smbZones (pec : Option Bool)
  /-- SMB_SENSOR_SEL (R441): The SMBus SENSOR_SEL command selects a sensor. Operands: `n` the sensor; `pec` the packet error check that came, if any, and whether it was right. -/
  | smbSensorSel (n : Nat) (pec : Option Bool)
  /-- SMB_SENSOR (R441): The SMBus SENSOR command returns the selected sensor's temperature. Operands: `pec` the packet error check that came, if any, and whether it was right. -/
  | smbSensor (pec : Option Bool)
  /-- SMB_RESET_CAUSE (R441): The SMBus RESET_CAUSE command returns the first 32 bytes of RESET_CAUSE. Operands: `pec` the packet error check that came, if any, and whether it was right. -/
  | smbResetCause (pec : Option Bool)
  /-- SMB_REG_ADDR (R441): The SMBus REG_ADDR command sets the BAR0 offset. Operands: `off` the BAR0 offset; `pec` the packet error check that came, if any, and whether it was right. -/
  | smbRegAddr (off : Nat) (pec : Option Bool)
  /-- SMB_REG_READ (R441): The SMBus REG_READ command reads the word at REG_ADDR. Operands: `pec` the packet error check that came, if any, and whether it was right. -/
  | smbRegRead (pec : Option Bool)
  /-- SMB_REG_WRITE (R441): The SMBus REG_WRITE command writes the word at REG_ADDR. Operands: `w` the word written; `pec` the packet error check that came, if any, and whether it was right. -/
  | smbRegWrite (w : Word) (pec : Option Bool)
  /-- SMB_TIMEOUT (R440): An SMBus transaction idle for 35 ms is abandoned and raises SMBUS. Operands: `code` the command code. -/
  | smbTimeout (code : Nat)
  /-- SMB_ARP (R440): The Address Resolution Protocol assigns the slave address. Operands: `addr` the address assigned. -/
  | smbArp (addr : Nat)
  /-- RING_TEST (R457): GO with TEST 1 runs the link pattern test on the target port. Operands: `path` the path of the write; `target` the target. -/
  | ringTest (path : HostPath) (target : Nat)
  /-- TILEBUS_TEST (R460): GO with TEST 2 runs PRBS31 on the selected tile buses. Operands: `path` the path of the write; `target` the target. -/
  | tilebusTest (path : HostPath) (target : Nat)
  /-- SDRAM_TEST (R459): GO with TEST 3 runs the SDRAM march over the range. Operands: `path` the path of the write; `target` the target. -/
  | sdramTest (path : HostPath) (target : Nat)
  /-- DAC_TEST (R461): GO with TEST 4 steps the target drive tile's channels into internal loads. Operands: `path` the path of the write; `target` the target. -/
  | dacTest (path : HostPath) (target : Nat)
  /-- TCURRENT_TEST (R462): GO with TEST 5 checks the target monitor tile's amplifiers with the test current. Operands: `path` the path of the write; `target` the target. -/
  | tcurrentTest (path : HostPath) (target : Nat)
  /-- OPTICAL_TEST (R463): GO with TEST 6 reads the monitors along the probe port's path. Operands: `path` the path of the write; `target` the target. -/
  | opticalTest (path : HostPath) (target : Nat)
  /-- TEST_STOP (R456): STOP ends the running test with STOPPED and restores what it took over. Operands: `path` the path of the write. -/
  | testStop (path : HostPath)
  /-- TEST_END (R457): A test completes with PASS or FAIL. Operands: `f` what it measured. -/
  | testEnd (f : Findings)
  /-- LINK_ERROR_INJECT (R457): LINK_PATTERN.INJECT inverts one symbol on each enabled lane. Operands: `path` the path of the write. -/
  | linkErrorInject (path : HostPath)
  /-- JTAG_EXTEST (R464): The EXTEST instruction takes the pins in permitted states, or acts as BYPASS. Operands: `x` the scan of the boundary register. -/
  | jtagExtest (x : Scan)
  /-- JTAG_IDCODE (R464): The IDCODE instruction selects the identification register. -/
  | jtagIdcode
  /-- JTAG_SAMPLE_PRELOAD (R464): The SAMPLE/PRELOAD instruction samples or preloads the boundary cells. Operands: `x` the scan of the boundary register. -/
  | jtagSamplePreload (x : Scan)
  /-- JTAG_EXTEST_PULSE (R464): The EXTEST_PULSE instruction drives IEEE 1149.6 pulses in permitted states. Operands: `x` the scan of the boundary register. -/
  | jtagExtestPulse (x : Scan)
  /-- JTAG_EXTEST_TRAIN (R464): The EXTEST_TRAIN instruction drives IEEE 1149.6 trains in permitted states. Operands: `x` the scan of the boundary register. -/
  | jtagExtestTrain (x : Scan)
  /-- JTAG_CLAMP (R464): The CLAMP instruction holds the pins at their boundary values in permitted states. -/
  | jtagClamp
  /-- JTAG_HIGHZ (R464): The HIGHZ instruction places the pins at high impedance in permitted states. -/
  | jtagHighz
  /-- JTAG_BYPASS (R464): The BYPASS instruction, and every unassigned opcode, selects the bypass register. -/
  | jtagBypass
  /-- PLL_RELOCK (R454): A ring SerDes, PCI Express or SDRAM PLL regains lock, sets its PLL_STATUS.LOCK bit and raises RELOCK[k] on the CLOCK page. Operands: `k` 1 ring SerDes, 2 PCI Express, 3 SDRAM. -/
  | pllRelock (k : Nat)
  /-- RAIL_BACK_IN_TOLERANCE (R410): A rail that had left tolerance returns into it, setting its RAIL_STATUS bit again and ending the clamp of drive outputs or the electrical idle of the ring transmitters. Operands: `rail` the rail. -/
  | railBackInTolerance (rail : Nat)
  /-- CHECKER_LOCK (R457): A ring-lane pattern checker locks after 64 error-free symbols, sets its LOCK bit and starts counting symbol errors. Operands: `lane` the lane. -/
  | checkerLock (lane : Nat)
  /-- CHECKER_LOCK_LOST (R467): A ring-lane pattern checker loses lock, clears its LOCK bit, raises LOCK_LOST and begins to relock. Operands: `lane` the lane. -/
  | checkerLockLost (lane : Nat)
  /-- SWAP_INSTANT (R297): While Gantry is STOPPED or FROZEN, or after a fixed swap's boundary fails to occur, an armed bank swap comes into force at the next granule edge. -/
  | swapInstant
  /-- WINDOW_G_END (R304): A Plumb window opened by a PLUMB time event closes when its WINDOW_G granules have run out, and the via code is restored. -/
  | windowGEnd
deriving DecidableEq, Repr

end Sys2Proof
end

