-- ==== Sys2Proof/Decode.lean ====
section
/-! DEFINITION. The block has no instruction encoding: no row of the table of operations and events has bits, so no word spells a command. -/
namespace Sys2Proof

/-- The command that a word spells by the table's bits: none, since the table gives none. -/
def decodeTableWord (_nbits _w : Nat) : Option Instr := none

end Sys2Proof
end

