-- ==== Sys2Proof/Machine/Bits.lean ====
section
/-! DEFINITION. Bit fields of words, numbers to bytes and back, signed values: the helpers every other file uses. -/
namespace Sys2Proof.Machine

/-- Bits [lo+len-1:lo] of a number. -/
def bitsOf (n lo len : Nat) : Nat := n / 2 ^ lo % 2 ^ len

/-- Bit b of a number. -/
def bitOf (n b : Nat) : Bool := n / 2 ^ b % 2 == 1

/-- A truth value as a bit. -/
def b2n (b : Bool) : Nat := if b then 1 else 0

/-- Bits [lo+len-1:lo] of a word, as a number. -/
def getBits (w : Word) (lo len : Nat) : Nat := bitsOf w.toNat lo len

/-- The word with ones in the bits of a field and zeros elsewhere. -/
def maskOf (lo len : Nat) : Word := BitVec.ofNat 32 ((2 ^ len - 1) * 2 ^ lo)

/-- A word with bits [lo+len-1:lo] replaced by the low bits of v; the other bits keep their values. -/
def putBits (w : Word) (lo len v : Nat) : Word :=
  (w &&& ~~~ (maskOf lo len)) ||| (BitVec.ofNat 32 (v % 2 ^ len * 2 ^ lo))

/-- The value of a two's complement field of the given length. -/
def sgn (len n : Nat) : Int := if n % 2 ^ len < 2 ^ (len - 1) then (n % 2 ^ len : Nat) else (n % 2 ^ len : Nat) - (2 ^ len : Nat)

/-- A number as a two's complement field of the given length. -/
def unsgn (len : Nat) (i : Int) : Nat := (i % (2 ^ len : Nat)).toNat

/-- An integer kept within two ends. -/
def clampI (lo hi i : Int) : Int := if i < lo then lo else if hi < i then hi else i

/-- A number kept within two ends. -/
def clampN (lo hi n : Nat) : Nat := if n < lo then lo else if hi < n then hi else n

/-- A number divided by another, rounded to the nearest, a half away from zero. -/
def divRound (a : Int) (b : Nat) : Int :=
  if a < 0 then - ((2 * (-a) + b) / (2 * b)) else (2 * a + b) / (2 * b)

/-- Division rounded up. -/
def divUp (a b : Nat) : Nat := (a + b - 1) / b

/-- A number as n little-endian bytes (R5, R238). -/
def leBytes : Nat → Nat → List Byte
  | 0, _ => []
  | n + 1, v => BitVec.ofNat 8 v :: leBytes n (v / 256)

/-- A number as n bytes in network byte order (R367). -/
def beBytes (n v : Nat) : List Byte := (leBytes n v).reverse

/-- The number that little-endian bytes spell. -/
def leVal : List Byte → Nat
  | [] => 0
  | b :: r => b.toNat + 256 * leVal r

/-- The number that bytes in network byte order spell. -/
def beVal (l : List Byte) : Nat := leVal l.reverse

/-- n bytes from position p, zero beyond the end. -/
def bytesAt (l : List Byte) (p n : Nat) : List Byte :=
  let r := (l.drop p).take n
  r ++ List.replicate (n - r.length) 0

/-- The little-endian number of n bytes at position p. -/
def leAt (l : List Byte) (p n : Nat) : Nat := leVal (bytesAt l p n)

/-- The network-order number of n bytes at position p. -/
def beAt (l : List Byte) (p n : Nat) : Nat := beVal (bytesAt l p n)

/-- Bytes padded with zeros to a multiple of 4 (R370, R373). -/
def pad4 (l : List Byte) : List Byte := l ++ List.replicate ((4 - l.length % 4) % 4) 0

/-- A list of 32-bit words read from little-endian bytes; a rest of fewer than 4 bytes is dropped. -/
def wordsOf : List Byte → List Word
  | a :: b :: c :: d :: r => BitVec.ofNat 32 (leVal [a, b, c, d]) :: wordsOf r
  | _ => []

/-- The little-endian bytes of a list of words. -/
def bytesOf (ws : List Word) : List Byte := ws.flatMap fun w => leBytes 4 w.toNat

/-- The number of ones among the low n bits. -/
def popN : Nat → Nat → Nat
  | 0, _ => 0
  | n + 1, v => v % 2 + popN n (v / 2)

/-- The bit positions below n that are one, rising. -/
def onesOf (n v : Nat) : List Nat := (List.range n).filter fun b => bitOf v b

/-- The number with exactly the listed bits one. -/
def ofOnes (l : List Nat) : Nat := l.foldl (fun a b => if bitOf a b then a else a + 2 ^ b) 0

/-- The position of the lowest one among the low n bits. -/
def lowestOne (n v : Nat) : Option Nat := (onesOf n v).head?

/-- One bit of the CRC-32C of R81 (reflected polynomial 0x82F63B78). -/
def crcBit (c : Nat) : Nat := if c % 2 = 1 then (c / 2) ^^^ 0x82F63B78 else c / 2

/-- One byte of the CRC-32C. -/
def crcByte (c : Nat) (b : Byte) : Nat :=
  crcBit (crcBit (crcBit (crcBit (crcBit (crcBit (crcBit (crcBit (c ^^^ b.toNat))))))))

/-- The CRC-32C of R81: start value and final exclusive-or all ones. -/
def crc32c (l : List Byte) : Nat := (l.foldl crcByte 0xFFFFFFFF) ^^^ 0xFFFFFFFF

end Sys2Proof.Machine
end

