-- ==== Sys2Proof/Machine/Crypto.lean ====
section
/-! DEFINITION. The authentication tag of R380: AES-256-GCM with an empty plaintext (GMAC), as NIST SP 800-38D and FIPS 197, which the rule names, define it. -/
namespace Sys2Proof.Machine

/-- A byte of the AES field doubled. -/
def aesDouble (a : Nat) : Nat := if a < 128 then 2 * a else (2 * a) % 256 ^^^ 0x1B

/-- The product of two bytes in the AES field, over n bits of the second. -/
def aesMul : Nat → Nat → Nat → Nat
  | 0, _, _ => 0
  | n + 1, a, b => (if b % 2 = 1 then a else 0) ^^^ aesMul n (aesDouble a) (b / 2)

/-- The 254th power of a byte: its inverse, 0 for 0. -/
def aesInv (a : Nat) : Nat :=
  let m (x y : Nat) : Nat := aesMul 8 x y
  let a2 := m a a
  let a4 := m a2 a2
  let a8 := m a4 a4
  let a16 := m a8 a8
  let a32 := m a16 a16
  let a64 := m a32 a32
  m (m a64 a64) (m a64 (m a32 (m a16 (m a8 (m a4 a2)))))

/-- A byte rotated left. -/
def rotByte (a n : Nat) : Nat := (a * 2 ^ n) % 256 + a * 2 ^ n / 256

/-- The AES substitution of a byte. -/
def aesSub (a : Nat) : Nat :=
  let b := aesInv a
  b ^^^ rotByte b 1 ^^^ rotByte b 2 ^^^ rotByte b 3 ^^^ rotByte b 4 ^^^ 0x63

/-- Two lists of bytes added bit by bit. -/
def xorBytes (a b : List Nat) : List Nat := (a.zip b).map fun p => p.1 ^^^ p.2

/-- The words of the AES-256 key schedule, newest first, extended by n words; i counts the words made. -/
def aesExpand : Nat → Nat → Nat → List (List Nat) → List (List Nat)
  | 0, _, _, ws => ws
  | n + 1, i, rcon, ws =>
    let last := ws.headD []
    let t := if i % 8 = 0 then xorBytes ((last.drop 1 ++ last.take 1).map aesSub) [rcon, 0, 0, 0]
      else if i % 8 = 4 then last.map aesSub else last
    aesExpand n (i + 1) (if i % 8 = 0 then aesDouble rcon else rcon) (xorBytes (ws.getD 7 []) t :: ws)

/-- A list of bytes cut into words of 4. -/
def fours : Nat → List Nat → List (List Nat)
  | 0, _ => []
  | n + 1, l => l.take 4 :: fours n (l.drop 4)

/-- The 15 round keys of a 32-byte key. -/
def aesKeys (key : List Nat) : List (List Nat) :=
  let ws := (aesExpand 52 8 1 (fours 8 key).reverse).reverse
  (List.range 15).map fun r => ((ws.drop (4 * r)).take 4).flatten

/-- AES ShiftRows. -/
def aesShift (s : List Nat) : List Nat := (List.range 16).map fun i => s.getD ((i + 4 * (i % 4)) % 16) 0

/-- AES MixColumns of one column. -/
def aesMixCol (c : List Nat) : List Nat :=
  let a (i : Nat) : Nat := c.getD (i % 4) 0
  (List.range 4).map fun i => aesDouble (a i) ^^^ (aesDouble (a (i + 1)) ^^^ a (i + 1)) ^^^ a (i + 2) ^^^ a (i + 3)

/-- The middle rounds and the last one. -/
def aesRounds : List (List Nat) → List Nat → List Nat
  | [], s => s
  | [k], s => xorBytes (aesShift (s.map aesSub)) k
  | k :: r, s => aesRounds r (xorBytes ((fours 4 (aesShift (s.map aesSub))).flatMap aesMixCol) k)

/-- AES-256 of one block. -/
def aesBlock (key block : List Nat) : List Nat :=
  match aesKeys key with
  | k :: r => aesRounds r (xorBytes block k)
  | [] => block

/-- Bytes as one big-endian number. -/
def numOf (l : List Nat) : Nat := l.foldl (fun a b => 256 * a + b) 0

/-- The GHASH product: bits of x from the left over n steps. -/
def ghMul : Nat → Nat → Nat → Nat
  | 0, _, _ => 0
  | n + 1, x, v =>
    (if bitOf x n then v else 0) ^^^ ghMul n x (if v % 2 = 1 then v / 2 ^^^ 0xE1 * 2 ^ 120 else v / 2)

/-- GHASH over whole blocks. -/
def ghash (h : Nat) : Nat → List Nat → Nat → Nat
  | 0, _, y => y
  | n + 1, l, y => ghash h n (l.drop 16) (ghMul 128 (y ^^^ numOf (l.take 16)) h)

/-- The 16-byte GMAC of additional data under a key and a 12-byte IV (R380). -/
def gmac (key iv data : List Byte) : List Byte :=
  let nat (l : List Byte) : List Nat := l.map (·.toNat)
  let h := numOf (aesBlock (nat key) (List.replicate 16 0))
  let d := nat data
  let padded := d ++ List.replicate ((16 - d.length % 16) % 16) 0 ++ nat (beBytes 8 (8 * data.length)) ++ List.replicate 8 0
  let y := ghash h (padded.length / 16) padded 0
  beBytes 16 (y ^^^ numOf (aesBlock (nat key) (nat iv ++ [0, 0, 0, 1])))

end Sys2Proof.Machine
end

