-- ==== Sys2Proof/Machine/Fabric.lean ====
section
/-! DEFINITION. The Beneš wiring of a plane (R33 to R35), for any fabric of 2^n ports so that the miniature of the specification is the same construction; and the numbering of elements, monitors and fine zones (R13 to R21). -/
namespace Sys2Proof.Machine

/-- The number n of the device: 2^9 ports, 17 stages. -/
def fabN : Nat := 9

/-- The link permutation after stage s: the input waveguide of stage s + 1 that output waveguide w feeds (R34). -/
def linkOf (n s w : Nat) : Nat :=
  if s + 2 ≤ n then
    let b := n - s
    let lo := w % 2 ^ b
    w - lo + lo / 2 + lo % 2 * 2 ^ (b - 1)
  else
    let b := s + 3 - n
    let lo := w % 2 ^ b
    w - lo + 2 * lo % 2 ^ b + lo / 2 ^ (b - 1)

/-- The inverse of the link permutation: the output waveguide of stage s that feeds input waveguide w of stage s + 1. -/
def linkBack (n s w : Nat) : Nat :=
  if s + 2 ≤ n then
    let b := n - s
    let lo := w % 2 ^ b
    w - lo + 2 * lo % 2 ^ b + lo / 2 ^ (b - 1)
  else
    let b := s + 3 - n
    let lo := w % 2 ^ b
    w - lo + lo / 2 + lo % 2 * 2 ^ (b - 1)

/-- The bitmap position of cell c of stage s (R48): s × 2^(n-1) + c. -/
def posOf (n s c : Nat) : Nat := s * 2 ^ (n - 1) + c

/-- The waveguide on the other side of a cell in a given state (R33): BAR keeps the waveguide, CROSS exchanges the cell's two. -/
def through (cross : Bool) (w : Nat) : Nat := if cross then w ^^^ 1 else w

/-- The waveguide walked from input waveguide w of stage s through k more stages: the positions crossed and the output waveguide of the last. -/
def walkFrom (n cells : Nat) : Nat → Nat → Nat → List Nat × Nat
  | 0, _, w => ([], w)
  | k + 1, s, w =>
    let x := posOf n s (w / 2)
    let out := through (bitOf cells x) w
    let r := walkFrom n cells k (s + 1) (if k = 0 then out else linkOf n s out)
    (x :: r.1, r.2)

/-- The walk backwards from output waveguide w of stage k - 1 to stage 0: the positions crossed and the ingress port. -/
def walkBack (n cells : Nat) : Nat → Nat → List Nat × Nat
  | 0, w => ([], w)
  | k + 1, w =>
    let x := posOf n k (w / 2)
    let inp := through (bitOf cells x) w
    let r := walkBack n cells k (if k = 0 then inp else linkBack n (k - 1) inp)
    (x :: r.1, r.2)

/-- The path to egress port e: the positions crossed, last stage first, and the ingress port whose light arrives (R35). -/
def pathTo (n cells e : Nat) : List Nat × Nat := walkBack n cells (2 * n - 1) e

/-- The positions on the path to egress port e of the device. -/
def pathPos (cells e : Nat) : List Nat := (pathTo fabN cells e).1

/-- The ingress port whose light reaches egress port e. -/
def ingressOf (cells e : Nat) : Nat := (pathTo fabN cells e).2

/-- The egress ports whose paths cross a position: the walks forward from the two outputs of its cell. -/
def egressAt (cells x : Nat) : List Nat :=
  let s := x / 256
  let c := x % 256
  let go (w : Nat) : Nat := if s = 16 then w else (walkFrom fabN cells (16 - s) (s + 1) (linkOf fabN s w)).2
  [go (2 * c), go (2 * c + 1)]

/-- The number of elements (R13). -/
def numElem : Nat := 9728

/-- The plane of an element (R14). -/
def planeOf (eid : Nat) : Nat := eid / 4864

/-- Whether an element is a cell (R14). -/
def isCell (eid : Nat) : Bool := eid % 4864 < 4352

/-- The bitmap position of a cell, or the egress port of a shutter (R14). -/
def placeOf (eid : Nat) : Nat := if isCell eid then eid % 4864 else eid % 4864 - 4352

/-- The EID of the cell at a bitmap position in a plane (R13). -/
def cellEid (p x : Nat) : Nat := p * 4864 + x

/-- The EID of the shutter of an egress port in a plane (R13). -/
def shutEid (p e : Nat) : Nat := p * 4864 + 4352 + e

/-- The drive tile of an element (R15). -/
def tileOf (eid : Nat) : Nat := eid / 76

/-- The channel of an element on its tile (R15). -/
def chanOf (eid : Nat) : Nat := eid % 76

/-- The Bramble cluster of an element (R15). -/
def clusterOf (eid : Nat) : Nat := eid / 2432

/-- The fine zone of an element (R21), the same number in both planes. -/
def zoneOf (eid : Nat) : Nat :=
  let q := placeOf eid
  if isCell eid then 8 * (q % 256 / 32) + min (q / 256 / 2) 7 else 8 * (q / 64) + 7

/-- The monitors of a cell: the taps on its two outputs (R17). -/
def cellTap (eid j : Nat) : Nat := planeOf eid * 9728 + 2 * placeOf eid + j

/-- The drop photodiode of a shutter (R17). -/
def dropMid (eid : Nat) : Nat := planeOf eid * 9728 + 8704 + placeOf eid

/-- The egress tap of a shutter (R17). -/
def egressMid (eid : Nat) : Nat := planeOf eid * 9728 + 9216 + placeOf eid

/-- The ingress tap of an ingress port (R17). -/
def ingressMid (i : Nat) : Nat := 19456 + i

/-- The monitor tile of a monitor (R18). -/
def monTile (mid : Nat) : Nat := mid / 256

/-- The Bramble cluster that owns a monitor tile; tiles 76 and 77 are scheduled by clusters 0 and 2 (R19). -/
def monCluster (m : Nat) : Nat := if m = 76 then 0 else if m = 77 then 2 else m / 19

/-- The element of a monitor: a cell for its taps, a shutter for its drop photodiode or egress tap, none for an ingress tap (R17). -/
def monElem (mid : Nat) : Option Nat :=
  if 19456 ≤ mid then none
  else
    let p := mid / 9728
    let q := mid % 9728
    if q < 8704 then some (cellEid p (q / 2))
    else if q < 9216 then some (shutEid p (q - 8704))
    else some (shutEid p (q - 9216))

end Sys2Proof.Machine
end

