-- ==== Sys2Proof/Machine/State.lean ====
section
/-! DEFINITION. The state of the block: every register, table, buffer, queue, mode and pin that the specification gives the device, as plain data; and the machine right after reset. -/
namespace Sys2Proof.Machine

/-- Why a command can stop the block: no way is given. Every event of the specification leaves a next state (R25: an event not listed for a state leaves the state unchanged), so this type has no constructor. -/
inductive Fault where
deriving DecidableEq, Repr

/-- Why a command has no meaning. -/
inductive Refusal where
  /-- Raised by Machine/Dispatch.lean for a row of the table whose meaning is not written; safe, since nothing is claimed of it. -/
  | notModelled (mnemonic : String)
deriving DecidableEq, Repr

/-- The global device states (R24). -/
inductive DevState where
  | off | boot | hold | armed | run | safe | halt
deriving DecidableEq, Repr

/-- The power state of a switched domain (R412): PSTATE 0 OFF, 1 POWERING_UP, 2 ON, 3 POWERING_DOWN; ON and REFUSED of PG_PWR; a request that waits for the present change to end (R414), 1 up or 2 down, 0 none; and whether that waiting power-down arrived over PCI Express (R411). -/
structure Dom where
  pstate  : Nat
  on      : Bool
  refused : Bool
  wait    : Nat
  viaPcie : Bool
deriving DecidableEq, Repr

/-- A fault that a block has raised and that has not reached Sump's classifier yet (R390). -/
structure Raised where
  src      : Nat
  data     : Nat
  injected : Bool
  direct   : Bool
deriving DecidableEq, Repr

/-- A classed fault that waits for the record update (R396): its source, first data, whether INJECT raised it, DIRECT (R395), its class and reaction, cnt and the time; how many faults of its source were coalesced with it, with the first data and time of the last; the global state as it was classed; and the egress ports that it blanks (R392). -/
structure RecReq where
  src      : Nat
  data     : Nat
  injected : Bool
  direct   : Bool
  severe   : Bool
  reaction : Nat
  cnt      : Nat
  time     : Nat
  coal     : Nat
  last     : Nat
  lastAt   : Nat
  devAt    : Nat
  ports    : List Nat
deriving DecidableEq, Repr

/-- The AVSBus transactions the device uses (R283): Write Vout with commit, in millivolts; Read Vout; Read Status. -/
inductive AvsCmd where
  | write (mv : Nat)
  | readVout
  | readStatus
deriving DecidableEq, Repr

/-- What the block sends out while it carries out one command. -/
inductive Out where
  /-- Data returned by a register read over a path. -/
  | word (path : HostPath) (off : Nat) (w : Word)
  /-- A write into host memory over PCI Express. -/
  | hostWrite (addr : Nat) (data : List Byte)
  /-- An MSI-X message. -/
  | msix (vector : Nat)
  /-- A frame sent on a ring port: its bytes from DA to before the FCS, and whether its FCS is stomped (R322). -/
  | frame (port : Nat) (data : List Byte) (stomped : Bool)
  /-- A pulse on an output pin: 1 SYNC_OUT, 2 PPS_OUT; wide for a start pulse (R225). -/
  | pin (n : Nat) (wide : Bool)
  /-- An AVSBus transaction (R283). -/
  | avs (c : AvsCmd)
  /-- A PTP message of the device's own on a ring port (R240): kind 1 Delay_Req, 2 Pdelay_Req, 3 Pdelay_Resp; its correctionField, in units of 2^-16 ns, and its twoStepFlag. -/
  | ptp (port kind : Nat) (corr : Int) (twoStep : Bool)
  /-- An SMBus answer. -/
  | smb (data : List Byte)
  /-- An SMBus command not acknowledged. -/
  | smbNack
  /-- The word that the JTAG identification register shifts out (R464). -/
  | idcode (w : Word)
  /-- What a scan of the boundary register shifts out of the input cells (R465). -/
  | scan (l : List (Ball × Bool))
  /-- Data of a BAR2 read, and whether the completion is poisoned (R445). -/
  | bar2 (data : List Byte) (poisoned : Bool)
deriving DecidableEq, Repr

/-- The identity burnt into the unit (R290, R450): UNIT_ID, the ES mark, the stepping, and the station address of each ring port (R340). -/
structure Unit5122 where
  unitId   : Nat
  es       : Nat
  stepping : Nat
  station  : List Nat
deriving DecidableEq, Repr

/-- A shape being played by a fast channel (R94, R95): the live code before the strobe, the new code, the 64 points taken at the strobe, and the point reached. -/
structure Play where
  key   : Nat
  old   : Nat
  new   : Nat
  shape : Nat
  point : Nat
deriving DecidableEq, Repr

/-- A range change in progress on a drive tile (R121, R122): the kinds that change and have not settled, whether the change has started and forces their outputs to zero, and whether a safe strobe came meanwhile. -/
structure RangeCh where
  tile   : Nat
  fast   : Bool
  htr    : Bool
  forced : Bool
  safed  : Bool
deriving DecidableEq, Repr

/-- What the drive tiles hold beside their registers. A channel's key is 2 × (128 × tile + channel) + kind, kind 0 fast and 1 heater. -/
structure DriveSt where
  /-- Shape points that differ from the reset shape (R95): key 64 × (16 × (2 × tile + bank) + shape) + point. -/
  shapes : Tab Nat
  /-- Shapes playing. -/
  plays  : List Play
  /-- Direct updates held by pacing (R112): key to code. -/
  held   : List (Nat × Nat)
  /-- Channels held by the deglitcher (R116): key to the code the output still drives. -/
  degl   : List (Nat × Nat)
  /-- When a channel's live code last changed (R119): key to local time. -/
  chg    : List (Nat × Nat)
  /-- When a heater channel was last updated, directly or by a strobe (R112, R162): key to local time. -/
  upd    : List (Nat × Nat)
  /-- Channels whose shadow the host has written since the last strobe or commit (R121). -/
  hostWr : List Nat
  /-- Range changes in progress. -/
  range  : List RangeCh
  /-- Tiles whose drive supplies are absent, so that their outputs are clamped (R110): 1 VDD_DRVP, 2 VDD_DRVN, 4 VDD_HTR, as bits. -/
  clamp  : Nat
  /-- Channels whose SHORT flag was set as their tile entered SERVICE: they keep their limiter (R108, R109). -/
  limited : List Nat
  /-- Corrected errors of the tile buses (R11), by cluster. -/
  busCorr : Tab Nat
deriving DecidableEq, Repr

/-- One override entry of an image (R80). -/
structure Ovr where
  eid  : Nat
  kind : Nat
  fast : Nat
  htr  : Nat
deriving DecidableEq, Repr

/-- A Palzo image as the device uses it (R75 to R80): FLAGS, IMAGE_ID, the cell bitmap with position x as bit x, the setpoints of plane H then plane V, the heat signature, and the overrides in force. -/
structure Image where
  flags : Nat
  id    : Nat
  cells : Nat
  sets  : List Nat
  heat  : List Nat
  ovrs  : List Ovr
deriving DecidableEq, Repr

/-- An image reference of a bench descriptor (R192): a cache slot, a store address, or none. -/
inductive ImgRef where
  | slot (n : Nat) | store (addr : Nat) | none
deriving DecidableEq, Repr

/-- A prefetch buffer (R85): the store address it serves, whether it serves the fixed bench or the provisional successor, whether it serves the alternate, and, once arrived, the R82 code with the image, 15 standing for unreadable data. -/
structure Prefetch where
  addr    : Nat
  fixed   : Bool
  isAlt   : Bool
  arrived : Option (Nat × Option Image)
deriving DecidableEq, Repr

/-- The image fixed at the last commit point (R99): its reference, the image, whether it is the alternate, the stagger step of each strobe group (R93), whether admission answered HOLD, and the zones' element power predicted for it (R277). -/
structure NextFix where
  ref   : ImgRef
  image : Image
  subst : Bool
  steps : List Nat
  held  : Bool
  pred  : List Nat
deriving DecidableEq, Repr

/-- What staging has worked out (R87 to R89, R97): the bitmap as staged, the pin-conflict positions reported, the overrides ignored, the changed, the pin-conflict and all the closing egress ports, those of them to be released, the flips, the marked channels with the transition shape of each, the closed codes that shutters to be released play at T (R98), when staging started, and whether it is complete and the strobe armed. -/
structure Staged where
  cells    : Nat
  conflict : List Nat
  ignored  : List Nat
  changed  : List Nat
  pinPorts : List Nat
  closing  : List Nat
  release  : List Nat
  flips    : Nat
  marks    : List (Nat × Nat)
  closes   : List (Nat × Nat)
  started  : Nat
  complete : Bool
  armed    : Bool
deriving DecidableEq, Repr

/-- Images and transitions beside the registers of R102. -/
structure ImgSt where
  live     : Option Image
  /-- The cells as they stand: the bitmap of the live image as staged, with pinned cells held (R88, R157). -/
  liveCells : Nat
  liveRef  : ImgRef
  prefetch : List Prefetch
  next     : Option NextFix
  staged   : Option Staged
  /-- Pin-conflict ports of the live image (R89). -/
  pinPorts : List Nat
  /-- Ports closed by TRANSITION_BLANK whose release at T + 700 ns is still to come (R98). -/
  release  : List Nat
  /-- The check running on a slot (R83). -/
  checking : Option Nat
  /-- Marked channels of the live image's transition whose group has not fired, with their shapes (R101). -/
  firing   : List (Nat × Nat)
  /-- The strobe groups of that transition that have not fired (R93). -/
  groups   : List Nat
  /-- The cells whose taps have exchanged their ranges in that transition (R161). -/
  swapped  : List Nat
deriving DecidableEq, Repr

/-- A submission queue and its completion queue beside Q_STATUS (R381, R382): the tail doorbell, the head doorbell, and the phase of the next completion entry. -/
structure QueueSt where
  sqTail : Nat
  cqHead : Nat
  phase  : Bool
deriving DecidableEq, Repr

/-- The event and punt queues beside their STATUS registers (R383, R384): head doorbells, phases, the event entry sequence, whether the next event entry carries OVERFLOWED, and the events that wait for D0 or for board SDRAM: page, bit and PEND. -/
structure HostQSt where
  sq     : List QueueSt
  turn   : Nat
  eqHead : Nat
  eqPh   : Bool
  eqSeq  : Nat
  eqOvf  : Bool
  eqWait : List (Nat × Nat × Nat × Nat)
  pqHead : Nat
  pqPh   : Bool
deriving DecidableEq, Repr

/-- The PCI Express function (R428, R429): the data link is up, the power state is D3hot, PCIE_PERST_N is low, and the MSI-X messages and the writes to host memory that wait for D0. -/
structure PcieSt where
  up      : Bool
  d3      : Bool
  perst   : Bool
  msiWait : List Nat
  dmaWait : List (Nat × List Byte)
deriving DecidableEq, Repr

/-- Where the result record of a solve goes (R52): to a board-SDRAM address over the register path, to an op of a command (its batch's number and its place), or to Plumb. -/
inductive SolveDest where
  | reg (addr : Nat) | op (batch place : Nat) | plumb
deriving DecidableEq, Repr

/-- An accepted solve request (R48): TAG, MODE, target slot, base, the FLAGS bits, the two setpoints, PATH_ADDR, PROBE, the permutation entries, and where its result goes. -/
structure SolveReq where
  tag    : Nat
  mode   : Nat
  target : Nat
  base   : Nat
  hi     : Bool
  all    : Bool
  setH   : Nat
  setV   : Nat
  paths  : Nat
  probe  : Nat
  perm   : List Nat
  dest   : SolveDest
deriving DecidableEq, Repr

/-- What a solve will write, worked out from the snapshot of its lane start (R47): the code with FIRST_FAIL, CONSTRAINED, INCREMENTAL, SHUTTER_QUAR, the counts of R63, the bitmap, the image without CREATED and CRC-32C, and the path list. -/
structure SolveOut where
  code    : Nat
  first   : Nat
  con     : Bool
  incr    : Bool
  flips   : Nat
  changed : Nat
  circ    : Nat
  pinned  : Nat
  heat    : Nat
  cells   : Nat
  image   : List Byte
  paths   : List Nat
  base    : Nat
  quar    : Bool
deriving DecidableEq, Repr

/-- A lane that runs a solve (R68): the request, the first lane start (R71), what the snapshot gave, the pinned positions it knows of, and the STALE and RESOLVED flags so far (R61, R67). -/
structure LaneSt where
  lane  : Nat
  req   : SolveReq
  start : Nat
  out   : SolveOut
  pins  : Nat
  stale : Bool
  again : Bool
deriving DecidableEq, Repr

/-- Seam beside its page: the requests that wait, in order of acceptance; the lanes that run; the addresses latched at the doorbell (R52); the results of ops' solves: batch, place and record; and the code of Plumb's last probe solve. -/
structure SeamSt where
  queue : List SolveReq
  lanes : List LaneSt
  fetch : Option (Nat × Nat)
  done  : List (Nat × Nat × List Byte)
  probe : Option Nat
deriving DecidableEq, Repr

/-- A probe pair in progress (R156): the step reached (1 the +δ offset is live, 2 its sample is in, 3 the -δ offset is live, 4 its sample is in), δ, the unoffset fast code, the weak tap, its range at the first sample, the two photocurrents, when the offset went live and whether that was a major transition (R158), and the probe phase of the first sample (R180). -/
structure ProbeSt where
  step  : Nat
  delta : Nat
  base  : Nat
  tap   : Nat
  range : Nat
  plus  : Int
  minus : Int
  since : Nat
  major : Bool
  phase : Nat
deriving DecidableEq, Repr

/-- What Bramble keeps of an element beside its table entry: the pair in progress; the sum and number of pairs of the present estimate (R156); the estimates made in TRACK, latest first, at most 64 (R163); the heater code and zone temperature at BLIND entry and the tests since that found it not blind (R170); when SATURATED began and whether LOOP_SATURATED has been raised since (R167); for a shutter, Aw in 1/256 dB once a measurement has set it, whether a soft-start waits for its first measurement, and the time of the last measurement (R172); and the end of its holdoff (R100). Times are local. -/
structure ElemSt where
  probe  : Option ProbeSt
  sum    : Int
  pairs  : Nat
  hist   : List Int
  tfCode : Nat
  tf     : Int
  okRun  : Nat
  satAt  : Nat
  satRaised : Bool
  aw     : Option Nat
  soft   : Bool
  measAt : Nat
  offEnd : Nat
deriving DecidableEq, Repr

/-- A conversion result kept for a monitor (R159, R169, R171): the photocurrent and the conversion's start. -/
structure Seen where
  amps  : Int
  start : Nat
deriving DecidableEq, Repr

/-- Bramble beside its pages and the element table. -/
structure BramSt where
  /-- What it keeps of each element that is not idle. -/
  elems   : Tab ElemSt
  /-- The last unflagged result of each monitor. -/
  seen    : List (Nat × Seen)
  /-- When each monitor's last conversion began, plus 1 (R181). -/
  convAt  : Tab Nat
  /-- Guard requests, oldest first (R181). -/
  guard   : List Nat
  /-- Conversion requests, oldest first: monitor and class (R179). -/
  reqs    : List (Nat × Nat)
  /-- Requests granted whose result has not been delivered unflagged: monitor and class (R182). -/
  asked   : List (Nat × Nat)
  /-- The place of each converter in its rotation (R179). -/
  turn    : Tab Nat
  /-- Zones whose PIC sensor has had a new sample since the last epoch (R170). -/
  fresh   : List Nat
  /-- Ballast heaters that ramp, each with its target in the units of State.htrPow (R175). -/
  ramps   : List (Nat × Nat)
  /-- The greatest lit-monitor age of each cluster since the last clear, in µs (R183, R188). -/
  ages    : Tab Nat
  /-- Clusters that start after a SOFT_RESET, whose element writes are ignored meanwhile (R189). -/
  softs   : List Nat
deriving DecidableEq, Repr

/-- An element of which Bramble keeps nothing yet. -/
def ElemSt.idle : ElemSt := ⟨none, 0, 0, [], 0, 0, 0, 0, false, none, false, 0, 0⟩


/-- A write to a converter's selection, mode or scan mask (R131, R132): when it reached the tile, the mode, selection and mask before it, whether it missed the deadline of the next conversion, and whether it is a selection not counted as late yet. Times are local. -/
structure ConvWrite where
  at'  : Nat
  was  : Nat × Nat × Nat
  late : Bool
  sel  : Bool
deriving DecidableEq, Repr

/-- A converter (R130, R131): the input of the conversion in progress, the range used, when it started in local time and its conversion period, whether a SETTLING window of its channel was open then (R136), the writes within 12.5 ns of now or later than the last deadline, and the inputs of conversions that a restart abandoned, whose waits the next result closes (R138). -/
structure Conv where
  input  : Nat
  range  : Nat
  start  : Nat
  period : Nat
  settl  : Bool
  writes : List ConvWrite
  lost   : List Nat
deriving DecidableEq, Repr

/-- A capture ring beside its registers (R143 to R148): the records not yet in a full burst, the bursts in the write buffer, the decimation counts by converter, whether the next passing result is skipped under throttle, and when RUN was set and when it was last cleared, in local time. -/
structure RingSt where
  part   : List Byte
  bursts : List (List Byte)
  dec    : Tab Nat
  skip   : Bool
  runAt  : Nat
  stopAt : Option Nat
deriving DecidableEq, Repr

/-- The monitor converters and capture beside their pages: the CLK_LOOP ticks since the root PLL locked, on which the device measures its intervals; the conversion-period counter and the ticks into the present period (R130, R139), network time at the start of period 0 of the present tag era (R141), the converters, the ends of the SETTLING windows by monitor (R136), ingress taps with a first conversion above +20.5 dBm and those in an excursion (R43), the rings, the results of the present period that capture has not taken yet, each with its place (1,024 × ring + converter) and its record (R145), the records that entered the write buffer in a period, and the bursts written in the last 1 µs (R153). -/
structure MonSt where
  clock   : Nat
  period  : Nat
  sub     : Nat
  eraAt   : Nat
  convs   : Tab Conv
  settle  : List (Nat × Nat)
  overOne : List Nat
  overRun : List Nat
  rings   : Tab RingSt
  batch   : List (Nat × List Byte)
  capAt   : Nat
  capN    : Nat
  recent  : List (Nat × Nat)
deriving DecidableEq, Repr

/-- A converter that has not converted yet. -/
def Conv.idle : Conv := ⟨0, 0, 0, 0, false, [], []⟩

/-- A capture ring that holds nothing. -/
def RingSt.idle : RingSt := ⟨[], [], [], false, 0, none⟩
/-- A bench descriptor in play (R191): where it lies (the stream, and its locked entry or its place in the stream), IMAGE, ALT, TIMING, TRIGO, LABEL, LOOP and SEQ as its words give them. -/
structure Bench where
  stream : Bool
  idx    : Nat
  image  : Nat
  alt    : Nat
  timing : Nat
  trigo  : Nat
  label  : Nat
  loop   : Nat
  seq    : Nat
deriving DecidableEq, Repr

/-- A level of the loop stack (R201): where its begin descriptor lies, the runs left (none while unset), and whether COUNT was 0. -/
structure LoopLvl where
  stream  : Bool
  idx     : Nat
  left    : Option Nat
  forever : Bool
deriving DecidableEq, Repr

/-- An underflow episode (R224): the planned boundary of the missing descriptor, the granules of extension, and whether the safe image's bench plays meanwhile. -/
structure Episode where
  planned : Nat
  ext     : Nat
  safe    : Bool
deriving DecidableEq, Repr

/-- Gantry beside its page and bench memory. Times are in time units. -/
structure GanSt where
  /-- The live bench. -/
  live    : Option Bench
  /-- The bench fixed at a commit point that has passed. -/
  fixed   : Option Bench
  /-- The next boundary, where it is planned. -/
  nextT   : Option Nat
  /-- The next boundary as it is planned without the pending RESYNC (R226). -/
  plan    : Option Nat
  /-- The last boundary. -/
  lastT   : Nat
  /-- The loop stack, top first (R201). -/
  stack   : List LoopLvl
  /-- Gantry stops at the coming boundary (R227). -/
  stop    : Bool
  /-- The commit point of the coming boundary has passed and has fixed no bench (R201, R227). -/
  ended   : Bool
  /-- The entry a pending jump goes to (R211). -/
  jump    : Option Nat
  /-- A pending RESYNC: Tr, and its label's entry (R226). -/
  resync  : Option (Nat × Option Nat)
  /-- The bench fixed is the one of a RESYNC (R226). -/
  resyncT : Bool
  /-- An underflow episode (R224). -/
  ep      : Option Episode
  /-- The reason of the last underflow was LOOP_TOO_LONG (R202). -/
  tooLong : Bool
  /-- The first bench comes from the stream, and else its locked entry (R217). -/
  first   : Bool × Nat
  /-- The mode of the start accepted last (R217). -/
  mode    : Nat
  /-- A strobe has fired since the start (R209). -/
  struck  : Bool
  /-- Periods that wait for a boundary, each with how many boundaries it passes over first (R196). -/
  period  : List (Nat × Nat)
  /-- The label map (R199): label to entry. -/
  labels  : List (Nat × Nat)
  /-- The locked entries in force (R199). -/
  limit   : Nat
  /-- The stream buffer: place in the stream, and the descriptor (R202). -/
  sbuf    : List (Nat × Bench)
  /-- The place of the next descriptor to fetch, and of the next to play. -/
  staken  : Nat
  spos    : Nat
  /-- Fetching has stopped on a wrong SEQ (R205). -/
  stall   : Bool
  /-- A slave's boundary pulse stands for the awaited trigger (R221). -/
  syncTrig : Bool
  /-- The ends of the pulses asserted on TRIGO outputs (R216). -/
  trigEnd : Tab Nat
  /-- The outputs whose pulse for the coming bench has been asserted (R215). -/
  trigEarly : List Nat
  /-- The outputs whose pulse for the bench after it has been asserted (R215). -/
  trigNext : List Nat
  /-- An echo measurement runs, with so many of its pulses still to emit (R222). -/
  echo    : Option Nat
deriving DecidableEq, Repr

/-- A background job (R281): its number, its work, priority, cost (activity units, or heater power), and when it was queued. -/
structure Job where
  id   : Nat
  kind : JobKind
  prio : Nat
  cost : Nat
  born : Nat
deriving DecidableEq, Repr

/-- The budget governor beside its page: waiting jobs in order of arrival; granted jobs, each with whether it has ended; offers refused by a full queue, in order (R281); the next job number; the aged job of the activity and of the heater kind (R282); whether an episode of R275 is in force; the live element power of each fine zone and the power of each ballast heater (R273); and the ballast targets (R276). Powers are in the units of State.htrPow. -/
structure GovSt where
  jobs    : List Job
  runs    : List (Job × Bool)
  refused : List JobKind
  nextId  : Nat
  agedAct : Option Nat
  agedHtr : Option Nat
  overTemp : Bool
  ez      : Tab Nat
  bz      : Tab Nat
  target  : Tab Nat
deriving DecidableEq, Repr


/-- What a round of samples gave for a protection zone (R265): the level value, the shutdown value, and whether the zone is at SHUTDOWN by R265 or R269. -/
structure Round where
  level  : Option Int
  shut   : Option Int
  forced : Bool
deriving DecidableEq, Repr

/-- A protection zone beside ZONE_STATUS (R266, R272): the rounds counted, latest first; how many rounds have passed since its level last changed; and when it last entered or left THROTTLE. -/
structure ZoneSt where
  rounds : List Round
  since  : Nat
  thrAt  : Option Nat
deriving DecidableEq, Repr

/-- An AVSBus transaction under way (R283, R284), and its failures so far. -/
structure AvsTx where
  cmd   : AvsCmd
  fails : Nat
deriving DecidableEq, Repr

/-- The sensors, the zones and the core supply loop beside their pages: consecutive implausible rounds, and consecutive plausible rounds of a failed sensor (R268); the time of each sensor's last reading, plus 1; the four zones; the transaction under way, and the one that failed and is sent again at the next period; and the consecutive periods above HI (R284). -/
structure ThermSt where
  odd   : Tab Nat
  fine  : Tab Nat
  seen  : Tab Nat
  zones : List ZoneSt
  avs   : Option AvsTx
  again : Option AvsCmd
  above : Nat
deriving DecidableEq, Repr
/-- A monitor of a DARK run (R301): its own range, the range measured, the sum and number of its conversions, and the means of the ranges done. -/
structure DarkSt where
  mid   : Nat
  orig  : Nat
  range : Nat
  sum   : Nat
  n     : Nat
  ofs   : List Nat
deriving DecidableEq, Repr

/-- A sample point of a sweep (R304): the element, the fast code, and the weak and strong taps' photocurrents. -/
structure SweepPt where
  eid    : Nat
  code   : Nat
  weak   : Int
  strong : Int
deriving DecidableEq, Repr

/-- A Plumb window (R304): the via position and state visited, the copies moved with the codes they return to, the point reached, the samples, and whether a time event opened it. -/
structure Window where
  pos   : Nat
  cross : Bool
  base  : List (Nat × Nat)
  point : Nat
  pts   : List SweepPt
  timed : Bool
  /-- The local time at which a timed window's granules run out (R304). -/
  stop  : Nat
  /-- The local time at which the present point went live (R304). -/
  since : Nat
deriving DecidableEq, Repr

/-- A Plumb run (R300 to R307): the monitors that DARK has left, the one measured, the visit reached (twice the position, plus 1 in CROSS), whether its PROBE solve is asked for and its image waits unused in PROBE_SLOT, values rejected and taken, windows dark and lit, and whether the run ends with its present kind. -/
structure RunSt where
  dark     : List Nat
  cur      : Option DarkSt
  visit    : Nat
  asked    : Bool
  ready    : Bool
  rejected : Nat
  taken    : Nat
  darkWin  : Nat
  litWin   : Nat
  ending   : Bool
deriving DecidableEq, Repr

/-- Plumb and the fuses beside their pages, the working set, the pending bank and the fuse array. -/
structure PlumbSt where
  /-- The run granted (R281, R306). -/
  run      : Option RunSt
  window   : Option Window
  /-- The armed swap is fixed to the boundary of a commit point that has passed (R297). -/
  swapFix  : Bool
  /-- The armed swap brings in a set that the host loaded (R295, R296). -/
  hostSet  : Bool
  /-- HOST_SWAP's check runs (R296). -/
  checking : Bool
  /-- The fuse commit's image of the target region, while it runs (R310). -/
  commit   : Option (List Byte)
  /-- The header CRC of a freeze is being written (R309). -/
  freezing : Bool
  /-- The CLK_LOOP cycle in which the armed swap was armed (R297, R299). -/
  armAt    : Nat
  /-- The local time at which the last run ended DONE or NO_CHANGE (R306). -/
  good     : Option Nat
deriving DecidableEq, Repr
/-- A timestamp entry (R259): its time in ps, its source 0 to 4, and whether the edge was falling. -/
structure TsEntry where
  t    : Nat
  src  : Nat
  fall : Bool
deriving DecidableEq, Repr

/-- An armed time event (R255, R257): its number, its next firing, in time units, and whether that firing is late. -/
structure TevPlan where
  k    : Nat
  at'  : Nat
  late : Bool
deriving DecidableEq, Repr

/-- A grandmaster heard on a port (R243): the port, its clockIdentity, and its dataset in the order of comparison: priority1, clockClass, clockAccuracy, offsetScaledLogVariance, priority2. -/
structure Master where
  port : Nat
  id   : Nat
  data : List Nat
deriving DecidableEq, Repr

/-- A Sync taken locally (R240, R244): its port, origin timestamp and receive timestamp in ps, the corrections so far in units of 2^-16 ns, and the log2 of the Sync interval. -/
structure SyncMsg where
  port : Nat
  t1   : Nat
  t2   : Nat
  corr : Int
  log  : Int
deriving DecidableEq, Repr

/-- The time unit beside its page. -/
structure TimeSt where
  /-- FREQ_ADJ after each Sync in ACQUIRING or LOCKED, latest first, at most 1,024 (R253). -/
  hist    : List Int
  /-- What is left to slew, in units of 2^-40 ns (R249). -/
  slew    : Int
  /-- Consecutive Syncs below LOCK_NS (R246). -/
  good    : Nat
  /-- LOCKED has been reached since the last FREE_RUN (R246). -/
  reached : Bool
  /-- The selected grandmaster (R243). -/
  gm      : Option Nat
  masters : List Master
  /-- Two-step Syncs that wait for their Follow_Up. -/
  waiting : List SyncMsg
  /-- The last complete Sync of each port. -/
  last    : List SyncMsg
  /-- The Delay_Req sent and not answered: its port and t3 in ps. -/
  asked   : Option (Nat × Nat)
  /-- Mean path delays measured on each port in time units, latest first, at most 16 (R244). -/
  delays  : List (Nat × List Int)
  /-- The timestamp queue, oldest first (R259). -/
  tsq     : List TsEntry
  /-- Armed time events. -/
  tevs    : List TevPlan
  /-- PPS_OUT is asserted (R260). -/
  ppsOn   : Bool
  /-- When it asserted, in local time (R260). -/
  ppsAt   : Nat
  /-- When HOLDOVER was entered, in local time (R253). -/
  holdAt  : Nat
  /-- The last Sync of the grandmaster on each port, and the last edge on PPS_IN as port 2: local time of arrival and the logarithm of its interval (R243, R246, R248). -/
  heard   : List (Nat × Nat × Int)
deriving DecidableEq, Repr
/-- Sump beside its page and the source windows: when each source's window opened, plus 1 (R389), the egress ports that it blanks (R392), and acknowledged records that wait for their write into the LOG ring (R398). -/
structure SumpSt where
  winAt   : Tab Nat
  blanked : List Nat
  logQ    : List (List Byte)
deriving DecidableEq, Repr

/-- A frame that a ring port took locally (R321): the port, the bytes from DA to before the FCS, whether it bore a ring tag, whether it has been forwarded, and when it was received. -/
structure RxFrame where
  port   : Nat
  data   : List Byte
  tagged : Bool
  fwd    : Bool
  time   : Nat
deriving DecidableEq, Repr

/-- Where a command's response goes (R366): a ring port's engine, the command's SA and its IEEE 802.1Q tag, and over UDP the command's source address, its destination address (4 or 16 bytes each) and its source port. -/
structure Carrier where
  port : Nat
  mac  : Nat
  vlan : List Byte
  src  : List Byte
  dst  : List Byte
  udp  : Nat
deriving DecidableEq, Repr

/-- A source address in an engine's duplicate table (R325): the newest RSEQ of its window and the RSEQs marked, each with the bytes of the committed copy from offset 20. -/
structure DupSrc where
  sa   : Nat
  top  : Nat
  seen : List (Nat × List Byte)
  /-- The RSEQ last received from the source on the engine's own port (R330). -/
  last : Nat
  /-- The local time at which the source was last used (R325). -/
  used : Nat
deriving DecidableEq, Repr

/-- A twin of a frame (R320): SA, RSEQ, and its bytes from offset 20. -/
structure Twin where
  sa   : Nat
  rseq : Nat
  data : List Byte
deriving DecidableEq, Repr

/-- A batch, in reassembly or whole (R377): its first fragment's header, the fragments with their op counts and op bytes, the tag bytes after the ops of the last fragment, the ring frames that carried it, whether a rule asked for authentication (R355), and its carrier. -/
structure Batch where
  head  : List Byte
  frags : List (Nat × Nat × List Byte)
  tag   : List Byte
  twins : List Twin
  auth  : Bool
  src   : Carrier
  /-- The local time at which its first fragment arrived (R378). -/
  born  : Nat
deriving DecidableEq, Repr

/-- A path engine (R324 to R330): its duplicate table, its batches in reassembly, its dead list by session and BATCH_ID, when a check last tripped, since when it has been healthy, and the path cycles since its last good copy or digest. -/
structure Engine where
  dups   : List DupSrc
  reasm  : List Batch
  /-- The dead list: session, BATCH_ID, and the local time at which it was put there (R378). -/
  dead   : List ((Nat × Nat) × Nat)
  trip   : Option Nat
  since  : Nat
  age    : Nat
  /-- The last check to trip was PARITY (R331). -/
  parity : Bool
  /-- The local time at which the port's link went down, while it is (R330). -/
  downAt : Option Nat
  /-- The local time at which the present DIAG_WINDOW of the counted checks opened (R330). -/
  win    : Nat
  /-- Uncorrectable codewords in that window. -/
  fec    : Nat
  /-- Wrong frame check sequences in that window. -/
  fcs    : Nat
  /-- Gaps in RSEQ in that window. -/
  gap    : Nat
deriving DecidableEq, Repr

/-- The two path engines, the path mode in force (R326), the counter of RSEQ for the device's own frames (R320), and the trained transmitter settings by lane, 2 × port + lane (R340). -/
structure PathSt where
  engA : Engine
  engB : Engine
  copy : Bool
  rseq : Nat
  ffe  : Tab Nat
deriving DecidableEq, Repr

/-- An engine that holds nothing. -/
def Engine.fresh : Engine := ⟨[], [], [], none, 0, 0, false, none, 0, 0, 0, 0⟩
/-- A frame between its lookup and its action, or between its passes (R355, R358): the pass, the strip point and the END reached, the reason of R350 (0 for none), the winning rule, its action word, RULE_GEN at the lookup of the first pass and at the last lookup, the ACTIVE bit of the key, and the node of the failing visit. -/
structure Looked where
  frame  : RxFrame
  second : Bool
  strip  : Nat
  stop   : Nat
  reason : Nat
  rule   : Option (Nat × Nat)
  gen    : Nat
  genNow : Nat
  active : Bool
  node   : Nat
deriving DecidableEq, Repr

/-- A command taken from a submission queue (R381): its queue, TAG, SQ_HEAD after it, the response buffer's length, address and place, whether it interrupts, whether its descriptor or buffer could not be used, and its bytes. -/
structure SqCmd where
  q     : Nat
  tag   : Nat
  head  : Nat
  rLen  : Nat
  rAddr : Nat
  rSd   : Bool
  irq   : Bool
  bad   : Bool
  data  : List Byte
deriving DecidableEq, Repr

/-- What an executor works on (R361, R381): an EXEC frame with the bytes it carries and its AUTH, or a command of a submission queue. -/
inductive Work where
  | frame (f : RxFrame) (data : List Byte) (auth : Bool)
  | sq (c : SqCmd)
deriving DecidableEq, Repr

/-- What a reorder entry commits (R362, R377): nothing; a whole batch; an answer of a status to a fragment's header; or, by its status, the answer to work that was given up. -/
inductive Result' where
  | nothing
  | batch (b : Batch) (last : Twin)
  | answer (status : Nat) (head : List Byte) (src : Carrier)
  | given (status : Nat)
deriving DecidableEq, Repr

/-- A reorder entry (R361): its number, its work, its executor, whether the executor has finished, and what it commits. -/
structure Entry where
  no   : Nat
  work : Work
  exec : Option Nat
  fin  : Bool
  res  : Option Result'
  /-- The local time of its dispatch (R362). -/
  at'  : Nat
deriving DecidableEq, Repr

/-- The parser, the classifier and the executors beside their page (R344, R361): the input queues of ports A and B, frames that wait for a second pass, frames that wait for their action, the reorder buffer, oldest first, the next entry's number, and the executor last used. -/
structure ParserSt where
  inA    : List RxFrame
  inB    : List RxFrame
  again  : List Looked
  acts   : List Looked
  rob    : List Entry
  nextNo : Nat
  lastX  : Nat
deriving DecidableEq, Repr
/-- A result item (R373): the op's code, its status, its detail, and its data. -/
structure Item where
  code   : Nat
  status : Nat
  detail : Nat
  data   : List Byte
deriving DecidableEq, Repr

/-- Where a response goes: over the ring to a carrier, or to a submission queue's completion (R366). -/
inductive ReplyTo where
  | ring (c : Carrier) | sq (c : SqCmd)
deriving DecidableEq, Repr

/-- An answer that waits for its batch's solves (R373) or for its queue's board SDRAM (R444): the batch's number, its header, where the answer goes, its status, the index of a refused op, its items, and the places of the solves not complete. -/
structure Waiting where
  no     : Nat
  head   : List Byte
  dest   : ReplyTo
  status : Nat
  at'    : Nat
  items  : List Item
  open'  : List Nat
deriving DecidableEq, Repr

/-- The sessions and the commands beside the CMD page (R375, R380): the keys; the maps of committed sequences, bit i for H - i; the response counters; batches that wait for their solves; and the next batch's number. -/
structure CmdSt where
  keys : List (Nat × List Byte)
  maps : Tab Nat
  resp : Tab Nat
  wait : List Waiting
  next : Nat
deriving DecidableEq, Repr
/-- Start-up and reset beside the BOOT page (R417, R420, R422): BOOT was entered from OFF; the phases that are done; the time in µs from the rise of PORESET_N to the lock of the root PLL; the outcome of the commissioning check that runs: each failing reason with its detail; the register writes held meanwhile, each with its path; and READY is driven low. -/
structure BootSt where
  cold     : Bool
  pll      : Bool
  fuse     : Bool
  self     : Bool
  doms     : Bool
  trained  : Bool
  lockUs   : Nat
  check    : Option (List (Nat × Nat))
  held     : List (HostPath × Nat × Word)
  readyLow : Bool
  /-- The local time at which READY began to be driven low (R422). -/
  readyAt  : Nat
deriving DecidableEq, Repr

/-- The test that runs (R455): its number and target, what it has taken over: range and AR_EN of monitors (R462); the local time since which it runs and, of a link test, its checkers' locks are unchanged; and the symbols inverted meanwhile that they saw (R457). -/
structure TestSt where
  test   : Nat
  target : Nat
  saved  : List (Nat × Nat)
  since  : Nat
  errs   : Nat
deriving DecidableEq, Repr

/-- The cells of a ball in the boundary register (R465): what the control and output cells hold, and what the input cell has captured. -/
structure Cells where
  ctl : Bool
  out : Bool
  inp : Bool
deriving DecidableEq, Repr

/-- The test features beside the TEST page: the test that runs; and the JTAG port: the selected instruction (R464), whether it has the pins, and the boundary register (R465), of a ball that is not listed with every cell 0. -/
structure BenchSt where
  run   : Option TestSt
  jtag  : Nat
  pins  : Bool
  cells : List (Ball × Cells)
deriving DecidableEq, Repr

/-- The SMBus slave (R441): the sensor selected and the BAR0 offset set. -/
structure SmbSt where
  sensor : Nat
  addr   : Nat
deriving DecidableEq, Repr

/-- The whole block: the queue of waiting commands, first in first out, and everything the specification gives the device. -/
structure State where
  /-- The commands that wait. -/
  pending  : List Instr
  /-- The global state (R24). -/
  dev      : DevState
  /-- Every register of BAR0 and every word of its windows that differs from its reset value, by byte offset (R431). -/
  regs     : Tab Word
  /-- The live copies of parse nodes and classifier rules, by the offset of their shadow word (R349, R357). -/
  live     : Tab Word
  /-- Network time, in units of 2^-40 ps (R234). -/
  now      : Nat
  /-- The root PLL has locked and the counter runs (R236). -/
  clkRun   : Bool
  /-- The granule accumulator, in units of 2^-40 ps (R195). -/
  granAcc  : Nat
  /-- CLK_LOOP ticks counted modulo 4: the phase of CLK_SVC. -/
  phase    : Nat
  /-- The switched domains that are not simply ON (R411, R412). -/
  dom      : Tab Dom
  /-- Higher words latched by a read of a lowest word, per path (R8, R432): key to word plus 1. -/
  latch    : Tab Nat
  /-- Lower words held until the highest word is written, per path (R8): key to word plus 1. -/
  heldW    : Tab Nat
  /-- The pages whose ENABLE = 1 was written while they were DRAINING, and acts when they are HALTED (R434). -/
  enHeld   : List Nat
  /-- Faults raised and not yet classed by Sump (R390). -/
  inbox    : List Raised
  /-- Classed faults that wait for their record update (R396). -/
  recQ     : List RecReq
  /-- Board SDRAM: the bytes that have been written, addresses strictly rising (R444, R489). -/
  sd       : List Host.Cell
  /-- How many free values have been drawn (the model's own). -/
  freeCtr  : Nat
  /-- What the block has sent out during the last command (the model's own). -/
  out      : List Out
  /-- The unit's identity. -/
  unit     : Unit5122
  drv      : DriveSt
  img      : ImgSt
  hq       : HostQSt
  bram     : BramSt
  gov      : GovSt
  therm    : ThermSt
  sump     : SumpSt
  seam     : SeamSt
  gan      : GanSt
  plumb    : PlumbSt
  mon      : MonSt
  time     : TimeSt
  path     : PathSt
  parser   : ParserSt
  cmd      : CmdSt
  boot     : BootSt
  test     : BenchSt
  smb      : SmbSt
  pcie     : PcieSt
deriving DecidableEq, Repr

/-- A domain that is simply on: the value an unlisted domain has. -/
def Dom.onIdle : Dom := ⟨2, true, false, 0, false⟩

/-- A domain without power, as every domain is while the device is OFF. -/
def Dom.unpowered : Dom := ⟨0, true, false, 0, false⟩

/-- Every switched domain without power, indices 0 to 223 (R411). -/
def allDomainsOff : Tab Dom := (List.range 224).map fun i => (i, Dom.unpowered)

/-- The device after the power-on reset: OFF (R25), every register at its reset value, every domain without power, no command waiting. -/
def State.reset : State where
  pending := []
  dev := .off
  regs := []
  live := []
  now := 0
  clkRun := false
  granAcc := 0
  phase := 0
  dom := allDomainsOff
  latch := []
  heldW := []
  enHeld := []
  inbox := []
  recQ := []
  sd := []
  freeCtr := 0
  out := []
  unit := ⟨0, 0, 0, [0, 0]⟩
  drv := ⟨[], [], [], [], [], [], [], [], 0, [], []⟩
  hq := ⟨List.replicate 8 ⟨0, 0, true⟩, 0, 0, true, 0, false, [], 0, true⟩
  pcie := ⟨false, false, false, [], []⟩
  time := ⟨[], 0, 0, false, none, [], [], [], none, [], [], [], false, 0, 0, []⟩
  path := ⟨Engine.fresh, Engine.fresh, false, 0, []⟩
  parser := ⟨[], [], [], [], [], 0, 7⟩
  cmd := ⟨[], [], [], [], 0⟩
  boot := ⟨true, false, false, false, false, false, 0, none, [], false, 0⟩
  test := ⟨none, 1, false, []⟩
  smb := ⟨0, 0⟩
  mon := ⟨0, 0, 0, 0, [], [], [], [], [], [], 0, 0, []⟩
  bram := ⟨[], [], [], [], [], [], [], [], [], [], []⟩
  sump := ⟨[], [], []⟩
  seam := ⟨[], [], none, [], none⟩
  gan := ⟨none, none, none, none, 0, [], false, false, none, none, false, none, false, (false, 0), 0, false, [], [], 8192, [], 0, 0, false, false, [], [], [], none⟩
  plumb := ⟨none, none, false, false, false, none, false, 0, none⟩
  therm := ⟨[], [], [], List.replicate 4 ⟨[], 0, none⟩, none, none, 0⟩
  gov := ⟨[], [], [], 0, none, none, false, [], [], []⟩
  img := ⟨none, 0, .none, [], none, none, [], [], none, [], [], []⟩

end Sys2Proof.Machine
end

