-- ==== Sys2Proof/Machine/Image.lean ====
section
/-! DEFINITION. Palzo images: their layout (R75 to R80), the check of R82, and which ports they assign (R488). -/
namespace Sys2Proof.Machine

/-- Override entry i of an image of 2,048 bytes (R80). -/
def ovrAt (b : List Byte) (i : Nat) : Ovr :=
  let w := leAt b (0x6E0 + 8 * i) 2
  ⟨w % 2 ^ 14, w / 2 ^ 14, leAt b (0x6E0 + 8 * i + 2) 2 % 2 ^ 12, leAt b (0x6E0 + 8 * i + 4) 2⟩

/-- OVR_COUNT of an image (R76). -/
def ovrCount (b : List Byte) : Nat := leAt b 0x14 2

/-- The image that 2,048 bytes hold, read by R75 to R80. -/
def parseImage (b : List Byte) : Image where
  flags := leAt b 4 2
  id := leAt b 0x10 4
  cells := leAt b 0x40 544
  sets := (bytesAt b 0x260 1024).map (·.toNat)
  heat := (List.range 64).map fun z => leAt b (0x660 + 2 * z) 2
  ovrs := (List.range (min (ovrCount b) 35)).map (ovrAt b)

/-- The setpoint byte of egress port e in plane p (R78). -/
def Image.set (m : Image) (p e : Nat) : Nat := m.sets.getD (512 * p + e) 0xFF

/-- An egress port is assigned when its setpoint is other than 0xFF in a plane (R488). -/
def Image.assigned (m : Image) (e : Nat) : Bool := m.set 0 e != 0xFF || m.set 1 e != 0xFF

/-- The override in force for an element (R80). -/
def Image.ovr (m : Image) (eid : Nat) : Option Ovr := m.ovrs.find? (·.eid == eid)

/-- FLAGS.SHAPE_SET (R76). -/
def Image.shapeSet (m : Image) : Nat := bitsOf m.flags 2 2

/-- An element carries a circuit in an image: a cell on the path of an assigned egress port, or that port's shutter (R108). -/
def Image.carries (m : Image) (eid : Nat) : Bool :=
  if isCell eid then (egressAt m.cells (placeOf eid)).any m.assigned else m.assigned (placeOf eid)

/-- The sum of a list of numbers. -/
def sumN (l : List Nat) : Nat := l.foldl (· + ·) 0

/-- Whether a list rises strictly. -/
def rising : List Nat → Bool
  | a :: b :: r => decide (a < b) && rising (b :: r)
  | _ => true

/-- The number of override entries that count as in force for the reserved-bit check of R82. -/
def ovrForced (b : List Byte) : Nat := min (ovrCount b) 35

/-- R82, check 4: a reserved byte or bit of the image is not 0. -/
def imageReservedBad (b : List Byte) : Bool :=
  leAt b 3 1 != 0 || leAt b 4 2 / 16 != 0 || leAt b 0x20 32 != 0 || leAt b 0x7F8 4 != 0 ||
  (List.range (ovrForced b)).any fun i => leAt b (0x6E0 + 8 * i + 2) 2 / 2 ^ 12 != 0 || leAt b (0x6E0 + 8 * i + 6) 2 != 0

/-- R82, check 6: the override list is not as R80 requires. -/
def imageOvrBad (b : List Byte) : Bool :=
  let n := ovrForced b
  let es := (List.range n).map (ovrAt b)
  decide (35 < ovrCount b) || es.any (fun o => o.kind == 3 || decide (numElem ≤ o.eid)) ||
  !rising (es.map (·.eid)) || ((b.drop (0x6E0 + 8 * n)).take (8 * (35 - n))).any (· != 0)

/-- The code of R82 for an image of 2,048 bytes: the first check that fails, or 0. -/
def imageCheck (b : List Byte) : Nat :=
  if leAt b 0 2 ≠ 0x5A50 then 1
  else if leAt b 2 1 ≠ 1 then 2
  else if leAt b 0x7FC 4 ≠ crc32c (bytesAt b 0 0x7FC) then 3
  else if imageReservedBad b then 4
  else if (bytesAt b 0x260 1024).any (fun v => decide (0xA0 < v.toNat) && decide (v.toNat < 0xFF)) then 5
  else if imageOvrBad b then 6
  else if leAt b 8 4 ≠ sumN ((parseImage b).heat) then 7
  else 0

end Sys2Proof.Machine
end

