-- ==== Sys2Proof/Config.lean ====
section
/-! DEFINITION. The free values: what the specification leaves open. None has a body, so nothing can be proved of one, and a claim about one holds whatever it is. -/
namespace Sys2Proof

/-- R489: what a byte of board SDRAM that nothing has written returns, at an address, for the n-th free value drawn. -/
opaque Config.sdramByte (n addr : Nat) : Byte

/-- R160: what an estimate with equal input powers gives, for the n-th free value drawn; the formula divides by their difference. -/
opaque Config.gradient (n : Nat) : Int

/-- A word that the specification leaves open, the k-th of the n-th free value drawn. -/
opaque Config.freeWord (n k : Nat) : Word

/-- What a byte of host memory returns that the command naming a fetch does not give, at an address, for the n-th free value drawn. -/
opaque Config.hostByte (n addr : Nat) : Byte

end Sys2Proof
end

