-- ==== Sys2Proof/Machine/RegNames.lean ====
section
/-! DEFINITION. The fields of every register of the block, by the names the specification gives them (PAGE.REGISTER.FIELD), each with the BAR0 offset of its word and its bits. Pages: R431, R438; each field: the register table of its chapter. An argument t, m, k, c, e or n is the instance of the page or window, i the index within an array. -/
namespace Sys2Proof.Machine.Reg

/-- R433. -/
def HDR.PG_ID.W (pg : Nat) : Fld := ⟨pg + 0x0, 0, 32⟩
/-- R433. -/
def HDR.PG_CAPS.W (pg : Nat) : Fld := ⟨pg + 0x4, 0, 32⟩
/-- R433. -/
def HDR.PG_CTRL.ENABLE (pg : Nat) : Fld := ⟨pg + 0x8, 0, 1⟩
/-- R433. -/
def HDR.PG_CTRL.STOP_MODE (pg : Nat) : Fld := ⟨pg + 0x8, 1, 1⟩
/-- R433. -/
def HDR.PG_CTRL.SOFT_RESET (pg : Nat) : Fld := ⟨pg + 0x8, 2, 1⟩
/-- R433. -/
def HDR.PG_STATE.STATE (pg : Nat) : Fld := ⟨pg + 0xC, 0, 3⟩
/-- R433. -/
def HDR.PG_EVT_RAW.EVT (pg : Nat) : Fld := ⟨pg + 0x10, 0, 32⟩
/-- R433. -/
def HDR.PG_EVT_EN.EN (pg : Nat) : Fld := ⟨pg + 0x14, 0, 32⟩
/-- R433. -/
def HDR.PG_EVT_PEND.PEND (pg : Nat) : Fld := ⟨pg + 0x18, 0, 32⟩
/-- R433. -/
def HDR.PG_EVT_SET.SET (pg : Nat) : Fld := ⟨pg + 0x1C, 0, 32⟩
/-- R433. -/
def HDR.PG_ERRCNT.COUNT (pg : Nat) : Fld := ⟨pg + 0x20, 0, 16⟩
/-- R433. -/
def HDR.PG_ERRCNT.LAST_OFFSET (pg : Nat) : Fld := ⟨pg + 0x20, 16, 12⟩
/-- R433. -/
def HDR.PG_ERRCNT.CLEAR (pg : Nat) : Fld := ⟨pg + 0x20, 31, 1⟩
/-- R433. -/
def HDR.PG_LOCK.KEY (pg : Nat) : Fld := ⟨pg + 0x24, 0, 16⟩
/-- R433. -/
def HDR.PG_LOCK.LOCKED (pg : Nat) : Fld := ⟨pg + 0x24, 16, 1⟩

/-- R73. -/
def SEAM.CFG.LANE_EN : Fld := ⟨0xB040, 0, 4⟩
/-- R73. -/
def SEAM.CFG.JOB_PRIORITY : Fld := ⟨0xB040, 8, 4⟩
/-- R73. -/
def SEAM.CFG.HIGH_PRIORITY : Fld := ⟨0xB040, 12, 4⟩
/-- R73. -/
def SEAM.JOB_COST.COST : Fld := ⟨0xB044, 0, 16⟩
/-- R73. -/
def SEAM.REQ_ADDR_LO.ADDR : Fld := ⟨0xB048, 6, 26⟩
/-- R73. -/
def SEAM.REQ_ADDR_HI.ADDR : Fld := ⟨0xB04C, 0, 32⟩
/-- R73. -/
def SEAM.RES_ADDR_LO.ADDR : Fld := ⟨0xB050, 6, 26⟩
/-- R73. -/
def SEAM.RES_ADDR_HI.ADDR : Fld := ⟨0xB054, 0, 32⟩
/-- R73. -/
def SEAM.DOORBELL.GO : Fld := ⟨0xB058, 0, 1⟩
/-- R73. -/
def SEAM.STATUS.QUEUED : Fld := ⟨0xB05C, 0, 7⟩
/-- R73. -/
def SEAM.STATUS.LANE_BUSY : Fld := ⟨0xB05C, 8, 4⟩
/-- R73. -/
def SEAM.STATUS.FETCHING : Fld := ⟨0xB05C, 12, 1⟩
/-- R73. -/
def SEAM.STATUS.FULL : Fld := ⟨0xB05C, 13, 1⟩
/-- R73. -/
def SEAM.PIN_COUNT.COUNT : Fld := ⟨0xB060, 0, 13⟩
/-- R73. -/
def SEAM.LAST_TAG.TAG : Fld := ⟨0xB064, 0, 32⟩
/-- R73. -/
def SEAM.LAST_RESULT.CODE : Fld := ⟨0xB068, 0, 8⟩
/-- R73. -/
def SEAM.LAST_RESULT.FLAGS : Fld := ⟨0xB068, 8, 8⟩
/-- R73. -/
def SEAM.LAST_RESULT.LANE : Fld := ⟨0xB068, 16, 8⟩
/-- R73. -/
def SEAM.MAX_SOLVE.NS : Fld := ⟨0xB06C, 0, 24⟩
/-- R73. -/
def SEAM.CNT_CLEAR.CLEAR : Fld := ⟨0xB070, 0, 1⟩
/-- R73. -/
def SEAM.CNT_CODE.COUNT (i : Nat) : Fld := ⟨0xB080 + 0x4 * i, 0, 32⟩
/-- R73. -/
def SEAM.CNT_STALE.COUNT : Fld := ⟨0xB0B0, 0, 32⟩
/-- R73. -/
def SEAM.CNT_CONSTRAINED.COUNT : Fld := ⟨0xB0B4, 0, 32⟩
/-- R73. -/
def SEAM.CNT_RESOLVED.COUNT : Fld := ⟨0xB0B8, 0, 32⟩

/-- R102. -/
def GANTRY.IMG_CTRL.BLANK_MODE : Fld := ⟨0x9400, 0, 2⟩
/-- R102. -/
def GANTRY.IMG_CTRL.LOOP_HOLDOFF : Fld := ⟨0x9400, 8, 8⟩
/-- R102. -/
def GANTRY.SLOT_CHECK.SLOT : Fld := ⟨0x9404, 0, 9⟩
/-- R102. -/
def GANTRY.SLOT_CHECK.GO : Fld := ⟨0x9404, 31, 1⟩
/-- R102. -/
def GANTRY.SLOT_CHECK_STATUS.BUSY : Fld := ⟨0x9408, 0, 1⟩
/-- R102. -/
def GANTRY.SLOT_CHECK_STATUS.RESULT : Fld := ⟨0x9408, 8, 4⟩
/-- R102. -/
def GANTRY.SLOT_CHECK_STATUS.SLOT : Fld := ⟨0x9408, 16, 9⟩
/-- R102. -/
def GANTRY.LIVE_SLOT.SLOT : Fld := ⟨0x940C, 0, 9⟩
/-- R102. -/
def GANTRY.LIVE_SLOT.SOURCE : Fld := ⟨0x940C, 12, 1⟩
/-- R102. -/
def GANTRY.LIVE_SLOT.NONE : Fld := ⟨0x940C, 13, 1⟩
/-- R102. -/
def GANTRY.LIVE_IMAGE_ID.ID : Fld := ⟨0x9410, 0, 32⟩
/-- R102. -/
def GANTRY.LIVE_ADDR_LO.ADDR : Fld := ⟨0x9414, 11, 21⟩
/-- R102. -/
def GANTRY.LIVE_ADDR_HI.ADDR : Fld := ⟨0x9418, 0, 32⟩
/-- R102. -/
def GANTRY.NEXT_SLOT.SLOT : Fld := ⟨0x941C, 0, 9⟩
/-- R102. -/
def GANTRY.NEXT_SLOT.SOURCE : Fld := ⟨0x941C, 12, 1⟩
/-- R102. -/
def GANTRY.NEXT_SLOT.SUBST : Fld := ⟨0x941C, 13, 1⟩
/-- R102. -/
def GANTRY.NEXT_SLOT.FIXED : Fld := ⟨0x941C, 15, 1⟩
/-- R102. -/
def GANTRY.NEXT_IMAGE_ID.ID : Fld := ⟨0x9420, 0, 32⟩
/-- R102. -/
def GANTRY.STAGE_LAST.NS : Fld := ⟨0x9424, 0, 16⟩
/-- R102. -/
def GANTRY.STAGE_MAX.NS : Fld := ⟨0x9428, 0, 16⟩
/-- R102. -/
def GANTRY.LAST_FLIPS.FLIPS : Fld := ⟨0x942C, 0, 13⟩
/-- R102. -/
def GANTRY.LAST_FLIPS.CHANGED : Fld := ⟨0x942C, 16, 10⟩
/-- R102. -/
def GANTRY.LAST_STAGGER.SLOTS : Fld := ⟨0x9430, 0, 5⟩
/-- R102. -/
def GANTRY.LAST_STAGGER.SPREAD_NS : Fld := ⟨0x9430, 8, 8⟩
/-- R102. -/
def GANTRY.BLANKED.PORTS : Fld := ⟨0x9434, 0, 10⟩
/-- R102. -/
def GANTRY.CNT_TRANSITIONS.COUNT : Fld := ⟨0x9438, 0, 32⟩
/-- R102. -/
def GANTRY.CNT_IMAGE_INVALID.COUNT : Fld := ⟨0x943C, 0, 32⟩
/-- R102. -/
def GANTRY.CNT_IMAGE_LATE.COUNT : Fld := ⟨0x9440, 0, 32⟩
/-- R102. -/
def GANTRY.CNT_STAGE_LATE.COUNT : Fld := ⟨0x9444, 0, 32⟩
/-- R102. -/
def GANTRY.CNT_PIN_CONFLICT.COUNT : Fld := ⟨0x9448, 0, 32⟩
/-- R102. -/
def GANTRY.IMG_CNT_CLEAR.CLEAR : Fld := ⟨0x944C, 0, 1⟩
/-- R102. -/
def GANTRY.SLOT_VALID.VALID (i : Nat) : Fld := ⟨0x9480 + 0x4 * i, 0, 32⟩

/-- R124. -/
def DRIVE.TILE_CFG.MODE_REQ (t : Nat) : Fld := ⟨0x40040 + 0x1000 * t, 0, 2⟩
/-- R124. -/
def DRIVE.TILE_STATUS.MODE (t : Nat) : Fld := ⟨0x40044 + 0x1000 * t, 0, 2⟩
/-- R124. -/
def DRIVE.TILE_STATUS.ELEMENTS_OFF (t : Nat) : Fld := ⟨0x40044 + 0x1000 * t, 4, 1⟩
/-- R124. -/
def DRIVE.TILE_STATUS.CIRCUITS (t : Nat) : Fld := ⟨0x40044 + 0x1000 * t, 5, 1⟩
/-- R124. -/
def DRIVE.TILE_STATUS.RANGE_ACTIVE (t : Nat) : Fld := ⟨0x40044 + 0x1000 * t, 6, 1⟩
/-- R124. -/
def DRIVE.TILE_STATUS.SAFE_LOADED (t : Nat) : Fld := ⟨0x40044 + 0x1000 * t, 7, 1⟩
/-- R124. -/
def DRIVE.RANGE.FAST_RANGE (t : Nat) : Fld := ⟨0x40048 + 0x1000 * t, 0, 1⟩
/-- R124. -/
def DRIVE.RANGE.HTR_RANGE (t : Nat) : Fld := ⟨0x40048 + 0x1000 * t, 1, 1⟩
/-- R124. -/
def DRIVE.RANGE.REQ_FAST (t : Nat) : Fld := ⟨0x40048 + 0x1000 * t, 8, 1⟩
/-- R124. -/
def DRIVE.RANGE.REQ_HTR (t : Nat) : Fld := ⟨0x40048 + 0x1000 * t, 9, 1⟩
/-- R124. -/
def DRIVE.RANGE.GO (t : Nat) : Fld := ⟨0x40048 + 0x1000 * t, 31, 1⟩
/-- R124. -/
def DRIVE.RANGE_STATUS.BUSY (t : Nat) : Fld := ⟨0x4004C + 0x1000 * t, 0, 1⟩
/-- R124. -/
def DRIVE.RANGE_STATUS.RESULT (t : Nat) : Fld := ⟨0x4004C + 0x1000 * t, 1, 2⟩
/-- R124. -/
def DRIVE.RANGE_STATUS.REASON (t : Nat) : Fld := ⟨0x4004C + 0x1000 * t, 4, 4⟩
/-- R124. -/
def DRIVE.DIRECT.CHAN (t : Nat) : Fld := ⟨0x40050 + 0x1000 * t, 0, 7⟩
/-- R124. -/
def DRIVE.DIRECT.KIND (t : Nat) : Fld := ⟨0x40050 + 0x1000 * t, 7, 1⟩
/-- R124. -/
def DRIVE.DIRECT.CODE (t : Nat) : Fld := ⟨0x40050 + 0x1000 * t, 16, 16⟩
/-- R124. -/
def DRIVE.SHAPE_ADDR.POINT (t : Nat) : Fld := ⟨0x40060 + 0x1000 * t, 0, 6⟩
/-- R124. -/
def DRIVE.SHAPE_ADDR.SHAPE (t : Nat) : Fld := ⟨0x40060 + 0x1000 * t, 6, 4⟩
/-- R124. -/
def DRIVE.SHAPE_ADDR.AUTOINC (t : Nat) : Fld := ⟨0x40060 + 0x1000 * t, 16, 1⟩
/-- R124. -/
def DRIVE.SHAPE_DATA.POINT (t : Nat) : Fld := ⟨0x40064 + 0x1000 * t, 0, 16⟩
/-- R124. -/
def DRIVE.SHAPE_STATUS.BANK (t : Nat) : Fld := ⟨0x40068 + 0x1000 * t, 0, 1⟩
/-- R124. -/
def DRIVE.SHAPE_STATUS.SWAP_PENDING (t : Nat) : Fld := ⟨0x40068 + 0x1000 * t, 1, 1⟩
/-- R124. -/
def DRIVE.SHAPE_STATUS.PLAYING (t : Nat) : Fld := ⟨0x40068 + 0x1000 * t, 2, 1⟩
/-- R124. -/
def DRIVE.SHORT_FAST.FLAGS (t : Nat) (i : Nat) : Fld := ⟨0x40080 + 0x1000 * t + 0x4 * i, 0, 32⟩
/-- R124. -/
def DRIVE.SHORT_HTR.FLAGS (t : Nat) (i : Nat) : Fld := ⟨0x4008C + 0x1000 * t + 0x4 * i, 0, 32⟩
/-- R124. -/
def DRIVE.RB_FAIL_FAST.FLAGS (t : Nat) (i : Nat) : Fld := ⟨0x40098 + 0x1000 * t + 0x4 * i, 0, 32⟩
/-- R124. -/
def DRIVE.RB_FAIL_HTR.FLAGS (t : Nat) (i : Nat) : Fld := ⟨0x400A4 + 0x1000 * t + 0x4 * i, 0, 32⟩
/-- R124. -/
def DRIVE.RB_CTRL.ENABLE (t : Nat) : Fld := ⟨0x400B0 + 0x1000 * t, 0, 1⟩
/-- R124. -/
def DRIVE.RB_CTRL.FAST_TOL (t : Nat) : Fld := ⟨0x400B0 + 0x1000 * t, 8, 8⟩
/-- R124. -/
def DRIVE.RB_CTRL.HTR_TOL (t : Nat) : Fld := ⟨0x400B0 + 0x1000 * t, 16, 8⟩
/-- R124. -/
def DRIVE.RB_CTRL.MISS_LIMIT (t : Nat) : Fld := ⟨0x400B0 + 0x1000 * t, 24, 4⟩
/-- R124. -/
def DRIVE.RB_STATUS.SLOT (t : Nat) : Fld := ⟨0x400B4 + 0x1000 * t, 0, 8⟩
/-- R124. -/
def DRIVE.RB_STATUS.CYCLE_US (t : Nat) : Fld := ⟨0x400B4 + 0x1000 * t, 8, 16⟩
/-- R124. -/
def DRIVE.RB_STATUS.HALF_RATE (t : Nat) : Fld := ⟨0x400B4 + 0x1000 * t, 24, 1⟩
/-- R124. -/
def DRIVE.CNT_DIRECT.COUNT (t : Nat) : Fld := ⟨0x400C0 + 0x1000 * t, 0, 32⟩
/-- R124. -/
def DRIVE.CNT_PACED.COUNT (t : Nat) : Fld := ⟨0x400C4 + 0x1000 * t, 0, 32⟩
/-- R124. -/
def DRIVE.CNT_PACE_DROP.COUNT (t : Nat) : Fld := ⟨0x400C8 + 0x1000 * t, 0, 32⟩
/-- R124. -/
def DRIVE.CNT_DEGLITCH.COUNT (t : Nat) : Fld := ⟨0x400CC + 0x1000 * t, 0, 32⟩
/-- R124. -/
def DRIVE.CNT_RB_MISMATCH.COUNT (t : Nat) : Fld := ⟨0x400D0 + 0x1000 * t, 0, 32⟩
/-- R124. -/
def DRIVE.CNT_RB_SKIP.COUNT (t : Nat) : Fld := ⟨0x400D4 + 0x1000 * t, 0, 32⟩
/-- R124. -/
def DRIVE.CNT_REFUSED.COUNT (t : Nat) : Fld := ⟨0x400D8 + 0x1000 * t, 0, 32⟩
/-- R124. -/
def DRIVE.CNT_CLIP.COUNT (t : Nat) : Fld := ⟨0x400DC + 0x1000 * t, 0, 32⟩
/-- R124. -/
def DRIVE.CNT_CLEAR.CLEAR (t : Nat) : Fld := ⟨0x400E0 + 0x1000 * t, 0, 1⟩
/-- R125. -/
def DRIVE.FAST_CODE.SHADOW (t : Nat) (i : Nat) : Fld := ⟨0x40800 + 0x1000 * t + 0x8 * i, 0, 12⟩
/-- R125. -/
def DRIVE.FAST_CODE.LIVE (t : Nat) (i : Nat) : Fld := ⟨0x40800 + 0x1000 * t + 0x8 * i, 16, 12⟩
/-- R125. -/
def DRIVE.FAST_CFG.GROUP (t : Nat) (i : Nat) : Fld := ⟨0x40804 + 0x1000 * t + 0x8 * i, 0, 4⟩
/-- R125. -/
def DRIVE.FAST_CFG.SAFE_EN (t : Nat) (i : Nat) : Fld := ⟨0x40804 + 0x1000 * t + 0x8 * i, 8, 1⟩
/-- R125. -/
def DRIVE.FAST_CFG.MARK (t : Nat) (i : Nat) : Fld := ⟨0x40804 + 0x1000 * t + 0x8 * i, 12, 1⟩
/-- R125. -/
def DRIVE.FAST_CFG.HOST_DIRTY (t : Nat) (i : Nat) : Fld := ⟨0x40804 + 0x1000 * t + 0x8 * i, 13, 1⟩
/-- R125. -/
def DRIVE.FAST_CFG.SAFE_CODE (t : Nat) (i : Nat) : Fld := ⟨0x40804 + 0x1000 * t + 0x8 * i, 16, 12⟩
/-- R125. -/
def DRIVE.HTR_CODE.SHADOW (t : Nat) (i : Nat) : Fld := ⟨0x40A60 + 0x1000 * t + 0x8 * i, 0, 16⟩
/-- R125. -/
def DRIVE.HTR_CODE.LIVE (t : Nat) (i : Nat) : Fld := ⟨0x40A60 + 0x1000 * t + 0x8 * i, 16, 16⟩
/-- R125. -/
def DRIVE.HTR_CFG.GROUP (t : Nat) (i : Nat) : Fld := ⟨0x40A64 + 0x1000 * t + 0x8 * i, 0, 4⟩
/-- R125. -/
def DRIVE.HTR_CFG.MARK (t : Nat) (i : Nat) : Fld := ⟨0x40A64 + 0x1000 * t + 0x8 * i, 12, 1⟩
/-- R125. -/
def DRIVE.HTR_CFG.HOST_DIRTY (t : Nat) (i : Nat) : Fld := ⟨0x40A64 + 0x1000 * t + 0x8 * i, 13, 1⟩
/-- R125. -/
def DRIVE.HTR_CFG.HELD (t : Nat) (i : Nat) : Fld := ⟨0x40A64 + 0x1000 * t + 0x8 * i, 14, 1⟩
/-- R125. -/
def DRIVE.RB_LAST.VALUE (t : Nat) (i : Nat) : Fld := ⟨0x40D00 + 0x1000 * t + 0x4 * i, 0, 16⟩
/-- R125. -/
def DRIVE.RB_LAST.MISS (t : Nat) (i : Nat) : Fld := ⟨0x40D00 + 0x1000 * t + 0x4 * i, 16, 4⟩
/-- R125. -/
def DRIVE.RB_LAST.FAIL (t : Nat) (i : Nat) : Fld := ⟨0x40D00 + 0x1000 * t + 0x4 * i, 20, 1⟩
/-- R125. -/
def DRIVE.RB_LAST.SKIPPED (t : Nat) (i : Nat) : Fld := ⟨0x40D00 + 0x1000 * t + 0x4 * i, 21, 1⟩

/-- R150. -/
def MONITOR.CONV_CTRL.MODE (m : Nat) (i : Nat) : Fld := ⟨0xC0040 + 0x1000 * m + 0x20 * i, 0, 2⟩
/-- R150. -/
def MONITOR.CHSEL.SEL (m : Nat) (i : Nat) : Fld := ⟨0xC0044 + 0x1000 * m + 0x20 * i, 0, 5⟩
/-- R150. -/
def MONITOR.SCAN_MASK.MASK (m : Nat) (i : Nat) : Fld := ⟨0xC0048 + 0x1000 * m + 0x20 * i, 0, 32⟩
/-- R150. -/
def MONITOR.CONV_STATUS.LAST_SEL (m : Nat) (i : Nat) : Fld := ⟨0xC004C + 0x1000 * m + 0x20 * i, 0, 5⟩
/-- R150. -/
def MONITOR.CONV_STATUS.SUSPECT_LEFT (m : Nat) (i : Nat) : Fld := ⟨0xC004C + 0x1000 * m + 0x20 * i, 8, 2⟩
/-- R150. -/
def MONITOR.CONV_STATUS.RUNNING (m : Nat) (i : Nat) : Fld := ⟨0xC004C + 0x1000 * m + 0x20 * i, 12, 1⟩
/-- R150. -/
def MONITOR.LAST_RESULT.VALUE (m : Nat) (i : Nat) : Fld := ⟨0xC0050 + 0x1000 * m + 0x20 * i, 0, 16⟩
/-- R150. -/
def MONITOR.LAST_RESULT.RANGE (m : Nat) (i : Nat) : Fld := ⟨0xC0050 + 0x1000 * m + 0x20 * i, 16, 2⟩
/-- R150. -/
def MONITOR.LAST_RESULT.OVR (m : Nat) (i : Nat) : Fld := ⟨0xC0050 + 0x1000 * m + 0x20 * i, 18, 1⟩
/-- R150. -/
def MONITOR.LAST_RESULT.SUSPECT (m : Nat) (i : Nat) : Fld := ⟨0xC0050 + 0x1000 * m + 0x20 * i, 19, 1⟩
/-- R150. -/
def MONITOR.LAST_RESULT.SETTLING (m : Nat) (i : Nat) : Fld := ⟨0xC0050 + 0x1000 * m + 0x20 * i, 20, 1⟩
/-- R150. -/
def MONITOR.LAST_RESULT.INPUT (m : Nat) (i : Nat) : Fld := ⟨0xC0050 + 0x1000 * m + 0x20 * i, 24, 5⟩
/-- R150. -/
def MONITOR.CNT_ABANDONED.COUNT (m : Nat) (i : Nat) : Fld := ⟨0xC0054 + 0x1000 * m + 0x20 * i, 0, 32⟩
/-- R150. -/
def MONITOR.CNT_CHSEL_LATE.COUNT (m : Nat) (i : Nat) : Fld := ⟨0xC0058 + 0x1000 * m + 0x20 * i, 0, 32⟩
/-- R150. -/
def MONITOR.AR_CTRL.AR_LOW (m : Nat) : Fld := ⟨0xC0140 + 0x1000 * m, 0, 16⟩
/-- R150. -/
def MONITOR.AR_CTRL.AR_DOWN (m : Nat) : Fld := ⟨0xC0140 + 0x1000 * m, 16, 4⟩
/-- R150. -/
def MONITOR.TILE_STATUS.CONV_RUNNING (m : Nat) : Fld := ⟨0xC0144 + 0x1000 * m, 0, 8⟩
/-- R150. -/
def MONITOR.TILE_STATUS.NOT_LOOP (m : Nat) : Fld := ⟨0xC0144 + 0x1000 * m, 8, 8⟩
/-- R150. -/
def MONITOR.CNT_OVR.COUNT (m : Nat) : Fld := ⟨0xC0148 + 0x1000 * m, 0, 32⟩
/-- R150. -/
def MONITOR.CNT_SUSPECT.COUNT (m : Nat) : Fld := ⟨0xC014C + 0x1000 * m, 0, 32⟩
/-- R150. -/
def MONITOR.CNT_SETTLING.COUNT (m : Nat) : Fld := ⟨0xC0150 + 0x1000 * m, 0, 32⟩
/-- R150. -/
def MONITOR.CNT_RANGE_UP.COUNT (m : Nat) : Fld := ⟨0xC0154 + 0x1000 * m, 0, 32⟩
/-- R150. -/
def MONITOR.CNT_RANGE_DOWN.COUNT (m : Nat) : Fld := ⟨0xC0158 + 0x1000 * m, 0, 32⟩
/-- R150. -/
def MONITOR.CNT_REFUSED.COUNT (m : Nat) : Fld := ⟨0xC015C + 0x1000 * m, 0, 32⟩
/-- R150. -/
def MONITOR.CNT_LOOP_DISCARD.COUNT (m : Nat) : Fld := ⟨0xC0160 + 0x1000 * m, 0, 32⟩
/-- R150. -/
def MONITOR.CNT_CLEAR.CLEAR (m : Nat) : Fld := ⟨0xC0164 + 0x1000 * m, 0, 1⟩
/-- R151. -/
def MONITOR.MON_CFG.RANGE (m : Nat) (i : Nat) : Fld := ⟨0xC0800 + 0x1000 * m + 0x4 * i, 0, 2⟩
/-- R151. -/
def MONITOR.MON_CFG.AR_EN (m : Nat) (i : Nat) : Fld := ⟨0xC0800 + 0x1000 * m + 0x4 * i, 2, 1⟩
/-- R151. -/
def MONITOR.MON_CFG.LOW_COUNT (m : Nat) (i : Nat) : Fld := ⟨0xC0800 + 0x1000 * m + 0x4 * i, 4, 4⟩
/-- R151. -/
def MONITOR.MON_LAST.VALUE (m : Nat) (i : Nat) : Fld := ⟨0xC0C00 + 0x1000 * m + 0x4 * i, 0, 16⟩
/-- R151. -/
def MONITOR.MON_LAST.RANGE (m : Nat) (i : Nat) : Fld := ⟨0xC0C00 + 0x1000 * m + 0x4 * i, 16, 2⟩
/-- R151. -/
def MONITOR.MON_LAST.OVR (m : Nat) (i : Nat) : Fld := ⟨0xC0C00 + 0x1000 * m + 0x4 * i, 18, 1⟩
/-- R151. -/
def MONITOR.MON_LAST.SUSPECT (m : Nat) (i : Nat) : Fld := ⟨0xC0C00 + 0x1000 * m + 0x4 * i, 19, 1⟩
/-- R151. -/
def MONITOR.MON_LAST.SETTLING (m : Nat) (i : Nat) : Fld := ⟨0xC0C00 + 0x1000 * m + 0x4 * i, 20, 1⟩
/-- R151. -/
def MONITOR.MON_LAST.SEEN (m : Nat) (i : Nat) : Fld := ⟨0xC0C00 + 0x1000 * m + 0x4 * i, 31, 1⟩

/-- R153. -/
def CAPTURE.CAP_CFG.LIMIT : Fld := ⟨0xD040, 0, 8⟩
/-- R153. -/
def CAPTURE.CAP_CFG.FLUSH : Fld := ⟨0xD040, 8, 8⟩
/-- R153. -/
def CAPTURE.CAP_STATUS.BUF_LEVEL : Fld := ⟨0xD044, 0, 11⟩
/-- R153. -/
def CAPTURE.CAP_STATUS.THROTTLED : Fld := ⟨0xD044, 16, 1⟩
/-- R153. -/
def CAPTURE.RATE.BYTES_US : Fld := ⟨0xD048, 0, 16⟩
/-- R153. -/
def CAPTURE.CNT_WRITTEN.COUNT : Fld := ⟨0xD04C, 0, 32⟩
/-- R153. -/
def CAPTURE.CNT_REFUSED_CAP.COUNT : Fld := ⟨0xD050, 0, 32⟩
/-- R153. -/
def CAPTURE.CNT_BACKPRESSURE.COUNT : Fld := ⟨0xD054, 0, 32⟩
/-- R153. -/
def CAPTURE.CNT_THROTTLE_SKIP.COUNT : Fld := ⟨0xD058, 0, 32⟩
/-- R153. -/
def CAPTURE.CNT_SYNC.COUNT : Fld := ⟨0xD05C, 0, 32⟩
/-- R153. -/
def CAPTURE.CNT_CLEAR.CLEAR : Fld := ⟨0xD064, 0, 1⟩
/-- R153. -/
def CAPTURE.RING_CTRL.ENABLE (i : Nat) : Fld := ⟨0xD400 + 0x40 * i, 0, 1⟩
/-- R153. -/
def CAPTURE.RING_CTRL.RUN (i : Nat) : Fld := ⟨0xD400 + 0x40 * i, 1, 1⟩
/-- R153. -/
def CAPTURE.RING_CTRL.POLICY (i : Nat) : Fld := ⟨0xD400 + 0x40 * i, 2, 1⟩
/-- R153. -/
def CAPTURE.RING_CTRL.SKIP_UNSETTLED (i : Nat) : Fld := ⟨0xD400 + 0x40 * i, 3, 1⟩
/-- R153. -/
def CAPTURE.RING_CTRL.DECIM (i : Nat) : Fld := ⟨0xD400 + 0x40 * i, 8, 12⟩
/-- R153. -/
def CAPTURE.RING_CTRL.SIZE_LOG2 (i : Nat) : Fld := ⟨0xD400 + 0x40 * i, 24, 6⟩
/-- R153. -/
def CAPTURE.BASE_LO.ADDR (i : Nat) : Fld := ⟨0xD404 + 0x40 * i, 12, 20⟩
/-- R153. -/
def CAPTURE.BASE_HI.ADDR (i : Nat) : Fld := ⟨0xD408 + 0x40 * i, 0, 32⟩
/-- R153. -/
def CAPTURE.WR_PTR_LO.PTR (i : Nat) : Fld := ⟨0xD40C + 0x40 * i, 0, 32⟩
/-- R153. -/
def CAPTURE.WR_PTR_HI.PTR (i : Nat) : Fld := ⟨0xD410 + 0x40 * i, 0, 3⟩
/-- R153. -/
def CAPTURE.RD_PTR_LO.PTR (i : Nat) : Fld := ⟨0xD414 + 0x40 * i, 0, 32⟩
/-- R153. -/
def CAPTURE.RD_PTR_HI.PTR (i : Nat) : Fld := ⟨0xD418 + 0x40 * i, 0, 3⟩
/-- R153. -/
def CAPTURE.WATERMARK.FILL (i : Nat) : Fld := ⟨0xD41C + 0x40 * i, 0, 32⟩
/-- R153. -/
def CAPTURE.RING_STATUS.EMPTY (i : Nat) : Fld := ⟨0xD420 + 0x40 * i, 0, 1⟩
/-- R153. -/
def CAPTURE.RING_STATUS.FULL (i : Nat) : Fld := ⟨0xD420 + 0x40 * i, 1, 1⟩
/-- R153. -/
def CAPTURE.RING_STATUS.RUNNING (i : Nat) : Fld := ⟨0xD420 + 0x40 * i, 2, 1⟩
/-- R153. -/
def CAPTURE.CNT_RECORDS.COUNT (i : Nat) : Fld := ⟨0xD424 + 0x40 * i, 0, 32⟩
/-- R153. -/
def CAPTURE.CNT_DROP_FULL.COUNT (i : Nat) : Fld := ⟨0xD428 + 0x40 * i, 0, 32⟩
/-- R153. -/
def CAPTURE.CNT_OVERWRITTEN.COUNT (i : Nat) : Fld := ⟨0xD42C + 0x40 * i, 0, 32⟩
/-- R153. -/
def CAPTURE.CNT_CAP_REFUSED.COUNT (i : Nat) : Fld := ⟨0xD430 + 0x40 * i, 0, 32⟩

/-- R188. -/
def BRAMBLE.PROBE_CFG.DELTA (k : Nat) : Fld := ⟨0x20040 + 0x1000 * k, 0, 8⟩
/-- R188. -/
def BRAMBLE.PROBE_CFG.PAIRS (k : Nat) : Fld := ⟨0x20040 + 0x1000 * k, 8, 4⟩
/-- R188. -/
def BRAMBLE.PROBE_CFG.PAIRS_ACQ (k : Nat) : Fld := ⟨0x20040 + 0x1000 * k, 12, 3⟩
/-- R188. -/
def BRAMBLE.PROBE_CFG.PHASE_PERIODS (k : Nat) : Fld := ⟨0x20040 + 0x1000 * k, 16, 8⟩
/-- R188. -/
def BRAMBLE.BAND_CFG.B_MIN (k : Nat) : Fld := ⟨0x20044 + 0x1000 * k, 0, 8⟩
/-- R188. -/
def BRAMBLE.BAND_CFG.K_NOISE (k : Nat) : Fld := ⟨0x20044 + 0x1000 * k, 8, 4⟩
/-- R188. -/
def BRAMBLE.BAND_CFG.HYST (k : Nat) : Fld := ⟨0x20044 + 0x1000 * k, 16, 4⟩
/-- R188. -/
def BRAMBLE.STEP_CFG.STEP_FINE (k : Nat) : Fld := ⟨0x20048 + 0x1000 * k, 0, 12⟩
/-- R188. -/
def BRAMBLE.STEP_CFG.STEP_COARSE (k : Nat) : Fld := ⟨0x20048 + 0x1000 * k, 16, 12⟩
/-- R188. -/
def BRAMBLE.BLIND_CFG.C_MIN (k : Nat) : Fld := ⟨0x2004C + 0x1000 * k, 0, 16⟩
/-- R188. -/
def BRAMBLE.BLIND_CFG.L_MIN (k : Nat) : Fld := ⟨0x2004C + 0x1000 * k, 16, 16⟩
/-- R188. -/
def BRAMBLE.TIMING_CFG.HTR_WAIT (k : Nat) : Fld := ⟨0x20050 + 0x1000 * k, 0, 8⟩
/-- R188. -/
def BRAMBLE.TIMING_CFG.WRAP_SETTLE (k : Nat) : Fld := ⟨0x20050 + 0x1000 * k, 8, 8⟩
/-- R188. -/
def BRAMBLE.TIMING_CFG.BLIND_EXIT (k : Nat) : Fld := ⟨0x20050 + 0x1000 * k, 16, 4⟩
/-- R188. -/
def BRAMBLE.TIMING_CFG.WRAP_PRIORITY (k : Nat) : Fld := ⟨0x20050 + 0x1000 * k, 24, 4⟩
/-- R188. -/
def BRAMBLE.QUAR_TIME.MS (k : Nat) : Fld := ⟨0x20054 + 0x1000 * k, 0, 16⟩
/-- R188. -/
def BRAMBLE.SHUTTER_CFG.SOFT_RATE (k : Nat) : Fld := ⟨0x20058 + 0x1000 * k, 0, 8⟩
/-- R188. -/
def BRAMBLE.SHUTTER_CFG.SH_BAND (k : Nat) : Fld := ⟨0x20058 + 0x1000 * k, 8, 9⟩
/-- R188. -/
def BRAMBLE.SHUTTER_CFG.SH_GAIN (k : Nat) : Fld := ⟨0x20058 + 0x1000 * k, 20, 4⟩
/-- R188. -/
def BRAMBLE.BALLAST_RATE.RATE (k : Nat) : Fld := ⟨0x2005C + 0x1000 * k, 0, 8⟩
/-- R188. -/
def BRAMBLE.ATTN_WEIGHT.TRANSITION (k : Nat) : Fld := ⟨0x20060 + 0x1000 * k, 0, 4⟩
/-- R188. -/
def BRAMBLE.ATTN_WEIGHT.OUT_OF_BAND (k : Nat) : Fld := ⟨0x20060 + 0x1000 * k, 4, 4⟩
/-- R188. -/
def BRAMBLE.ATTN_WEIGHT.ROUTINE (k : Nat) : Fld := ⟨0x20060 + 0x1000 * k, 8, 4⟩
/-- R188. -/
def BRAMBLE.ATTN_WEIGHT.PROBE (k : Nat) : Fld := ⟨0x20060 + 0x1000 * k, 12, 4⟩
/-- R188. -/
def BRAMBLE.STARVE_CFG.AGE (k : Nat) : Fld := ⟨0x20064 + 0x1000 * k, 0, 8⟩
/-- R188. -/
def BRAMBLE.STARVE_CFG.UNLIT_MS (k : Nat) : Fld := ⟨0x20064 + 0x1000 * k, 8, 8⟩
/-- R188. -/
def BRAMBLE.STATUS_COUNT.COUNT (k : Nat) (i : Nat) : Fld := ⟨0x20070 + 0x1000 * k + 0x4 * i, 0, 12⟩
/-- R188. -/
def BRAMBLE.EPOCH_COUNT.COUNT (k : Nat) : Fld := ⟨0x20090 + 0x1000 * k, 0, 32⟩
/-- R188. -/
def BRAMBLE.CNT_ESTIMATES.COUNT (k : Nat) : Fld := ⟨0x20094 + 0x1000 * k, 0, 32⟩
/-- R188. -/
def BRAMBLE.CNT_WRAPS.COUNT (k : Nat) : Fld := ⟨0x20098 + 0x1000 * k, 0, 32⟩
/-- R188. -/
def BRAMBLE.CNT_SATURATED.COUNT (k : Nat) : Fld := ⟨0x2009C + 0x1000 * k, 0, 32⟩
/-- R188. -/
def BRAMBLE.CNT_BLIND.COUNT (k : Nat) : Fld := ⟨0x200A0 + 0x1000 * k, 0, 32⟩
/-- R188. -/
def BRAMBLE.CNT_TIMEOUT.COUNT (k : Nat) : Fld := ⟨0x200A4 + 0x1000 * k, 0, 32⟩
/-- R188. -/
def BRAMBLE.CNT_STARVE_MISS.COUNT (k : Nat) : Fld := ⟨0x200A8 + 0x1000 * k, 0, 32⟩
/-- R188. -/
def BRAMBLE.CNT_DISCARD_HOLDOFF.COUNT (k : Nat) : Fld := ⟨0x200AC + 0x1000 * k, 0, 32⟩
/-- R188. -/
def BRAMBLE.CNT_FLAGGED.COUNT (k : Nat) : Fld := ⟨0x200B0 + 0x1000 * k, 0, 32⟩
/-- R188. -/
def BRAMBLE.CNT_FF_NO_SENSOR.COUNT (k : Nat) : Fld := ⟨0x200B4 + 0x1000 * k, 0, 32⟩
/-- R188. -/
def BRAMBLE.CNT_PROBE_ABORT.COUNT (k : Nat) : Fld := ⟨0x200B8 + 0x1000 * k, 0, 32⟩
/-- R188. -/
def BRAMBLE.MAX_AGE.US (k : Nat) : Fld := ⟨0x200BC + 0x1000 * k, 0, 8⟩
/-- R188. -/
def BRAMBLE.CNT_CLEAR.CLEAR (k : Nat) : Fld := ⟨0x200C0 + 0x1000 * k, 0, 1⟩

/-- R189. -/
def ELEM.ELEM_CTRL.EN (n : Nat) : Fld := ⟨0x200000 + 0x10 * n, 0, 1⟩
/-- R189. -/
def ELEM.ELEM_CTRL.QUAR_SET (n : Nat) : Fld := ⟨0x200000 + 0x10 * n, 1, 1⟩
/-- R189. -/
def ELEM.ELEM_CTRL.QUAR_CLR (n : Nat) : Fld := ⟨0x200000 + 0x10 * n, 2, 1⟩
/-- R189. -/
def ELEM.ELEM_CTRL.NO_WRAP (n : Nat) : Fld := ⟨0x200000 + 0x10 * n, 3, 1⟩
/-- R189. -/
def ELEM.ELEM_STATUS.STATUS (n : Nat) : Fld := ⟨0x200004 + 0x10 * n, 0, 3⟩
/-- R189. -/
def ELEM.ELEM_STATUS.REASON (n : Nat) : Fld := ⟨0x200004 + 0x10 * n, 4, 4⟩
/-- R189. -/
def ELEM.ELEM_STATUS.ACTIVE (n : Nat) : Fld := ⟨0x200004 + 0x10 * n, 8, 1⟩
/-- R189. -/
def ELEM.ELEM_STATUS.WRAP_PENDING (n : Nat) : Fld := ⟨0x200004 + 0x10 * n, 9, 1⟩
/-- R189. -/
def ELEM.ELEM_STATUS.SH_NULL (n : Nat) : Fld := ⟨0x200004 + 0x10 * n, 10, 1⟩
/-- R189. -/
def ELEM.ELEM_STATUS.SH_RAMP (n : Nat) : Fld := ⟨0x200004 + 0x10 * n, 11, 1⟩
/-- R189. -/
def ELEM.ELEM_STATUS.SAT_MS (n : Nat) : Fld := ⟨0x200004 + 0x10 * n, 16, 16⟩
/-- R189. -/
def ELEM.ELEM_GRAD.G (n : Nat) : Fld := ⟨0x200008 + 0x10 * n, 0, 16⟩
/-- R189. -/
def ELEM.ELEM_GRAD.B_OUT (n : Nat) : Fld := ⟨0x200008 + 0x10 * n, 16, 16⟩
/-- R189. -/
def ELEM.ELEM_METRIC.M0 (n : Nat) : Fld := ⟨0x20000C + 0x10 * n, 0, 16⟩
/-- R189. -/
def ELEM.ELEM_METRIC.M1 (n : Nat) : Fld := ⟨0x20000C + 0x10 * n, 16, 16⟩

/-- R230. -/
def GANTRY.GCTL.START : Fld := ⟨0x9040, 0, 1⟩
/-- R230. -/
def GANTRY.GCTL.STOP : Fld := ⟨0x9040, 1, 1⟩
/-- R230. -/
def GANTRY.GCTL.JUMP : Fld := ⟨0x9040, 2, 1⟩
/-- R230. -/
def GANTRY.GCTL.RESYNC : Fld := ⟨0x9040, 3, 1⟩
/-- R230. -/
def GANTRY.GCTL.CANCEL : Fld := ⟨0x9040, 4, 1⟩
/-- R230. -/
def GANTRY.START_CFG.MODE : Fld := ⟨0x9044, 0, 2⟩
/-- R230. -/
def GANTRY.START_CFG.FROM_STREAM : Fld := ⟨0x9044, 4, 1⟩
/-- R230. -/
def GANTRY.START_CFG.INDEX : Fld := ⟨0x9044, 16, 13⟩
/-- R230. -/
def GANTRY.START_TIME.W (i : Nat) : Fld := ⟨0x9048 + 0x4 * i, 0, if i = 0 then 30 else if i = 1 then 32 else 16⟩
/-- R230. -/
def GANTRY.RESYNC_TIME.W (i : Nat) : Fld := ⟨0x9054 + 0x4 * i, 0, if i = 0 then 30 else if i = 1 then 32 else 16⟩
/-- R230. -/
def GANTRY.RESYNC_CFG.LABEL : Fld := ⟨0x9060, 0, 12⟩
/-- R230. -/
def GANTRY.RESYNC_CFG.USE_LABEL : Fld := ⟨0x9060, 12, 1⟩
/-- R230. -/
def GANTRY.JUMP_CFG.LABEL : Fld := ⟨0x9064, 0, 12⟩
/-- R230. -/
def GANTRY.GRANULE_PERIOD.PS : Fld := ⟨0x9068, 0, 18⟩
/-- R230. -/
def GANTRY.GRANULE_STATUS.PS : Fld := ⟨0x906C, 0, 18⟩
/-- R230. -/
def GANTRY.GRANULE_STATUS.TICK : Fld := ⟨0x906C, 24, 5⟩
/-- R230. -/
def GANTRY.COMMIT_LEAD.G : Fld := ⟨0x9070, 0, 5⟩
/-- R230. -/
def GANTRY.COMMIT_LEAD.IN_FORCE : Fld := ⟨0x9070, 8, 5⟩
/-- R230. -/
def GANTRY.COMMIT_LEAD.MIN_BENCH : Fld := ⟨0x9070, 16, 8⟩
/-- R230. -/
def GANTRY.UNDERFLOW_POLICY.POLICY : Fld := ⟨0x9074, 0, 2⟩
/-- R230. -/
def GANTRY.MAX_EXTEND.G : Fld := ⟨0x9078, 0, 24⟩
/-- R230. -/
def GANTRY.SAFE_IMAGE.SLOT : Fld := ⟨0x907C, 0, 9⟩
/-- R230. -/
def GANTRY.LOCK_LIMIT.ENTRIES : Fld := ⟨0x9080, 0, 14⟩
/-- R230. -/
def GANTRY.LOCK_APPLY.GO : Fld := ⟨0x9084, 0, 1⟩
/-- R230. -/
def GANTRY.LOCK_STATUS.BUSY : Fld := ⟨0x9088, 0, 1⟩
/-- R230. -/
def GANTRY.LOCK_STATUS.DUP : Fld := ⟨0x9088, 1, 1⟩
/-- R230. -/
def GANTRY.LOCK_STATUS.LABELS : Fld := ⟨0x9088, 4, 12⟩
/-- R230. -/
def GANTRY.LOCK_STATUS.DUP_INDEX : Fld := ⟨0x9088, 16, 13⟩
/-- R230. -/
def GANTRY.STREAM_CFG.ENABLE : Fld := ⟨0x908C, 0, 1⟩
/-- R230. -/
def GANTRY.STREAM_CFG.SIZE_LOG2 : Fld := ⟨0x908C, 8, 5⟩
/-- R230. -/
def GANTRY.STREAM_CFG.LWM : Fld := ⟨0x908C, 16, 16⟩
/-- R230. -/
def GANTRY.STREAM_BASE_LO.ADDR : Fld := ⟨0x9090, 12, 20⟩
/-- R230. -/
def GANTRY.STREAM_BASE_HI.ADDR : Fld := ⟨0x9094, 0, 32⟩
/-- R230. -/
def GANTRY.STREAM_WR_PTR.PTR : Fld := ⟨0x9098, 0, 31⟩
/-- R230. -/
def GANTRY.STREAM_RD_PTR.PTR : Fld := ⟨0x909C, 0, 31⟩
/-- R230. -/
def GANTRY.STREAM_SEQ.EXPECT : Fld := ⟨0x90A0, 0, 16⟩
/-- R230. -/
def GANTRY.STREAM_STATUS.BUF_FILL : Fld := ⟨0x90A4, 0, 14⟩
/-- R230. -/
def GANTRY.STREAM_STATUS.BUF_SIZE : Fld := ⟨0x90A4, 16, 14⟩
/-- R230. -/
def GANTRY.STREAM_STATUS.STALLED : Fld := ⟨0x90A4, 31, 1⟩
/-- R230. -/
def GANTRY.STATE.GSTATE : Fld := ⟨0x90A8, 0, 3⟩
/-- R230. -/
def GANTRY.STATE.SOURCE : Fld := ⟨0x90A8, 4, 1⟩
/-- R230. -/
def GANTRY.STATE.DEPTH : Fld := ⟨0x90A8, 5, 3⟩
/-- R230. -/
def GANTRY.STATE.INDEX : Fld := ⟨0x90A8, 16, 13⟩
/-- R230. -/
def GANTRY.LIVE_BENCH.SEQ : Fld := ⟨0x90AC, 0, 16⟩
/-- R230. -/
def GANTRY.LIVE_BENCH.LABEL : Fld := ⟨0x90AC, 16, 12⟩
/-- R230. -/
def GANTRY.BENCH_NUM.COUNT : Fld := ⟨0x90B0, 0, 32⟩
/-- R230. -/
def GANTRY.LAST_T.W (i : Nat) : Fld := ⟨0x90B4 + 0x4 * i, 0, 32⟩
/-- R230. -/
def GANTRY.NEXT_T.W (i : Nat) : Fld := ⟨0x90C0 + 0x4 * i, 0, 32⟩
/-- R230. -/
def GANTRY.SLIP.G : Fld := ⟨0x90CC, 0, 24⟩
/-- R230. -/
def GANTRY.SLIP.LATE : Fld := ⟨0x90CC, 31, 1⟩
/-- R230. -/
def GANTRY.LOOP_LEFT.LEFT (i : Nat) : Fld := ⟨0x90D0 + 0x4 * i, 0, 24⟩
/-- R230. -/
def GANTRY.LOOP_LEFT.FOREVER (i : Nat) : Fld := ⟨0x90D0 + 0x4 * i, 30, 1⟩
/-- R230. -/
def GANTRY.LOOP_LEFT.ACTIVE (i : Nat) : Fld := ⟨0x90D0 + 0x4 * i, 31, 1⟩
/-- R230. -/
def GANTRY.PENDING.START : Fld := ⟨0x90E0, 0, 1⟩
/-- R230. -/
def GANTRY.PENDING.JUMP : Fld := ⟨0x90E0, 1, 1⟩
/-- R230. -/
def GANTRY.PENDING.RESYNC : Fld := ⟨0x90E0, 2, 1⟩
/-- R230. -/
def GANTRY.PENDING.STOP : Fld := ⟨0x90E0, 3, 1⟩
/-- R230. -/
def GANTRY.PENDING.DEFERRED : Fld := ⟨0x90E0, 4, 1⟩
/-- R230. -/
def GANTRY.START_RESULT.REASON : Fld := ⟨0x90E4, 0, 4⟩
/-- R230. -/
def GANTRY.JUMP_RESULT.REASON : Fld := ⟨0x90E8, 0, 4⟩
/-- R230. -/
def GANTRY.RESYNC_RESULT.REASON : Fld := ⟨0x90EC, 0, 4⟩
/-- R230. -/
def GANTRY.CNT_BENCHES.COUNT : Fld := ⟨0x9100, 0, 32⟩
/-- R230. -/
def GANTRY.CNT_SKIPPED.COUNT : Fld := ⟨0x9104, 0, 32⟩
/-- R230. -/
def GANTRY.CNT_SUBSTITUTED.COUNT : Fld := ⟨0x9108, 0, 32⟩
/-- R230. -/
def GANTRY.CNT_JUMPS.COUNT : Fld := ⟨0x910C, 0, 32⟩
/-- R230. -/
def GANTRY.CNT_JUMP_DEFERRED.COUNT : Fld := ⟨0x9110, 0, 32⟩
/-- R230. -/
def GANTRY.CNT_UNDERFLOW.COUNT : Fld := ⟨0x9114, 0, 32⟩
/-- R230. -/
def GANTRY.CNT_EXTEND_G.COUNT : Fld := ⟨0x9118, 0, 32⟩
/-- R230. -/
def GANTRY.CNT_SHORT_BENCH.COUNT : Fld := ⟨0x911C, 0, 32⟩
/-- R230. -/
def GANTRY.CNT_LOOP_ERR.COUNT : Fld := ⟨0x9120, 0, 32⟩
/-- R230. -/
def GANTRY.CNT_TRIG_WAIT.COUNT : Fld := ⟨0x9124, 0, 32⟩
/-- R230. -/
def GANTRY.CNT_CLEAR.CLEAR : Fld := ⟨0x9128, 0, 1⟩

/-- R232. -/
def GANTRY_TRIG.TRIGO_CFG.ENABLE (i : Nat) : Fld := ⟨0xA040 + 0x8 * i, 0, 1⟩
/-- R232. -/
def GANTRY_TRIG.TRIGO_CFG.POLARITY (i : Nat) : Fld := ⟨0xA040 + 0x8 * i, 1, 1⟩
/-- R232. -/
def GANTRY_TRIG.TRIGO_CFG.SOURCE (i : Nat) : Fld := ⟨0xA040 + 0x8 * i, 2, 2⟩
/-- R232. -/
def GANTRY_TRIG.TRIGO_CFG.FORCE (i : Nat) : Fld := ⟨0xA040 + 0x8 * i, 4, 1⟩
/-- R232. -/
def GANTRY_TRIG.TRIGO_CFG.LEAD (i : Nat) : Fld := ⟨0xA040 + 0x8 * i, 8, 7⟩
/-- R232. -/
def GANTRY_TRIG.TRIGO_CFG.WIDTH (i : Nat) : Fld := ⟨0xA040 + 0x8 * i, 16, 11⟩
/-- R232. -/
def GANTRY_TRIG.TRIGO_STAT.ASSERTED (i : Nat) : Fld := ⟨0xA044 + 0x8 * i, 0, 1⟩
/-- R232. -/
def GANTRY_TRIG.TRIGO_STAT.PULSES (i : Nat) : Fld := ⟨0xA044 + 0x8 * i, 16, 16⟩
/-- R232. -/
def GANTRY_TRIG.TRIGIN_CFG.TO_GANTRY (i : Nat) : Fld := ⟨0xA0C0 + 0x4 * i, 0, 1⟩
/-- R232. -/
def GANTRY_TRIG.TRIGIN_CFG.EDGE (i : Nat) : Fld := ⟨0xA0C0 + 0x4 * i, 1, 1⟩
/-- R232. -/
def GANTRY_TRIG.TRIGIN_CFG.DEGLITCH (i : Nat) : Fld := ⟨0xA0C0 + 0x4 * i, 4, 4⟩
/-- R232. -/
def GANTRY_TRIG.TRIGIN_STATUS.QUEUED : Fld := ⟨0xA0D0, 0, 4⟩
/-- R232. -/
def GANTRY_TRIG.TRIGIN_STATUS.LEVEL : Fld := ⟨0xA0D0, 8, 4⟩
/-- R232. -/
def GANTRY_TRIG.CNT_TRIG_ACCEPTED.COUNT : Fld := ⟨0xA0D4, 0, 32⟩
/-- R232. -/
def GANTRY_TRIG.CNT_TRIG_OVERRUN.COUNT : Fld := ⟨0xA0D8, 0, 32⟩
/-- R232. -/
def GANTRY_TRIG.CNT_TRIG_IGNORED.COUNT : Fld := ⟨0xA0DC, 0, 32⟩
/-- R232. -/
def GANTRY_TRIG.CNT_TRIGO_LATE.COUNT : Fld := ⟨0xA0E0, 0, 32⟩
/-- R232. -/
def GANTRY_TRIG.CNT_SYNC_ERR.COUNT : Fld := ⟨0xA0E4, 0, 32⟩
/-- R232. -/
def GANTRY_TRIG.CNT_CLEAR.CLEAR : Fld := ⟨0xA0E8, 0, 1⟩
/-- R232. -/
def GANTRY_TRIG.SYNC_CFG.ROLE : Fld := ⟨0xA100, 0, 2⟩
/-- R232. -/
def GANTRY_TRIG.SYNC_CFG.EACH : Fld := ⟨0xA100, 4, 1⟩
/-- R232. -/
def GANTRY_TRIG.SYNC_CFG.SYNC_DELAY : Fld := ⟨0xA100, 8, 8⟩
/-- R232. -/
def GANTRY_TRIG.SYNC_SKEW.PS : Fld := ⟨0xA104, 0, 15⟩
/-- R232. -/
def GANTRY_TRIG.SYNC_PULSE.GO : Fld := ⟨0xA108, 0, 1⟩
/-- R232. -/
def GANTRY_TRIG.ECHO_RESULT.PS : Fld := ⟨0xA10C, 0, 16⟩
/-- R232. -/
def GANTRY_TRIG.ECHO_RESULT.VALID : Fld := ⟨0xA10C, 31, 1⟩
/-- R232. -/
def GANTRY_TRIG.TURN.PS : Fld := ⟨0xA110, 0, 16⟩
/-- R232. -/
def GANTRY_TRIG.TURN.VALID : Fld := ⟨0xA110, 31, 1⟩
/-- R232. -/
def GANTRY_TRIG.SYNC_LAST_ERR.PS : Fld := ⟨0xA114, 0, 16⟩

/-- R262. -/
def TIME.TIME_CTRL.SERVO_MODE : Fld := ⟨0x8040, 0, 2⟩
/-- R262. -/
def TIME.TIME_CTRL.PROFILE : Fld := ⟨0x8040, 4, 1⟩
/-- R262. -/
def TIME.TIME_CTRL.SRC_SEL : Fld := ⟨0x8040, 8, 2⟩
/-- R262. -/
def TIME.TIME_CTRL.DOMAIN : Fld := ⟨0x8040, 16, 8⟩
/-- R262. -/
def TIME.TIME_CTRL.TC_EN : Fld := ⟨0x8040, 24, 1⟩
/-- R262. -/
def TIME.TIME_STATUS.SERVO_STATE : Fld := ⟨0x8044, 0, 3⟩
/-- R262. -/
def TIME.TIME_STATUS.SRC_PORT : Fld := ⟨0x8044, 4, 1⟩
/-- R262. -/
def TIME.TIME_STATUS.DIVERGED : Fld := ⟨0x8044, 5, 1⟩
/-- R262. -/
def TIME.TIME_STATUS.SLEWING : Fld := ⟨0x8044, 6, 1⟩
/-- R262. -/
def TIME.TIME_STATUS.STEP_BLOCKED : Fld := ⟨0x8044, 7, 1⟩
/-- R262. -/
def TIME.TIME_NOW.W (i : Nat) : Fld := ⟨0x8048 + 0x4 * i, 0, 32⟩
/-- R262. -/
def TIME.TIME_NOW_FRAC.FRAC : Fld := ⟨0x8054, 0, 32⟩
/-- R262. -/
def TIME.TIME_SET.W (i : Nat) : Fld := ⟨0x8058 + 0x4 * i, 0, if i = 0 then 30 else if i = 1 then 32 else 16⟩
/-- R262. -/
def TIME.TIME_CMD.STEP : Fld := ⟨0x8064, 0, 1⟩
/-- R262. -/
def TIME.TIME_CMD.OFFSET : Fld := ⟨0x8064, 1, 1⟩
/-- R262. -/
def TIME.TIME_OFFSET.NS : Fld := ⟨0x8068, 0, 32⟩
/-- R262. -/
def TIME.OFFSET_CFG.METHOD : Fld := ⟨0x806C, 0, 1⟩
/-- R262. -/
def TIME.FREQ_ADJ.ADJ : Fld := ⟨0x8070, 0, 32⟩
/-- R262. -/
def TIME.TIME_INC_LO.FRAC : Fld := ⟨0x8074, 0, 32⟩
/-- R262. -/
def TIME.TIME_INC_HI.FRAC : Fld := ⟨0x8078, 0, 8⟩
/-- R262. -/
def TIME.TIME_INC_HI.INT : Fld := ⟨0x8078, 8, 8⟩
/-- R262. -/
def TIME.SLEW_CFG.RATE : Fld := ⟨0x807C, 0, 7⟩
/-- R262. -/
def TIME.STEP_LIMIT.NS : Fld := ⟨0x8080, 0, 32⟩
/-- R262. -/
def TIME.SLEW_REMAIN.NS : Fld := ⟨0x8084, 0, 32⟩
/-- R262. -/
def TIME.SERVO_GAIN.KP : Fld := ⟨0x8088, 0, 16⟩
/-- R262. -/
def TIME.SERVO_GAIN.KI : Fld := ⟨0x8088, 16, 16⟩
/-- R262. -/
def TIME.LOCK_CFG.LOCK_NS : Fld := ⟨0x808C, 0, 16⟩
/-- R262. -/
def TIME.LOCK_CFG.LOCK_COUNT : Fld := ⟨0x808C, 16, 8⟩
/-- R262. -/
def TIME.LOCK_CFG.LOSS_INTERVALS : Fld := ⟨0x808C, 24, 8⟩
/-- R262. -/
def TIME.UNLOCK_CFG.UNLOCK_NS : Fld := ⟨0x8090, 0, 16⟩
/-- R262. -/
def TIME.UNLOCK_CFG.HOLDOVER_AVG : Fld := ⟨0x8090, 16, 4⟩
/-- R262. -/
def TIME.OFFSET_LAST.PS : Fld := ⟨0x8094, 0, 32⟩
/-- R262. -/
def TIME.PATH_DELAY.PS : Fld := ⟨0x8098, 0, 32⟩
/-- R262. -/
def TIME.HOLDOVER_TIME.S : Fld := ⟨0x809C, 0, 32⟩
/-- R262. -/
def TIME.GM_ID_LO.ID : Fld := ⟨0x80A0, 0, 32⟩
/-- R262. -/
def TIME.GM_ID_HI.ID : Fld := ⟨0x80A4, 0, 32⟩
/-- R262. -/
def TIME.STEP_LAST.NS : Fld := ⟨0x80A8, 0, 32⟩
/-- R262. -/
def TIME.CNT_STEP.COUNT : Fld := ⟨0x80AC, 0, 32⟩
/-- R262. -/
def TIME.CNT_DIVERGED.COUNT : Fld := ⟨0x80B0, 0, 32⟩
/-- R262. -/
def TIME.CNT_SRC_SWITCH.COUNT : Fld := ⟨0x80B4, 0, 32⟩
/-- R262. -/
def TIME.CNT_TS_OVERFLOW.COUNT : Fld := ⟨0x80B8, 0, 32⟩
/-- R262. -/
def TIME.CNT_CLEAR.CLEAR : Fld := ⟨0x80BC, 0, 1⟩
/-- R262. -/
def TIME.PPS_CFG.ENABLE : Fld := ⟨0x80C0, 0, 1⟩
/-- R262. -/
def TIME.PPS_CFG.ALWAYS : Fld := ⟨0x80C0, 1, 1⟩
/-- R262. -/
def TIME.PPS_CFG.POLARITY : Fld := ⟨0x80C0, 2, 1⟩
/-- R262. -/
def TIME.PPS_CFG.WIDTH_MS : Fld := ⟨0x80C0, 4, 10⟩
/-- R262. -/
def TIME.PPS_COMP.PS : Fld := ⟨0x80C4, 0, 16⟩
/-- R262. -/
def TIME.TS_CFG.EDGE_0 : Fld := ⟨0x80C8, 0, 2⟩
/-- R262. -/
def TIME.TS_CFG.EDGE_1 : Fld := ⟨0x80C8, 2, 2⟩
/-- R262. -/
def TIME.TS_CFG.EDGE_2 : Fld := ⟨0x80C8, 4, 2⟩
/-- R262. -/
def TIME.TS_CFG.EDGE_3 : Fld := ⟨0x80C8, 6, 2⟩
/-- R262. -/
def TIME.TS_CFG.EDGE_4 : Fld := ⟨0x80C8, 8, 2⟩
/-- R262. -/
def TIME.TS_STATUS.COUNT : Fld := ⟨0x80CC, 0, 5⟩
/-- R262. -/
def TIME.TS_POP_NS.NS : Fld := ⟨0x80D0, 0, 30⟩
/-- R262. -/
def TIME.TS_POP_S.S : Fld := ⟨0x80D4, 0, 32⟩
/-- R262. -/
def TIME.TS_POP_INFO.S_HI : Fld := ⟨0x80D8, 0, 16⟩
/-- R262. -/
def TIME.TS_POP_INFO.SRC : Fld := ⟨0x80D8, 16, 3⟩
/-- R262. -/
def TIME.TS_POP_INFO.EDGE : Fld := ⟨0x80D8, 19, 1⟩
/-- R262. -/
def TIME.TS_POP_INFO.VALID : Fld := ⟨0x80D8, 31, 1⟩
/-- R262. -/
def TIME.TS_POP_PS.PS : Fld := ⟨0x80DC, 0, 10⟩
/-- R262. -/
def TIME.PORT_CFG.ENABLE (i : Nat) : Fld := ⟨0x8100 + 0x40 * i, 0, 1⟩
/-- R262. -/
def TIME.PORT_CFG.TRANSPORTS (i : Nat) : Fld := ⟨0x8100 + 0x40 * i, 1, 3⟩
/-- R262. -/
def TIME.PORT_CFG.PDELAY_LOG (i : Nat) : Fld := ⟨0x8100 + 0x40 * i, 8, 8⟩
/-- R262. -/
def TIME.PORT_ASYM.PS (i : Nat) : Fld := ⟨0x8104 + 0x40 * i, 0, 32⟩
/-- R262. -/
def TIME.PORT_LAT_RX.PS (i : Nat) : Fld := ⟨0x8108 + 0x40 * i, 0, 32⟩
/-- R262. -/
def TIME.PORT_LAT_TX.PS (i : Nat) : Fld := ⟨0x810C + 0x40 * i, 0, 32⟩
/-- R262. -/
def TIME.PORT_STATE.STATE (i : Nat) : Fld := ⟨0x8110 + 0x40 * i, 0, 4⟩
/-- R262. -/
def TIME.LINK_DELAY.PS (i : Nat) : Fld := ⟨0x8114 + 0x40 * i, 0, 32⟩
/-- R262. -/
def TIME.CNT_TC_EVENT.COUNT (i : Nat) : Fld := ⟨0x8118 + 0x40 * i, 0, 32⟩
/-- R262. -/
def TIME.CNT_TC_NOCORR.COUNT (i : Nat) : Fld := ⟨0x811C + 0x40 * i, 0, 32⟩
/-- R262. -/
def TIME.CNT_RX_SYNC.COUNT (i : Nat) : Fld := ⟨0x8120 + 0x40 * i, 0, 32⟩
/-- R262. -/
def TIME.CNT_PROFILE_DROP.COUNT (i : Nat) : Fld := ⟨0x8124 + 0x40 * i, 0, 32⟩
/-- R262. -/
def TIME.CNT_VERSION.COUNT (i : Nat) : Fld := ⟨0x8128 + 0x40 * i, 0, 32⟩
/-- R262. -/
def TIME.CNT_PDELAY_FAIL.COUNT (i : Nat) : Fld := ⟨0x812C + 0x40 * i, 0, 32⟩
/-- R262. -/
def TIME.TEV_TIME.W0 (i : Nat) : Fld := ⟨0x8200 + 0x20 * i, 0, 30⟩
/-- R262. -/
def TIME.TEV_TIME.W1 (i : Nat) : Fld := ⟨0x8204 + 0x20 * i, 0, 32⟩
/-- R262. -/
def TIME.TEV_TIME.W2 (i : Nat) : Fld := ⟨0x8208 + 0x20 * i, 0, 16⟩
/-- R262. -/
def TIME.TEV_PERIOD.NS (i : Nat) : Fld := ⟨0x820C + 0x20 * i, 0, 32⟩
/-- R262. -/
def TIME.TEV_CTRL.ARM (i : Nat) : Fld := ⟨0x8210 + 0x20 * i, 0, 1⟩
/-- R262. -/
def TIME.TEV_CTRL.PERIODIC (i : Nat) : Fld := ⟨0x8210 + 0x20 * i, 1, 1⟩
/-- R262. -/
def TIME.TEV_CTRL.TARGETS (i : Nat) : Fld := ⟨0x8210 + 0x20 * i, 8, 7⟩
/-- R262. -/
def TIME.TEV_CTRL.TRIGO_SEL (i : Nat) : Fld := ⟨0x8210 + 0x20 * i, 16, 4⟩
/-- R262. -/
def TIME.TEV_CTRL.WIDTH (i : Nat) : Fld := ⟨0x8210 + 0x20 * i, 20, 11⟩
/-- R262. -/
def TIME.TEV_CAPMASK.RINGS (i : Nat) : Fld := ⟨0x8214 + 0x20 * i, 0, 16⟩
/-- R262. -/
def TIME.TEV_STATUS.FIRED (i : Nat) : Fld := ⟨0x8218 + 0x20 * i, 0, 16⟩
/-- R262. -/
def TIME.TEV_STATUS.LATE (i : Nat) : Fld := ⟨0x8218 + 0x20 * i, 16, 1⟩
/-- R262. -/
def TIME.TEV_STATUS.ARMED (i : Nat) : Fld := ⟨0x8218 + 0x20 * i, 17, 1⟩
/-- R262. -/
def TIME.TEV_MISSED.COUNT (i : Nat) : Fld := ⟨0x821C + 0x20 * i, 0, 32⟩

/-- R285. -/
def THERMAL.ZONE_THR.WARN (i : Nat) : Fld := ⟨0x5040 + 0x4 * i, 0, 8⟩
/-- R285. -/
def THERMAL.ZONE_THR.THROTTLE (i : Nat) : Fld := ⟨0x5040 + 0x4 * i, 8, 8⟩
/-- R285. -/
def THERMAL.ZONE_THR.SHUTDOWN (i : Nat) : Fld := ⟨0x5040 + 0x4 * i, 16, 8⟩
/-- R285. -/
def THERMAL.ZONE_THR.HYST (i : Nat) : Fld := ⟨0x5040 + 0x4 * i, 24, 4⟩
/-- R285. -/
def THERMAL.TEMP_DWELL.US : Fld := ⟨0x5050, 0, 16⟩
/-- R285. -/
def THERMAL.HALT_DELAY.MS : Fld := ⟨0x5054, 0, 8⟩
/-- R285. -/
def THERMAL.PLAUS_DT.C : Fld := ⟨0x5058, 0, 6⟩
/-- R285. -/
def THERMAL.ZONE_STATUS.LEVEL (i : Nat) : Fld := ⟨0x5060 + 0x4 * i, 0, 2⟩
/-- R285. -/
def THERMAL.ZONE_STATUS.STAGE (i : Nat) : Fld := ⟨0x5060 + 0x4 * i, 2, 2⟩
/-- R285. -/
def THERMAL.ZONE_STATUS.HOTTEST (i : Nat) : Fld := ⟨0x5060 + 0x4 * i, 4, 7⟩
/-- R285. -/
def THERMAL.ZONE_STATUS.FAILED_ANY (i : Nat) : Fld := ⟨0x5060 + 0x4 * i, 11, 1⟩
/-- R285. -/
def THERMAL.ZONE_STATUS.VALUE (i : Nat) : Fld := ⟨0x5060 + 0x4 * i, 16, 16⟩
/-- R285. -/
def THERMAL.ZONE_MAX.VALUE (i : Nat) : Fld := ⟨0x5070 + 0x4 * i, 0, 16⟩
/-- R285. -/
def THERMAL.SENSOR_MASK.MASK (i : Nat) : Fld := ⟨0x5080 + 0x4 * i, 0, 32⟩
/-- R285. -/
def THERMAL.SENSOR_FAILED.FAILED (i : Nat) : Fld := ⟨0x5090 + 0x4 * i, 0, 32⟩
/-- R285. -/
def THERMAL.CNT_THROTTLE.COUNT (i : Nat) : Fld := ⟨0x50A0 + 0x4 * i, 0, 32⟩
/-- R285. -/
def THERMAL.CNT_SENSOR_FAIL.COUNT : Fld := ⟨0x50B0, 0, 32⟩
/-- R285. -/
def THERMAL.CNT_CLEAR.CLEAR : Fld := ⟨0x50B4, 0, 1⟩
/-- R285. -/
def THERMAL.ZONE_FAILED.COUNT (i : Nat) : Fld := ⟨0x50C0 + 0x4 * i, 0, 7⟩
/-- R285. -/
def THERMAL.SENSOR.TEMP (i : Nat) : Fld := ⟨0x5800 + 0x4 * i, 0, 16⟩
/-- R285. -/
def THERMAL.SENSOR.FAILED (i : Nat) : Fld := ⟨0x5800 + 0x4 * i, 16, 1⟩
/-- R285. -/
def THERMAL.SENSOR.REASON (i : Nat) : Fld := ⟨0x5800 + 0x4 * i, 17, 3⟩
/-- R285. -/
def THERMAL.SENSOR.MASKED (i : Nat) : Fld := ⟨0x5800 + 0x4 * i, 20, 1⟩

/-- R287. -/
def BUDGET.HTR_BUDGET.W10 : Fld := ⟨0x6040, 0, 10⟩
/-- R287. -/
def BUDGET.HTR_BUDGET.EFFECTIVE : Fld := ⟨0x6040, 16, 10⟩
/-- R287. -/
def BUDGET.ZONE_LIMIT.MW : Fld := ⟨0x6044, 0, 13⟩
/-- R287. -/
def BUDGET.FLIP_BUDGET.FLIPS : Fld := ⟨0x6048, 0, 14⟩
/-- R287. -/
def BUDGET.BALLAST_CTRL.MODE : Fld := ⟨0x604C, 0, 1⟩
/-- R287. -/
def BUDGET.BALLAST_CTRL.REDUCED : Fld := ⟨0x604C, 4, 1⟩
/-- R287. -/
def BUDGET.ACT_BUDGET.UNITS : Fld := ⟨0x6050, 0, 16⟩
/-- R287. -/
def BUDGET.CAP_COST.UNITS : Fld := ⟨0x6054, 0, 8⟩
/-- R287. -/
def BUDGET.JOB_AGE.US : Fld := ⟨0x6058, 0, 16⟩
/-- R287. -/
def BUDGET.HTR_TOTAL.ELEM_MW : Fld := ⟨0x6060, 0, 16⟩
/-- R287. -/
def BUDGET.HTR_TOTAL.BALLAST_MW : Fld := ⟨0x6060, 16, 16⟩
/-- R287. -/
def BUDGET.ACT_TOTAL.UNITS : Fld := ⟨0x6064, 0, 16⟩
/-- R287. -/
def BUDGET.ACT_TOTAL.RESERVED_MW : Fld := ⟨0x6064, 16, 16⟩
/-- R287. -/
def BUDGET.ADMIT_LAST.OUTCOME : Fld := ⟨0x6068, 0, 2⟩
/-- R287. -/
def BUDGET.ADMIT_LAST.FAIL : Fld := ⟨0x6068, 4, 3⟩
/-- R287. -/
def BUDGET.ADMIT_LAST.ALT_FAIL : Fld := ⟨0x6068, 8, 3⟩
/-- R287. -/
def BUDGET.ADMIT_LAST.STEPS : Fld := ⟨0x6068, 12, 5⟩
/-- R287. -/
def BUDGET.ADMIT_LAST.FLIPS : Fld := ⟨0x6068, 17, 14⟩
/-- R287. -/
def BUDGET.ADMIT_ZONE.ZONE : Fld := ⟨0x606C, 0, 6⟩
/-- R287. -/
def BUDGET.ADMIT_ZONE.PRED_MW : Fld := ⟨0x606C, 16, 16⟩
/-- R287. -/
def BUDGET.GROUP_STEP.STEP_0 (i : Nat) : Fld := ⟨0x6070 + 0x4 * i, 0, 5⟩
/-- R287. -/
def BUDGET.GROUP_STEP.STEP_1 (i : Nat) : Fld := ⟨0x6070 + 0x4 * i, 8, 5⟩
/-- R287. -/
def BUDGET.GROUP_STEP.STEP_2 (i : Nat) : Fld := ⟨0x6070 + 0x4 * i, 16, 5⟩
/-- R287. -/
def BUDGET.GROUP_STEP.STEP_3 (i : Nat) : Fld := ⟨0x6070 + 0x4 * i, 24, 5⟩
/-- R287. -/
def BUDGET.JOB_STATUS.WAITING : Fld := ⟨0x6080, 0, 7⟩
/-- R287. -/
def BUDGET.JOB_STATUS.RUNNING : Fld := ⟨0x6080, 8, 7⟩
/-- R287. -/
def BUDGET.JOB_STATUS.AGED : Fld := ⟨0x6080, 16, 1⟩
/-- R287. -/
def BUDGET.CNT_ADMIT.COUNT : Fld := ⟨0x6084, 0, 32⟩
/-- R287. -/
def BUDGET.CNT_STAGGER.COUNT : Fld := ⟨0x6088, 0, 32⟩
/-- R287. -/
def BUDGET.CNT_SUBSTITUTE.COUNT : Fld := ⟨0x608C, 0, 32⟩
/-- R287. -/
def BUDGET.CNT_HOLD.COUNT : Fld := ⟨0x6090, 0, 32⟩
/-- R287. -/
def BUDGET.CNT_JOBS.COUNT : Fld := ⟨0x6094, 0, 32⟩
/-- R287. -/
def BUDGET.CNT_HTR_OVER.COUNT : Fld := ⟨0x6098, 0, 32⟩
/-- R287. -/
def BUDGET.AVS_CTRL.ENABLE : Fld := ⟨0x60C0, 0, 1⟩
/-- R287. -/
def BUDGET.AVS_CTRL.CLK_DIV : Fld := ⟨0x60C0, 8, 4⟩
/-- R287. -/
def BUDGET.AVS_CTRL.PERIOD_US : Fld := ⟨0x60C0, 16, 8⟩
/-- R287. -/
def BUDGET.AVS_CTRL.DOWN_COUNT : Fld := ⟨0x60C0, 24, 8⟩
/-- R287. -/
def BUDGET.AVS_LIMITS.MIN_MV : Fld := ⟨0x60C4, 0, 10⟩
/-- R287. -/
def BUDGET.AVS_LIMITS.MAX_MV : Fld := ⟨0x60C4, 16, 10⟩
/-- R287. -/
def BUDGET.AVS_MARGIN.LO : Fld := ⟨0x60C8, 0, 8⟩
/-- R287. -/
def BUDGET.AVS_MARGIN.HI : Fld := ⟨0x60C8, 8, 8⟩
/-- R287. -/
def BUDGET.AVS_MARGIN.CRIT : Fld := ⟨0x60C8, 16, 8⟩
/-- R287. -/
def BUDGET.AVS_STATUS.REQ_MV : Fld := ⟨0x60CC, 0, 10⟩
/-- R287. -/
def BUDGET.AVS_STATUS.READ_MV : Fld := ⟨0x60CC, 16, 10⟩
/-- R287. -/
def BUDGET.AVS_STATUS.FAULT : Fld := ⟨0x60CC, 31, 1⟩
/-- R287. -/
def BUDGET.MARGIN_NOW.WORST : Fld := ⟨0x60D0, 0, 8⟩
/-- R287. -/
def BUDGET.MARGIN_NOW.MONITOR : Fld := ⟨0x60D0, 8, 5⟩
/-- R287. -/
def BUDGET.CNT_AVS_UP.COUNT : Fld := ⟨0x60D4, 0, 32⟩
/-- R287. -/
def BUDGET.CNT_AVS_DOWN.COUNT : Fld := ⟨0x60D8, 0, 32⟩
/-- R287. -/
def BUDGET.CNT_AVS_FAULT.COUNT : Fld := ⟨0x60DC, 0, 32⟩
/-- R287. -/
def BUDGET.CNT_CLEAR.CLEAR : Fld := ⟨0x60E0, 0, 1⟩
/-- R287. -/
def BUDGET.ZONE_POWER.ELEM (i : Nat) : Fld := ⟨0x6800 + 0x4 * i, 0, 16⟩
/-- R287. -/
def BUDGET.ZONE_POWER.BALLAST (i : Nat) : Fld := ⟨0x6800 + 0x4 * i, 16, 16⟩
/-- R287. -/
def BUDGET.ZONE_TARGET.TARGET (i : Nat) : Fld := ⟨0x6900 + 0x4 * i, 0, 16⟩

/-- R312. -/
def FUSE.FUSE_STATUS.IN_FORCE : Fld := ⟨0x4040, 0, 2⟩
/-- R312. -/
def FUSE.FUSE_STATUS.WS_SOURCE : Fld := ⟨0x4040, 2, 2⟩
/-- R312. -/
def FUSE.FUSE_STATUS.CAL_ABSENT : Fld := ⟨0x4040, 4, 1⟩
/-- R312. -/
def FUSE.FUSE_STATUS.COMMIT_BUSY : Fld := ⟨0x4040, 5, 1⟩
/-- R312. -/
def FUSE.FUSE_STATUS.REVOKE_PENDING : Fld := ⟨0x4040, 6, 1⟩
/-- R312. -/
def FUSE.FUSE_STATUS.COMMITS_LEFT : Fld := ⟨0x4040, 8, 2⟩
/-- R312. -/
def FUSE.GEN_STATUS.STATE_0 : Fld := ⟨0x4044, 0, 3⟩
/-- R312. -/
def FUSE.GEN_STATUS.STATE_1 : Fld := ⟨0x4044, 8, 3⟩
/-- R312. -/
def FUSE.GEN_STATUS.STATE_2 : Fld := ⟨0x4044, 16, 3⟩
/-- R312. -/
def FUSE.GEN_STATUS.STATE_3 : Fld := ⟨0x4044, 24, 3⟩
/-- R312. -/
def FUSE.GEN_STATUS.MARKER_PARTIAL_0 : Fld := ⟨0x4044, 3, 1⟩
/-- R312. -/
def FUSE.GEN_STATUS.MARKER_PARTIAL_1 : Fld := ⟨0x4044, 11, 1⟩
/-- R312. -/
def FUSE.GEN_STATUS.MARKER_PARTIAL_2 : Fld := ⟨0x4044, 19, 1⟩
/-- R312. -/
def FUSE.GEN_STATUS.MARKER_PARTIAL_3 : Fld := ⟨0x4044, 27, 1⟩
/-- R312. -/
def FUSE.GEN_STATUS.REVOKE_PARTIAL_0 : Fld := ⟨0x4044, 4, 1⟩
/-- R312. -/
def FUSE.GEN_STATUS.REVOKE_PARTIAL_1 : Fld := ⟨0x4044, 12, 1⟩
/-- R312. -/
def FUSE.GEN_STATUS.REVOKE_PARTIAL_2 : Fld := ⟨0x4044, 20, 1⟩
/-- R312. -/
def FUSE.GEN_STATUS.REVOKE_PARTIAL_3 : Fld := ⟨0x4044, 28, 1⟩
/-- R312. -/
def FUSE.FUSE_CMD.COMMIT : Fld := ⟨0x4048, 0, 1⟩
/-- R312. -/
def FUSE.FUSE_CMD.FINISH_REVOKE : Fld := ⟨0x4048, 1, 1⟩
/-- R312. -/
def FUSE.FUSE_CMD.CONFIRM : Fld := ⟨0x4048, 16, 16⟩
/-- R312. -/
def FUSE.COMMIT_STATUS.STEP : Fld := ⟨0x404C, 0, 3⟩
/-- R312. -/
def FUSE.COMMIT_STATUS.RESULT : Fld := ⟨0x404C, 4, 4⟩
/-- R312. -/
def FUSE.COMMIT_STATUS.TARGET : Fld := ⟨0x404C, 8, 2⟩
/-- R312. -/
def FUSE.COMMIT_STATUS.RETRIES : Fld := ⟨0x404C, 12, 4⟩
/-- R312. -/
def FUSE.COMMIT_PROGRESS.BYTES : Fld := ⟨0x4050, 0, 19⟩

/-- R314. -/
def PLUMB.RUN_REQ.KINDS : Fld := ⟨0xC040, 0, 3⟩
/-- R314. -/
def PLUMB.RUN_REQ.GO : Fld := ⟨0xC040, 31, 1⟩
/-- R314. -/
def PLUMB.RUN_STATUS.BUSY : Fld := ⟨0xC044, 0, 1⟩
/-- R314. -/
def PLUMB.RUN_STATUS.KINDS : Fld := ⟨0xC044, 4, 3⟩
/-- R314. -/
def PLUMB.RUN_STATUS.PHASE : Fld := ⟨0xC044, 8, 2⟩
/-- R314. -/
def PLUMB.RUN_STATUS.RESULT : Fld := ⟨0xC044, 12, 4⟩
/-- R314. -/
def PLUMB.TRIG_CFG.TEMP_KINDS : Fld := ⟨0xC048, 0, 3⟩
/-- R314. -/
def PLUMB.TRIG_CFG.INTERVAL_KINDS : Fld := ⟨0xC048, 4, 3⟩
/-- R314. -/
def PLUMB.TRIG_CFG.TEMP_EN : Fld := ⟨0xC048, 8, 1⟩
/-- R314. -/
def PLUMB.TRIG_CFG.INTERVAL_EN : Fld := ⟨0xC048, 9, 1⟩
/-- R314. -/
def PLUMB.CAL_DT.DT : Fld := ⟨0xC04C, 0, 8⟩
/-- R314. -/
def PLUMB.CAL_MAX_INTERVAL.S : Fld := ⟨0xC050, 0, 16⟩
/-- R314. -/
def PLUMB.PROBE_CFG.PORT : Fld := ⟨0xC054, 0, 9⟩
/-- R314. -/
def PLUMB.PROBE_CFG.MIN_DBM : Fld := ⟨0xC054, 16, 8⟩
/-- R314. -/
def PLUMB.SWEEP_SLOTS.PROBE_SLOT : Fld := ⟨0xC058, 0, 9⟩
/-- R314. -/
def PLUMB.SWEEP_SLOTS.BASE_SLOT : Fld := ⟨0xC058, 16, 9⟩
/-- R314. -/
def PLUMB.SWEEP_SLOTS.EN : Fld := ⟨0xC058, 31, 1⟩
/-- R314. -/
def PLUMB.SWEEP_CFG.POINTS : Fld := ⟨0xC05C, 0, 4⟩
/-- R314. -/
def PLUMB.SWEEP_CFG.STEP : Fld := ⟨0xC05C, 8, 8⟩
/-- R314. -/
def PLUMB.SWEEP_CFG.WINDOW_G : Fld := ⟨0xC05C, 16, 16⟩
/-- R314. -/
def PLUMB.LIMITS.MAX_DV : Fld := ⟨0xC060, 0, 8⟩
/-- R314. -/
def PLUMB.LIMITS.MAX_DOFS : Fld := ⟨0xC060, 8, 8⟩
/-- R314. -/
def PLUMB.LIMITS.REJECT_LIMIT : Fld := ⟨0xC060, 16, 16⟩
/-- R314. -/
def PLUMB.MAX_DP.P : Fld := ⟨0xC064, 0, 8⟩
/-- R314. -/
def PLUMB.JOB.COST : Fld := ⟨0xC068, 0, 16⟩
/-- R314. -/
def PLUMB.JOB.PRIORITY : Fld := ⟨0xC068, 16, 4⟩
/-- R314. -/
def PLUMB.BANK_CTRL.HOST_SWAP : Fld := ⟨0xC06C, 0, 1⟩
/-- R314. -/
def PLUMB.BANK_CTRL.ABANDON : Fld := ⟨0xC06C, 1, 1⟩
/-- R314. -/
def PLUMB.BANK_STATUS.PENDING_READY : Fld := ⟨0xC070, 0, 1⟩
/-- R314. -/
def PLUMB.BANK_STATUS.SWAP_ARMED : Fld := ⟨0xC070, 1, 1⟩
/-- R314. -/
def PLUMB.BANK_STATUS.COPYING : Fld := ⟨0xC070, 2, 1⟩
/-- R314. -/
def PLUMB.BANK_STATUS.HOST_CHECK : Fld := ⟨0xC070, 4, 3⟩
/-- R314. -/
def PLUMB.BANK_STATUS.SWAPS : Fld := ⟨0xC070, 16, 16⟩
/-- R314. -/
def PLUMB.LAST_SWAP.W (i : Nat) : Fld := ⟨0xC074 + 0x4 * i, 0, 32⟩
/-- R314. -/
def PLUMB.SWEEP_PROGRESS.VISITS : Fld := ⟨0xC080, 0, 14⟩
/-- R314. -/
def PLUMB.ATLAS_CTRL.ENABLE : Fld := ⟨0xC084, 0, 1⟩
/-- R314. -/
def PLUMB.ATLAS_CTRL.FREEZE : Fld := ⟨0xC084, 1, 1⟩
/-- R314. -/
def PLUMB.ATLAS_CTRL.VALID : Fld := ⟨0xC084, 2, 1⟩
/-- R314. -/
def PLUMB.ATLAS_BASE_LO.ADDR : Fld := ⟨0xC088, 12, 20⟩
/-- R314. -/
def PLUMB.ATLAS_BASE_HI.ADDR : Fld := ⟨0xC08C, 0, 32⟩
/-- R314. -/
def PLUMB.CNT_RUNS.COUNT : Fld := ⟨0xC090, 0, 32⟩
/-- R314. -/
def PLUMB.CNT_MERGED.COUNT : Fld := ⟨0xC094, 0, 32⟩
/-- R314. -/
def PLUMB.CNT_REJECTED.COUNT : Fld := ⟨0xC098, 0, 32⟩
/-- R314. -/
def PLUMB.CNT_WINDOW_IDLE.COUNT : Fld := ⟨0xC09C, 0, 32⟩
/-- R314. -/
def PLUMB.CNT_PASSED.COUNT : Fld := ⟨0xC0A0, 0, 32⟩
/-- R314. -/
def PLUMB.CNT_CLEAR.CLEAR : Fld := ⟨0xC0A4, 0, 1⟩
/-- R314. -/
def PLUMB.ZONE_T_LAST.TEMP (i : Nat) : Fld := ⟨0xC800 + 0x4 * i, 0, 16⟩

/-- R340. -/
def RING.PORT_CFG.AN_EN (e : Nat) : Fld := ⟨0x10040 + 0x1000 * e, 0, 1⟩
/-- R340. -/
def RING.PORT_CFG.MODE (e : Nat) : Fld := ⟨0x10040 + 0x1000 * e, 1, 1⟩
/-- R340. -/
def RING.PORT_CFG.LT_EN (e : Nat) : Fld := ⟨0x10040 + 0x1000 * e, 2, 1⟩
/-- R340. -/
def RING.PORT_CFG.LANE_SWAP (e : Nat) : Fld := ⟨0x10040 + 0x1000 * e, 3, 1⟩
/-- R340. -/
def RING.PORT_CFG.TX_POL (e : Nat) : Fld := ⟨0x10040 + 0x1000 * e, 4, 2⟩
/-- R340. -/
def RING.PORT_CFG.RX_POL (e : Nat) : Fld := ⟨0x10040 + 0x1000 * e, 6, 2⟩
/-- R340. -/
def RING.PORT_STATUS.LINK_UP (e : Nat) : Fld := ⟨0x10044 + 0x1000 * e, 0, 1⟩
/-- R340. -/
def RING.PORT_STATUS.AN_DONE (e : Nat) : Fld := ⟨0x10044 + 0x1000 * e, 1, 1⟩
/-- R340. -/
def RING.PORT_STATUS.LT_DONE (e : Nat) : Fld := ⟨0x10044 + 0x1000 * e, 2, 1⟩
/-- R340. -/
def RING.PORT_STATUS.FEC_LOCK (e : Nat) : Fld := ⟨0x10044 + 0x1000 * e, 3, 1⟩
/-- R340. -/
def RING.PORT_STATUS.SIGNAL (e : Nat) : Fld := ⟨0x10044 + 0x1000 * e, 4, 2⟩
/-- R340. -/
def RING.PORT_STATUS.TRANSIT_FILL (e : Nat) : Fld := ⟨0x10044 + 0x1000 * e, 8, 11⟩
/-- R340. -/
def RING.TAG_CFG.ETHERTYPE (e : Nat) : Fld := ⟨0x10048 + 0x1000 * e, 0, 16⟩
/-- R340. -/
def RING.TAG_CFG.RING_ID (e : Nat) : Fld := ⟨0x10048 + 0x1000 * e, 16, 8⟩
/-- R340. -/
def RING.STATION_LO.ADDR (e : Nat) : Fld := ⟨0x1004C + 0x1000 * e, 0, 32⟩
/-- R340. -/
def RING.STATION_HI.ADDR (e : Nat) : Fld := ⟨0x10050 + 0x1000 * e, 0, 16⟩
/-- R340. -/
def RING.FRAME_CFG.HOP_LIMIT (e : Nat) : Fld := ⟨0x10054 + 0x1000 * e, 0, 7⟩
/-- R340. -/
def RING.FRAME_CFG.LOCAL_MAX (e : Nat) : Fld := ⟨0x10054 + 0x1000 * e, 16, 14⟩
/-- R340. -/
def RING.PASS_LAT.MAX_NS (e : Nat) : Fld := ⟨0x10058 + 0x1000 * e, 0, 16⟩
/-- R340. -/
def RING.GROUP_LO.ADDR (e : Nat) (i : Nat) : Fld := ⟨0x10060 + 0x1000 * e + 0x8 * i, 0, 32⟩
/-- R340. -/
def RING.GROUP_HI.ADDR (e : Nat) (i : Nat) : Fld := ⟨0x10064 + 0x1000 * e + 0x8 * i, 0, 16⟩
/-- R340. -/
def RING.GROUP_HI.VALID (e : Nat) (i : Nat) : Fld := ⟨0x10064 + 0x1000 * e + 0x8 * i, 31, 1⟩
/-- R340. -/
def RING.TX_FFE.PRE (e : Nat) (i : Nat) : Fld := ⟨0x100A0 + 0x1000 * e + 0x4 * i, 0, 6⟩
/-- R340. -/
def RING.TX_FFE.MAIN (e : Nat) (i : Nat) : Fld := ⟨0x100A0 + 0x1000 * e + 0x4 * i, 8, 6⟩
/-- R340. -/
def RING.TX_FFE.POST (e : Nat) (i : Nat) : Fld := ⟨0x100A0 + 0x1000 * e + 0x4 * i, 16, 6⟩
/-- R340. -/
def RING.RX_EQ.CTLE (e : Nat) (i : Nat) : Fld := ⟨0x100A8 + 0x1000 * e + 0x4 * i, 0, 5⟩
/-- R340. -/
def RING.RX_EQ.SNR (e : Nat) (i : Nat) : Fld := ⟨0x100A8 + 0x1000 * e + 0x4 * i, 8, 8⟩
/-- R340. -/
def RING.CNT_RX_FRAMES.COUNT (e : Nat) : Fld := ⟨0x10100 + 0x1000 * e, 0, 32⟩
/-- R340. -/
def RING.CNT_TX_FRAMES.COUNT (e : Nat) : Fld := ⟨0x10104 + 0x1000 * e, 0, 32⟩
/-- R340. -/
def RING.CNT_PASSED.COUNT (e : Nat) : Fld := ⟨0x10108 + 0x1000 * e, 0, 32⟩
/-- R340. -/
def RING.CNT_LOCAL_RX.COUNT (e : Nat) : Fld := ⟨0x1010C + 0x1000 * e, 0, 32⟩
/-- R340. -/
def RING.CNT_UNTAGGED.COUNT (e : Nat) : Fld := ⟨0x10110 + 0x1000 * e, 0, 32⟩
/-- R340. -/
def RING.CNT_FOREIGN_RING.COUNT (e : Nat) : Fld := ⟨0x10114 + 0x1000 * e, 0, 32⟩
/-- R340. -/
def RING.CNT_HOP_DROP.COUNT (e : Nat) : Fld := ⟨0x10118 + 0x1000 * e, 0, 32⟩
/-- R340. -/
def RING.CNT_STRIPPED.COUNT (e : Nat) : Fld := ⟨0x1011C + 0x1000 * e, 0, 32⟩
/-- R340. -/
def RING.CNT_FCS_ERR.COUNT (e : Nat) : Fld := ⟨0x10120 + 0x1000 * e, 0, 32⟩
/-- R340. -/
def RING.CNT_STOMPED_RX.COUNT (e : Nat) : Fld := ⟨0x10124 + 0x1000 * e, 0, 32⟩
/-- R340. -/
def RING.CNT_OVERSIZE.COUNT (e : Nat) : Fld := ⟨0x10128 + 0x1000 * e, 0, 32⟩
/-- R340. -/
def RING.CNT_FEC_CORR.COUNT (e : Nat) : Fld := ⟨0x1012C + 0x1000 * e, 0, 32⟩
/-- R340. -/
def RING.CNT_FEC_UNCORR.COUNT (e : Nat) : Fld := ⟨0x10130 + 0x1000 * e, 0, 32⟩
/-- R340. -/
def RING.CNT_TRANSIT_DROP.COUNT (e : Nat) : Fld := ⟨0x10134 + 0x1000 * e, 0, 32⟩
/-- R340. -/
def RING.CNT_LOCAL_OVERSIZE.COUNT (e : Nat) : Fld := ⟨0x10138 + 0x1000 * e, 0, 32⟩
/-- R340. -/
def RING.CNT_PAUSE_DROP.COUNT (e : Nat) : Fld := ⟨0x1013C + 0x1000 * e, 0, 32⟩
/-- R340. -/
def RING.CNT_LINK_DOWN.COUNT (e : Nat) : Fld := ⟨0x10140 + 0x1000 * e, 0, 32⟩
/-- R340. -/
def RING.CNT_CLEAR.CLEAR (e : Nat) : Fld := ⟨0x10144 + 0x1000 * e, 0, 1⟩

/-- R342. -/
def PATH.PATH_CFG.MODE : Fld := ⟨0x12040, 0, 1⟩
/-- R342. -/
def PATH.PATH_CFG.RING_CLASS : Fld := ⟨0x12040, 4, 1⟩
/-- R342. -/
def PATH.PATH_CFG.PRIMARY : Fld := ⟨0x12040, 8, 1⟩
/-- R342. -/
def PATH.PATH_CTRL.TAKEOVER : Fld := ⟨0x12044, 0, 1⟩
/-- R342. -/
def PATH.PATH_STATUS.ACTIVE : Fld := ⟨0x12048, 0, 1⟩
/-- R342. -/
def PATH.PATH_STATUS.DEGRADED : Fld := ⟨0x12048, 1, 1⟩
/-- R342. -/
def PATH.PATH_STATUS.ENGINE_STATE_A : Fld := ⟨0x12048, 4, 3⟩
/-- R342. -/
def PATH.PATH_STATUS.ENGINE_STATE_B : Fld := ⟨0x12048, 8, 3⟩
/-- R342. -/
def PATH.PATH_STATUS.ELIGIBLE : Fld := ⟨0x12048, 12, 2⟩
/-- R342. -/
def PATH.CONTROL_EPOCH.EPOCH : Fld := ⟨0x1204C, 0, 16⟩
/-- R342. -/
def PATH.REVERT_HOLD.MS : Fld := ⟨0x12050, 0, 16⟩
/-- R342. -/
def PATH.DIAG_EN.CHECKS : Fld := ⟨0x12054, 0, 7⟩
/-- R342. -/
def PATH.DIAG_WINDOW.US : Fld := ⟨0x12058, 0, 16⟩
/-- R342. -/
def PATH.DIAG_LIMITS.LINK_HOLD : Fld := ⟨0x1205C, 0, 8⟩
/-- R342. -/
def PATH.DIAG_LIMITS.FEC_LIMIT : Fld := ⟨0x1205C, 8, 8⟩
/-- R342. -/
def PATH.DIAG_LIMITS.FCS_LIMIT : Fld := ⟨0x1205C, 16, 8⟩
/-- R342. -/
def PATH.DIAG_LIMITS.GAP_LIMIT : Fld := ⟨0x1205C, 24, 8⟩
/-- R342. -/
def PATH.TRIP.CHECKS (i : Nat) : Fld := ⟨0x12060 + 0x4 * i, 0, 7⟩
/-- R342. -/
def PATH.HEALTHY_MS.MS (i : Nat) : Fld := ⟨0x12068 + 0x4 * i, 0, 32⟩
/-- R342. -/
def PATH.CONTROLLER_LO.ADDR : Fld := ⟨0x12070, 0, 32⟩
/-- R342. -/
def PATH.CONTROLLER_HI.ADDR : Fld := ⟨0x12074, 0, 16⟩
/-- R342. -/
def PATH.LAST_TAKEOVER.W (i : Nat) : Fld := ⟨0x12078 + 0x4 * i, 0, 32⟩
/-- R342. -/
def PATH.LAST_REASON.REASON : Fld := ⟨0x12084, 0, 8⟩
/-- R342. -/
def PATH.CNT_TAKEOVER.COUNT : Fld := ⟨0x12100, 0, 32⟩
/-- R342. -/
def PATH.CNT_REVERT.COUNT : Fld := ⟨0x12104, 0, 32⟩
/-- R342. -/
def PATH.CNT_MISMATCH.COUNT : Fld := ⟨0x12108, 0, 32⟩
/-- R342. -/
def PATH.CNT_DUP_DISCARD.COUNT : Fld := ⟨0x1210C, 0, 32⟩
/-- R342. -/
def PATH.CNT_STALE_EPOCH.COUNT : Fld := ⟨0x12110, 0, 32⟩
/-- R342. -/
def PATH.CNT_STANDBY_IGNORED.COUNT : Fld := ⟨0x12114, 0, 32⟩
/-- R342. -/
def PATH.CNT_COPY.COUNT : Fld := ⟨0x12118, 0, 32⟩
/-- R342. -/
def PATH.CNT_COPY_FAIL.COUNT : Fld := ⟨0x1211C, 0, 32⟩
/-- R342. -/
def PATH.CNT_DIGEST_MISMATCH.COUNT : Fld := ⟨0x12120, 0, 32⟩
/-- R342. -/
def PATH.CNT_OLD_SEQ.COUNT : Fld := ⟨0x12124, 0, 32⟩
/-- R342. -/
def PATH.CNT_SRC_FULL.COUNT : Fld := ⟨0x12128, 0, 32⟩
/-- R342. -/
def PATH.CNT_NOTICE_RX.COUNT : Fld := ⟨0x1212C, 0, 32⟩
/-- R342. -/
def PATH.CNT_CLEAR.CLEAR : Fld := ⟨0x12130, 0, 1⟩

/-- R346. -/
def NODE.SEL.OFFSET (n : Nat) : Fld := ⟨0x620000 + 0x80 * n, 0, 8⟩
/-- R346. -/
def NODE.SEL.WIDTH (n : Nat) : Fld := ⟨0x620000 + 0x80 * n, 8, 2⟩
/-- R346. -/
def NODE.SEL.SLOT (n : Nat) : Fld := ⟨0x620000 + 0x80 * n, 12, 4⟩
/-- R346. -/
def NODE.SEL_MASK.MASK (n : Nat) : Fld := ⟨0x620004 + 0x80 * n, 0, 32⟩
/-- R346. -/
def NODE.ADV.MODE (n : Nat) : Fld := ⟨0x620008 + 0x80 * n, 0, 1⟩
/-- R346. -/
def NODE.ADV.CONST (n : Nat) : Fld := ⟨0x620008 + 0x80 * n, 8, 8⟩
/-- R346. -/
def NODE.ADV.SCALE (n : Nat) : Fld := ⟨0x620008 + 0x80 * n, 16, 4⟩
/-- R346. -/
def NODE.ADV.MIN (n : Nat) : Fld := ⟨0x620008 + 0x80 * n, 24, 8⟩
/-- R346. -/
def NODE.ADV_FIELD.OFFSET (n : Nat) : Fld := ⟨0x62000C + 0x80 * n, 0, 8⟩
/-- R346. -/
def NODE.ADV_FIELD.WIDTH (n : Nat) : Fld := ⟨0x62000C + 0x80 * n, 8, 1⟩
/-- R346. -/
def NODE.ADV_FIELD.MASK (n : Nat) : Fld := ⟨0x62000C + 0x80 * n, 16, 16⟩
/-- R346. -/
def NODE.LEN.EN (n : Nat) : Fld := ⟨0x620010 + 0x80 * n, 0, 1⟩
/-- R346. -/
def NODE.LEN.EXACT (n : Nat) : Fld := ⟨0x620010 + 0x80 * n, 1, 1⟩
/-- R346. -/
def NODE.LEN.OFFSET (n : Nat) : Fld := ⟨0x620010 + 0x80 * n, 8, 8⟩
/-- R346. -/
def NODE.LEN.SCALE (n : Nat) : Fld := ⟨0x620010 + 0x80 * n, 16, 4⟩
/-- R346. -/
def NODE.LEN.CONST (n : Nat) : Fld := ⟨0x620010 + 0x80 * n, 24, 8⟩
/-- R346. -/
def NODE.LEN_MASK.MASK (n : Nat) : Fld := ⟨0x620014 + 0x80 * n, 0, 16⟩
/-- R346. -/
def NODE.EXT.EN (n : Nat) : Fld := ⟨0x620018 + 0x80 * n, 0, 1⟩
/-- R346. -/
def NODE.EXT.SLOT (n : Nat) : Fld := ⟨0x620018 + 0x80 * n, 1, 3⟩
/-- R346. -/
def NODE.EXT.OFFSET (n : Nat) : Fld := ⟨0x620018 + 0x80 * n, 8, 8⟩
/-- R346. -/
def NODE.EXT.LEN (n : Nat) : Fld := ⟨0x620018 + 0x80 * n, 16, 5⟩
/-- R346. -/
def NODE.DEFAULT.NEXT (n : Nat) : Fld := ⟨0x62001C + 0x80 * n, 0, 6⟩
/-- R346. -/
def NODE.TRANS_VAL.VALUE (n : Nat) (i : Nat) : Fld := ⟨0x620020 + 0x80 * n + 0x8 * i, 0, 32⟩
/-- R346. -/
def NODE.TRANS_NEXT.NEXT (n : Nat) (i : Nat) : Fld := ⟨0x620024 + 0x80 * n + 0x8 * i, 0, 6⟩
/-- R346. -/
def NODE.TRANS_NEXT.VALID (n : Nat) (i : Nat) : Fld := ⟨0x620024 + 0x80 * n + 0x8 * i, 31, 1⟩
/-- R346. -/
def NODE.NODE_CTRL.VALID (n : Nat) : Fld := ⟨0x62007C + 0x80 * n, 0, 1⟩

/-- R354. -/
def RULE.VALUE.BITS (n : Nat) (i : Nat) : Fld := ⟨0x640000 + 0x80 * n + 0x4 * i, 0, 32⟩
/-- R354. -/
def RULE.MASK.BITS (n : Nat) (i : Nat) : Fld := ⟨0x640028 + 0x80 * n + 0x4 * i, 0, 32⟩
/-- R354. -/
def RULE.ACTION.KIND (n : Nat) : Fld := ⟨0x640050 + 0x80 * n, 0, 3⟩
/-- R354. -/
def RULE.ACTION.MIRROR (n : Nat) : Fld := ⟨0x640050 + 0x80 * n, 3, 1⟩
/-- R354. -/
def RULE.ACTION.COUNT (n : Nat) : Fld := ⟨0x640050 + 0x80 * n, 4, 1⟩
/-- R354. -/
def RULE.ACTION.AUTH (n : Nat) : Fld := ⟨0x640050 + 0x80 * n, 5, 1⟩
/-- R354. -/
def RULE.ACTION.CLASS (n : Nat) : Fld := ⟨0x640050 + 0x80 * n, 8, 4⟩
/-- R354. -/
def RULE.ACTION.PUNT_REASON (n : Nat) : Fld := ⟨0x640050 + 0x80 * n, 16, 7⟩
/-- R354. -/
def RULE.ACTION.RECIRC_NODE (n : Nat) : Fld := ⟨0x640050 + 0x80 * n, 24, 6⟩
/-- R354. -/
def RULE.HITS_LO.COUNT (n : Nat) : Fld := ⟨0x640060 + 0x80 * n, 0, 32⟩
/-- R354. -/
def RULE.HITS_HI.COUNT (n : Nat) : Fld := ⟨0x640064 + 0x80 * n, 0, 32⟩
/-- R354. -/
def RULE.HITS_CLR.CLEAR (n : Nat) : Fld := ⟨0x640068 + 0x80 * n, 0, 1⟩
/-- R354. -/
def RULE.CONTROL.VALID (n : Nat) : Fld := ⟨0x64007C + 0x80 * n, 0, 1⟩

/-- R364. -/
def PARSER.PARSE_CFG.START_NODE : Fld := ⟨0xF040, 0, 6⟩
/-- R364. -/
def PARSER.PARSE_CFG.RECIRC_GEN_CHECK : Fld := ⟨0xF040, 8, 1⟩
/-- R364. -/
def PARSER.PARSE_CFG.EXEC_EN : Fld := ⟨0xF040, 16, 8⟩
/-- R364. -/
def PARSER.RULE_GEN.GEN : Fld := ⟨0xF044, 0, 16⟩
/-- R364. -/
def PARSER.PORT_DEFAULT.ACTION (i : Nat) : Fld := ⟨0xF048 + 0x4 * i, 0, 2⟩
/-- R364. -/
def PARSER.IN_STATUS.FILL_A : Fld := ⟨0xF050, 0, 10⟩
/-- R364. -/
def PARSER.IN_STATUS.FILL_B : Fld := ⟨0xF050, 16, 10⟩
/-- R364. -/
def PARSER.EXEC_STATUS.IN_FLIGHT : Fld := ⟨0xF054, 0, 9⟩
/-- R364. -/
def PARSER.EXEC_STATUS.WAITING : Fld := ⟨0xF054, 16, 7⟩
/-- R364. -/
def PARSER.EXEC_STATUS.BUSY : Fld := ⟨0xF054, 24, 8⟩
/-- R364. -/
def PARSER.LAST_DEFAULT.REASON : Fld := ⟨0xF058, 0, 8⟩
/-- R364. -/
def PARSER.LAST_DEFAULT.PORT : Fld := ⟨0xF058, 8, 1⟩
/-- R364. -/
def PARSER.LAST_DEFAULT.PASS : Fld := ⟨0xF058, 9, 1⟩
/-- R364. -/
def PARSER.LAST_DEFAULT.NODE : Fld := ⟨0xF058, 16, 6⟩
/-- R364. -/
def PARSER.LAST_TIMEOUT.EXEC : Fld := ⟨0xF05C, 0, 3⟩
/-- R364. -/
def PARSER.LAST_TIMEOUT.ENTRY : Fld := ⟨0xF05C, 8, 8⟩
/-- R364. -/
def PARSER.CNT_LOCAL_A.COUNT : Fld := ⟨0xF100, 0, 32⟩
/-- R364. -/
def PARSER.CNT_LOCAL_B.COUNT : Fld := ⟨0xF104, 0, 32⟩
/-- R364. -/
def PARSER.CNT_EXEC.COUNT : Fld := ⟨0xF108, 0, 32⟩
/-- R364. -/
def PARSER.CNT_PTP.COUNT : Fld := ⟨0xF10C, 0, 32⟩
/-- R364. -/
def PARSER.CNT_FORWARD.COUNT : Fld := ⟨0xF110, 0, 32⟩
/-- R364. -/
def PARSER.CNT_PUNT.COUNT : Fld := ⟨0xF114, 0, 32⟩
/-- R364. -/
def PARSER.CNT_MIRROR.COUNT : Fld := ⟨0xF118, 0, 32⟩
/-- R364. -/
def PARSER.CNT_DROP.COUNT : Fld := ⟨0xF11C, 0, 32⟩
/-- R364. -/
def PARSER.CNT_RECIRC.COUNT : Fld := ⟨0xF120, 0, 32⟩
/-- R364. -/
def PARSER.CNT_DEFAULT.COUNT : Fld := ⟨0xF124, 0, 32⟩
/-- R364. -/
def PARSER.CNT_IN_DROP.COUNT : Fld := ⟨0xF128, 0, 32⟩
/-- R364. -/
def PARSER.CNT_DISABLED_DROP.COUNT : Fld := ⟨0xF12C, 0, 32⟩
/-- R364. -/
def PARSER.CNT_PUNT_FULL.COUNT : Fld := ⟨0xF130, 0, 32⟩
/-- R364. -/
def PARSER.CNT_EXEC_TIMEOUT.COUNT : Fld := ⟨0xF134, 0, 32⟩
/-- R364. -/
def PARSER.CNT_FORWARD_REFUSED.COUNT : Fld := ⟨0xF138, 0, 32⟩
/-- R364. -/
def PARSER.CNT_REASON.COUNT (i : Nat) : Fld := ⟨0xF140 + 0x4 * i, 0, 32⟩
/-- R364. -/
def PARSER.CNT_CLEAR.CLEAR : Fld := ⟨0xF164, 0, 1⟩

/-- R386. -/
def CMD.CMD_CFG.UDP_PORT : Fld := ⟨0xE040, 0, 16⟩
/-- R386. -/
def CMD.CMD_CFG.ETHERTYPE : Fld := ⟨0xE040, 16, 16⟩
/-- R386. -/
def CMD.BATCH_TIMEOUT.US : Fld := ⟨0xE044, 0, 16⟩
/-- R386. -/
def CMD.REASM_STATUS.IN_USE_A : Fld := ⟨0xE048, 0, 5⟩
/-- R386. -/
def CMD.REASM_STATUS.IN_USE_B : Fld := ⟨0xE048, 8, 5⟩
/-- R386. -/
def CMD.SESSION.KEYED (i : Nat) : Fld := ⟨0xE100 + 0x4 * i, 0, 1⟩
/-- R386. -/
def CMD.SESSION.REQUIRE_TAG (i : Nat) : Fld := ⟨0xE100 + 0x4 * i, 1, 1⟩
/-- R386. -/
def CMD.SESSION_SEQ.H (i : Nat) : Fld := ⟨0xE140 + 0x4 * i, 0, 32⟩
/-- R386. -/
def CMD.SQ_BASE_LO.ADDR (i : Nat) : Fld := ⟨0xE200 + 0x20 * i, 6, 26⟩
/-- R386. -/
def CMD.SQ_BASE_HI.ADDR (i : Nat) : Fld := ⟨0xE204 + 0x20 * i, 0, 32⟩
/-- R386. -/
def CMD.CQ_BASE_LO.ADDR (i : Nat) : Fld := ⟨0xE208 + 0x20 * i, 6, 26⟩
/-- R386. -/
def CMD.CQ_BASE_HI.ADDR (i : Nat) : Fld := ⟨0xE20C + 0x20 * i, 0, 32⟩
/-- R386. -/
def CMD.Q_CFG.ENABLE (i : Nat) : Fld := ⟨0xE210 + 0x20 * i, 0, 1⟩
/-- R386. -/
def CMD.Q_CFG.LOCATION (i : Nat) : Fld := ⟨0xE210 + 0x20 * i, 1, 1⟩
/-- R386. -/
def CMD.Q_CFG.SQ_LOG2 (i : Nat) : Fld := ⟨0xE210 + 0x20 * i, 4, 4⟩
/-- R386. -/
def CMD.Q_CFG.CQ_LOG2 (i : Nat) : Fld := ⟨0xE210 + 0x20 * i, 8, 4⟩
/-- R386. -/
def CMD.Q_CFG.VECTOR (i : Nat) : Fld := ⟨0xE210 + 0x20 * i, 16, 6⟩
/-- R386. -/
def CMD.Q_CFG.CLASS (i : Nat) : Fld := ⟨0xE210 + 0x20 * i, 24, 4⟩
/-- R386. -/
def CMD.Q_STATUS.SQ_HEAD (i : Nat) : Fld := ⟨0xE214 + 0x20 * i, 0, 16⟩
/-- R386. -/
def CMD.Q_STATUS.CQ_TAIL (i : Nat) : Fld := ⟨0xE214 + 0x20 * i, 16, 16⟩
/-- R386. -/
def CMD.EQ_BASE_LO.ADDR : Fld := ⟨0xE300, 5, 27⟩
/-- R386. -/
def CMD.EQ_BASE_HI.ADDR : Fld := ⟨0xE304, 0, 32⟩
/-- R386. -/
def CMD.EQ_CFG.ENABLE : Fld := ⟨0xE308, 0, 1⟩
/-- R386. -/
def CMD.EQ_CFG.LOCATION : Fld := ⟨0xE308, 1, 1⟩
/-- R386. -/
def CMD.EQ_CFG.LOG2 : Fld := ⟨0xE308, 4, 4⟩
/-- R386. -/
def CMD.EQ_CFG.VECTOR : Fld := ⟨0xE308, 16, 6⟩
/-- R386. -/
def CMD.EQ_STATUS.TAIL : Fld := ⟨0xE30C, 0, 16⟩
/-- R386. -/
def CMD.PQ_BASE_LO.ADDR : Fld := ⟨0xE320, 5, 27⟩
/-- R386. -/
def CMD.PQ_BASE_HI.ADDR : Fld := ⟨0xE324, 0, 32⟩
/-- R386. -/
def CMD.PQ_BUF_LO.ADDR : Fld := ⟨0xE328, 6, 26⟩
/-- R386. -/
def CMD.PQ_BUF_HI.ADDR : Fld := ⟨0xE32C, 0, 32⟩
/-- R386. -/
def CMD.PQ_CFG.ENABLE : Fld := ⟨0xE330, 0, 1⟩
/-- R386. -/
def CMD.PQ_CFG.LOCATION : Fld := ⟨0xE330, 1, 1⟩
/-- R386. -/
def CMD.PQ_CFG.LOG2 : Fld := ⟨0xE330, 4, 4⟩
/-- R386. -/
def CMD.PQ_CFG.BUF_SIZE : Fld := ⟨0xE330, 8, 6⟩
/-- R386. -/
def CMD.PQ_CFG.VECTOR : Fld := ⟨0xE330, 16, 6⟩
/-- R386. -/
def CMD.PQ_STATUS.TAIL : Fld := ⟨0xE334, 0, 16⟩
/-- R386. -/
def CMD.CNT_BATCHES.COUNT : Fld := ⟨0xE400, 0, 32⟩
/-- R386. -/
def CMD.CNT_REFUSED.COUNT : Fld := ⟨0xE404, 0, 32⟩
/-- R386. -/
def CMD.CNT_AUTH_FAIL.COUNT : Fld := ⟨0xE408, 0, 32⟩
/-- R386. -/
def CMD.CNT_SEQ.COUNT : Fld := ⟨0xE40C, 0, 32⟩
/-- R386. -/
def CMD.CNT_ALREADY.COUNT : Fld := ⟨0xE410, 0, 32⟩
/-- R386. -/
def CMD.CNT_BATCH_TIMEOUT.COUNT : Fld := ⟨0xE414, 0, 32⟩
/-- R386. -/
def CMD.CNT_LATE_FRAG.COUNT : Fld := ⟨0xE418, 0, 32⟩
/-- R386. -/
def CMD.CNT_DUP_FRAG.COUNT : Fld := ⟨0xE41C, 0, 32⟩
/-- R386. -/
def CMD.CNT_REASM_FULL.COUNT : Fld := ⟨0xE420, 0, 32⟩
/-- R386. -/
def CMD.CNT_EQ_OVERFLOW.COUNT : Fld := ⟨0xE424, 0, 32⟩
/-- R386. -/
def CMD.CNT_HALT_DROP.COUNT : Fld := ⟨0xE428, 0, 32⟩
/-- R386. -/
def CMD.CNT_CLEAR.CLEAR : Fld := ⟨0xE42C, 0, 1⟩

/-- R403. -/
def SUMP.SUMP_STATUS.OPEN : Fld := ⟨0x7040, 0, 1⟩
/-- R403. -/
def SUMP.SUMP_STATUS.REACTION : Fld := ⟨0x7040, 4, 3⟩
/-- R403. -/
def SUMP.SUMP_STATUS.BLANKED : Fld := ⟨0x7040, 8, 10⟩
/-- R403. -/
def SUMP.SUMP_STATUS.QUAR_PENDING : Fld := ⟨0x7040, 24, 7⟩
/-- R403. -/
def SUMP.NEXT_RECORD.ID : Fld := ⟨0x7044, 0, 32⟩
/-- R403. -/
def SUMP.ACK.RECORD : Fld := ⟨0x7048, 0, 32⟩
/-- R403. -/
def SUMP.SAFE_CTRL.EXIT : Fld := ⟨0x704C, 0, 1⟩
/-- R403. -/
def SUMP.INJECT_DATA.DATA : Fld := ⟨0x7050, 0, 32⟩
/-- R403. -/
def SUMP.INJECT.SOURCE : Fld := ⟨0x7054, 0, 8⟩
/-- R403. -/
def SUMP.INJECT.GO : Fld := ⟨0x7054, 31, 1⟩
/-- R403. -/
def SUMP.LOG_BASE_LO.ADDR : Fld := ⟨0x7058, 12, 20⟩
/-- R403. -/
def SUMP.LOG_BASE_HI.ADDR : Fld := ⟨0x705C, 0, 32⟩
/-- R403. -/
def SUMP.LOG_CFG.ENABLE : Fld := ⟨0x7060, 0, 1⟩
/-- R403. -/
def SUMP.LOG_CFG.SIZE_LOG2 : Fld := ⟨0x7060, 8, 5⟩
/-- R403. -/
def SUMP.LOG_WR_PTR.PTR : Fld := ⟨0x7064, 0, 31⟩
/-- R403. -/
def SUMP.SAFE_LAST.LATENCY_NS : Fld := ⟨0x7068, 0, 16⟩
/-- R403. -/
def SUMP.SAFE_LAST.SOURCE : Fld := ⟨0x7068, 16, 8⟩
/-- R403. -/
def SUMP.CNT_RECORDS.COUNT : Fld := ⟨0x706C, 0, 32⟩
/-- R403. -/
def SUMP.CNT_MERGES.COUNT : Fld := ⟨0x7070, 0, 32⟩
/-- R403. -/
def SUMP.CNT_SAFE.COUNT : Fld := ⟨0x7074, 0, 32⟩
/-- R403. -/
def SUMP.CNT_HALT.COUNT : Fld := ⟨0x7078, 0, 32⟩
/-- R403. -/
def SUMP.CNT_QUAR.COUNT : Fld := ⟨0x707C, 0, 32⟩
/-- R403. -/
def SUMP.CNT_BLANK.COUNT : Fld := ⟨0x7080, 0, 32⟩
/-- R403. -/
def SUMP.CNT_CLEAR.CLEAR : Fld := ⟨0x7084, 0, 1⟩
/-- R403. -/
def SUMP.QUAR_LIST.EID (i : Nat) : Fld := ⟨0x7700 + 0x4 * i, 0, 14⟩
/-- R403. -/
def SUMP.QUAR_LIST.VALID (i : Nat) : Fld := ⟨0x7700 + 0x4 * i, 31, 1⟩
/-- R403. -/
def SUMP.OPEN_RECORD.W (i : Nat) : Fld := ⟨0x7800 + 0x4 * i, 0, 32⟩
/-- R403. -/
def SUMP.HISTORY.W (i : Nat) : Fld := ⟨0x7880 + 0x4 * i, 0, 32⟩
/-- R403. -/
def SUMP.RESET_CAUSE.W (i : Nat) : Fld := ⟨0x7C80 + 0x4 * i, 0, 32⟩

/-- R404. -/
def SRC.SRC_CFG.N (n : Nat) : Fld := ⟨0x680000 + 0x10 * n, 0, 8⟩
/-- R404. -/
def SRC.SRC_CFG.MINOR (n : Nat) : Fld := ⟨0x680000 + 0x10 * n, 8, 3⟩
/-- R404. -/
def SRC.SRC_CFG.SEVERE (n : Nat) : Fld := ⟨0x680000 + 0x10 * n, 12, 3⟩
/-- R404. -/
def SRC.SRC_CFG.HALT_SCOPE (n : Nat) : Fld := ⟨0x680000 + 0x10 * n, 16, 4⟩
/-- R404. -/
def SRC.SRC_CFG.MASK (n : Nat) : Fld := ⟨0x680000 + 0x10 * n, 24, 1⟩
/-- R404. -/
def SRC.SRC_WINDOW.US (n : Nat) : Fld := ⟨0x680004 + 0x10 * n, 0, 24⟩
/-- R404. -/
def SRC.SRC_STATE.CNT (n : Nat) : Fld := ⟨0x680008 + 0x10 * n, 0, 8⟩
/-- R404. -/
def SRC.SRC_STATE.SEVERE (n : Nat) : Fld := ⟨0x680008 + 0x10 * n, 8, 1⟩
/-- R404. -/
def SRC.SRC_TOTAL.COUNT (n : Nat) : Fld := ⟨0x68000C + 0x10 * n, 0, 32⟩

/-- R424. -/
def POWER.RAIL_STATUS.IN_TOL : Fld := ⟨0x2040, 0, 11⟩
/-- R424. -/
def POWER.RAIL_STICKY.LEFT : Fld := ⟨0x2044, 0, 11⟩
/-- R424. -/
def POWER.SEQ_STATUS.ORDER_OK : Fld := ⟨0x2048, 0, 1⟩
/-- R424. -/
def POWER.SEQ_STATUS.FIRST_WRONG : Fld := ⟨0x2048, 4, 4⟩
/-- R424. -/
def POWER.DOMAIN_ON.ON (i : Nat) : Fld := ⟨0x2080 + 0x4 * i, 0, 32⟩
/-- R424. -/
def POWER.CNT_PWR_REFUSED.COUNT : Fld := ⟨0x20A0, 0, 32⟩
/-- R424. -/
def POWER.CNT_OFF_ACCESS.COUNT : Fld := ⟨0x20A4, 0, 32⟩
/-- R424. -/
def POWER.CNT_RAIL.COUNT : Fld := ⟨0x20A8, 0, 32⟩
/-- R424. -/
def POWER.CNT_CLEAR.CLEAR : Fld := ⟨0x20AC, 0, 1⟩

/-- R426. -/
def BOOT.BOOT_STATUS.PHASE : Fld := ⟨0x3040, 0, 4⟩
/-- R426. -/
def BOOT.BOOT_STATUS.BOOTMODE : Fld := ⟨0x3040, 4, 2⟩
/-- R426. -/
def BOOT.BOOT_STATUS.SDRAM_TRAINED : Fld := ⟨0x3040, 8, 1⟩
/-- R426. -/
def BOOT.BOOT_STATUS.WAIT : Fld := ⟨0x3040, 9, 1⟩
/-- R426. -/
def BOOT.BOOT_TIME.US : Fld := ⟨0x3044, 0, 32⟩
/-- R426. -/
def BOOT.SELFTEST_FAIL.BLOCKS : Fld := ⟨0x3048, 0, 10⟩
/-- R426. -/
def BOOT.BOOT_CTRL.CONTINUE : Fld := ⟨0x304C, 0, 1⟩
/-- R426. -/
def BOOT.COMMIT_CRC.CRC : Fld := ⟨0x3050, 0, 32⟩
/-- R426. -/
def BOOT.COMMIT.GO : Fld := ⟨0x3054, 0, 1⟩
/-- R426. -/
def BOOT.CHECK_STATUS.BUSY : Fld := ⟨0x3058, 0, 1⟩
/-- R426. -/
def BOOT.CHECK_STATUS.RESULT : Fld := ⟨0x3058, 1, 2⟩
/-- R426. -/
def BOOT.CHECK_STATUS.FIRST_REASON : Fld := ⟨0x3058, 8, 4⟩
/-- R426. -/
def BOOT.CHECK_STATUS.DETAIL : Fld := ⟨0x3058, 16, 16⟩
/-- R426. -/
def BOOT.CHECK_REASONS.REASONS : Fld := ⟨0x305C, 0, 15⟩
/-- R426. -/
def BOOT.ARMED_INFO.HOST_CAL : Fld := ⟨0x3060, 0, 1⟩
/-- R426. -/
def BOOT.ARMED_INFO.COMMITS : Fld := ⟨0x3060, 16, 16⟩
/-- R426. -/
def BOOT.CNT_REFUSED.COUNT : Fld := ⟨0x3064, 0, 32⟩
/-- R426. -/
def BOOT.CNT_CLEAR.CLEAR : Fld := ⟨0x3068, 0, 1⟩
/-- R426. -/
def BOOT.RECORD.W (i : Nat) : Fld := ⟨0x3800 + 0x4 * i, 0, 32⟩

/-- R442. -/
def SMBUS.CFG.ADDR : Fld := ⟨0x19040, 0, 7⟩
/-- R442. -/
def SMBUS.CFG.ARP_EN : Fld := ⟨0x19040, 8, 1⟩
/-- R442. -/
def SMBUS.CFG.PEC_REQ : Fld := ⟨0x19040, 9, 1⟩
/-- R442. -/
def SMBUS.CNT_CMDS.COUNT : Fld := ⟨0x19044, 0, 32⟩
/-- R442. -/
def SMBUS.CNT_PEC_FAIL.COUNT : Fld := ⟨0x19048, 0, 32⟩
/-- R442. -/
def SMBUS.CNT_TIMEOUT.COUNT : Fld := ⟨0x1904C, 0, 32⟩
/-- R442. -/
def SMBUS.CNT_CLEAR.CLEAR : Fld := ⟨0x19050, 0, 1⟩

/-- R450. -/
def DEVICE.PART.NUMBER : Fld := ⟨0x40, 0, 16⟩
/-- R450. -/
def DEVICE.PART.ES : Fld := ⟨0x40, 16, 1⟩
/-- R450. -/
def DEVICE.PART.STEPPING : Fld := ⟨0x40, 20, 4⟩
/-- R450. -/
def DEVICE.UNIT_ID_LO.ID : Fld := ⟨0x44, 0, 32⟩
/-- R450. -/
def DEVICE.UNIT_ID_HI.ID : Fld := ⟨0x48, 0, 32⟩
/-- R450. -/
def DEVICE.STATUS.DEV_STATE : Fld := ⟨0x4C, 0, 3⟩
/-- R450. -/
def DEVICE.STATUS.SDRAM_ONLINE : Fld := ⟨0x4C, 4, 1⟩
/-- R450. -/
def DEVICE.STATUS.PCIE_UP : Fld := ⟨0x4C, 5, 1⟩
/-- R450. -/
def DEVICE.STATUS.READY : Fld := ⟨0x4C, 6, 1⟩
/-- R450. -/
def DEVICE.STATUS.FAULT : Fld := ⟨0x4C, 7, 1⟩
/-- R450. -/
def DEVICE.PEND_SUMMARY.PAGES (i : Nat) : Fld := ⟨0x60 + 0x4 * i, 0, 32⟩
/-- R450. -/
def DEVICE.SDRAM_MAP_BASE.MB (i : Nat) : Fld := ⟨0x80 + 0x8 * i, 0, 18⟩
/-- R450. -/
def DEVICE.SDRAM_MAP_SIZE.MB (i : Nat) : Fld := ⟨0x84 + 0x8 * i, 0, 18⟩
/-- R450. -/
def DEVICE.MAP_STATUS.VALID : Fld := ⟨0xB0, 0, 1⟩
/-- R450. -/
def DEVICE.MAP_STATUS.OVERLAP : Fld := ⟨0xB0, 1, 1⟩
/-- R450. -/
def DEVICE.MAP_STATUS.BEYOND : Fld := ⟨0xB0, 2, 1⟩
/-- R450. -/
def DEVICE.MAP_STATUS.TOTAL_GIB : Fld := ⟨0xB0, 8, 8⟩

/-- R451. -/
def CLOCK.PLL_STATUS.LOCK : Fld := ⟨0x1040, 0, 4⟩
/-- R451. -/
def CLOCK.REF_MON.PPM : Fld := ⟨0x1044, 0, 16⟩
/-- R451. -/
def CLOCK.REF_MON.VALID : Fld := ⟨0x1044, 31, 1⟩
/-- R451. -/
def CLOCK.CNT_LOL.COUNT (i : Nat) : Fld := ⟨0x1050 + 0x4 * i, 0, 32⟩
/-- R451. -/
def CLOCK.CNT_CLEAR.CLEAR : Fld := ⟨0x1060, 0, 1⟩

/-- R452. -/
def PCIE.LINK_STATUS.SPEED : Fld := ⟨0x13040, 0, 3⟩
/-- R452. -/
def PCIE.LINK_STATUS.WIDTH : Fld := ⟨0x13040, 4, 4⟩
/-- R452. -/
def PCIE.LINK_STATUS.DL_UP : Fld := ⟨0x13040, 8, 1⟩
/-- R452. -/
def PCIE.LINK_STATUS.LTSSM : Fld := ⟨0x13040, 16, 6⟩
/-- R452. -/
def PCIE.LINK_CFG.MAX_SPEED : Fld := ⟨0x13044, 0, 3⟩
/-- R452. -/
def PCIE.LINK_CFG.RETRAIN : Fld := ⟨0x13044, 8, 1⟩
/-- R452. -/
def PCIE.IRQ_CFG.FAULT_VECTOR : Fld := ⟨0x13048, 0, 6⟩
/-- R452. -/
def PCIE.IRQ_CFG.FAULT_EN : Fld := ⟨0x13048, 8, 1⟩
/-- R452. -/
def PCIE.IRQ_CFG.INTN_EN : Fld := ⟨0x13048, 16, 1⟩
/-- R452. -/
def PCIE.IRQ_CFG.INTN_SRC : Fld := ⟨0x13048, 17, 1⟩
/-- R452. -/
def PCIE.CNT_LINK_DOWN.COUNT : Fld := ⟨0x1304C, 0, 32⟩
/-- R452. -/
def PCIE.CNT_CORR.COUNT : Fld := ⟨0x13050, 0, 32⟩
/-- R452. -/
def PCIE.CNT_UNCORR.COUNT : Fld := ⟨0x13054, 0, 32⟩
/-- R452. -/
def PCIE.CNT_POISONED_RX.COUNT : Fld := ⟨0x13058, 0, 32⟩
/-- R452. -/
def PCIE.CNT_DMA_DISCARD.COUNT : Fld := ⟨0x1305C, 0, 32⟩
/-- R452. -/
def PCIE.CNT_BEYOND.COUNT : Fld := ⟨0x13060, 0, 32⟩
/-- R452. -/
def PCIE.CNT_CLEAR.CLEAR : Fld := ⟨0x13064, 0, 1⟩

/-- R453. -/
def SDRAM.GEOMETRY.RANKS (c : Nat) : Fld := ⟨0x14040 + 0x1000 * c, 0, 2⟩
/-- R453. -/
def SDRAM.GEOMETRY.DENSITY (c : Nat) : Fld := ⟨0x14040 + 0x1000 * c, 4, 2⟩
/-- R453. -/
def SDRAM.GEOMETRY.CAP_GIB (c : Nat) : Fld := ⟨0x14040 + 0x1000 * c, 8, 6⟩
/-- R453. -/
def SDRAM.TRAIN_CTRL.GO (c : Nat) : Fld := ⟨0x14044 + 0x1000 * c, 0, 1⟩
/-- R453. -/
def SDRAM.TRAIN_STATUS.TRAINED (c : Nat) : Fld := ⟨0x14048 + 0x1000 * c, 0, 1⟩
/-- R453. -/
def SDRAM.TRAIN_STATUS.BUSY (c : Nat) : Fld := ⟨0x14048 + 0x1000 * c, 1, 1⟩
/-- R453. -/
def SDRAM.TRAIN_STATUS.FAILED (c : Nat) : Fld := ⟨0x14048 + 0x1000 * c, 2, 1⟩
/-- R453. -/
def SDRAM.TRAIN_STATUS.LANE (c : Nat) : Fld := ⟨0x14048 + 0x1000 * c, 8, 4⟩
/-- R453. -/
def SDRAM.TRAIN_STATUS.TIME_MS (c : Nat) : Fld := ⟨0x14048 + 0x1000 * c, 16, 16⟩
/-- R453. -/
def SDRAM.SCRUB_CFG.ENABLE (c : Nat) : Fld := ⟨0x1404C + 0x1000 * c, 0, 1⟩
/-- R453. -/
def SDRAM.SCRUB_CFG.HOURS (c : Nat) : Fld := ⟨0x1404C + 0x1000 * c, 8, 8⟩
/-- R453. -/
def SDRAM.SCRUB_STATUS.PERMILLE (c : Nat) : Fld := ⟨0x14050 + 0x1000 * c, 0, 10⟩
/-- R453. -/
def SDRAM.SCRUB_STATUS.PASSES (c : Nat) : Fld := ⟨0x14050 + 0x1000 * c, 16, 16⟩
/-- R453. -/
def SDRAM.CNT_CE.COUNT (c : Nat) : Fld := ⟨0x14054 + 0x1000 * c, 0, 32⟩
/-- R453. -/
def SDRAM.CNT_UE.COUNT (c : Nat) : Fld := ⟨0x14058 + 0x1000 * c, 0, 32⟩
/-- R453. -/
def SDRAM.CNT_SCRUB_FIX.COUNT (c : Nat) : Fld := ⟨0x1405C + 0x1000 * c, 0, 32⟩
/-- R453. -/
def SDRAM.LAST_CE_ADDR_LO.ADDR (c : Nat) : Fld := ⟨0x14060 + 0x1000 * c, 6, 26⟩
/-- R453. -/
def SDRAM.LAST_CE_ADDR_HI.ADDR (c : Nat) : Fld := ⟨0x14064 + 0x1000 * c, 0, 6⟩
/-- R453. -/
def SDRAM.LAST_UE_ADDR_LO.ADDR (c : Nat) : Fld := ⟨0x14068 + 0x1000 * c, 6, 26⟩
/-- R453. -/
def SDRAM.LAST_UE_ADDR_HI.ADDR (c : Nat) : Fld := ⟨0x1406C + 0x1000 * c, 0, 6⟩
/-- R453. -/
def SDRAM.RATE.MB_MS (c : Nat) : Fld := ⟨0x14070 + 0x1000 * c, 0, 16⟩
/-- R453. -/
def SDRAM.CNT_CLEAR.CLEAR (c : Nat) : Fld := ⟨0x14074 + 0x1000 * c, 0, 1⟩

/-- R466. -/
def TEST.TEST_CTRL.TEST : Fld := ⟨0x18040, 0, 3⟩
/-- R466. -/
def TEST.TEST_CTRL.TARGET : Fld := ⟨0x18040, 8, 8⟩
/-- R466. -/
def TEST.TEST_CTRL.STOP : Fld := ⟨0x18040, 30, 1⟩
/-- R466. -/
def TEST.TEST_CTRL.GO : Fld := ⟨0x18040, 31, 1⟩
/-- R466. -/
def TEST.TEST_STATUS.BUSY : Fld := ⟨0x18044, 0, 1⟩
/-- R466. -/
def TEST.TEST_STATUS.RESULT : Fld := ⟨0x18044, 1, 3⟩
/-- R466. -/
def TEST.TEST_STATUS.REASON : Fld := ⟨0x18044, 4, 4⟩
/-- R466. -/
def TEST.LINK_PATTERN.PATTERN : Fld := ⟨0x18048, 0, 3⟩
/-- R466. -/
def TEST.LINK_PATTERN.LOOPBACK : Fld := ⟨0x18048, 8, 1⟩
/-- R466. -/
def TEST.LINK_PATTERN.CHECK_EN : Fld := ⟨0x18048, 9, 1⟩
/-- R466. -/
def TEST.LINK_PATTERN.INJECT : Fld := ⟨0x18048, 10, 1⟩
/-- R466. -/
def TEST.LINK_PATTERN.LOCK : Fld := ⟨0x18048, 12, 2⟩
/-- R466. -/
def TEST.LINK_PATTERN.DURATION_MS : Fld := ⟨0x18048, 16, 16⟩
/-- R466. -/
def TEST.LINK_ERR.COUNT (i : Nat) : Fld := ⟨0x1804C + 0x4 * i, 0, 32⟩
/-- R466. -/
def TEST.SD_START.MB : Fld := ⟨0x18060, 0, 18⟩
/-- R466. -/
def TEST.SD_SIZE.MB : Fld := ⟨0x18064, 0, 18⟩
/-- R466. -/
def TEST.SD_CFG.PATTERN : Fld := ⟨0x18068, 0, 2⟩
/-- R466. -/
def TEST.SD_CFG.ECC_BYPASS : Fld := ⟨0x18068, 4, 1⟩
/-- R466. -/
def TEST.SD_CFG.PASSES : Fld := ⟨0x18068, 8, 8⟩
/-- R466. -/
def TEST.SD_FAIL_ADDR_LO.ADDR : Fld := ⟨0x1806C, 0, 32⟩
/-- R466. -/
def TEST.SD_FAIL_ADDR_HI.ADDR : Fld := ⟨0x18070, 0, 6⟩
/-- R466. -/
def TEST.SD_FAIL_INFO.LANE : Fld := ⟨0x18074, 0, 4⟩
/-- R466. -/
def TEST.SD_FAIL_INFO.COUNT : Fld := ⟨0x18074, 16, 16⟩
/-- R466. -/
def TEST.TB_CFG.BUSES : Fld := ⟨0x18080, 0, 4⟩
/-- R466. -/
def TEST.TB_CFG.DURATION_US : Fld := ⟨0x18080, 16, 16⟩
/-- R466. -/
def TEST.TB_ERR.COUNT (i : Nat) : Fld := ⟨0x18084 + 0x4 * i, 0, 32⟩
/-- R466. -/
def TEST.DAC_CFG.POINTS : Fld := ⟨0x180A0, 0, 5⟩
/-- R466. -/
def TEST.DAC_RESULT.FAILS : Fld := ⟨0x180A4, 0, 8⟩
/-- R466. -/
def TEST.DAC_RESULT.FIRST : Fld := ⟨0x180A4, 8, 8⟩
/-- R466. -/
def TEST.TC_CFG.RANGES : Fld := ⟨0x180B0, 0, 4⟩
/-- R466. -/
def TEST.TC_CFG.TOL : Fld := ⟨0x180B0, 8, 8⟩
/-- R466. -/
def TEST.TC_RESULT.FAILS : Fld := ⟨0x180B4, 0, 9⟩
/-- R466. -/
def TEST.TC_RESULT.FIRST_MID : Fld := ⟨0x180B4, 16, 15⟩
/-- R466. -/
def TEST.OPT_CFG.PORT : Fld := ⟨0x180C0, 0, 9⟩
/-- R466. -/
def TEST.OPT_CFG.LOSS_STAGE : Fld := ⟨0x180C0, 12, 8⟩
/-- R466. -/
def TEST.OPT_CFG.TOL : Fld := ⟨0x180C0, 20, 8⟩
/-- R466. -/
def TEST.OPT_MIN.DBM : Fld := ⟨0x180C4, 0, 8⟩
/-- R466. -/
def TEST.OPT_RESULT.KIND : Fld := ⟨0x180C8, 0, 2⟩
/-- R466. -/
def TEST.OPT_RESULT.PLANE : Fld := ⟨0x180C8, 2, 1⟩
/-- R466. -/
def TEST.OPT_RESULT.STAGE : Fld := ⟨0x180C8, 4, 5⟩
/-- R466. -/
def TEST.OPT_RESULT.MEASURED : Fld := ⟨0x180C8, 16, 16⟩
/-- R466. -/
def TEST.CNT_JTAG_REFUSED.COUNT : Fld := ⟨0x180D0, 0, 32⟩
/-- R466. -/
def TEST.CNT_CLEAR.CLEAR : Fld := ⟨0x180D4, 0, 1⟩

end Sys2Proof.Machine.Reg
end

