-- ==== Sys2Proof/Machine/RegTable.lean ====
section
/-! DEFINITION. The register tables of the specification: for every field its access code (R7), its reset value and the legal range that R490 clamps it to; the pages and windows of BAR0 (R431, R438); and what a word holds after reset. -/
namespace Sys2Proof.Machine

/-- The access codes of R7. -/
inductive Acc where
  | rw | ro | w1c | wo | rws | rwl
deriving DecidableEq, Repr

/-- One row of a register table: the field at instance 0 and index 0, the array it repeats in, its access code, its reset value by index, and the range of R490 where the table states a range and nothing else about values outside it. -/
structure FRow where
  fld    : Fld
  stride : Nat
  count  : Nat
  acc    : Acc
  reset  : Nat → Nat
  range  : Option (Nat × Nat)

/-- The index at which a row's array holds the word at a page-relative offset. -/
def FRow.at (r : FRow) (base rel : Nat) : Option Nat :=
  let o := r.fld.off - base
  if r.count = 1 then (if rel = o then some 0 else none)
  else if o ≤ rel ∧ (rel - o) % r.stride = 0 ∧ (rel - o) / r.stride < r.count then some ((rel - o) / r.stride) else none

/-- R388: the reset value of N of source s. -/
def srcN (s : Nat) : Nat :=
  if 4 ≤ s ∧ s ≤ 7 then 16 else
  match s with
  | 8 => 8 | 10 => 4 | 11 => 16 | 12 => 2 | 15 => 4 | 19 => 3 | 21 => 16 | 30 => 4 | 36 => 4 | 38 => 4 | 39 => 16
  | 40 => 64 | 41 => 64 | 42 => 64 | 43 => 64 | 51 => 8 | 55 => 4 | _ => 1

/-- R388: the reset value of W of source s, in microseconds. -/
def srcWindow (s : Nat) : Nat :=
  if 4 ≤ s ∧ s ≤ 7 then 1000 else
  match s with
  | 8 => 1000000 | 10 => 10000 | 11 => 1000000 | 12 => 10000 | 15 => 1000000 | 19 => 1000 | 21 => 10000 | 30 => 10000
  | 36 => 1000000 | 38 => 1000 | 39 => 1000000 | 40 => 1000000 | 41 => 1000000 | 42 => 1000000 | 43 => 1000000
  | 51 => 1000000 | 55 => 1000000 | _ => 1

/-- R388: the reset value of the MINOR reaction of source s (R391 codes); where N is 1 the table gives none and the field holds 0. -/
def srcMinor (s : Nat) : Nat :=
  if 4 ≤ s ∧ s ≤ 7 then 1 else
  match s with
  | 8 => 1 | 10 => 1 | 11 => 1 | 12 => 1 | 15 => 1 | 19 => 1 | 21 => 1 | 30 => 1 | 36 => 1 | 38 => 1 | 39 => 1 | 55 => 1 | _ => 0

/-- R388: the reset value of the SEVERE reaction of source s (R391 codes); a reserved source holds 0. -/
def srcSevere (s : Nat) : Nat :=
  if 4 ≤ s ∧ s ≤ 7 then 5 else if 240 ≤ s then 5 else if 40 ≤ s ∧ s ≤ 43 then 1 else if 56 ≤ s then 0 else
  match s with
  | 0 => 7 | 2 => 1 | 3 => 5 | 17 => 3 | 18 => 3 | 19 => 5 | 20 => 3 | 25 => 1 | 30 => 5 | 33 => 5 | 48 => 5
  | 49 => 1 | 50 => 1 | 51 => 1 | 52 => 1 | 54 => 1 | _ => 2

/-- The reset WARN thresholds of the protection zones 0 PIC, 1 AFE_H, 2 AFE_V, 3 CTL (table "Levels" of chapter 10), in °C. -/
def zoneWarn (k : Nat) : Nat := if k = 0 then 70 else if k = 3 then 95 else 90

/-- The reset THROTTLE thresholds (table "Levels"). -/
def zoneThrottle (k : Nat) : Nat := if k = 0 then 78 else if k = 3 then 105 else 100

/-- The reset SHUTDOWN thresholds (table "Levels"). -/
def zoneShutdown (k : Nat) : Nat := if k = 0 then 88 else if k = 3 then 115 else 110

/-- The reset hystereses (table "Levels"). -/
def zoneHyst (k : Nat) : Nat := if k = 0 then 3 else if k = 3 then 5 else 4

/-- The register table of SEAM. -/
def rowsSeam : List FRow := [
  ⟨Reg.SEAM.CFG.LANE_EN, 0x4, 1, .rw, fun _ => 15, none⟩,
  ⟨Reg.SEAM.CFG.JOB_PRIORITY, 0x4, 1, .rw, fun _ => 4, none⟩,
  ⟨Reg.SEAM.CFG.HIGH_PRIORITY, 0x4, 1, .rw, fun _ => 12, none⟩,
  ⟨Reg.SEAM.JOB_COST.COST, 0x4, 1, .rw, fun _ => 256, none⟩,
  ⟨Reg.SEAM.REQ_ADDR_LO.ADDR, 0x4, 1, .rw, fun _ => 0, none⟩,
  ⟨Reg.SEAM.REQ_ADDR_HI.ADDR, 0x4, 1, .rw, fun _ => 0, none⟩,
  ⟨Reg.SEAM.RES_ADDR_LO.ADDR, 0x4, 1, .rw, fun _ => 0, none⟩,
  ⟨Reg.SEAM.RES_ADDR_HI.ADDR, 0x4, 1, .rw, fun _ => 0, none⟩,
  ⟨Reg.SEAM.DOORBELL.GO, 0x4, 1, .wo, fun _ => 0, none⟩,
  ⟨Reg.SEAM.STATUS.QUEUED, 0x4, 1, .ro, fun _ => 0, none⟩,
  ⟨Reg.SEAM.STATUS.LANE_BUSY, 0x4, 1, .ro, fun _ => 0, none⟩,
  ⟨Reg.SEAM.STATUS.FETCHING, 0x4, 1, .ro, fun _ => 0, none⟩,
  ⟨Reg.SEAM.STATUS.FULL, 0x4, 1, .ro, fun _ => 0, none⟩,
  ⟨Reg.SEAM.PIN_COUNT.COUNT, 0x4, 1, .ro, fun _ => 0, none⟩,
  ⟨Reg.SEAM.LAST_TAG.TAG, 0x4, 1, .ro, fun _ => 0, none⟩,
  ⟨Reg.SEAM.LAST_RESULT.CODE, 0x4, 1, .ro, fun _ => 0, none⟩,
  ⟨Reg.SEAM.LAST_RESULT.FLAGS, 0x4, 1, .ro, fun _ => 0, none⟩,
  ⟨Reg.SEAM.LAST_RESULT.LANE, 0x4, 1, .ro, fun _ => 0, none⟩,
  ⟨Reg.SEAM.MAX_SOLVE.NS, 0x4, 1, .ro, fun _ => 0, none⟩,
  ⟨Reg.SEAM.CNT_CLEAR.CLEAR, 0x4, 1, .wo, fun _ => 0, none⟩,
  ⟨Reg.SEAM.CNT_CODE.COUNT 0, 0x4, 12, .ro, fun _ => 0, none⟩,
  ⟨Reg.SEAM.CNT_STALE.COUNT, 0x4, 1, .ro, fun _ => 0, none⟩,
  ⟨Reg.SEAM.CNT_CONSTRAINED.COUNT, 0x4, 1, .ro, fun _ => 0, none⟩,
  ⟨Reg.SEAM.CNT_RESOLVED.COUNT, 0x4, 1, .ro, fun _ => 0, none⟩]

/-- The register table of GANTRY, part 1. -/
def rowsGantryPart1 : List FRow := [
  ⟨Reg.GANTRY.IMG_CTRL.BLANK_MODE, 0x4, 1, .rw, fun _ => 1, none⟩,
  ⟨Reg.GANTRY.IMG_CTRL.LOOP_HOLDOFF, 0x4, 1, .rw, fun _ => 8, some (1, 255)⟩,
  ⟨Reg.GANTRY.SLOT_CHECK.SLOT, 0x4, 1, .wo, fun _ => 0, none⟩,
  ⟨Reg.GANTRY.SLOT_CHECK.GO, 0x4, 1, .wo, fun _ => 0, none⟩,
  ⟨Reg.GANTRY.SLOT_CHECK_STATUS.BUSY, 0x4, 1, .ro, fun _ => 0, none⟩,
  ⟨Reg.GANTRY.SLOT_CHECK_STATUS.RESULT, 0x4, 1, .ro, fun _ => 0, none⟩,
  ⟨Reg.GANTRY.SLOT_CHECK_STATUS.SLOT, 0x4, 1, .ro, fun _ => 0, none⟩,
  ⟨Reg.GANTRY.LIVE_SLOT.SLOT, 0x4, 1, .ro, fun _ => 0, none⟩,
  ⟨Reg.GANTRY.LIVE_SLOT.SOURCE, 0x4, 1, .ro, fun _ => 0, none⟩,
  ⟨Reg.GANTRY.LIVE_SLOT.NONE, 0x4, 1, .ro, fun _ => 1, none⟩,
  ⟨Reg.GANTRY.LIVE_IMAGE_ID.ID, 0x4, 1, .ro, fun _ => 0, none⟩,
  ⟨Reg.GANTRY.LIVE_ADDR_LO.ADDR, 0x4, 1, .ro, fun _ => 0, none⟩,
  ⟨Reg.GANTRY.LIVE_ADDR_HI.ADDR, 0x4, 1, .ro, fun _ => 0, none⟩,
  ⟨Reg.GANTRY.NEXT_SLOT.SLOT, 0x4, 1, .ro, fun _ => 0, none⟩,
  ⟨Reg.GANTRY.NEXT_SLOT.SOURCE, 0x4, 1, .ro, fun _ => 0, none⟩,
  ⟨Reg.GANTRY.NEXT_SLOT.SUBST, 0x4, 1, .ro, fun _ => 0, none⟩,
  ⟨Reg.GANTRY.NEXT_SLOT.FIXED, 0x4, 1, .ro, fun _ => 0, none⟩,
  ⟨Reg.GANTRY.NEXT_IMAGE_ID.ID, 0x4, 1, .ro, fun _ => 0, none⟩,
  ⟨Reg.GANTRY.STAGE_LAST.NS, 0x4, 1, .ro, fun _ => 0, none⟩,
  ⟨Reg.GANTRY.STAGE_MAX.NS, 0x4, 1, .ro, fun _ => 0, none⟩,
  ⟨Reg.GANTRY.LAST_FLIPS.FLIPS, 0x4, 1, .ro, fun _ => 0, none⟩,
  ⟨Reg.GANTRY.LAST_FLIPS.CHANGED, 0x4, 1, .ro, fun _ => 0, none⟩,
  ⟨Reg.GANTRY.LAST_STAGGER.SLOTS, 0x4, 1, .ro, fun _ => 0, none⟩,
  ⟨Reg.GANTRY.LAST_STAGGER.SPREAD_NS, 0x4, 1, .ro, fun _ => 0, none⟩,
  ⟨Reg.GANTRY.BLANKED.PORTS, 0x4, 1, .ro, fun _ => 0, none⟩,
  ⟨Reg.GANTRY.CNT_TRANSITIONS.COUNT, 0x4, 1, .ro, fun _ => 0, none⟩,
  ⟨Reg.GANTRY.CNT_IMAGE_INVALID.COUNT, 0x4, 1, .ro, fun _ => 0, none⟩,
  ⟨Reg.GANTRY.CNT_IMAGE_LATE.COUNT, 0x4, 1, .ro, fun _ => 0, none⟩,
  ⟨Reg.GANTRY.CNT_STAGE_LATE.COUNT, 0x4, 1, .ro, fun _ => 0, none⟩,
  ⟨Reg.GANTRY.CNT_PIN_CONFLICT.COUNT, 0x4, 1, .ro, fun _ => 0, none⟩,
  ⟨Reg.GANTRY.IMG_CNT_CLEAR.CLEAR, 0x4, 1, .wo, fun _ => 0, none⟩,
  ⟨Reg.GANTRY.SLOT_VALID.VALID 0, 0x4, 16, .ro, fun _ => 0, none⟩,
  ⟨Reg.GANTRY.GCTL.START, 0x4, 1, .wo, fun _ => 0, none⟩,
  ⟨Reg.GANTRY.GCTL.STOP, 0x4, 1, .wo, fun _ => 0, none⟩,
  ⟨Reg.GANTRY.GCTL.JUMP, 0x4, 1, .wo, fun _ => 0, none⟩,
  ⟨Reg.GANTRY.GCTL.RESYNC, 0x4, 1, .wo, fun _ => 0, none⟩,
  ⟨Reg.GANTRY.GCTL.CANCEL, 0x4, 1, .wo, fun _ => 0, none⟩,
  ⟨Reg.GANTRY.START_CFG.MODE, 0x4, 1, .rw, fun _ => 0, none⟩,
  ⟨Reg.GANTRY.START_CFG.FROM_STREAM, 0x4, 1, .rw, fun _ => 0, none⟩,
  ⟨Reg.GANTRY.START_CFG.INDEX, 0x4, 1, .rw, fun _ => 0, none⟩,
  ⟨Reg.GANTRY.START_TIME.W 0, 0x4, 1, .rw, fun _ => 0, none⟩,
  ⟨Reg.GANTRY.START_TIME.W 1, 0x4, 1, .rw, fun _ => 0, none⟩,
  ⟨Reg.GANTRY.START_TIME.W 2, 0x4, 1, .rw, fun _ => 0, none⟩,
  ⟨Reg.GANTRY.RESYNC_TIME.W 0, 0x4, 1, .rw, fun _ => 0, none⟩,
  ⟨Reg.GANTRY.RESYNC_TIME.W 1, 0x4, 1, .rw, fun _ => 0, none⟩,
  ⟨Reg.GANTRY.RESYNC_TIME.W 2, 0x4, 1, .rw, fun _ => 0, none⟩,
  ⟨Reg.GANTRY.RESYNC_CFG.LABEL, 0x4, 1, .rw, fun _ => 0, none⟩,
  ⟨Reg.GANTRY.RESYNC_CFG.USE_LABEL, 0x4, 1, .rw, fun _ => 0, none⟩,
  ⟨Reg.GANTRY.JUMP_CFG.LABEL, 0x4, 1, .rw, fun _ => 0, none⟩,
  ⟨Reg.GANTRY.GRANULE_PERIOD.PS, 0x4, 1, .rw, fun _ => 50000, none⟩,
  ⟨Reg.GANTRY.GRANULE_STATUS.PS, 0x4, 1, .ro, fun _ => 50000, none⟩,
  ⟨Reg.GANTRY.GRANULE_STATUS.TICK, 0x4, 1, .ro, fun _ => 0, none⟩,
  ⟨Reg.GANTRY.COMMIT_LEAD.G, 0x4, 1, .rw, fun _ => 16, none⟩,
  ⟨Reg.GANTRY.COMMIT_LEAD.IN_FORCE, 0x4, 1, .ro, fun _ => 16, none⟩,
  ⟨Reg.GANTRY.COMMIT_LEAD.MIN_BENCH, 0x4, 1, .ro, fun _ => 24, none⟩,
  ⟨Reg.GANTRY.UNDERFLOW_POLICY.POLICY, 0x4, 1, .rw, fun _ => 0, none⟩,
  ⟨Reg.GANTRY.MAX_EXTEND.G, 0x4, 1, .rw, fun _ => 20000, none⟩,
  ⟨Reg.GANTRY.SAFE_IMAGE.SLOT, 0x4, 1, .rw, fun _ => 0, none⟩,
  ⟨Reg.GANTRY.LOCK_LIMIT.ENTRIES, 0x4, 1, .rw, fun _ => 8192, some (0, 8192)⟩,
  ⟨Reg.GANTRY.LOCK_APPLY.GO, 0x4, 1, .wo, fun _ => 0, none⟩,
  ⟨Reg.GANTRY.LOCK_STATUS.BUSY, 0x4, 1, .ro, fun _ => 0, none⟩,
  ⟨Reg.GANTRY.LOCK_STATUS.DUP, 0x4, 1, .ro, fun _ => 0, none⟩,
  ⟨Reg.GANTRY.LOCK_STATUS.LABELS, 0x4, 1, .ro, fun _ => 0, none⟩,
  ⟨Reg.GANTRY.LOCK_STATUS.DUP_INDEX, 0x4, 1, .ro, fun _ => 0, none⟩]

/-- The register table of GANTRY, part 2. -/
def rowsGantryPart2 : List FRow := [
  ⟨Reg.GANTRY.STREAM_CFG.ENABLE, 0x4, 1, .rw, fun _ => 0, none⟩,
  ⟨Reg.GANTRY.STREAM_CFG.SIZE_LOG2, 0x4, 1, .rw, fun _ => 12, some (12, 30)⟩,
  ⟨Reg.GANTRY.STREAM_CFG.LWM, 0x4, 1, .rw, fun _ => 64, none⟩,
  ⟨Reg.GANTRY.STREAM_BASE_LO.ADDR, 0x4, 1, .rw, fun _ => 0, none⟩,
  ⟨Reg.GANTRY.STREAM_BASE_HI.ADDR, 0x4, 1, .rw, fun _ => 0, none⟩,
  ⟨Reg.GANTRY.STREAM_WR_PTR.PTR, 0x4, 1, .rw, fun _ => 0, none⟩,
  ⟨Reg.GANTRY.STREAM_RD_PTR.PTR, 0x4, 1, .ro, fun _ => 0, none⟩,
  ⟨Reg.GANTRY.STREAM_SEQ.EXPECT, 0x4, 1, .rw, fun _ => 0, none⟩,
  ⟨Reg.GANTRY.STREAM_STATUS.BUF_FILL, 0x4, 1, .ro, fun _ => 0, none⟩,
  ⟨Reg.GANTRY.STREAM_STATUS.BUF_SIZE, 0x4, 1, .ro, fun _ => 0, none⟩,
  ⟨Reg.GANTRY.STREAM_STATUS.STALLED, 0x4, 1, .ro, fun _ => 0, none⟩,
  ⟨Reg.GANTRY.STATE.GSTATE, 0x4, 1, .ro, fun _ => 0, none⟩,
  ⟨Reg.GANTRY.STATE.SOURCE, 0x4, 1, .ro, fun _ => 0, none⟩,
  ⟨Reg.GANTRY.STATE.DEPTH, 0x4, 1, .ro, fun _ => 0, none⟩,
  ⟨Reg.GANTRY.STATE.INDEX, 0x4, 1, .ro, fun _ => 0, none⟩,
  ⟨Reg.GANTRY.LIVE_BENCH.SEQ, 0x4, 1, .ro, fun _ => 0, none⟩,
  ⟨Reg.GANTRY.LIVE_BENCH.LABEL, 0x4, 1, .ro, fun _ => 0, none⟩,
  ⟨Reg.GANTRY.BENCH_NUM.COUNT, 0x4, 1, .ro, fun _ => 0, none⟩,
  ⟨Reg.GANTRY.LAST_T.W 0, 0x4, 3, .ro, fun _ => 0, none⟩,
  ⟨Reg.GANTRY.NEXT_T.W 0, 0x4, 3, .ro, fun _ => 0, none⟩,
  ⟨Reg.GANTRY.SLIP.G, 0x4, 1, .ro, fun _ => 0, none⟩,
  ⟨Reg.GANTRY.SLIP.LATE, 0x4, 1, .ro, fun _ => 0, none⟩,
  ⟨Reg.GANTRY.LOOP_LEFT.LEFT 0, 0x4, 4, .ro, fun _ => 0, none⟩,
  ⟨Reg.GANTRY.LOOP_LEFT.FOREVER 0, 0x4, 4, .ro, fun _ => 0, none⟩,
  ⟨Reg.GANTRY.LOOP_LEFT.ACTIVE 0, 0x4, 4, .ro, fun _ => 0, none⟩,
  ⟨Reg.GANTRY.PENDING.START, 0x4, 1, .ro, fun _ => 0, none⟩,
  ⟨Reg.GANTRY.PENDING.JUMP, 0x4, 1, .ro, fun _ => 0, none⟩,
  ⟨Reg.GANTRY.PENDING.RESYNC, 0x4, 1, .ro, fun _ => 0, none⟩,
  ⟨Reg.GANTRY.PENDING.STOP, 0x4, 1, .ro, fun _ => 0, none⟩,
  ⟨Reg.GANTRY.PENDING.DEFERRED, 0x4, 1, .ro, fun _ => 0, none⟩,
  ⟨Reg.GANTRY.START_RESULT.REASON, 0x4, 1, .ro, fun _ => 0, none⟩,
  ⟨Reg.GANTRY.JUMP_RESULT.REASON, 0x4, 1, .ro, fun _ => 0, none⟩,
  ⟨Reg.GANTRY.RESYNC_RESULT.REASON, 0x4, 1, .ro, fun _ => 0, none⟩,
  ⟨Reg.GANTRY.CNT_BENCHES.COUNT, 0x4, 1, .ro, fun _ => 0, none⟩,
  ⟨Reg.GANTRY.CNT_SKIPPED.COUNT, 0x4, 1, .ro, fun _ => 0, none⟩,
  ⟨Reg.GANTRY.CNT_SUBSTITUTED.COUNT, 0x4, 1, .ro, fun _ => 0, none⟩,
  ⟨Reg.GANTRY.CNT_JUMPS.COUNT, 0x4, 1, .ro, fun _ => 0, none⟩,
  ⟨Reg.GANTRY.CNT_JUMP_DEFERRED.COUNT, 0x4, 1, .ro, fun _ => 0, none⟩,
  ⟨Reg.GANTRY.CNT_UNDERFLOW.COUNT, 0x4, 1, .ro, fun _ => 0, none⟩,
  ⟨Reg.GANTRY.CNT_EXTEND_G.COUNT, 0x4, 1, .ro, fun _ => 0, none⟩,
  ⟨Reg.GANTRY.CNT_SHORT_BENCH.COUNT, 0x4, 1, .ro, fun _ => 0, none⟩,
  ⟨Reg.GANTRY.CNT_LOOP_ERR.COUNT, 0x4, 1, .ro, fun _ => 0, none⟩,
  ⟨Reg.GANTRY.CNT_TRIG_WAIT.COUNT, 0x4, 1, .ro, fun _ => 0, none⟩,
  ⟨Reg.GANTRY.CNT_CLEAR.CLEAR, 0x4, 1, .wo, fun _ => 0, none⟩]

/-- The register table of GANTRY. -/
def rowsGantry : List FRow := rowsGantryPart1 ++ rowsGantryPart2

/-- The register table of DRIVE, part 1. -/
def rowsDrivePart1 : List FRow := [
  ⟨Reg.DRIVE.TILE_CFG.MODE_REQ 0, 0x4, 1, .rw, fun _ => 1, none⟩,
  ⟨Reg.DRIVE.TILE_STATUS.MODE 0, 0x4, 1, .ro, fun _ => 1, none⟩,
  ⟨Reg.DRIVE.TILE_STATUS.ELEMENTS_OFF 0, 0x4, 1, .ro, fun _ => 1, none⟩,
  ⟨Reg.DRIVE.TILE_STATUS.CIRCUITS 0, 0x4, 1, .ro, fun _ => 0, none⟩,
  ⟨Reg.DRIVE.TILE_STATUS.RANGE_ACTIVE 0, 0x4, 1, .ro, fun _ => 0, none⟩,
  ⟨Reg.DRIVE.TILE_STATUS.SAFE_LOADED 0, 0x4, 1, .ro, fun _ => 0, none⟩,
  ⟨Reg.DRIVE.RANGE.FAST_RANGE 0, 0x4, 1, .ro, fun _ => 0, none⟩,
  ⟨Reg.DRIVE.RANGE.HTR_RANGE 0, 0x4, 1, .ro, fun _ => 0, none⟩,
  ⟨Reg.DRIVE.RANGE.REQ_FAST 0, 0x4, 1, .rw, fun _ => 0, none⟩,
  ⟨Reg.DRIVE.RANGE.REQ_HTR 0, 0x4, 1, .rw, fun _ => 0, none⟩,
  ⟨Reg.DRIVE.RANGE.GO 0, 0x4, 1, .wo, fun _ => 0, none⟩,
  ⟨Reg.DRIVE.RANGE_STATUS.BUSY 0, 0x4, 1, .ro, fun _ => 0, none⟩,
  ⟨Reg.DRIVE.RANGE_STATUS.RESULT 0, 0x4, 1, .ro, fun _ => 0, none⟩,
  ⟨Reg.DRIVE.RANGE_STATUS.REASON 0, 0x4, 1, .ro, fun _ => 0, none⟩,
  ⟨Reg.DRIVE.DIRECT.CHAN 0, 0x4, 1, .wo, fun _ => 0, none⟩,
  ⟨Reg.DRIVE.DIRECT.KIND 0, 0x4, 1, .wo, fun _ => 0, none⟩,
  ⟨Reg.DRIVE.DIRECT.CODE 0, 0x4, 1, .wo, fun _ => 0, none⟩,
  ⟨Reg.DRIVE.SHAPE_ADDR.POINT 0, 0x4, 1, .rw, fun _ => 0, none⟩,
  ⟨Reg.DRIVE.SHAPE_ADDR.SHAPE 0, 0x4, 1, .rw, fun _ => 0, none⟩,
  ⟨Reg.DRIVE.SHAPE_ADDR.AUTOINC 0, 0x4, 1, .rw, fun _ => 1, none⟩,
  ⟨Reg.DRIVE.SHAPE_DATA.POINT 0, 0x4, 1, .rw, fun _ => 16384, none⟩,
  ⟨Reg.DRIVE.SHAPE_STATUS.BANK 0, 0x4, 1, .ro, fun _ => 0, none⟩,
  ⟨Reg.DRIVE.SHAPE_STATUS.SWAP_PENDING 0, 0x4, 1, .ro, fun _ => 0, none⟩,
  ⟨Reg.DRIVE.SHAPE_STATUS.PLAYING 0, 0x4, 1, .ro, fun _ => 0, none⟩,
  ⟨Reg.DRIVE.SHORT_FAST.FLAGS 0 0, 0x4, 3, .w1c, fun _ => 0, none⟩,
  ⟨Reg.DRIVE.SHORT_HTR.FLAGS 0 0, 0x4, 3, .w1c, fun _ => 0, none⟩,
  ⟨Reg.DRIVE.RB_FAIL_FAST.FLAGS 0 0, 0x4, 3, .w1c, fun _ => 0, none⟩,
  ⟨Reg.DRIVE.RB_FAIL_HTR.FLAGS 0 0, 0x4, 3, .w1c, fun _ => 0, none⟩,
  ⟨Reg.DRIVE.RB_CTRL.ENABLE 0, 0x4, 1, .rw, fun _ => 1, none⟩,
  ⟨Reg.DRIVE.RB_CTRL.FAST_TOL 0, 0x4, 1, .rw, fun _ => 20, some (5, 100)⟩,
  ⟨Reg.DRIVE.RB_CTRL.HTR_TOL 0, 0x4, 1, .rw, fun _ => 15, some (5, 100)⟩,
  ⟨Reg.DRIVE.RB_CTRL.MISS_LIMIT 0, 0x4, 1, .rw, fun _ => 3, none⟩,
  ⟨Reg.DRIVE.RB_STATUS.SLOT 0, 0x4, 1, .ro, fun _ => 0, none⟩,
  ⟨Reg.DRIVE.RB_STATUS.CYCLE_US 0, 0x4, 1, .ro, fun _ => 0, none⟩,
  ⟨Reg.DRIVE.RB_STATUS.HALF_RATE 0, 0x4, 1, .ro, fun _ => 0, none⟩,
  ⟨Reg.DRIVE.CNT_DIRECT.COUNT 0, 0x4, 1, .ro, fun _ => 0, none⟩,
  ⟨Reg.DRIVE.CNT_PACED.COUNT 0, 0x4, 1, .ro, fun _ => 0, none⟩,
  ⟨Reg.DRIVE.CNT_PACE_DROP.COUNT 0, 0x4, 1, .ro, fun _ => 0, none⟩,
  ⟨Reg.DRIVE.CNT_DEGLITCH.COUNT 0, 0x4, 1, .ro, fun _ => 0, none⟩,
  ⟨Reg.DRIVE.CNT_RB_MISMATCH.COUNT 0, 0x4, 1, .ro, fun _ => 0, none⟩,
  ⟨Reg.DRIVE.CNT_RB_SKIP.COUNT 0, 0x4, 1, .ro, fun _ => 0, none⟩,
  ⟨Reg.DRIVE.CNT_REFUSED.COUNT 0, 0x4, 1, .ro, fun _ => 0, none⟩,
  ⟨Reg.DRIVE.CNT_CLIP.COUNT 0, 0x4, 1, .ro, fun _ => 0, none⟩,
  ⟨Reg.DRIVE.CNT_CLEAR.CLEAR 0, 0x4, 1, .wo, fun _ => 0, none⟩,
  ⟨Reg.DRIVE.FAST_CODE.SHADOW 0 0, 0x8, 76, .rws, fun _ => 0, none⟩,
  ⟨Reg.DRIVE.FAST_CODE.LIVE 0 0, 0x8, 76, .ro, fun _ => 0, none⟩,
  ⟨Reg.DRIVE.FAST_CFG.GROUP 0 0, 0x8, 76, .rw, fun i => i % 16, none⟩,
  ⟨Reg.DRIVE.FAST_CFG.SAFE_EN 0 0, 0x8, 76, .ro, fun _ => 0, none⟩,
  ⟨Reg.DRIVE.FAST_CFG.MARK 0 0, 0x8, 76, .ro, fun _ => 0, none⟩,
  ⟨Reg.DRIVE.FAST_CFG.HOST_DIRTY 0 0, 0x8, 76, .ro, fun _ => 0, none⟩,
  ⟨Reg.DRIVE.FAST_CFG.SAFE_CODE 0 0, 0x8, 76, .ro, fun _ => 0, none⟩,
  ⟨Reg.DRIVE.HTR_CODE.SHADOW 0 0, 0x8, 77, .rws, fun _ => 0, none⟩,
  ⟨Reg.DRIVE.HTR_CODE.LIVE 0 0, 0x8, 77, .ro, fun _ => 0, none⟩,
  ⟨Reg.DRIVE.HTR_CFG.GROUP 0 0, 0x8, 77, .rw, fun i => i % 16, none⟩,
  ⟨Reg.DRIVE.HTR_CFG.MARK 0 0, 0x8, 77, .ro, fun _ => 0, none⟩,
  ⟨Reg.DRIVE.HTR_CFG.HOST_DIRTY 0 0, 0x8, 77, .ro, fun _ => 0, none⟩,
  ⟨Reg.DRIVE.HTR_CFG.HELD 0 0, 0x8, 77, .ro, fun _ => 0, none⟩,
  ⟨Reg.DRIVE.RB_LAST.VALUE 0 0, 0x4, 160, .ro, fun _ => 0, none⟩,
  ⟨Reg.DRIVE.RB_LAST.MISS 0 0, 0x4, 160, .ro, fun _ => 0, none⟩,
  ⟨Reg.DRIVE.RB_LAST.FAIL 0 0, 0x4, 160, .ro, fun _ => 0, none⟩]

/-- The register table of DRIVE, part 2. -/
def rowsDrivePart2 : List FRow := [
  ⟨Reg.DRIVE.RB_LAST.SKIPPED 0 0, 0x4, 160, .ro, fun _ => 0, none⟩]

/-- The register table of DRIVE. -/
def rowsDrive : List FRow := rowsDrivePart1 ++ rowsDrivePart2

/-- The register table of MONITOR. -/
def rowsMonitor : List FRow := [
  ⟨Reg.MONITOR.CONV_CTRL.MODE 0 0, 0x20, 8, .rw, fun _ => 0, none⟩,
  ⟨Reg.MONITOR.CHSEL.SEL 0 0, 0x20, 8, .rw, fun _ => 0, none⟩,
  ⟨Reg.MONITOR.SCAN_MASK.MASK 0 0, 0x20, 8, .rw, fun _ => 0, none⟩,
  ⟨Reg.MONITOR.CONV_STATUS.LAST_SEL 0 0, 0x20, 8, .ro, fun _ => 0, none⟩,
  ⟨Reg.MONITOR.CONV_STATUS.SUSPECT_LEFT 0 0, 0x20, 8, .ro, fun _ => 0, none⟩,
  ⟨Reg.MONITOR.CONV_STATUS.RUNNING 0 0, 0x20, 8, .ro, fun _ => 1, none⟩,
  ⟨Reg.MONITOR.LAST_RESULT.VALUE 0 0, 0x20, 8, .ro, fun _ => 0, none⟩,
  ⟨Reg.MONITOR.LAST_RESULT.RANGE 0 0, 0x20, 8, .ro, fun _ => 0, none⟩,
  ⟨Reg.MONITOR.LAST_RESULT.OVR 0 0, 0x20, 8, .ro, fun _ => 0, none⟩,
  ⟨Reg.MONITOR.LAST_RESULT.SUSPECT 0 0, 0x20, 8, .ro, fun _ => 0, none⟩,
  ⟨Reg.MONITOR.LAST_RESULT.SETTLING 0 0, 0x20, 8, .ro, fun _ => 0, none⟩,
  ⟨Reg.MONITOR.LAST_RESULT.INPUT 0 0, 0x20, 8, .ro, fun _ => 0, none⟩,
  ⟨Reg.MONITOR.CNT_ABANDONED.COUNT 0 0, 0x20, 8, .ro, fun _ => 0, none⟩,
  ⟨Reg.MONITOR.CNT_CHSEL_LATE.COUNT 0 0, 0x20, 8, .ro, fun _ => 0, none⟩,
  ⟨Reg.MONITOR.AR_CTRL.AR_LOW 0, 0x4, 1, .rw, fun _ => 3072, none⟩,
  ⟨Reg.MONITOR.AR_CTRL.AR_DOWN 0, 0x4, 1, .rw, fun _ => 4, none⟩,
  ⟨Reg.MONITOR.TILE_STATUS.CONV_RUNNING 0, 0x4, 1, .ro, fun _ => 255, none⟩,
  ⟨Reg.MONITOR.TILE_STATUS.NOT_LOOP 0, 0x4, 1, .ro, fun _ => 0, none⟩,
  ⟨Reg.MONITOR.CNT_OVR.COUNT 0, 0x4, 1, .ro, fun _ => 0, none⟩,
  ⟨Reg.MONITOR.CNT_SUSPECT.COUNT 0, 0x4, 1, .ro, fun _ => 0, none⟩,
  ⟨Reg.MONITOR.CNT_SETTLING.COUNT 0, 0x4, 1, .ro, fun _ => 0, none⟩,
  ⟨Reg.MONITOR.CNT_RANGE_UP.COUNT 0, 0x4, 1, .ro, fun _ => 0, none⟩,
  ⟨Reg.MONITOR.CNT_RANGE_DOWN.COUNT 0, 0x4, 1, .ro, fun _ => 0, none⟩,
  ⟨Reg.MONITOR.CNT_REFUSED.COUNT 0, 0x4, 1, .ro, fun _ => 0, none⟩,
  ⟨Reg.MONITOR.CNT_LOOP_DISCARD.COUNT 0, 0x4, 1, .ro, fun _ => 0, none⟩,
  ⟨Reg.MONITOR.CNT_CLEAR.CLEAR 0, 0x4, 1, .wo, fun _ => 0, none⟩,
  ⟨Reg.MONITOR.MON_CFG.RANGE 0 0, 0x4, 256, .rw, fun _ => 0, none⟩,
  ⟨Reg.MONITOR.MON_CFG.AR_EN 0 0, 0x4, 256, .rw, fun _ => 1, none⟩,
  ⟨Reg.MONITOR.MON_CFG.LOW_COUNT 0 0, 0x4, 256, .ro, fun _ => 0, none⟩,
  ⟨Reg.MONITOR.MON_LAST.VALUE 0 0, 0x4, 256, .ro, fun _ => 0, none⟩,
  ⟨Reg.MONITOR.MON_LAST.RANGE 0 0, 0x4, 256, .ro, fun _ => 0, none⟩,
  ⟨Reg.MONITOR.MON_LAST.OVR 0 0, 0x4, 256, .ro, fun _ => 0, none⟩,
  ⟨Reg.MONITOR.MON_LAST.SUSPECT 0 0, 0x4, 256, .ro, fun _ => 0, none⟩,
  ⟨Reg.MONITOR.MON_LAST.SETTLING 0 0, 0x4, 256, .ro, fun _ => 0, none⟩,
  ⟨Reg.MONITOR.MON_LAST.SEEN 0 0, 0x4, 256, .ro, fun _ => 0, none⟩]

/-- The register table of CAPTURE. -/
def rowsCapture : List FRow := [
  ⟨Reg.CAPTURE.CAP_CFG.LIMIT, 0x4, 1, .rw, fun _ => 200, none⟩,
  ⟨Reg.CAPTURE.CAP_CFG.FLUSH, 0x4, 1, .rw, fun _ => 2, none⟩,
  ⟨Reg.CAPTURE.CAP_STATUS.BUF_LEVEL, 0x4, 1, .ro, fun _ => 0, none⟩,
  ⟨Reg.CAPTURE.CAP_STATUS.THROTTLED, 0x4, 1, .ro, fun _ => 0, none⟩,
  ⟨Reg.CAPTURE.RATE.BYTES_US, 0x4, 1, .ro, fun _ => 0, none⟩,
  ⟨Reg.CAPTURE.CNT_WRITTEN.COUNT, 0x4, 1, .ro, fun _ => 0, none⟩,
  ⟨Reg.CAPTURE.CNT_REFUSED_CAP.COUNT, 0x4, 1, .ro, fun _ => 0, none⟩,
  ⟨Reg.CAPTURE.CNT_BACKPRESSURE.COUNT, 0x4, 1, .ro, fun _ => 0, none⟩,
  ⟨Reg.CAPTURE.CNT_THROTTLE_SKIP.COUNT, 0x4, 1, .ro, fun _ => 0, none⟩,
  ⟨Reg.CAPTURE.CNT_SYNC.COUNT, 0x4, 1, .ro, fun _ => 0, none⟩,
  ⟨Reg.CAPTURE.CNT_CLEAR.CLEAR, 0x4, 1, .wo, fun _ => 0, none⟩,
  ⟨Reg.CAPTURE.RING_CTRL.ENABLE 0, 0x40, 16, .rw, fun _ => 0, none⟩,
  ⟨Reg.CAPTURE.RING_CTRL.RUN 0, 0x40, 16, .rw, fun _ => 0, none⟩,
  ⟨Reg.CAPTURE.RING_CTRL.POLICY 0, 0x40, 16, .rw, fun _ => 0, none⟩,
  ⟨Reg.CAPTURE.RING_CTRL.SKIP_UNSETTLED 0, 0x40, 16, .rw, fun _ => 0, none⟩,
  ⟨Reg.CAPTURE.RING_CTRL.DECIM 0, 0x40, 16, .rw, fun _ => 0, none⟩,
  ⟨Reg.CAPTURE.RING_CTRL.SIZE_LOG2 0, 0x40, 16, .rw, fun _ => 12, none⟩,
  ⟨Reg.CAPTURE.BASE_LO.ADDR 0, 0x40, 16, .rw, fun _ => 0, none⟩,
  ⟨Reg.CAPTURE.BASE_HI.ADDR 0, 0x40, 16, .rw, fun _ => 0, none⟩,
  ⟨Reg.CAPTURE.WR_PTR_LO.PTR 0, 0x40, 16, .ro, fun _ => 0, none⟩,
  ⟨Reg.CAPTURE.WR_PTR_HI.PTR 0, 0x40, 16, .ro, fun _ => 0, none⟩,
  ⟨Reg.CAPTURE.RD_PTR_LO.PTR 0, 0x40, 16, .rw, fun _ => 0, none⟩,
  ⟨Reg.CAPTURE.RD_PTR_HI.PTR 0, 0x40, 16, .rw, fun _ => 0, none⟩,
  ⟨Reg.CAPTURE.WATERMARK.FILL 0, 0x40, 16, .rw, fun _ => 0, none⟩,
  ⟨Reg.CAPTURE.RING_STATUS.EMPTY 0, 0x40, 16, .ro, fun _ => 1, none⟩,
  ⟨Reg.CAPTURE.RING_STATUS.FULL 0, 0x40, 16, .ro, fun _ => 0, none⟩,
  ⟨Reg.CAPTURE.RING_STATUS.RUNNING 0, 0x40, 16, .ro, fun _ => 0, none⟩,
  ⟨Reg.CAPTURE.CNT_RECORDS.COUNT 0, 0x40, 16, .ro, fun _ => 0, none⟩,
  ⟨Reg.CAPTURE.CNT_DROP_FULL.COUNT 0, 0x40, 16, .ro, fun _ => 0, none⟩,
  ⟨Reg.CAPTURE.CNT_OVERWRITTEN.COUNT 0, 0x40, 16, .ro, fun _ => 0, none⟩,
  ⟨Reg.CAPTURE.CNT_CAP_REFUSED.COUNT 0, 0x40, 16, .ro, fun _ => 0, none⟩]

/-- The register table of BRAMBLE. -/
def rowsBramble : List FRow := [
  ⟨Reg.BRAMBLE.PROBE_CFG.DELTA 0, 0x4, 1, .rw, fun _ => 5, some (1, 50)⟩,
  ⟨Reg.BRAMBLE.PROBE_CFG.PAIRS 0, 0x4, 1, .rw, fun _ => 8, some (1, 15)⟩,
  ⟨Reg.BRAMBLE.PROBE_CFG.PAIRS_ACQ 0, 0x4, 1, .rw, fun _ => 1, some (1, 4)⟩,
  ⟨Reg.BRAMBLE.PROBE_CFG.PHASE_PERIODS 0, 0x4, 1, .rw, fun _ => 20, some (10, 200)⟩,
  ⟨Reg.BRAMBLE.BAND_CFG.B_MIN 0, 0x4, 1, .rw, fun _ => 4, some (1, 255)⟩,
  ⟨Reg.BRAMBLE.BAND_CFG.K_NOISE 0, 0x4, 1, .rw, fun _ => 6, some (1, 15)⟩,
  ⟨Reg.BRAMBLE.BAND_CFG.HYST 0, 0x4, 1, .rw, fun _ => 8, some (4, 12)⟩,
  ⟨Reg.BRAMBLE.STEP_CFG.STEP_FINE 0, 0x4, 1, .rw, fun _ => 16, some (1, 4095)⟩,
  ⟨Reg.BRAMBLE.STEP_CFG.STEP_COARSE 0, 0x4, 1, .rw, fun _ => 256, some (1, 4095)⟩,
  ⟨Reg.BRAMBLE.BLIND_CFG.C_MIN 0, 0x4, 1, .rw, fun _ => 3277, none⟩,
  ⟨Reg.BRAMBLE.BLIND_CFG.L_MIN 0, 0x4, 1, .rw, fun _ => 640, some (0, 1376)⟩,
  ⟨Reg.BRAMBLE.TIMING_CFG.HTR_WAIT 0, 0x4, 1, .rw, fun _ => 10, some (5, 255)⟩,
  ⟨Reg.BRAMBLE.TIMING_CFG.WRAP_SETTLE 0, 0x4, 1, .rw, fun _ => 20, some (1, 255)⟩,
  ⟨Reg.BRAMBLE.TIMING_CFG.BLIND_EXIT 0, 0x4, 1, .rw, fun _ => 2, some (1, 15)⟩,
  ⟨Reg.BRAMBLE.TIMING_CFG.WRAP_PRIORITY 0, 0x4, 1, .rw, fun _ => 8, none⟩,
  ⟨Reg.BRAMBLE.QUAR_TIME.MS 0, 0x4, 1, .rw, fun _ => 10000, some (1, 60000)⟩,
  ⟨Reg.BRAMBLE.SHUTTER_CFG.SOFT_RATE 0, 0x4, 1, .rw, fun _ => 20, some (1, 255)⟩,
  ⟨Reg.BRAMBLE.SHUTTER_CFG.SH_BAND 0, 0x4, 1, .rw, fun _ => 16, some (1, 256)⟩,
  ⟨Reg.BRAMBLE.SHUTTER_CFG.SH_GAIN 0, 0x4, 1, .rw, fun _ => 4, some (1, 15)⟩,
  ⟨Reg.BRAMBLE.BALLAST_RATE.RATE 0, 0x4, 1, .rw, fun _ => 50, some (1, 255)⟩,
  ⟨Reg.BRAMBLE.ATTN_WEIGHT.TRANSITION 0, 0x4, 1, .rw, fun _ => 8, none⟩,
  ⟨Reg.BRAMBLE.ATTN_WEIGHT.OUT_OF_BAND 0, 0x4, 1, .rw, fun _ => 4, none⟩,
  ⟨Reg.BRAMBLE.ATTN_WEIGHT.ROUTINE 0, 0x4, 1, .rw, fun _ => 2, none⟩,
  ⟨Reg.BRAMBLE.ATTN_WEIGHT.PROBE 0, 0x4, 1, .rw, fun _ => 2, none⟩,
  ⟨Reg.BRAMBLE.STARVE_CFG.AGE 0, 0x4, 1, .rw, fun _ => 150, some (50, 190)⟩,
  ⟨Reg.BRAMBLE.STARVE_CFG.UNLIT_MS 0, 0x4, 1, .rw, fun _ => 2, some (1, 100)⟩,
  ⟨Reg.BRAMBLE.STATUS_COUNT.COUNT 0 0, 0x4, 8, .ro, fun _ => 0, none⟩,
  ⟨Reg.BRAMBLE.EPOCH_COUNT.COUNT 0, 0x4, 1, .ro, fun _ => 0, none⟩,
  ⟨Reg.BRAMBLE.CNT_ESTIMATES.COUNT 0, 0x4, 1, .ro, fun _ => 0, none⟩,
  ⟨Reg.BRAMBLE.CNT_WRAPS.COUNT 0, 0x4, 1, .ro, fun _ => 0, none⟩,
  ⟨Reg.BRAMBLE.CNT_SATURATED.COUNT 0, 0x4, 1, .ro, fun _ => 0, none⟩,
  ⟨Reg.BRAMBLE.CNT_BLIND.COUNT 0, 0x4, 1, .ro, fun _ => 0, none⟩,
  ⟨Reg.BRAMBLE.CNT_TIMEOUT.COUNT 0, 0x4, 1, .ro, fun _ => 0, none⟩,
  ⟨Reg.BRAMBLE.CNT_STARVE_MISS.COUNT 0, 0x4, 1, .ro, fun _ => 0, none⟩,
  ⟨Reg.BRAMBLE.CNT_DISCARD_HOLDOFF.COUNT 0, 0x4, 1, .ro, fun _ => 0, none⟩,
  ⟨Reg.BRAMBLE.CNT_FLAGGED.COUNT 0, 0x4, 1, .ro, fun _ => 0, none⟩,
  ⟨Reg.BRAMBLE.CNT_FF_NO_SENSOR.COUNT 0, 0x4, 1, .ro, fun _ => 0, none⟩,
  ⟨Reg.BRAMBLE.CNT_PROBE_ABORT.COUNT 0, 0x4, 1, .ro, fun _ => 0, none⟩,
  ⟨Reg.BRAMBLE.MAX_AGE.US 0, 0x4, 1, .ro, fun _ => 0, none⟩,
  ⟨Reg.BRAMBLE.CNT_CLEAR.CLEAR 0, 0x4, 1, .wo, fun _ => 0, none⟩]

/-- The register table of ELEM. -/
def rowsElem : List FRow := [
  ⟨Reg.ELEM.ELEM_CTRL.EN 0, 0x4, 1, .rw, fun _ => 1, none⟩,
  ⟨Reg.ELEM.ELEM_CTRL.QUAR_SET 0, 0x4, 1, .wo, fun _ => 0, none⟩,
  ⟨Reg.ELEM.ELEM_CTRL.QUAR_CLR 0, 0x4, 1, .wo, fun _ => 0, none⟩,
  ⟨Reg.ELEM.ELEM_CTRL.NO_WRAP 0, 0x4, 1, .rw, fun _ => 0, none⟩,
  ⟨Reg.ELEM.ELEM_STATUS.STATUS 0, 0x4, 1, .ro, fun _ => 0, none⟩,
  ⟨Reg.ELEM.ELEM_STATUS.REASON 0, 0x4, 1, .ro, fun _ => 0, none⟩,
  ⟨Reg.ELEM.ELEM_STATUS.ACTIVE 0, 0x4, 1, .ro, fun _ => 0, none⟩,
  ⟨Reg.ELEM.ELEM_STATUS.WRAP_PENDING 0, 0x4, 1, .ro, fun _ => 0, none⟩,
  ⟨Reg.ELEM.ELEM_STATUS.SH_NULL 0, 0x4, 1, .ro, fun _ => 0, none⟩,
  ⟨Reg.ELEM.ELEM_STATUS.SH_RAMP 0, 0x4, 1, .ro, fun _ => 0, none⟩,
  ⟨Reg.ELEM.ELEM_STATUS.SAT_MS 0, 0x4, 1, .ro, fun _ => 0, none⟩,
  ⟨Reg.ELEM.ELEM_GRAD.G 0, 0x4, 1, .ro, fun _ => 0, none⟩,
  ⟨Reg.ELEM.ELEM_GRAD.B_OUT 0, 0x4, 1, .ro, fun _ => 0, none⟩,
  ⟨Reg.ELEM.ELEM_METRIC.M0 0, 0x4, 1, .ro, fun _ => 0, none⟩,
  ⟨Reg.ELEM.ELEM_METRIC.M1 0, 0x4, 1, .ro, fun _ => 0, none⟩]

/-- The register table of GANTRY_TRIG. -/
def rowsGantryTrig : List FRow := [
  ⟨Reg.GANTRY_TRIG.TRIGO_CFG.ENABLE 0, 0x8, 16, .rw, fun _ => 0, none⟩,
  ⟨Reg.GANTRY_TRIG.TRIGO_CFG.POLARITY 0, 0x8, 16, .rw, fun _ => 0, none⟩,
  ⟨Reg.GANTRY_TRIG.TRIGO_CFG.SOURCE 0, 0x8, 16, .rw, fun _ => 0, none⟩,
  ⟨Reg.GANTRY_TRIG.TRIGO_CFG.FORCE 0, 0x8, 16, .rw, fun _ => 0, none⟩,
  ⟨Reg.GANTRY_TRIG.TRIGO_CFG.LEAD 0, 0x8, 16, .rw, fun _ => 0, none⟩,
  ⟨Reg.GANTRY_TRIG.TRIGO_CFG.WIDTH 0, 0x8, 16, .rw, fun _ => 32, some (0, 1024)⟩,
  ⟨Reg.GANTRY_TRIG.TRIGO_STAT.ASSERTED 0, 0x8, 16, .ro, fun _ => 0, none⟩,
  ⟨Reg.GANTRY_TRIG.TRIGO_STAT.PULSES 0, 0x8, 16, .ro, fun _ => 0, none⟩,
  ⟨Reg.GANTRY_TRIG.TRIGIN_CFG.TO_GANTRY 0, 0x4, 4, .rw, fun _ => 0, none⟩,
  ⟨Reg.GANTRY_TRIG.TRIGIN_CFG.EDGE 0, 0x4, 4, .rw, fun _ => 0, none⟩,
  ⟨Reg.GANTRY_TRIG.TRIGIN_CFG.DEGLITCH 0, 0x4, 4, .rw, fun _ => 2, none⟩,
  ⟨Reg.GANTRY_TRIG.TRIGIN_STATUS.QUEUED, 0x4, 1, .ro, fun _ => 0, none⟩,
  ⟨Reg.GANTRY_TRIG.TRIGIN_STATUS.LEVEL, 0x4, 1, .ro, fun _ => 0, none⟩,
  ⟨Reg.GANTRY_TRIG.CNT_TRIG_ACCEPTED.COUNT, 0x4, 1, .ro, fun _ => 0, none⟩,
  ⟨Reg.GANTRY_TRIG.CNT_TRIG_OVERRUN.COUNT, 0x4, 1, .ro, fun _ => 0, none⟩,
  ⟨Reg.GANTRY_TRIG.CNT_TRIG_IGNORED.COUNT, 0x4, 1, .ro, fun _ => 0, none⟩,
  ⟨Reg.GANTRY_TRIG.CNT_TRIGO_LATE.COUNT, 0x4, 1, .ro, fun _ => 0, none⟩,
  ⟨Reg.GANTRY_TRIG.CNT_SYNC_ERR.COUNT, 0x4, 1, .ro, fun _ => 0, none⟩,
  ⟨Reg.GANTRY_TRIG.CNT_CLEAR.CLEAR, 0x4, 1, .wo, fun _ => 0, none⟩,
  ⟨Reg.GANTRY_TRIG.SYNC_CFG.ROLE, 0x4, 1, .rw, fun _ => 0, none⟩,
  ⟨Reg.GANTRY_TRIG.SYNC_CFG.EACH, 0x4, 1, .rw, fun _ => 0, none⟩,
  ⟨Reg.GANTRY_TRIG.SYNC_CFG.SYNC_DELAY, 0x4, 1, .rw, fun _ => 20, none⟩,
  ⟨Reg.GANTRY_TRIG.SYNC_SKEW.PS, 0x4, 1, .rw, fun _ => 0, some (0, 20000)⟩,
  ⟨Reg.GANTRY_TRIG.SYNC_PULSE.GO, 0x4, 1, .wo, fun _ => 0, none⟩,
  ⟨Reg.GANTRY_TRIG.ECHO_RESULT.PS, 0x4, 1, .ro, fun _ => 0, none⟩,
  ⟨Reg.GANTRY_TRIG.ECHO_RESULT.VALID, 0x4, 1, .ro, fun _ => 0, none⟩,
  ⟨Reg.GANTRY_TRIG.TURN.PS, 0x4, 1, .ro, fun _ => 0, none⟩,
  ⟨Reg.GANTRY_TRIG.TURN.VALID, 0x4, 1, .ro, fun _ => 0, none⟩,
  ⟨Reg.GANTRY_TRIG.SYNC_LAST_ERR.PS, 0x4, 1, .ro, fun _ => 0, none⟩]

/-- The register table of TIME, part 1. -/
def rowsTimePart1 : List FRow := [
  ⟨Reg.TIME.TIME_CTRL.SERVO_MODE, 0x4, 1, .rw, fun _ => 0, none⟩,
  ⟨Reg.TIME.TIME_CTRL.PROFILE, 0x4, 1, .rw, fun _ => 0, none⟩,
  ⟨Reg.TIME.TIME_CTRL.SRC_SEL, 0x4, 1, .rw, fun _ => 0, none⟩,
  ⟨Reg.TIME.TIME_CTRL.DOMAIN, 0x4, 1, .rw, fun _ => 0, none⟩,
  ⟨Reg.TIME.TIME_CTRL.TC_EN, 0x4, 1, .rw, fun _ => 1, none⟩,
  ⟨Reg.TIME.TIME_STATUS.SERVO_STATE, 0x4, 1, .ro, fun _ => 0, none⟩,
  ⟨Reg.TIME.TIME_STATUS.SRC_PORT, 0x4, 1, .ro, fun _ => 0, none⟩,
  ⟨Reg.TIME.TIME_STATUS.DIVERGED, 0x4, 1, .ro, fun _ => 0, none⟩,
  ⟨Reg.TIME.TIME_STATUS.SLEWING, 0x4, 1, .ro, fun _ => 0, none⟩,
  ⟨Reg.TIME.TIME_STATUS.STEP_BLOCKED, 0x4, 1, .ro, fun _ => 0, none⟩,
  ⟨Reg.TIME.TIME_NOW.W 0, 0x4, 3, .ro, fun _ => 0, none⟩,
  ⟨Reg.TIME.TIME_NOW_FRAC.FRAC, 0x4, 1, .ro, fun _ => 0, none⟩,
  ⟨Reg.TIME.TIME_SET.W 0, 0x4, 1, .rw, fun _ => 0, none⟩,
  ⟨Reg.TIME.TIME_SET.W 1, 0x4, 1, .rw, fun _ => 0, none⟩,
  ⟨Reg.TIME.TIME_SET.W 2, 0x4, 1, .rw, fun _ => 0, none⟩,
  ⟨Reg.TIME.TIME_CMD.STEP, 0x4, 1, .wo, fun _ => 0, none⟩,
  ⟨Reg.TIME.TIME_CMD.OFFSET, 0x4, 1, .wo, fun _ => 0, none⟩,
  ⟨Reg.TIME.TIME_OFFSET.NS, 0x4, 1, .rw, fun _ => 0, none⟩,
  ⟨Reg.TIME.OFFSET_CFG.METHOD, 0x4, 1, .rw, fun _ => 0, none⟩,
  ⟨Reg.TIME.FREQ_ADJ.ADJ, 0x4, 1, .rw, fun _ => 0, none⟩,
  ⟨Reg.TIME.TIME_INC_LO.FRAC, 0x4, 1, .ro, fun _ => 0, none⟩,
  ⟨Reg.TIME.TIME_INC_HI.FRAC, 0x4, 1, .ro, fun _ => 144, none⟩,
  ⟨Reg.TIME.TIME_INC_HI.INT, 0x4, 1, .ro, fun _ => 1, none⟩,
  ⟨Reg.TIME.SLEW_CFG.RATE, 0x4, 1, .rw, fun _ => 100, none⟩,
  ⟨Reg.TIME.STEP_LIMIT.NS, 0x4, 1, .rw, fun _ => 1000, none⟩,
  ⟨Reg.TIME.SLEW_REMAIN.NS, 0x4, 1, .ro, fun _ => 0, none⟩,
  ⟨Reg.TIME.SERVO_GAIN.KP, 0x4, 1, .rw, fun _ => 16384, none⟩,
  ⟨Reg.TIME.SERVO_GAIN.KI, 0x4, 1, .rw, fun _ => 1024, none⟩,
  ⟨Reg.TIME.LOCK_CFG.LOCK_NS, 0x4, 1, .rw, fun _ => 100, none⟩,
  ⟨Reg.TIME.LOCK_CFG.LOCK_COUNT, 0x4, 1, .rw, fun _ => 16, none⟩,
  ⟨Reg.TIME.LOCK_CFG.LOSS_INTERVALS, 0x4, 1, .rw, fun _ => 4, none⟩,
  ⟨Reg.TIME.UNLOCK_CFG.UNLOCK_NS, 0x4, 1, .rw, fun _ => 500, none⟩,
  ⟨Reg.TIME.UNLOCK_CFG.HOLDOVER_AVG, 0x4, 1, .rw, fun _ => 6, some (0, 10)⟩,
  ⟨Reg.TIME.OFFSET_LAST.PS, 0x4, 1, .ro, fun _ => 0, none⟩,
  ⟨Reg.TIME.PATH_DELAY.PS, 0x4, 1, .ro, fun _ => 0, none⟩,
  ⟨Reg.TIME.HOLDOVER_TIME.S, 0x4, 1, .ro, fun _ => 0, none⟩,
  ⟨Reg.TIME.GM_ID_LO.ID, 0x4, 1, .ro, fun _ => 0, none⟩,
  ⟨Reg.TIME.GM_ID_HI.ID, 0x4, 1, .ro, fun _ => 0, none⟩,
  ⟨Reg.TIME.STEP_LAST.NS, 0x4, 1, .ro, fun _ => 0, none⟩,
  ⟨Reg.TIME.CNT_STEP.COUNT, 0x4, 1, .ro, fun _ => 0, none⟩,
  ⟨Reg.TIME.CNT_DIVERGED.COUNT, 0x4, 1, .ro, fun _ => 0, none⟩,
  ⟨Reg.TIME.CNT_SRC_SWITCH.COUNT, 0x4, 1, .ro, fun _ => 0, none⟩,
  ⟨Reg.TIME.CNT_TS_OVERFLOW.COUNT, 0x4, 1, .ro, fun _ => 0, none⟩,
  ⟨Reg.TIME.CNT_CLEAR.CLEAR, 0x4, 1, .wo, fun _ => 0, none⟩,
  ⟨Reg.TIME.PPS_CFG.ENABLE, 0x4, 1, .rw, fun _ => 1, none⟩,
  ⟨Reg.TIME.PPS_CFG.ALWAYS, 0x4, 1, .rw, fun _ => 0, none⟩,
  ⟨Reg.TIME.PPS_CFG.POLARITY, 0x4, 1, .rw, fun _ => 0, none⟩,
  ⟨Reg.TIME.PPS_CFG.WIDTH_MS, 0x4, 1, .rw, fun _ => 100, some (0, 999)⟩,
  ⟨Reg.TIME.PPS_COMP.PS, 0x4, 1, .rw, fun _ => 0, none⟩,
  ⟨Reg.TIME.TS_CFG.EDGE_0, 0x4, 1, .rw, fun _ => 0, none⟩,
  ⟨Reg.TIME.TS_CFG.EDGE_1, 0x4, 1, .rw, fun _ => 0, none⟩,
  ⟨Reg.TIME.TS_CFG.EDGE_2, 0x4, 1, .rw, fun _ => 0, none⟩,
  ⟨Reg.TIME.TS_CFG.EDGE_3, 0x4, 1, .rw, fun _ => 0, none⟩,
  ⟨Reg.TIME.TS_CFG.EDGE_4, 0x4, 1, .rw, fun _ => 1, none⟩,
  ⟨Reg.TIME.TS_STATUS.COUNT, 0x4, 1, .ro, fun _ => 0, none⟩,
  ⟨Reg.TIME.TS_POP_NS.NS, 0x4, 1, .ro, fun _ => 0, none⟩,
  ⟨Reg.TIME.TS_POP_S.S, 0x4, 1, .ro, fun _ => 0, none⟩,
  ⟨Reg.TIME.TS_POP_INFO.S_HI, 0x4, 1, .ro, fun _ => 0, none⟩,
  ⟨Reg.TIME.TS_POP_INFO.SRC, 0x4, 1, .ro, fun _ => 0, none⟩,
  ⟨Reg.TIME.TS_POP_INFO.EDGE, 0x4, 1, .ro, fun _ => 0, none⟩,
  ⟨Reg.TIME.TS_POP_INFO.VALID, 0x4, 1, .ro, fun _ => 0, none⟩,
  ⟨Reg.TIME.TS_POP_PS.PS, 0x4, 1, .ro, fun _ => 0, none⟩]

/-- The register table of TIME, part 2. -/
def rowsTimePart2 : List FRow := [
  ⟨Reg.TIME.PORT_CFG.ENABLE 0, 0x40, 2, .rw, fun _ => 1, none⟩,
  ⟨Reg.TIME.PORT_CFG.TRANSPORTS 0, 0x40, 2, .rw, fun _ => 7, none⟩,
  ⟨Reg.TIME.PORT_CFG.PDELAY_LOG 0, 0x40, 2, .rw, fun _ => 0, none⟩,
  ⟨Reg.TIME.PORT_ASYM.PS 0, 0x40, 2, .rw, fun _ => 0, none⟩,
  ⟨Reg.TIME.PORT_LAT_RX.PS 0, 0x40, 2, .rw, fun _ => 0, none⟩,
  ⟨Reg.TIME.PORT_LAT_TX.PS 0, 0x40, 2, .rw, fun _ => 0, none⟩,
  ⟨Reg.TIME.PORT_STATE.STATE 0, 0x40, 2, .ro, fun _ => 4, none⟩,
  ⟨Reg.TIME.LINK_DELAY.PS 0, 0x40, 2, .ro, fun _ => 0, none⟩,
  ⟨Reg.TIME.CNT_TC_EVENT.COUNT 0, 0x40, 2, .ro, fun _ => 0, none⟩,
  ⟨Reg.TIME.CNT_TC_NOCORR.COUNT 0, 0x40, 2, .ro, fun _ => 0, none⟩,
  ⟨Reg.TIME.CNT_RX_SYNC.COUNT 0, 0x40, 2, .ro, fun _ => 0, none⟩,
  ⟨Reg.TIME.CNT_PROFILE_DROP.COUNT 0, 0x40, 2, .ro, fun _ => 0, none⟩,
  ⟨Reg.TIME.CNT_VERSION.COUNT 0, 0x40, 2, .ro, fun _ => 0, none⟩,
  ⟨Reg.TIME.CNT_PDELAY_FAIL.COUNT 0, 0x40, 2, .ro, fun _ => 0, none⟩,
  ⟨Reg.TIME.TEV_TIME.W0 0, 0x20, 16, .rw, fun _ => 0, none⟩,
  ⟨Reg.TIME.TEV_TIME.W1 0, 0x20, 16, .rw, fun _ => 0, none⟩,
  ⟨Reg.TIME.TEV_TIME.W2 0, 0x20, 16, .rw, fun _ => 0, none⟩,
  ⟨Reg.TIME.TEV_PERIOD.NS 0, 0x20, 16, .rw, fun _ => 0, none⟩,
  ⟨Reg.TIME.TEV_CTRL.ARM 0, 0x20, 16, .rw, fun _ => 0, none⟩,
  ⟨Reg.TIME.TEV_CTRL.PERIODIC 0, 0x20, 16, .rw, fun _ => 0, none⟩,
  ⟨Reg.TIME.TEV_CTRL.TARGETS 0, 0x20, 16, .rw, fun _ => 0, none⟩,
  ⟨Reg.TIME.TEV_CTRL.TRIGO_SEL 0, 0x20, 16, .rw, fun _ => 0, none⟩,
  ⟨Reg.TIME.TEV_CTRL.WIDTH 0, 0x20, 16, .rw, fun _ => 32, some (0, 1024)⟩,
  ⟨Reg.TIME.TEV_CAPMASK.RINGS 0, 0x20, 16, .rw, fun _ => 0, none⟩,
  ⟨Reg.TIME.TEV_STATUS.FIRED 0, 0x20, 16, .ro, fun _ => 0, none⟩,
  ⟨Reg.TIME.TEV_STATUS.LATE 0, 0x20, 16, .ro, fun _ => 0, none⟩,
  ⟨Reg.TIME.TEV_STATUS.ARMED 0, 0x20, 16, .ro, fun _ => 0, none⟩,
  ⟨Reg.TIME.TEV_MISSED.COUNT 0, 0x20, 16, .ro, fun _ => 0, none⟩]

/-- The register table of TIME. -/
def rowsTime : List FRow := rowsTimePart1 ++ rowsTimePart2

/-- The register table of THERMAL. -/
def rowsThermal : List FRow := [
  ⟨Reg.THERMAL.ZONE_THR.WARN 0, 0x4, 4, .rwl, zoneWarn, none⟩,
  ⟨Reg.THERMAL.ZONE_THR.THROTTLE 0, 0x4, 4, .rwl, zoneThrottle, none⟩,
  ⟨Reg.THERMAL.ZONE_THR.SHUTDOWN 0, 0x4, 4, .rwl, zoneShutdown, none⟩,
  ⟨Reg.THERMAL.ZONE_THR.HYST 0, 0x4, 4, .rwl, zoneHyst, none⟩,
  ⟨Reg.THERMAL.TEMP_DWELL.US, 0x4, 1, .rwl, fun _ => 1000, some (200, 65535)⟩,
  ⟨Reg.THERMAL.HALT_DELAY.MS, 0x4, 1, .rwl, fun _ => 10, some (1, 255)⟩,
  ⟨Reg.THERMAL.PLAUS_DT.C, 0x4, 1, .rwl, fun _ => 20, some (5, 63)⟩,
  ⟨Reg.THERMAL.ZONE_STATUS.LEVEL 0, 0x4, 4, .ro, fun _ => 0, none⟩,
  ⟨Reg.THERMAL.ZONE_STATUS.STAGE 0, 0x4, 4, .ro, fun _ => 0, none⟩,
  ⟨Reg.THERMAL.ZONE_STATUS.HOTTEST 0, 0x4, 4, .ro, fun _ => 0, none⟩,
  ⟨Reg.THERMAL.ZONE_STATUS.FAILED_ANY 0, 0x4, 4, .ro, fun _ => 0, none⟩,
  ⟨Reg.THERMAL.ZONE_STATUS.VALUE 0, 0x4, 4, .ro, fun _ => 0, none⟩,
  ⟨Reg.THERMAL.ZONE_MAX.VALUE 0, 0x4, 4, .ro, fun _ => 32768, none⟩,
  ⟨Reg.THERMAL.SENSOR_MASK.MASK 0, 0x4, 4, .rwl, fun _ => 0, none⟩,
  ⟨Reg.THERMAL.SENSOR_FAILED.FAILED 0, 0x4, 4, .ro, fun _ => 0, none⟩,
  ⟨Reg.THERMAL.CNT_THROTTLE.COUNT 0, 0x4, 4, .ro, fun _ => 0, none⟩,
  ⟨Reg.THERMAL.CNT_SENSOR_FAIL.COUNT, 0x4, 1, .ro, fun _ => 0, none⟩,
  ⟨Reg.THERMAL.CNT_CLEAR.CLEAR, 0x4, 1, .wo, fun _ => 0, none⟩,
  ⟨Reg.THERMAL.ZONE_FAILED.COUNT 0, 0x4, 4, .ro, fun _ => 0, none⟩,
  ⟨Reg.THERMAL.SENSOR.TEMP 0, 0x4, 120, .ro, fun _ => 0, none⟩,
  ⟨Reg.THERMAL.SENSOR.FAILED 0, 0x4, 120, .ro, fun _ => 0, none⟩,
  ⟨Reg.THERMAL.SENSOR.REASON 0, 0x4, 120, .ro, fun _ => 0, none⟩,
  ⟨Reg.THERMAL.SENSOR.MASKED 0, 0x4, 120, .ro, fun _ => 0, none⟩]

/-- The register table of BUDGET. -/
def rowsBudget : List FRow := [
  ⟨Reg.BUDGET.HTR_BUDGET.W10, 0x4, 1, .rw, fun _ => 320, some (80, 480)⟩,
  ⟨Reg.BUDGET.HTR_BUDGET.EFFECTIVE, 0x4, 1, .ro, fun _ => 320, none⟩,
  ⟨Reg.BUDGET.ZONE_LIMIT.MW, 0x4, 1, .rw, fun _ => 1200, some (100, 4000)⟩,
  ⟨Reg.BUDGET.FLIP_BUDGET.FLIPS, 0x4, 1, .rw, fun _ => 2048, some (64, 8704)⟩,
  ⟨Reg.BUDGET.BALLAST_CTRL.MODE, 0x4, 1, .rw, fun _ => 0, none⟩,
  ⟨Reg.BUDGET.BALLAST_CTRL.REDUCED, 0x4, 1, .ro, fun _ => 0, none⟩,
  ⟨Reg.BUDGET.ACT_BUDGET.UNITS, 0x4, 1, .rw, fun _ => 2048, none⟩,
  ⟨Reg.BUDGET.CAP_COST.UNITS, 0x4, 1, .rw, fun _ => 16, none⟩,
  ⟨Reg.BUDGET.JOB_AGE.US, 0x4, 1, .rw, fun _ => 500, some (10, 65535)⟩,
  ⟨Reg.BUDGET.HTR_TOTAL.ELEM_MW, 0x4, 1, .ro, fun _ => 0, none⟩,
  ⟨Reg.BUDGET.HTR_TOTAL.BALLAST_MW, 0x4, 1, .ro, fun _ => 0, none⟩,
  ⟨Reg.BUDGET.ACT_TOTAL.UNITS, 0x4, 1, .ro, fun _ => 0, none⟩,
  ⟨Reg.BUDGET.ACT_TOTAL.RESERVED_MW, 0x4, 1, .ro, fun _ => 0, none⟩,
  ⟨Reg.BUDGET.ADMIT_LAST.OUTCOME, 0x4, 1, .ro, fun _ => 0, none⟩,
  ⟨Reg.BUDGET.ADMIT_LAST.FAIL, 0x4, 1, .ro, fun _ => 0, none⟩,
  ⟨Reg.BUDGET.ADMIT_LAST.ALT_FAIL, 0x4, 1, .ro, fun _ => 0, none⟩,
  ⟨Reg.BUDGET.ADMIT_LAST.STEPS, 0x4, 1, .ro, fun _ => 1, none⟩,
  ⟨Reg.BUDGET.ADMIT_LAST.FLIPS, 0x4, 1, .ro, fun _ => 0, none⟩,
  ⟨Reg.BUDGET.ADMIT_ZONE.ZONE, 0x4, 1, .ro, fun _ => 0, none⟩,
  ⟨Reg.BUDGET.ADMIT_ZONE.PRED_MW, 0x4, 1, .ro, fun _ => 0, none⟩,
  ⟨Reg.BUDGET.GROUP_STEP.STEP_0 0, 0x4, 4, .ro, fun _ => 0, none⟩,
  ⟨Reg.BUDGET.GROUP_STEP.STEP_1 0, 0x4, 4, .ro, fun _ => 0, none⟩,
  ⟨Reg.BUDGET.GROUP_STEP.STEP_2 0, 0x4, 4, .ro, fun _ => 0, none⟩,
  ⟨Reg.BUDGET.GROUP_STEP.STEP_3 0, 0x4, 4, .ro, fun _ => 0, none⟩,
  ⟨Reg.BUDGET.JOB_STATUS.WAITING, 0x4, 1, .ro, fun _ => 0, none⟩,
  ⟨Reg.BUDGET.JOB_STATUS.RUNNING, 0x4, 1, .ro, fun _ => 0, none⟩,
  ⟨Reg.BUDGET.JOB_STATUS.AGED, 0x4, 1, .ro, fun _ => 0, none⟩,
  ⟨Reg.BUDGET.CNT_ADMIT.COUNT, 0x4, 1, .ro, fun _ => 0, none⟩,
  ⟨Reg.BUDGET.CNT_STAGGER.COUNT, 0x4, 1, .ro, fun _ => 0, none⟩,
  ⟨Reg.BUDGET.CNT_SUBSTITUTE.COUNT, 0x4, 1, .ro, fun _ => 0, none⟩,
  ⟨Reg.BUDGET.CNT_HOLD.COUNT, 0x4, 1, .ro, fun _ => 0, none⟩,
  ⟨Reg.BUDGET.CNT_JOBS.COUNT, 0x4, 1, .ro, fun _ => 0, none⟩,
  ⟨Reg.BUDGET.CNT_HTR_OVER.COUNT, 0x4, 1, .ro, fun _ => 0, none⟩,
  ⟨Reg.BUDGET.AVS_CTRL.ENABLE, 0x4, 1, .rw, fun _ => 1, none⟩,
  ⟨Reg.BUDGET.AVS_CTRL.CLK_DIV, 0x4, 1, .rw, fun _ => 3, none⟩,
  ⟨Reg.BUDGET.AVS_CTRL.PERIOD_US, 0x4, 1, .rw, fun _ => 50, some (10, 255)⟩,
  ⟨Reg.BUDGET.AVS_CTRL.DOWN_COUNT, 0x4, 1, .rw, fun _ => 20, none⟩,
  ⟨Reg.BUDGET.AVS_LIMITS.MIN_MV, 0x4, 1, .rw, fun _ => 650, some (650, 900)⟩,
  ⟨Reg.BUDGET.AVS_LIMITS.MAX_MV, 0x4, 1, .rw, fun _ => 900, some (650, 900)⟩,
  ⟨Reg.BUDGET.AVS_MARGIN.LO, 0x4, 1, .rw, fun _ => 24, none⟩,
  ⟨Reg.BUDGET.AVS_MARGIN.HI, 0x4, 1, .rw, fun _ => 48, none⟩,
  ⟨Reg.BUDGET.AVS_MARGIN.CRIT, 0x4, 1, .rw, fun _ => 8, none⟩,
  ⟨Reg.BUDGET.AVS_STATUS.REQ_MV, 0x4, 1, .ro, fun _ => 750, none⟩,
  ⟨Reg.BUDGET.AVS_STATUS.READ_MV, 0x4, 1, .ro, fun _ => 0, none⟩,
  ⟨Reg.BUDGET.AVS_STATUS.FAULT, 0x4, 1, .ro, fun _ => 0, none⟩,
  ⟨Reg.BUDGET.MARGIN_NOW.WORST, 0x4, 1, .ro, fun _ => 0, none⟩,
  ⟨Reg.BUDGET.MARGIN_NOW.MONITOR, 0x4, 1, .ro, fun _ => 0, none⟩,
  ⟨Reg.BUDGET.CNT_AVS_UP.COUNT, 0x4, 1, .ro, fun _ => 0, none⟩,
  ⟨Reg.BUDGET.CNT_AVS_DOWN.COUNT, 0x4, 1, .ro, fun _ => 0, none⟩,
  ⟨Reg.BUDGET.CNT_AVS_FAULT.COUNT, 0x4, 1, .ro, fun _ => 0, none⟩,
  ⟨Reg.BUDGET.CNT_CLEAR.CLEAR, 0x4, 1, .wo, fun _ => 0, none⟩,
  ⟨Reg.BUDGET.ZONE_POWER.ELEM 0, 0x4, 64, .ro, fun _ => 0, none⟩,
  ⟨Reg.BUDGET.ZONE_POWER.BALLAST 0, 0x4, 64, .ro, fun _ => 0, none⟩,
  ⟨Reg.BUDGET.ZONE_TARGET.TARGET 0, 0x4, 64, .rw, fun _ => 0, none⟩]

/-- The register table of FUSE. -/
def rowsFuse : List FRow := [
  ⟨Reg.FUSE.FUSE_STATUS.IN_FORCE, 0x4, 1, .ro, fun _ => 0, none⟩,
  ⟨Reg.FUSE.FUSE_STATUS.WS_SOURCE, 0x4, 1, .ro, fun _ => 0, none⟩,
  ⟨Reg.FUSE.FUSE_STATUS.CAL_ABSENT, 0x4, 1, .ro, fun _ => 0, none⟩,
  ⟨Reg.FUSE.FUSE_STATUS.COMMIT_BUSY, 0x4, 1, .ro, fun _ => 0, none⟩,
  ⟨Reg.FUSE.FUSE_STATUS.REVOKE_PENDING, 0x4, 1, .ro, fun _ => 0, none⟩,
  ⟨Reg.FUSE.FUSE_STATUS.COMMITS_LEFT, 0x4, 1, .ro, fun _ => 3, none⟩,
  ⟨Reg.FUSE.GEN_STATUS.STATE_0, 0x4, 1, .ro, fun _ => 0, none⟩,
  ⟨Reg.FUSE.GEN_STATUS.STATE_1, 0x4, 1, .ro, fun _ => 0, none⟩,
  ⟨Reg.FUSE.GEN_STATUS.STATE_2, 0x4, 1, .ro, fun _ => 0, none⟩,
  ⟨Reg.FUSE.GEN_STATUS.STATE_3, 0x4, 1, .ro, fun _ => 0, none⟩,
  ⟨Reg.FUSE.GEN_STATUS.MARKER_PARTIAL_0, 0x4, 1, .ro, fun _ => 0, none⟩,
  ⟨Reg.FUSE.GEN_STATUS.MARKER_PARTIAL_1, 0x4, 1, .ro, fun _ => 0, none⟩,
  ⟨Reg.FUSE.GEN_STATUS.MARKER_PARTIAL_2, 0x4, 1, .ro, fun _ => 0, none⟩,
  ⟨Reg.FUSE.GEN_STATUS.MARKER_PARTIAL_3, 0x4, 1, .ro, fun _ => 0, none⟩,
  ⟨Reg.FUSE.GEN_STATUS.REVOKE_PARTIAL_0, 0x4, 1, .ro, fun _ => 0, none⟩,
  ⟨Reg.FUSE.GEN_STATUS.REVOKE_PARTIAL_1, 0x4, 1, .ro, fun _ => 0, none⟩,
  ⟨Reg.FUSE.GEN_STATUS.REVOKE_PARTIAL_2, 0x4, 1, .ro, fun _ => 0, none⟩,
  ⟨Reg.FUSE.GEN_STATUS.REVOKE_PARTIAL_3, 0x4, 1, .ro, fun _ => 0, none⟩,
  ⟨Reg.FUSE.FUSE_CMD.COMMIT, 0x4, 1, .wo, fun _ => 0, none⟩,
  ⟨Reg.FUSE.FUSE_CMD.FINISH_REVOKE, 0x4, 1, .wo, fun _ => 0, none⟩,
  ⟨Reg.FUSE.FUSE_CMD.CONFIRM, 0x4, 1, .wo, fun _ => 0, none⟩,
  ⟨Reg.FUSE.COMMIT_STATUS.STEP, 0x4, 1, .ro, fun _ => 0, none⟩,
  ⟨Reg.FUSE.COMMIT_STATUS.RESULT, 0x4, 1, .ro, fun _ => 0, none⟩,
  ⟨Reg.FUSE.COMMIT_STATUS.TARGET, 0x4, 1, .ro, fun _ => 0, none⟩,
  ⟨Reg.FUSE.COMMIT_STATUS.RETRIES, 0x4, 1, .ro, fun _ => 0, none⟩,
  ⟨Reg.FUSE.COMMIT_PROGRESS.BYTES, 0x4, 1, .ro, fun _ => 0, none⟩]

/-- The register table of PLUMB. -/
def rowsPlumb : List FRow := [
  ⟨Reg.PLUMB.RUN_REQ.KINDS, 0x4, 1, .wo, fun _ => 0, none⟩,
  ⟨Reg.PLUMB.RUN_REQ.GO, 0x4, 1, .wo, fun _ => 0, none⟩,
  ⟨Reg.PLUMB.RUN_STATUS.BUSY, 0x4, 1, .ro, fun _ => 0, none⟩,
  ⟨Reg.PLUMB.RUN_STATUS.KINDS, 0x4, 1, .ro, fun _ => 0, none⟩,
  ⟨Reg.PLUMB.RUN_STATUS.PHASE, 0x4, 1, .ro, fun _ => 0, none⟩,
  ⟨Reg.PLUMB.RUN_STATUS.RESULT, 0x4, 1, .ro, fun _ => 0, none⟩,
  ⟨Reg.PLUMB.TRIG_CFG.TEMP_KINDS, 0x4, 1, .rw, fun _ => 3, none⟩,
  ⟨Reg.PLUMB.TRIG_CFG.INTERVAL_KINDS, 0x4, 1, .rw, fun _ => 7, none⟩,
  ⟨Reg.PLUMB.TRIG_CFG.TEMP_EN, 0x4, 1, .rw, fun _ => 1, none⟩,
  ⟨Reg.PLUMB.TRIG_CFG.INTERVAL_EN, 0x4, 1, .rw, fun _ => 1, none⟩,
  ⟨Reg.PLUMB.CAL_DT.DT, 0x4, 1, .rw, fun _ => 30, some (5, 255)⟩,
  ⟨Reg.PLUMB.CAL_MAX_INTERVAL.S, 0x4, 1, .rw, fun _ => 600, some (10, 65535)⟩,
  ⟨Reg.PLUMB.PROBE_CFG.PORT, 0x4, 1, .rw, fun _ => 511, none⟩,
  ⟨Reg.PLUMB.PROBE_CFG.MIN_DBM, 0x4, 1, .rw, fun _ => 246, none⟩,
  ⟨Reg.PLUMB.SWEEP_SLOTS.PROBE_SLOT, 0x4, 1, .rw, fun _ => 0, none⟩,
  ⟨Reg.PLUMB.SWEEP_SLOTS.BASE_SLOT, 0x4, 1, .rw, fun _ => 0, none⟩,
  ⟨Reg.PLUMB.SWEEP_SLOTS.EN, 0x4, 1, .rw, fun _ => 0, none⟩,
  ⟨Reg.PLUMB.SWEEP_CFG.POINTS, 0x4, 1, .rw, fun _ => 4, some (3, 8)⟩,
  ⟨Reg.PLUMB.SWEEP_CFG.STEP, 0x4, 1, .rw, fun _ => 8, some (1, 64)⟩,
  ⟨Reg.PLUMB.SWEEP_CFG.WINDOW_G, 0x4, 1, .rw, fun _ => 24, none⟩,
  ⟨Reg.PLUMB.LIMITS.MAX_DV, 0x4, 1, .rw, fun _ => 50, none⟩,
  ⟨Reg.PLUMB.LIMITS.MAX_DOFS, 0x4, 1, .rw, fun _ => 64, none⟩,
  ⟨Reg.PLUMB.LIMITS.REJECT_LIMIT, 0x4, 1, .rw, fun _ => 64, none⟩,
  ⟨Reg.PLUMB.MAX_DP.P, 0x4, 1, .rw, fun _ => 20, none⟩,
  ⟨Reg.PLUMB.JOB.COST, 0x4, 1, .rw, fun _ => 512, none⟩,
  ⟨Reg.PLUMB.JOB.PRIORITY, 0x4, 1, .rw, fun _ => 2, none⟩,
  ⟨Reg.PLUMB.BANK_CTRL.HOST_SWAP, 0x4, 1, .wo, fun _ => 0, none⟩,
  ⟨Reg.PLUMB.BANK_CTRL.ABANDON, 0x4, 1, .wo, fun _ => 0, none⟩,
  ⟨Reg.PLUMB.BANK_STATUS.PENDING_READY, 0x4, 1, .ro, fun _ => 0, none⟩,
  ⟨Reg.PLUMB.BANK_STATUS.SWAP_ARMED, 0x4, 1, .ro, fun _ => 0, none⟩,
  ⟨Reg.PLUMB.BANK_STATUS.COPYING, 0x4, 1, .ro, fun _ => 0, none⟩,
  ⟨Reg.PLUMB.BANK_STATUS.HOST_CHECK, 0x4, 1, .ro, fun _ => 0, none⟩,
  ⟨Reg.PLUMB.BANK_STATUS.SWAPS, 0x4, 1, .ro, fun _ => 0, none⟩,
  ⟨Reg.PLUMB.LAST_SWAP.W 0, 0x4, 3, .ro, fun _ => 0, none⟩,
  ⟨Reg.PLUMB.SWEEP_PROGRESS.VISITS, 0x4, 1, .ro, fun _ => 0, none⟩,
  ⟨Reg.PLUMB.ATLAS_CTRL.ENABLE, 0x4, 1, .rw, fun _ => 0, none⟩,
  ⟨Reg.PLUMB.ATLAS_CTRL.FREEZE, 0x4, 1, .rw, fun _ => 0, none⟩,
  ⟨Reg.PLUMB.ATLAS_CTRL.VALID, 0x4, 1, .ro, fun _ => 0, none⟩,
  ⟨Reg.PLUMB.ATLAS_BASE_LO.ADDR, 0x4, 1, .rw, fun _ => 0, none⟩,
  ⟨Reg.PLUMB.ATLAS_BASE_HI.ADDR, 0x4, 1, .rw, fun _ => 0, none⟩,
  ⟨Reg.PLUMB.CNT_RUNS.COUNT, 0x4, 1, .ro, fun _ => 0, none⟩,
  ⟨Reg.PLUMB.CNT_MERGED.COUNT, 0x4, 1, .ro, fun _ => 0, none⟩,
  ⟨Reg.PLUMB.CNT_REJECTED.COUNT, 0x4, 1, .ro, fun _ => 0, none⟩,
  ⟨Reg.PLUMB.CNT_WINDOW_IDLE.COUNT, 0x4, 1, .ro, fun _ => 0, none⟩,
  ⟨Reg.PLUMB.CNT_PASSED.COUNT, 0x4, 1, .ro, fun _ => 0, none⟩,
  ⟨Reg.PLUMB.CNT_CLEAR.CLEAR, 0x4, 1, .wo, fun _ => 0, none⟩,
  ⟨Reg.PLUMB.ZONE_T_LAST.TEMP 0, 0x4, 64, .ro, fun _ => 0, none⟩]

/-- The register table of RING. -/
def rowsRing : List FRow := [
  ⟨Reg.RING.PORT_CFG.AN_EN 0, 0x4, 1, .rw, fun _ => 1, none⟩,
  ⟨Reg.RING.PORT_CFG.MODE 0, 0x4, 1, .rw, fun _ => 0, none⟩,
  ⟨Reg.RING.PORT_CFG.LT_EN 0, 0x4, 1, .rw, fun _ => 1, none⟩,
  ⟨Reg.RING.PORT_CFG.LANE_SWAP 0, 0x4, 1, .rw, fun _ => 0, none⟩,
  ⟨Reg.RING.PORT_CFG.TX_POL 0, 0x4, 1, .rw, fun _ => 0, none⟩,
  ⟨Reg.RING.PORT_CFG.RX_POL 0, 0x4, 1, .rw, fun _ => 0, none⟩,
  ⟨Reg.RING.PORT_STATUS.LINK_UP 0, 0x4, 1, .ro, fun _ => 0, none⟩,
  ⟨Reg.RING.PORT_STATUS.AN_DONE 0, 0x4, 1, .ro, fun _ => 0, none⟩,
  ⟨Reg.RING.PORT_STATUS.LT_DONE 0, 0x4, 1, .ro, fun _ => 0, none⟩,
  ⟨Reg.RING.PORT_STATUS.FEC_LOCK 0, 0x4, 1, .ro, fun _ => 0, none⟩,
  ⟨Reg.RING.PORT_STATUS.SIGNAL 0, 0x4, 1, .ro, fun _ => 0, none⟩,
  ⟨Reg.RING.PORT_STATUS.TRANSIT_FILL 0, 0x4, 1, .ro, fun _ => 0, none⟩,
  ⟨Reg.RING.TAG_CFG.ETHERTYPE 0, 0x4, 1, .rw, fun _ => 34997, none⟩,
  ⟨Reg.RING.TAG_CFG.RING_ID 0, 0x4, 1, .rw, fun _ => 0, none⟩,
  ⟨Reg.RING.STATION_LO.ADDR 0, 0x4, 1, .rw, fun _ => 0, none⟩,
  ⟨Reg.RING.STATION_HI.ADDR 0, 0x4, 1, .rw, fun _ => 0, none⟩,
  ⟨Reg.RING.FRAME_CFG.HOP_LIMIT 0, 0x4, 1, .rw, fun _ => 80, none⟩,
  ⟨Reg.RING.FRAME_CFG.LOCAL_MAX 0, 0x4, 1, .rw, fun _ => 2048, some (64, 9216)⟩,
  ⟨Reg.RING.PASS_LAT.MAX_NS 0, 0x4, 1, .ro, fun _ => 0, none⟩,
  ⟨Reg.RING.GROUP_LO.ADDR 0 0, 0x8, 8, .rw, fun _ => 0, none⟩,
  ⟨Reg.RING.GROUP_HI.ADDR 0 0, 0x8, 8, .rw, fun _ => 0, none⟩,
  ⟨Reg.RING.GROUP_HI.VALID 0 0, 0x8, 8, .rw, fun _ => 0, none⟩,
  ⟨Reg.RING.TX_FFE.PRE 0 0, 0x4, 2, .rw, fun _ => 0, none⟩,
  ⟨Reg.RING.TX_FFE.MAIN 0 0, 0x4, 2, .rw, fun _ => 48, none⟩,
  ⟨Reg.RING.TX_FFE.POST 0 0, 0x4, 2, .rw, fun _ => 0, none⟩,
  ⟨Reg.RING.RX_EQ.CTLE 0 0, 0x4, 2, .ro, fun _ => 0, none⟩,
  ⟨Reg.RING.RX_EQ.SNR 0 0, 0x4, 2, .ro, fun _ => 0, none⟩,
  ⟨Reg.RING.CNT_RX_FRAMES.COUNT 0, 0x4, 1, .ro, fun _ => 0, none⟩,
  ⟨Reg.RING.CNT_TX_FRAMES.COUNT 0, 0x4, 1, .ro, fun _ => 0, none⟩,
  ⟨Reg.RING.CNT_PASSED.COUNT 0, 0x4, 1, .ro, fun _ => 0, none⟩,
  ⟨Reg.RING.CNT_LOCAL_RX.COUNT 0, 0x4, 1, .ro, fun _ => 0, none⟩,
  ⟨Reg.RING.CNT_UNTAGGED.COUNT 0, 0x4, 1, .ro, fun _ => 0, none⟩,
  ⟨Reg.RING.CNT_FOREIGN_RING.COUNT 0, 0x4, 1, .ro, fun _ => 0, none⟩,
  ⟨Reg.RING.CNT_HOP_DROP.COUNT 0, 0x4, 1, .ro, fun _ => 0, none⟩,
  ⟨Reg.RING.CNT_STRIPPED.COUNT 0, 0x4, 1, .ro, fun _ => 0, none⟩,
  ⟨Reg.RING.CNT_FCS_ERR.COUNT 0, 0x4, 1, .ro, fun _ => 0, none⟩,
  ⟨Reg.RING.CNT_STOMPED_RX.COUNT 0, 0x4, 1, .ro, fun _ => 0, none⟩,
  ⟨Reg.RING.CNT_OVERSIZE.COUNT 0, 0x4, 1, .ro, fun _ => 0, none⟩,
  ⟨Reg.RING.CNT_FEC_CORR.COUNT 0, 0x4, 1, .ro, fun _ => 0, none⟩,
  ⟨Reg.RING.CNT_FEC_UNCORR.COUNT 0, 0x4, 1, .ro, fun _ => 0, none⟩,
  ⟨Reg.RING.CNT_TRANSIT_DROP.COUNT 0, 0x4, 1, .ro, fun _ => 0, none⟩,
  ⟨Reg.RING.CNT_LOCAL_OVERSIZE.COUNT 0, 0x4, 1, .ro, fun _ => 0, none⟩,
  ⟨Reg.RING.CNT_PAUSE_DROP.COUNT 0, 0x4, 1, .ro, fun _ => 0, none⟩,
  ⟨Reg.RING.CNT_LINK_DOWN.COUNT 0, 0x4, 1, .ro, fun _ => 0, none⟩,
  ⟨Reg.RING.CNT_CLEAR.CLEAR 0, 0x4, 1, .wo, fun _ => 0, none⟩]

/-- The register table of PATH. -/
def rowsPath : List FRow := [
  ⟨Reg.PATH.PATH_CFG.MODE, 0x4, 1, .rw, fun _ => 0, none⟩,
  ⟨Reg.PATH.PATH_CFG.RING_CLASS, 0x4, 1, .rw, fun _ => 0, none⟩,
  ⟨Reg.PATH.PATH_CFG.PRIMARY, 0x4, 1, .rw, fun _ => 0, none⟩,
  ⟨Reg.PATH.PATH_CTRL.TAKEOVER, 0x4, 1, .wo, fun _ => 0, none⟩,
  ⟨Reg.PATH.PATH_STATUS.ACTIVE, 0x4, 1, .ro, fun _ => 0, none⟩,
  ⟨Reg.PATH.PATH_STATUS.DEGRADED, 0x4, 1, .ro, fun _ => 0, none⟩,
  ⟨Reg.PATH.PATH_STATUS.ENGINE_STATE_A, 0x4, 1, .ro, fun _ => 0, none⟩,
  ⟨Reg.PATH.PATH_STATUS.ENGINE_STATE_B, 0x4, 1, .ro, fun _ => 0, none⟩,
  ⟨Reg.PATH.PATH_STATUS.ELIGIBLE, 0x4, 1, .ro, fun _ => 0, none⟩,
  ⟨Reg.PATH.CONTROL_EPOCH.EPOCH, 0x4, 1, .ro, fun _ => 0, none⟩,
  ⟨Reg.PATH.REVERT_HOLD.MS, 0x4, 1, .rw, fun _ => 100, none⟩,
  ⟨Reg.PATH.DIAG_EN.CHECKS, 0x4, 1, .rw, fun _ => 127, none⟩,
  ⟨Reg.PATH.DIAG_WINDOW.US, 0x4, 1, .rw, fun _ => 1000, some (100, 65535)⟩,
  ⟨Reg.PATH.DIAG_LIMITS.LINK_HOLD, 0x4, 1, .rw, fun _ => 5, none⟩,
  ⟨Reg.PATH.DIAG_LIMITS.FEC_LIMIT, 0x4, 1, .rw, fun _ => 4, some (1, 255)⟩,
  ⟨Reg.PATH.DIAG_LIMITS.FCS_LIMIT, 0x4, 1, .rw, fun _ => 16, some (1, 255)⟩,
  ⟨Reg.PATH.DIAG_LIMITS.GAP_LIMIT, 0x4, 1, .rw, fun _ => 8, some (1, 255)⟩,
  ⟨Reg.PATH.TRIP.CHECKS 0, 0x4, 2, .w1c, fun _ => 0, none⟩,
  ⟨Reg.PATH.HEALTHY_MS.MS 0, 0x4, 2, .ro, fun _ => 0, none⟩,
  ⟨Reg.PATH.CONTROLLER_LO.ADDR, 0x4, 1, .rw, fun _ => 0, none⟩,
  ⟨Reg.PATH.CONTROLLER_HI.ADDR, 0x4, 1, .rw, fun _ => 0, none⟩,
  ⟨Reg.PATH.LAST_TAKEOVER.W 0, 0x4, 3, .ro, fun _ => 0, none⟩,
  ⟨Reg.PATH.LAST_REASON.REASON, 0x4, 1, .ro, fun _ => 0, none⟩,
  ⟨Reg.PATH.CNT_TAKEOVER.COUNT, 0x4, 1, .ro, fun _ => 0, none⟩,
  ⟨Reg.PATH.CNT_REVERT.COUNT, 0x4, 1, .ro, fun _ => 0, none⟩,
  ⟨Reg.PATH.CNT_MISMATCH.COUNT, 0x4, 1, .ro, fun _ => 0, none⟩,
  ⟨Reg.PATH.CNT_DUP_DISCARD.COUNT, 0x4, 1, .ro, fun _ => 0, none⟩,
  ⟨Reg.PATH.CNT_STALE_EPOCH.COUNT, 0x4, 1, .ro, fun _ => 0, none⟩,
  ⟨Reg.PATH.CNT_STANDBY_IGNORED.COUNT, 0x4, 1, .ro, fun _ => 0, none⟩,
  ⟨Reg.PATH.CNT_COPY.COUNT, 0x4, 1, .ro, fun _ => 0, none⟩,
  ⟨Reg.PATH.CNT_COPY_FAIL.COUNT, 0x4, 1, .ro, fun _ => 0, none⟩,
  ⟨Reg.PATH.CNT_DIGEST_MISMATCH.COUNT, 0x4, 1, .ro, fun _ => 0, none⟩,
  ⟨Reg.PATH.CNT_OLD_SEQ.COUNT, 0x4, 1, .ro, fun _ => 0, none⟩,
  ⟨Reg.PATH.CNT_SRC_FULL.COUNT, 0x4, 1, .ro, fun _ => 0, none⟩,
  ⟨Reg.PATH.CNT_NOTICE_RX.COUNT, 0x4, 1, .ro, fun _ => 0, none⟩,
  ⟨Reg.PATH.CNT_CLEAR.CLEAR, 0x4, 1, .wo, fun _ => 0, none⟩]

/-- The register table of NODE. -/
def rowsNode : List FRow := [
  ⟨Reg.NODE.SEL.OFFSET 0, 0x4, 1, .rws, fun _ => 0, none⟩,
  ⟨Reg.NODE.SEL.WIDTH 0, 0x4, 1, .rws, fun _ => 0, none⟩,
  ⟨Reg.NODE.SEL.SLOT 0, 0x4, 1, .rws, fun _ => 15, none⟩,
  ⟨Reg.NODE.SEL_MASK.MASK 0, 0x4, 1, .rws, fun _ => 0, none⟩,
  ⟨Reg.NODE.ADV.MODE 0, 0x4, 1, .rws, fun _ => 0, none⟩,
  ⟨Reg.NODE.ADV.CONST 0, 0x4, 1, .rws, fun _ => 0, none⟩,
  ⟨Reg.NODE.ADV.SCALE 0, 0x4, 1, .rws, fun _ => 0, none⟩,
  ⟨Reg.NODE.ADV.MIN 0, 0x4, 1, .rws, fun _ => 0, none⟩,
  ⟨Reg.NODE.ADV_FIELD.OFFSET 0, 0x4, 1, .rws, fun _ => 0, none⟩,
  ⟨Reg.NODE.ADV_FIELD.WIDTH 0, 0x4, 1, .rws, fun _ => 0, none⟩,
  ⟨Reg.NODE.ADV_FIELD.MASK 0, 0x4, 1, .rws, fun _ => 0, none⟩,
  ⟨Reg.NODE.LEN.EN 0, 0x4, 1, .rws, fun _ => 0, none⟩,
  ⟨Reg.NODE.LEN.EXACT 0, 0x4, 1, .rws, fun _ => 0, none⟩,
  ⟨Reg.NODE.LEN.OFFSET 0, 0x4, 1, .rws, fun _ => 0, none⟩,
  ⟨Reg.NODE.LEN.SCALE 0, 0x4, 1, .rws, fun _ => 1, none⟩,
  ⟨Reg.NODE.LEN.CONST 0, 0x4, 1, .rws, fun _ => 0, none⟩,
  ⟨Reg.NODE.LEN_MASK.MASK 0, 0x4, 1, .rws, fun _ => 65535, none⟩,
  ⟨Reg.NODE.EXT.EN 0, 0x4, 1, .rws, fun _ => 0, none⟩,
  ⟨Reg.NODE.EXT.SLOT 0, 0x4, 1, .rws, fun _ => 0, none⟩,
  ⟨Reg.NODE.EXT.OFFSET 0, 0x4, 1, .rws, fun _ => 0, none⟩,
  ⟨Reg.NODE.EXT.LEN 0, 0x4, 1, .rws, fun _ => 1, some (1, 16)⟩,
  ⟨Reg.NODE.DEFAULT.NEXT 0, 0x4, 1, .rws, fun _ => 63, none⟩,
  ⟨Reg.NODE.TRANS_VAL.VALUE 0 0, 0x8, 8, .rws, fun _ => 0, none⟩,
  ⟨Reg.NODE.TRANS_NEXT.NEXT 0 0, 0x8, 8, .rws, fun _ => 63, none⟩,
  ⟨Reg.NODE.TRANS_NEXT.VALID 0 0, 0x8, 8, .rws, fun _ => 0, none⟩,
  ⟨Reg.NODE.NODE_CTRL.VALID 0, 0x4, 1, .rw, fun _ => 0, none⟩]

/-- The register table of RULE. -/
def rowsRule : List FRow := [
  ⟨Reg.RULE.VALUE.BITS 0 0, 0x4, 10, .rws, fun _ => 0, none⟩,
  ⟨Reg.RULE.MASK.BITS 0 0, 0x4, 10, .rws, fun _ => 0, none⟩,
  ⟨Reg.RULE.ACTION.KIND 0, 0x4, 1, .rws, fun _ => 0, none⟩,
  ⟨Reg.RULE.ACTION.MIRROR 0, 0x4, 1, .rws, fun _ => 0, none⟩,
  ⟨Reg.RULE.ACTION.COUNT 0, 0x4, 1, .rws, fun _ => 0, none⟩,
  ⟨Reg.RULE.ACTION.AUTH 0, 0x4, 1, .rws, fun _ => 0, none⟩,
  ⟨Reg.RULE.ACTION.CLASS 0, 0x4, 1, .rws, fun _ => 0, none⟩,
  ⟨Reg.RULE.ACTION.PUNT_REASON 0, 0x4, 1, .rws, fun _ => 0, none⟩,
  ⟨Reg.RULE.ACTION.RECIRC_NODE 0, 0x4, 1, .rws, fun _ => 0, none⟩,
  ⟨Reg.RULE.HITS_LO.COUNT 0, 0x4, 1, .ro, fun _ => 0, none⟩,
  ⟨Reg.RULE.HITS_HI.COUNT 0, 0x4, 1, .ro, fun _ => 0, none⟩,
  ⟨Reg.RULE.HITS_CLR.CLEAR 0, 0x4, 1, .wo, fun _ => 0, none⟩,
  ⟨Reg.RULE.CONTROL.VALID 0, 0x4, 1, .rw, fun _ => 0, none⟩]

/-- The register table of PARSER. -/
def rowsParser : List FRow := [
  ⟨Reg.PARSER.PARSE_CFG.START_NODE, 0x4, 1, .rw, fun _ => 0, none⟩,
  ⟨Reg.PARSER.PARSE_CFG.RECIRC_GEN_CHECK, 0x4, 1, .rw, fun _ => 1, none⟩,
  ⟨Reg.PARSER.PARSE_CFG.EXEC_EN, 0x4, 1, .rw, fun _ => 255, none⟩,
  ⟨Reg.PARSER.RULE_GEN.GEN, 0x4, 1, .rw, fun _ => 0, none⟩,
  ⟨Reg.PARSER.PORT_DEFAULT.ACTION 0, 0x4, 2, .rw, fun _ => 0, none⟩,
  ⟨Reg.PARSER.IN_STATUS.FILL_A, 0x4, 1, .ro, fun _ => 0, none⟩,
  ⟨Reg.PARSER.IN_STATUS.FILL_B, 0x4, 1, .ro, fun _ => 0, none⟩,
  ⟨Reg.PARSER.EXEC_STATUS.IN_FLIGHT, 0x4, 1, .ro, fun _ => 0, none⟩,
  ⟨Reg.PARSER.EXEC_STATUS.WAITING, 0x4, 1, .ro, fun _ => 0, none⟩,
  ⟨Reg.PARSER.EXEC_STATUS.BUSY, 0x4, 1, .ro, fun _ => 0, none⟩,
  ⟨Reg.PARSER.LAST_DEFAULT.REASON, 0x4, 1, .ro, fun _ => 0, none⟩,
  ⟨Reg.PARSER.LAST_DEFAULT.PORT, 0x4, 1, .ro, fun _ => 0, none⟩,
  ⟨Reg.PARSER.LAST_DEFAULT.PASS, 0x4, 1, .ro, fun _ => 0, none⟩,
  ⟨Reg.PARSER.LAST_DEFAULT.NODE, 0x4, 1, .ro, fun _ => 0, none⟩,
  ⟨Reg.PARSER.LAST_TIMEOUT.EXEC, 0x4, 1, .ro, fun _ => 0, none⟩,
  ⟨Reg.PARSER.LAST_TIMEOUT.ENTRY, 0x4, 1, .ro, fun _ => 0, none⟩,
  ⟨Reg.PARSER.CNT_LOCAL_A.COUNT, 0x4, 1, .ro, fun _ => 0, none⟩,
  ⟨Reg.PARSER.CNT_LOCAL_B.COUNT, 0x4, 1, .ro, fun _ => 0, none⟩,
  ⟨Reg.PARSER.CNT_EXEC.COUNT, 0x4, 1, .ro, fun _ => 0, none⟩,
  ⟨Reg.PARSER.CNT_PTP.COUNT, 0x4, 1, .ro, fun _ => 0, none⟩,
  ⟨Reg.PARSER.CNT_FORWARD.COUNT, 0x4, 1, .ro, fun _ => 0, none⟩,
  ⟨Reg.PARSER.CNT_PUNT.COUNT, 0x4, 1, .ro, fun _ => 0, none⟩,
  ⟨Reg.PARSER.CNT_MIRROR.COUNT, 0x4, 1, .ro, fun _ => 0, none⟩,
  ⟨Reg.PARSER.CNT_DROP.COUNT, 0x4, 1, .ro, fun _ => 0, none⟩,
  ⟨Reg.PARSER.CNT_RECIRC.COUNT, 0x4, 1, .ro, fun _ => 0, none⟩,
  ⟨Reg.PARSER.CNT_DEFAULT.COUNT, 0x4, 1, .ro, fun _ => 0, none⟩,
  ⟨Reg.PARSER.CNT_IN_DROP.COUNT, 0x4, 1, .ro, fun _ => 0, none⟩,
  ⟨Reg.PARSER.CNT_DISABLED_DROP.COUNT, 0x4, 1, .ro, fun _ => 0, none⟩,
  ⟨Reg.PARSER.CNT_PUNT_FULL.COUNT, 0x4, 1, .ro, fun _ => 0, none⟩,
  ⟨Reg.PARSER.CNT_EXEC_TIMEOUT.COUNT, 0x4, 1, .ro, fun _ => 0, none⟩,
  ⟨Reg.PARSER.CNT_FORWARD_REFUSED.COUNT, 0x4, 1, .ro, fun _ => 0, none⟩,
  ⟨Reg.PARSER.CNT_REASON.COUNT 0, 0x4, 9, .ro, fun _ => 0, none⟩,
  ⟨Reg.PARSER.CNT_CLEAR.CLEAR, 0x4, 1, .wo, fun _ => 0, none⟩]

/-- The register table of CMD. -/
def rowsCmd : List FRow := [
  ⟨Reg.CMD.CMD_CFG.UDP_PORT, 0x4, 1, .rw, fun _ => 47400, none⟩,
  ⟨Reg.CMD.CMD_CFG.ETHERTYPE, 0x4, 1, .rw, fun _ => 34998, none⟩,
  ⟨Reg.CMD.BATCH_TIMEOUT.US, 0x4, 1, .rw, fun _ => 1000, none⟩,
  ⟨Reg.CMD.REASM_STATUS.IN_USE_A, 0x4, 1, .ro, fun _ => 0, none⟩,
  ⟨Reg.CMD.REASM_STATUS.IN_USE_B, 0x4, 1, .ro, fun _ => 0, none⟩,
  ⟨Reg.CMD.SESSION.KEYED 0, 0x4, 16, .ro, fun _ => 0, none⟩,
  ⟨Reg.CMD.SESSION.REQUIRE_TAG 0, 0x4, 16, .ro, fun _ => 0, none⟩,
  ⟨Reg.CMD.SESSION_SEQ.H 0, 0x4, 16, .ro, fun _ => 0, none⟩,
  ⟨Reg.CMD.SQ_BASE_LO.ADDR 0, 0x20, 8, .rw, fun _ => 0, none⟩,
  ⟨Reg.CMD.SQ_BASE_HI.ADDR 0, 0x20, 8, .rw, fun _ => 0, none⟩,
  ⟨Reg.CMD.CQ_BASE_LO.ADDR 0, 0x20, 8, .rw, fun _ => 0, none⟩,
  ⟨Reg.CMD.CQ_BASE_HI.ADDR 0, 0x20, 8, .rw, fun _ => 0, none⟩,
  ⟨Reg.CMD.Q_CFG.ENABLE 0, 0x20, 8, .rw, fun _ => 0, none⟩,
  ⟨Reg.CMD.Q_CFG.LOCATION 0, 0x20, 8, .rw, fun _ => 0, none⟩,
  ⟨Reg.CMD.Q_CFG.SQ_LOG2 0, 0x20, 8, .rw, fun _ => 6, some (4, 15)⟩,
  ⟨Reg.CMD.Q_CFG.CQ_LOG2 0, 0x20, 8, .rw, fun _ => 6, some (4, 15)⟩,
  ⟨Reg.CMD.Q_CFG.VECTOR 0, 0x20, 8, .rw, fun i => i % 16, none⟩,
  ⟨Reg.CMD.Q_CFG.CLASS 0, 0x20, 8, .rw, fun _ => 0, none⟩,
  ⟨Reg.CMD.Q_STATUS.SQ_HEAD 0, 0x20, 8, .ro, fun _ => 0, none⟩,
  ⟨Reg.CMD.Q_STATUS.CQ_TAIL 0, 0x20, 8, .ro, fun _ => 0, none⟩,
  ⟨Reg.CMD.EQ_BASE_LO.ADDR, 0x4, 1, .rw, fun _ => 0, none⟩,
  ⟨Reg.CMD.EQ_BASE_HI.ADDR, 0x4, 1, .rw, fun _ => 0, none⟩,
  ⟨Reg.CMD.EQ_CFG.ENABLE, 0x4, 1, .rw, fun _ => 0, none⟩,
  ⟨Reg.CMD.EQ_CFG.LOCATION, 0x4, 1, .rw, fun _ => 0, none⟩,
  ⟨Reg.CMD.EQ_CFG.LOG2, 0x4, 1, .rw, fun _ => 8, some (4, 15)⟩,
  ⟨Reg.CMD.EQ_CFG.VECTOR, 0x4, 1, .rw, fun _ => 8, none⟩,
  ⟨Reg.CMD.EQ_STATUS.TAIL, 0x4, 1, .ro, fun _ => 0, none⟩,
  ⟨Reg.CMD.PQ_BASE_LO.ADDR, 0x4, 1, .rw, fun _ => 0, none⟩,
  ⟨Reg.CMD.PQ_BASE_HI.ADDR, 0x4, 1, .rw, fun _ => 0, none⟩,
  ⟨Reg.CMD.PQ_BUF_LO.ADDR, 0x4, 1, .rw, fun _ => 0, none⟩,
  ⟨Reg.CMD.PQ_BUF_HI.ADDR, 0x4, 1, .rw, fun _ => 0, none⟩,
  ⟨Reg.CMD.PQ_CFG.ENABLE, 0x4, 1, .rw, fun _ => 0, none⟩,
  ⟨Reg.CMD.PQ_CFG.LOCATION, 0x4, 1, .rw, fun _ => 0, none⟩,
  ⟨Reg.CMD.PQ_CFG.LOG2, 0x4, 1, .rw, fun _ => 8, some (4, 15)⟩,
  ⟨Reg.CMD.PQ_CFG.BUF_SIZE, 0x4, 1, .rw, fun _ => 8, some (1, 36)⟩,
  ⟨Reg.CMD.PQ_CFG.VECTOR, 0x4, 1, .rw, fun _ => 9, none⟩,
  ⟨Reg.CMD.PQ_STATUS.TAIL, 0x4, 1, .ro, fun _ => 0, none⟩,
  ⟨Reg.CMD.CNT_BATCHES.COUNT, 0x4, 1, .ro, fun _ => 0, none⟩,
  ⟨Reg.CMD.CNT_REFUSED.COUNT, 0x4, 1, .ro, fun _ => 0, none⟩,
  ⟨Reg.CMD.CNT_AUTH_FAIL.COUNT, 0x4, 1, .ro, fun _ => 0, none⟩,
  ⟨Reg.CMD.CNT_SEQ.COUNT, 0x4, 1, .ro, fun _ => 0, none⟩,
  ⟨Reg.CMD.CNT_ALREADY.COUNT, 0x4, 1, .ro, fun _ => 0, none⟩,
  ⟨Reg.CMD.CNT_BATCH_TIMEOUT.COUNT, 0x4, 1, .ro, fun _ => 0, none⟩,
  ⟨Reg.CMD.CNT_LATE_FRAG.COUNT, 0x4, 1, .ro, fun _ => 0, none⟩,
  ⟨Reg.CMD.CNT_DUP_FRAG.COUNT, 0x4, 1, .ro, fun _ => 0, none⟩,
  ⟨Reg.CMD.CNT_REASM_FULL.COUNT, 0x4, 1, .ro, fun _ => 0, none⟩,
  ⟨Reg.CMD.CNT_EQ_OVERFLOW.COUNT, 0x4, 1, .ro, fun _ => 0, none⟩,
  ⟨Reg.CMD.CNT_HALT_DROP.COUNT, 0x4, 1, .ro, fun _ => 0, none⟩,
  ⟨Reg.CMD.CNT_CLEAR.CLEAR, 0x4, 1, .wo, fun _ => 0, none⟩]

/-- The register table of SUMP. -/
def rowsSump : List FRow := [
  ⟨Reg.SUMP.SUMP_STATUS.OPEN, 0x4, 1, .ro, fun _ => 0, none⟩,
  ⟨Reg.SUMP.SUMP_STATUS.REACTION, 0x4, 1, .ro, fun _ => 0, none⟩,
  ⟨Reg.SUMP.SUMP_STATUS.BLANKED, 0x4, 1, .ro, fun _ => 0, none⟩,
  ⟨Reg.SUMP.SUMP_STATUS.QUAR_PENDING, 0x4, 1, .ro, fun _ => 0, none⟩,
  ⟨Reg.SUMP.NEXT_RECORD.ID, 0x4, 1, .ro, fun _ => 1, none⟩,
  ⟨Reg.SUMP.ACK.RECORD, 0x4, 1, .wo, fun _ => 0, none⟩,
  ⟨Reg.SUMP.SAFE_CTRL.EXIT, 0x4, 1, .wo, fun _ => 0, none⟩,
  ⟨Reg.SUMP.INJECT_DATA.DATA, 0x4, 1, .rw, fun _ => 0, none⟩,
  ⟨Reg.SUMP.INJECT.SOURCE, 0x4, 1, .wo, fun _ => 0, none⟩,
  ⟨Reg.SUMP.INJECT.GO, 0x4, 1, .wo, fun _ => 0, none⟩,
  ⟨Reg.SUMP.LOG_BASE_LO.ADDR, 0x4, 1, .rw, fun _ => 0, none⟩,
  ⟨Reg.SUMP.LOG_BASE_HI.ADDR, 0x4, 1, .rw, fun _ => 0, none⟩,
  ⟨Reg.SUMP.LOG_CFG.ENABLE, 0x4, 1, .rw, fun _ => 0, none⟩,
  ⟨Reg.SUMP.LOG_CFG.SIZE_LOG2, 0x4, 1, .rw, fun _ => 12, some (12, 30)⟩,
  ⟨Reg.SUMP.LOG_WR_PTR.PTR, 0x4, 1, .ro, fun _ => 0, none⟩,
  ⟨Reg.SUMP.SAFE_LAST.LATENCY_NS, 0x4, 1, .ro, fun _ => 0, none⟩,
  ⟨Reg.SUMP.SAFE_LAST.SOURCE, 0x4, 1, .ro, fun _ => 0, none⟩,
  ⟨Reg.SUMP.CNT_RECORDS.COUNT, 0x4, 1, .ro, fun _ => 0, none⟩,
  ⟨Reg.SUMP.CNT_MERGES.COUNT, 0x4, 1, .ro, fun _ => 0, none⟩,
  ⟨Reg.SUMP.CNT_SAFE.COUNT, 0x4, 1, .ro, fun _ => 0, none⟩,
  ⟨Reg.SUMP.CNT_HALT.COUNT, 0x4, 1, .ro, fun _ => 0, none⟩,
  ⟨Reg.SUMP.CNT_QUAR.COUNT, 0x4, 1, .ro, fun _ => 0, none⟩,
  ⟨Reg.SUMP.CNT_BLANK.COUNT, 0x4, 1, .ro, fun _ => 0, none⟩,
  ⟨Reg.SUMP.CNT_CLEAR.CLEAR, 0x4, 1, .wo, fun _ => 0, none⟩,
  ⟨Reg.SUMP.QUAR_LIST.EID 0, 0x4, 64, .ro, fun _ => 0, none⟩,
  ⟨Reg.SUMP.QUAR_LIST.VALID 0, 0x4, 64, .ro, fun _ => 0, none⟩,
  ⟨Reg.SUMP.OPEN_RECORD.W 0, 0x4, 32, .ro, fun _ => 0, none⟩,
  ⟨Reg.SUMP.HISTORY.W 0, 0x4, 256, .ro, fun _ => 0, none⟩,
  ⟨Reg.SUMP.RESET_CAUSE.W 0, 0x4, 32, .ro, fun _ => 0, none⟩]

/-- The register table of SRC. -/
def rowsSrc : List FRow := [
  ⟨Reg.SRC.SRC_CFG.N 0, 0x4, 1, .rwl, srcN, none⟩,
  ⟨Reg.SRC.SRC_CFG.MINOR 0, 0x4, 1, .rwl, srcMinor, none⟩,
  ⟨Reg.SRC.SRC_CFG.SEVERE 0, 0x4, 1, .rwl, srcSevere, none⟩,
  ⟨Reg.SRC.SRC_CFG.HALT_SCOPE 0, 0x4, 1, .rwl, fun _ => 15, none⟩,
  ⟨Reg.SRC.SRC_CFG.MASK 0, 0x4, 1, .rwl, fun _ => 0, none⟩,
  ⟨Reg.SRC.SRC_WINDOW.US 0, 0x4, 1, .rwl, srcWindow, some (0, 10000000)⟩,
  ⟨Reg.SRC.SRC_STATE.CNT 0, 0x4, 1, .ro, fun _ => 0, none⟩,
  ⟨Reg.SRC.SRC_STATE.SEVERE 0, 0x4, 1, .ro, fun _ => 0, none⟩,
  ⟨Reg.SRC.SRC_TOTAL.COUNT 0, 0x4, 1, .ro, fun _ => 0, none⟩]

/-- The register table of POWER. -/
def rowsPower : List FRow := [
  ⟨Reg.POWER.RAIL_STATUS.IN_TOL, 0x4, 1, .ro, fun _ => 2047, none⟩,
  ⟨Reg.POWER.RAIL_STICKY.LEFT, 0x4, 1, .w1c, fun _ => 0, none⟩,
  ⟨Reg.POWER.SEQ_STATUS.ORDER_OK, 0x4, 1, .ro, fun _ => 1, none⟩,
  ⟨Reg.POWER.SEQ_STATUS.FIRST_WRONG, 0x4, 1, .ro, fun _ => 0, none⟩,
  ⟨Reg.POWER.DOMAIN_ON.ON 0, 0x4, 7, .ro, fun _ => 0, none⟩,
  ⟨Reg.POWER.CNT_PWR_REFUSED.COUNT, 0x4, 1, .ro, fun _ => 0, none⟩,
  ⟨Reg.POWER.CNT_OFF_ACCESS.COUNT, 0x4, 1, .ro, fun _ => 0, none⟩,
  ⟨Reg.POWER.CNT_RAIL.COUNT, 0x4, 1, .ro, fun _ => 0, none⟩,
  ⟨Reg.POWER.CNT_CLEAR.CLEAR, 0x4, 1, .wo, fun _ => 0, none⟩]

/-- The register table of BOOT. -/
def rowsBoot : List FRow := [
  ⟨Reg.BOOT.BOOT_STATUS.PHASE, 0x4, 1, .ro, fun _ => 0, none⟩,
  ⟨Reg.BOOT.BOOT_STATUS.BOOTMODE, 0x4, 1, .ro, fun _ => 0, none⟩,
  ⟨Reg.BOOT.BOOT_STATUS.SDRAM_TRAINED, 0x4, 1, .ro, fun _ => 0, none⟩,
  ⟨Reg.BOOT.BOOT_STATUS.WAIT, 0x4, 1, .ro, fun _ => 0, none⟩,
  ⟨Reg.BOOT.BOOT_TIME.US, 0x4, 1, .ro, fun _ => 0, none⟩,
  ⟨Reg.BOOT.SELFTEST_FAIL.BLOCKS, 0x4, 1, .ro, fun _ => 0, none⟩,
  ⟨Reg.BOOT.BOOT_CTRL.CONTINUE, 0x4, 1, .wo, fun _ => 0, none⟩,
  ⟨Reg.BOOT.COMMIT_CRC.CRC, 0x4, 1, .rw, fun _ => 0, none⟩,
  ⟨Reg.BOOT.COMMIT.GO, 0x4, 1, .wo, fun _ => 0, none⟩,
  ⟨Reg.BOOT.CHECK_STATUS.BUSY, 0x4, 1, .ro, fun _ => 0, none⟩,
  ⟨Reg.BOOT.CHECK_STATUS.RESULT, 0x4, 1, .ro, fun _ => 0, none⟩,
  ⟨Reg.BOOT.CHECK_STATUS.FIRST_REASON, 0x4, 1, .ro, fun _ => 0, none⟩,
  ⟨Reg.BOOT.CHECK_STATUS.DETAIL, 0x4, 1, .ro, fun _ => 0, none⟩,
  ⟨Reg.BOOT.CHECK_REASONS.REASONS, 0x4, 1, .ro, fun _ => 0, none⟩,
  ⟨Reg.BOOT.ARMED_INFO.HOST_CAL, 0x4, 1, .ro, fun _ => 0, none⟩,
  ⟨Reg.BOOT.ARMED_INFO.COMMITS, 0x4, 1, .ro, fun _ => 0, none⟩,
  ⟨Reg.BOOT.CNT_REFUSED.COUNT, 0x4, 1, .ro, fun _ => 0, none⟩,
  ⟨Reg.BOOT.CNT_CLEAR.CLEAR, 0x4, 1, .wo, fun _ => 0, none⟩,
  ⟨Reg.BOOT.RECORD.W 0, 0x4, 256, .rw, fun _ => 0, none⟩]

/-- The register table of SMBUS. -/
def rowsSmbus : List FRow := [
  ⟨Reg.SMBUS.CFG.ADDR, 0x4, 1, .rw, fun _ => 76, none⟩,
  ⟨Reg.SMBUS.CFG.ARP_EN, 0x4, 1, .rw, fun _ => 1, none⟩,
  ⟨Reg.SMBUS.CFG.PEC_REQ, 0x4, 1, .rw, fun _ => 0, none⟩,
  ⟨Reg.SMBUS.CNT_CMDS.COUNT, 0x4, 1, .ro, fun _ => 0, none⟩,
  ⟨Reg.SMBUS.CNT_PEC_FAIL.COUNT, 0x4, 1, .ro, fun _ => 0, none⟩,
  ⟨Reg.SMBUS.CNT_TIMEOUT.COUNT, 0x4, 1, .ro, fun _ => 0, none⟩,
  ⟨Reg.SMBUS.CNT_CLEAR.CLEAR, 0x4, 1, .wo, fun _ => 0, none⟩]

/-- The register table of DEVICE. -/
def rowsDevice : List FRow := [
  ⟨Reg.DEVICE.PART.NUMBER, 0x4, 1, .ro, fun _ => 20770, none⟩,
  ⟨Reg.DEVICE.PART.ES, 0x4, 1, .ro, fun _ => 0, none⟩,
  ⟨Reg.DEVICE.PART.STEPPING, 0x4, 1, .ro, fun _ => 0, none⟩,
  ⟨Reg.DEVICE.UNIT_ID_LO.ID, 0x4, 1, .ro, fun _ => 0, none⟩,
  ⟨Reg.DEVICE.UNIT_ID_HI.ID, 0x4, 1, .ro, fun _ => 0, none⟩,
  ⟨Reg.DEVICE.STATUS.DEV_STATE, 0x4, 1, .ro, fun _ => 1, none⟩,
  ⟨Reg.DEVICE.STATUS.SDRAM_ONLINE, 0x4, 1, .ro, fun _ => 0, none⟩,
  ⟨Reg.DEVICE.STATUS.PCIE_UP, 0x4, 1, .ro, fun _ => 0, none⟩,
  ⟨Reg.DEVICE.STATUS.READY, 0x4, 1, .ro, fun _ => 0, none⟩,
  ⟨Reg.DEVICE.STATUS.FAULT, 0x4, 1, .ro, fun _ => 0, none⟩,
  ⟨Reg.DEVICE.PEND_SUMMARY.PAGES 0, 0x4, 8, .ro, fun _ => 0, none⟩,
  ⟨Reg.DEVICE.SDRAM_MAP_BASE.MB 0, 0x8, 6, .rw, fun _ => 0, none⟩,
  ⟨Reg.DEVICE.SDRAM_MAP_SIZE.MB 0, 0x8, 6, .rw, fun _ => 0, none⟩,
  ⟨Reg.DEVICE.MAP_STATUS.VALID, 0x4, 1, .ro, fun _ => 0, none⟩,
  ⟨Reg.DEVICE.MAP_STATUS.OVERLAP, 0x4, 1, .ro, fun _ => 0, none⟩,
  ⟨Reg.DEVICE.MAP_STATUS.BEYOND, 0x4, 1, .ro, fun _ => 0, none⟩,
  ⟨Reg.DEVICE.MAP_STATUS.TOTAL_GIB, 0x4, 1, .ro, fun _ => 0, none⟩]

/-- The register table of CLOCK. -/
def rowsClock : List FRow := [
  ⟨Reg.CLOCK.PLL_STATUS.LOCK, 0x4, 1, .ro, fun _ => 0, none⟩,
  ⟨Reg.CLOCK.REF_MON.PPM, 0x4, 1, .ro, fun _ => 0, none⟩,
  ⟨Reg.CLOCK.REF_MON.VALID, 0x4, 1, .ro, fun _ => 0, none⟩,
  ⟨Reg.CLOCK.CNT_LOL.COUNT 0, 0x4, 4, .ro, fun _ => 0, none⟩,
  ⟨Reg.CLOCK.CNT_CLEAR.CLEAR, 0x4, 1, .wo, fun _ => 0, none⟩]

/-- The register table of PCIE. -/
def rowsPcie : List FRow := [
  ⟨Reg.PCIE.LINK_STATUS.SPEED, 0x4, 1, .ro, fun _ => 0, none⟩,
  ⟨Reg.PCIE.LINK_STATUS.WIDTH, 0x4, 1, .ro, fun _ => 0, none⟩,
  ⟨Reg.PCIE.LINK_STATUS.DL_UP, 0x4, 1, .ro, fun _ => 0, none⟩,
  ⟨Reg.PCIE.LINK_STATUS.LTSSM, 0x4, 1, .ro, fun _ => 0, none⟩,
  ⟨Reg.PCIE.LINK_CFG.MAX_SPEED, 0x4, 1, .rw, fun _ => 5, some (1, 5)⟩,
  ⟨Reg.PCIE.LINK_CFG.RETRAIN, 0x4, 1, .wo, fun _ => 0, none⟩,
  ⟨Reg.PCIE.IRQ_CFG.FAULT_VECTOR, 0x4, 1, .rw, fun _ => 10, none⟩,
  ⟨Reg.PCIE.IRQ_CFG.FAULT_EN, 0x4, 1, .rw, fun _ => 1, none⟩,
  ⟨Reg.PCIE.IRQ_CFG.INTN_EN, 0x4, 1, .rw, fun _ => 0, none⟩,
  ⟨Reg.PCIE.IRQ_CFG.INTN_SRC, 0x4, 1, .rw, fun _ => 0, none⟩,
  ⟨Reg.PCIE.CNT_LINK_DOWN.COUNT, 0x4, 1, .ro, fun _ => 0, none⟩,
  ⟨Reg.PCIE.CNT_CORR.COUNT, 0x4, 1, .ro, fun _ => 0, none⟩,
  ⟨Reg.PCIE.CNT_UNCORR.COUNT, 0x4, 1, .ro, fun _ => 0, none⟩,
  ⟨Reg.PCIE.CNT_POISONED_RX.COUNT, 0x4, 1, .ro, fun _ => 0, none⟩,
  ⟨Reg.PCIE.CNT_DMA_DISCARD.COUNT, 0x4, 1, .ro, fun _ => 0, none⟩,
  ⟨Reg.PCIE.CNT_BEYOND.COUNT, 0x4, 1, .ro, fun _ => 0, none⟩,
  ⟨Reg.PCIE.CNT_CLEAR.CLEAR, 0x4, 1, .wo, fun _ => 0, none⟩]

/-- The register table of SDRAM. -/
def rowsSdram : List FRow := [
  ⟨Reg.SDRAM.GEOMETRY.RANKS 0, 0x4, 1, .ro, fun _ => 0, none⟩,
  ⟨Reg.SDRAM.GEOMETRY.DENSITY 0, 0x4, 1, .ro, fun _ => 0, none⟩,
  ⟨Reg.SDRAM.GEOMETRY.CAP_GIB 0, 0x4, 1, .ro, fun _ => 0, none⟩,
  ⟨Reg.SDRAM.TRAIN_CTRL.GO 0, 0x4, 1, .wo, fun _ => 0, none⟩,
  ⟨Reg.SDRAM.TRAIN_STATUS.TRAINED 0, 0x4, 1, .ro, fun _ => 0, none⟩,
  ⟨Reg.SDRAM.TRAIN_STATUS.BUSY 0, 0x4, 1, .ro, fun _ => 0, none⟩,
  ⟨Reg.SDRAM.TRAIN_STATUS.FAILED 0, 0x4, 1, .ro, fun _ => 0, none⟩,
  ⟨Reg.SDRAM.TRAIN_STATUS.LANE 0, 0x4, 1, .ro, fun _ => 0, none⟩,
  ⟨Reg.SDRAM.TRAIN_STATUS.TIME_MS 0, 0x4, 1, .ro, fun _ => 0, none⟩,
  ⟨Reg.SDRAM.SCRUB_CFG.ENABLE 0, 0x4, 1, .rw, fun _ => 1, none⟩,
  ⟨Reg.SDRAM.SCRUB_CFG.HOURS 0, 0x4, 1, .rw, fun _ => 24, none⟩,
  ⟨Reg.SDRAM.SCRUB_STATUS.PERMILLE 0, 0x4, 1, .ro, fun _ => 0, none⟩,
  ⟨Reg.SDRAM.SCRUB_STATUS.PASSES 0, 0x4, 1, .ro, fun _ => 0, none⟩,
  ⟨Reg.SDRAM.CNT_CE.COUNT 0, 0x4, 1, .ro, fun _ => 0, none⟩,
  ⟨Reg.SDRAM.CNT_UE.COUNT 0, 0x4, 1, .ro, fun _ => 0, none⟩,
  ⟨Reg.SDRAM.CNT_SCRUB_FIX.COUNT 0, 0x4, 1, .ro, fun _ => 0, none⟩,
  ⟨Reg.SDRAM.LAST_CE_ADDR_LO.ADDR 0, 0x4, 1, .ro, fun _ => 0, none⟩,
  ⟨Reg.SDRAM.LAST_CE_ADDR_HI.ADDR 0, 0x4, 1, .ro, fun _ => 0, none⟩,
  ⟨Reg.SDRAM.LAST_UE_ADDR_LO.ADDR 0, 0x4, 1, .ro, fun _ => 0, none⟩,
  ⟨Reg.SDRAM.LAST_UE_ADDR_HI.ADDR 0, 0x4, 1, .ro, fun _ => 0, none⟩,
  ⟨Reg.SDRAM.RATE.MB_MS 0, 0x4, 1, .ro, fun _ => 0, none⟩,
  ⟨Reg.SDRAM.CNT_CLEAR.CLEAR 0, 0x4, 1, .wo, fun _ => 0, none⟩]

/-- The register table of TEST. -/
def rowsTest : List FRow := [
  ⟨Reg.TEST.TEST_CTRL.TEST, 0x4, 1, .rw, fun _ => 0, none⟩,
  ⟨Reg.TEST.TEST_CTRL.TARGET, 0x4, 1, .rw, fun _ => 0, none⟩,
  ⟨Reg.TEST.TEST_CTRL.STOP, 0x4, 1, .wo, fun _ => 0, none⟩,
  ⟨Reg.TEST.TEST_CTRL.GO, 0x4, 1, .wo, fun _ => 0, none⟩,
  ⟨Reg.TEST.TEST_STATUS.BUSY, 0x4, 1, .ro, fun _ => 0, none⟩,
  ⟨Reg.TEST.TEST_STATUS.RESULT, 0x4, 1, .ro, fun _ => 0, none⟩,
  ⟨Reg.TEST.TEST_STATUS.REASON, 0x4, 1, .ro, fun _ => 0, none⟩,
  ⟨Reg.TEST.LINK_PATTERN.PATTERN, 0x4, 1, .rw, fun _ => 0, none⟩,
  ⟨Reg.TEST.LINK_PATTERN.LOOPBACK, 0x4, 1, .rw, fun _ => 0, none⟩,
  ⟨Reg.TEST.LINK_PATTERN.CHECK_EN, 0x4, 1, .rw, fun _ => 1, none⟩,
  ⟨Reg.TEST.LINK_PATTERN.INJECT, 0x4, 1, .wo, fun _ => 0, none⟩,
  ⟨Reg.TEST.LINK_PATTERN.LOCK, 0x4, 1, .ro, fun _ => 0, none⟩,
  ⟨Reg.TEST.LINK_PATTERN.DURATION_MS, 0x4, 1, .rw, fun _ => 1000, some (1, 65535)⟩,
  ⟨Reg.TEST.LINK_ERR.COUNT 0, 0x4, 2, .ro, fun _ => 0, none⟩,
  ⟨Reg.TEST.SD_START.MB, 0x4, 1, .rw, fun _ => 0, none⟩,
  ⟨Reg.TEST.SD_SIZE.MB, 0x4, 1, .rw, fun _ => 0, none⟩,
  ⟨Reg.TEST.SD_CFG.PATTERN, 0x4, 1, .rw, fun _ => 3, none⟩,
  ⟨Reg.TEST.SD_CFG.ECC_BYPASS, 0x4, 1, .rw, fun _ => 0, none⟩,
  ⟨Reg.TEST.SD_CFG.PASSES, 0x4, 1, .rw, fun _ => 1, none⟩,
  ⟨Reg.TEST.SD_FAIL_ADDR_LO.ADDR, 0x4, 1, .ro, fun _ => 0, none⟩,
  ⟨Reg.TEST.SD_FAIL_ADDR_HI.ADDR, 0x4, 1, .ro, fun _ => 0, none⟩,
  ⟨Reg.TEST.SD_FAIL_INFO.LANE, 0x4, 1, .ro, fun _ => 0, none⟩,
  ⟨Reg.TEST.SD_FAIL_INFO.COUNT, 0x4, 1, .ro, fun _ => 0, none⟩,
  ⟨Reg.TEST.TB_CFG.BUSES, 0x4, 1, .rw, fun _ => 15, none⟩,
  ⟨Reg.TEST.TB_CFG.DURATION_US, 0x4, 1, .rw, fun _ => 1000, some (1, 65535)⟩,
  ⟨Reg.TEST.TB_ERR.COUNT 0, 0x4, 4, .ro, fun _ => 0, none⟩,
  ⟨Reg.TEST.DAC_CFG.POINTS, 0x4, 1, .rw, fun _ => 16, some (2, 31)⟩,
  ⟨Reg.TEST.DAC_RESULT.FAILS, 0x4, 1, .ro, fun _ => 0, none⟩,
  ⟨Reg.TEST.DAC_RESULT.FIRST, 0x4, 1, .ro, fun _ => 0, none⟩,
  ⟨Reg.TEST.TC_CFG.RANGES, 0x4, 1, .rw, fun _ => 15, none⟩,
  ⟨Reg.TEST.TC_CFG.TOL, 0x4, 1, .rw, fun _ => 30, none⟩,
  ⟨Reg.TEST.TC_RESULT.FAILS, 0x4, 1, .ro, fun _ => 0, none⟩,
  ⟨Reg.TEST.TC_RESULT.FIRST_MID, 0x4, 1, .ro, fun _ => 0, none⟩,
  ⟨Reg.TEST.OPT_CFG.PORT, 0x4, 1, .rw, fun _ => 511, none⟩,
  ⟨Reg.TEST.OPT_CFG.LOSS_STAGE, 0x4, 1, .rw, fun _ => 26, none⟩,
  ⟨Reg.TEST.OPT_CFG.TOL, 0x4, 1, .rw, fun _ => 20, none⟩,
  ⟨Reg.TEST.OPT_MIN.DBM, 0x4, 1, .rw, fun _ => 246, none⟩,
  ⟨Reg.TEST.OPT_RESULT.KIND, 0x4, 1, .ro, fun _ => 0, none⟩,
  ⟨Reg.TEST.OPT_RESULT.PLANE, 0x4, 1, .ro, fun _ => 0, none⟩,
  ⟨Reg.TEST.OPT_RESULT.STAGE, 0x4, 1, .ro, fun _ => 0, none⟩,
  ⟨Reg.TEST.OPT_RESULT.MEASURED, 0x4, 1, .ro, fun _ => 0, none⟩,
  ⟨Reg.TEST.CNT_JTAG_REFUSED.COUNT, 0x4, 1, .ro, fun _ => 0, none⟩,
  ⟨Reg.TEST.CNT_CLEAR.CLEAR, 0x4, 1, .wo, fun _ => 0, none⟩]

/-- A page type (R438): its base, the number of its instances at a stride of 0x1000, its block type, its register table, the switched domain of instance 0 (R411; later instances have the following indices), whether PG_CTRL.ENABLE acts and its reset value (R434), whether PG_COMMIT has a function, whether PG_LOCK has one (R436), and the highest event bit plus 1. -/
structure PageInfo where
  base    : Nat
  count   : Nat
  type    : Nat
  rows    : List FRow
  dom     : Option Nat
  enActs  : Bool
  enReset : Nat
  commit  : Bool
  lock    : Bool
  evtBits : Nat

/-- The page types in ascending base order (R437, R438, R123, R149). -/
def pageInfos : List PageInfo := [
  ⟨0x0000, 1, 0x01, rowsDevice, none, false, 0, false, false, 3⟩,
  ⟨0x1000, 1, 0x02, rowsClock, none, false, 0, false, false, 8⟩,
  ⟨0x2000, 1, 0x03, rowsPower, none, false, 0, false, false, 4⟩,
  ⟨0x3000, 1, 0x04, rowsBoot, some 222, false, 0, false, false, 6⟩,
  ⟨0x4000, 1, 0x05, rowsFuse, some 223, false, 0, false, true, 4⟩,
  ⟨0x5000, 1, 0x06, rowsThermal, none, false, 0, false, true, 18⟩,
  ⟨0x6000, 1, 0x07, rowsBudget, none, false, 0, false, false, 9⟩,
  ⟨0x7000, 1, 0x08, rowsSump, none, false, 0, false, true, 8⟩,
  ⟨0x8000, 1, 0x09, rowsTime, some 220, true, 1, false, false, 27⟩,
  ⟨0x9000, 1, 0x0A, rowsGantry, some 218, true, 1, false, false, 23⟩,
  ⟨0xA000, 1, 0x0B, rowsGantryTrig, some 218, false, 0, false, false, 6⟩,
  ⟨0xB000, 1, 0x0C, rowsSeam, some 217, true, 0, false, false, 5⟩,
  ⟨0xC000, 1, 0x0D, rowsPlumb, some 223, true, 1, false, false, 7⟩,
  ⟨0xD000, 1, 0x0E, rowsCapture, some 221, true, 1, false, false, 19⟩,
  ⟨0xE000, 1, 0x0F, rowsCmd, some 219, true, 1, false, false, 7⟩,
  ⟨0xF000, 1, 0x10, rowsParser, some 219, true, 1, false, false, 6⟩,
  ⟨0x10000, 2, 0x11, rowsRing, some 214, true, 1, false, false, 6⟩,
  ⟨0x12000, 1, 0x12, rowsPath, none, true, 1, false, false, 6⟩,
  ⟨0x13000, 1, 0x13, rowsPcie, some 216, true, 1, false, false, 5⟩,
  ⟨0x14000, 4, 0x14, rowsSdram, some 210, true, 1, false, false, 5⟩,
  ⟨0x18000, 1, 0x15, rowsTest, none, true, 1, false, true, 5⟩,
  ⟨0x19000, 1, 0x16, rowsSmbus, none, false, 0, false, false, 0⟩,
  ⟨0x20000, 4, 0x20, rowsBramble, some 206, true, 1, false, false, 6⟩,
  ⟨0x40000, 128, 0x21, rowsDrive, some 0, false, 0, true, false, 8⟩,
  ⟨0xC0000, 78, 0x22, rowsMonitor, some 128, true, 1, false, false, 4⟩]

/-- The page that holds a BAR0 offset. -/
def pageOf (off : Nat) : Option PageInfo :=
  pageInfos.find? fun p => p.base ≤ off && off < p.base + 0x1000 * p.count

/-- The base of the page that holds an offset. -/
def pageBase (off : Nat) : Nat := off / 0x1000 * 0x1000

/-- A table window of BAR0 (R431): its base, its size in bytes, the stride and register table of its entries, and the base of its owning page (R432). -/
structure WindowInfo where
  base   : Nat
  size   : Nat
  stride : Nat
  rows   : List FRow
  owner  : Nat

/-- An entry of the MSI-X table (R431, R439), as the PCI Express Base Specification lays it out: message address, upper address, data, and the mask bit, which resets to 1. -/
def rowsMsix : List FRow := [
  ⟨⟨0x7F0000, 2, 30⟩, 0x4, 1, .rw, fun _ => 0, none⟩,
  ⟨⟨0x7F0004, 0, 32⟩, 0x4, 1, .rw, fun _ => 0, none⟩,
  ⟨⟨0x7F0008, 0, 32⟩, 0x4, 1, .rw, fun _ => 0, none⟩,
  ⟨⟨0x7F000C, 0, 1⟩, 0x4, 1, .rw, fun _ => 1, none⟩]

/-- The table windows (R431). The MSI-X table and pending bits are counted on PCIE. -/
def windowInfos : List WindowInfo := [
  ⟨0x200000, 0x26000, 16, rowsElem, 0x20000⟩,
  ⟨0x300000, 0x70000, 4, [], 0xC000⟩,
  ⟨0x380000, 0x70000, 4, [], 0xC000⟩,
  ⟨0x400000, 0x100000, 4, [], 0x9000⟩,
  ⟨0x580000, 0x40000, 4, [], 0x9000⟩,
  ⟨0x600000, 0x10000, 4, [], 0xD000⟩,
  ⟨0x620000, 0x1800, 0x80, rowsNode, 0xF000⟩,
  ⟨0x640000, 0x20000, 0x80, rowsRule, 0xF000⟩,
  ⟨0x680000, 0x1000, 16, rowsSrc, 0x7000⟩,
  ⟨0x7F0000, 0x400, 16, rowsMsix, 0x13000⟩,
  ⟨0x7F1000, 8, 4, [], 0x13000⟩,
  ⟨0x800000, 0x200000, 4, [], 0x4000⟩]

/-- The window that holds a BAR0 offset. -/
def windowOf (off : Nat) : Option WindowInfo :=
  windowInfos.find? fun w => w.base ≤ off && off < w.base + w.size

/-- The fields of a word given by a register table: each row with the index at which it holds the word. -/
def hits (rows : List FRow) (base rel : Nat) : List (FRow × Nat) :=
  rows.filterMap fun r => (r.at base rel).map fun i => (r, i)

/-- The fields of the word at a BAR0 offset. -/
def fieldsAt (off : Nat) : List (FRow × Nat) :=
  match pageOf off with
  | some p => hits p.rows p.base ((off - p.base) % 0x1000)
  | none =>
    match windowOf off with
    | some w => (hits w.rows w.base ((off - w.base) % w.stride)).map fun (r, _) => (r, (off - w.base) / w.stride)
    | none => []

/-- The reset value of a word from its fields; an entry's own index within an array or, in a window, the entry's number selects the value. -/
def resetOf (l : List (FRow × Nat)) : Nat :=
  l.foldl (fun a (r, i) => a + r.reset i % 2 ^ r.fld.len * 2 ^ r.fld.lo) 0

/-- The reset value of a word of the common header (R433): ENABLE as the page gives, STATE RUN, LOCKED on lockable pages; every other header word is 0. -/
def headerReset (p : PageInfo) (rel : Nat) : Nat :=
  if rel = 0x08 then p.enReset else if rel = 0x0C then 2 else if rel = 0x24 then (if p.lock then 0x10000 else 0) else 0

/-- What the word at a BAR0 offset holds after reset: the value its register table gives, 0 in every other place. -/
def resetWord (off : Nat) : Word :=
  match pageOf off with
  | some p =>
    let rel := (off - p.base) % 0x1000
    if rel < 0x40 then BitVec.ofNat 32 (headerReset p rel) else BitVec.ofNat 32 (resetOf (hits p.rows p.base rel))
  | none => BitVec.ofNat 32 (resetOf (fieldsAt off))

/-- A multi-word quantity (R8): the offset of its lowest word, its array's stride and count, and its number of words. -/
structure MultiWord where
  off    : Nat
  stride : Nat
  count  : Nat
  words  : Nat

/-- The quantities of the block wider than 32 bits (R8). -/
def multiWords : List MultiWord := [
  ⟨0x0044, 0, 1, 2⟩,
  ⟨0x7058, 0, 1, 2⟩,
  ⟨0x8048, 0, 1, 4⟩, ⟨0x8058, 0, 1, 3⟩, ⟨0x8074, 0, 1, 2⟩, ⟨0x80A0, 0, 1, 2⟩, ⟨0x80D0, 0, 1, 4⟩, ⟨0x8200, 0x20, 16, 3⟩,
  ⟨0x9048, 0, 1, 3⟩, ⟨0x9054, 0, 1, 3⟩, ⟨0x9090, 0, 1, 2⟩, ⟨0x90B4, 0, 1, 3⟩, ⟨0x90C0, 0, 1, 3⟩, ⟨0x9414, 0, 1, 2⟩,
  ⟨0xB048, 0, 1, 2⟩, ⟨0xB050, 0, 1, 2⟩,
  ⟨0xC074, 0, 1, 3⟩, ⟨0xC088, 0, 1, 2⟩,
  ⟨0xD404, 0x40, 16, 2⟩, ⟨0xD40C, 0x40, 16, 2⟩, ⟨0xD414, 0x40, 16, 2⟩,
  ⟨0xE200, 0x20, 8, 2⟩, ⟨0xE208, 0x20, 8, 2⟩, ⟨0xE300, 0, 1, 2⟩, ⟨0xE320, 0, 1, 2⟩, ⟨0xE328, 0, 1, 2⟩,
  ⟨0x1004C, 0x1000, 2, 2⟩, ⟨0x10060, 8, 8, 2⟩, ⟨0x11060, 8, 8, 2⟩,
  ⟨0x12070, 0, 1, 2⟩, ⟨0x12078, 0, 1, 3⟩,
  ⟨0x14060, 0x1000, 4, 2⟩, ⟨0x14068, 0x1000, 4, 2⟩,
  ⟨0x1806C, 0, 1, 2⟩,
  ⟨0x640060, 0x80, 1024, 2⟩]

/-- The multi-word quantity a word belongs to: the offset of its lowest word, its number of words, and which of them this word is. -/
def multiAt (off : Nat) : Option (Nat × Nat × Nat) :=
  multiWords.findSome? fun m =>
    (List.range m.words).findSome? fun j =>
      let lowest := off - 4 * j
      if off < 4 * j then none
      else if m.count = 1 then (if lowest = m.off then some (lowest, m.words, j) else none)
      else if m.off ≤ lowest ∧ (lowest - m.off) % m.stride = 0 ∧ (lowest - m.off) / m.stride < m.count then some (lowest, m.words, j)
      else none

end Sys2Proof.Machine
end

