-- ==== Sys2Proof/Machine/Ops.lean ====
section
/-! DEFINITION. The named operations every meaning uses: sparse tables, registers and their fields, counters, page events and the event queue, the faults raised to Sump, time stamps, board SDRAM, power domains. -/
namespace Sys2Proof.Machine

/-- What a sparse table holds at a key; d is what an unlisted key reads as. -/
def tabGet {α : Type} (t : Tab α) (d : α) (k : Nat) : α :=
  match t with
  | [] => d
  | (k', v) :: r => if k' = k then v else tabGet r d k

/-- A sparse table with a key set to a value; an entry equal to d, what an unlisted key reads as, is not kept. -/
def tabPut {α : Type} [DecidableEq α] (t : Tab α) (d : α) (k : Nat) (v : α) : Tab α :=
  match t with
  | [] => if v = d then [] else [(k, v)]
  | (k', v') :: r =>
    if k < k' then (if v = d then (k', v') :: r else (k, v) :: (k', v') :: r)
    else if k = k' then (if v = d then r else (k, v) :: r)
    else (k', v') :: tabPut r d k v

/-- What an association list holds at a key. -/
def alGet {α : Type} (l : List (Nat × α)) (k : Nat) : Option α := (l.find? fun e => e.1 == k).map (·.2)

/-- An association list without a key. -/
def alDel {α : Type} (l : List (Nat × α)) (k : Nat) : List (Nat × α) := l.filter fun e => e.1 != k

/-- An association list with a key set to a value. -/
def alPut {α : Type} (l : List (Nat × α)) (k : Nat) (v : α) : List (Nat × α) := (k, v) :: alDel l k

/-- The word of the register map at a BAR0 offset. -/
def State.rdW (s : State) (off : Nat) : Word := tabGet s.regs (resetWord off) off

/-- The register map with the word at a BAR0 offset set. -/
def State.wrW (s : State) (off : Nat) (w : Word) : State := { s with regs := tabPut s.regs (resetWord off) off w }

/-- The value of a register field. -/
def State.rd (s : State) (f : Fld) : Nat := getBits (s.rdW f.off) f.lo f.len

/-- A register field set to the low bits of a value. -/
def State.wr (s : State) (f : Fld) (v : Nat) : State := s.wrW f.off (putBits (s.rdW f.off) f.lo f.len v)

/-- Whether a one-bit field is 1. -/
def State.flag (s : State) (f : Fld) : Bool := s.rd f == 1

/-- A one-bit field set. -/
def State.put (s : State) (f : Fld) (b : Bool) : State := s.wr f (b2n b)

/-- A counter increased by n, saturating at the top of its field. -/
def State.add (s : State) (f : Fld) (n : Nat) : State := s.wr f (min (s.rd f + n) (2 ^ f.len - 1))

/-- A counter increased by 1, saturating. -/
def State.inc (s : State) (f : Fld) : State := s.add f 1

/-- A counter increased by 1, wrapping. -/
def State.incWrap (s : State) (f : Fld) : State := s.wr f (s.rd f + 1)

/-- Every word from an offset over n bytes at its reset value. -/
def State.clearRange (s : State) (off n : Nat) : State :=
  { s with regs := s.regs.filter fun e => !(decide (off ≤ e.1) && decide (e.1 < off + n)) }

/-- A command begins: nothing has been sent out yet. -/
def State.start (s : State) : State := { s with out := [] }

/-- Something is sent out. -/
def State.emit (s : State) (o : Out) : State := { s with out := s.out ++ [o] }

/-- A free value has been drawn. -/
def State.draw (s : State) : State := { s with freeCtr := s.freeCtr + 1 }

/-- The time unit: 2^40 units are 1 ps (R234). -/
def ps : Nat := 2 ^ 40

/-- 1 ns in time units. -/
def ns : Nat := 1000 * ps

/-- 1 µs in time units. -/
def us : Nat := 1000 * ns

/-- 1 ms in time units. -/
def ms : Nat := 1000 * us

/-- 1 s in time units. -/
def sec : Nat := 1000 * ms

/-- One CLK_LOOP cycle, 1.5625 ns (R22). -/
def loopTick : Nat := 3125 * 2 ^ 39

/-- Local time: CLK_LOOP cycles since the root PLL locked, on which the device measures its intervals; no step of network time moves it. -/
def State.up (s : State) : Nat := s.mon.clock * loopTick

/-- The seconds of a time (R234), 48 bits. -/
def secOf (t : Nat) : Nat := t / sec % 2 ^ 48

/-- The nanoseconds of a time within its second (R234). -/
def nsOf (t : Nat) : Nat := t % sec / ns

/-- The time of seconds and nanoseconds. -/
def timeOf (s n : Nat) : Nat := s * sec + n * ns

/-- A time stamp as the device writes it (R238): 48 bits of seconds and 32 bits of nanoseconds, little-endian. -/
def stamp (t : Nat) : List Byte := leBytes 6 (secOf t) ++ leBytes 4 (nsOf t)

/-- A time held in three registers (R230): nanoseconds, seconds [31:0], seconds [47:32]. -/
def State.wrTime (s : State) (off t : Nat) : State :=
  ((s.wrW off (BitVec.ofNat 32 (nsOf t))).wrW (off + 4) (BitVec.ofNat 32 (secOf t))).wrW (off + 8) (BitVec.ofNat 32 (secOf t / 2 ^ 32))

/-- The time that three registers hold (R230). -/
def State.rdTime (s : State) (off : Nat) : Nat :=
  timeOf ((s.rdW (off + 4)).toNat + 2 ^ 32 * ((s.rdW (off + 8)).toNat % 2 ^ 16)) ((s.rdW off).toNat % 2 ^ 30)

/-- The quantity that two registers hold, least significant word first (R8). -/
def State.rd64 (s : State) (off : Nat) : Nat := (s.rdW off).toNat + 2 ^ 32 * (s.rdW (off + 4)).toNat

/-- Two registers set to a quantity (R8). -/
def State.wr64 (s : State) (off v : Nat) : State :=
  (s.wrW off (BitVec.ofNat 32 v)).wrW (off + 4) (BitVec.ofNat 32 (v / 2 ^ 32))

/-- The state of a switched domain (R412). -/
def State.domain (s : State) (d : Nat) : Dom := tabGet s.dom Dom.onIdle d

/-- A switched domain's state set. -/
def State.setDomain (s : State) (d : Nat) (v : Dom) : State := { s with dom := tabPut s.dom Dom.onIdle d v }

/-- Whether a switched domain is ON (R412). -/
def State.domOn (s : State) (d : Nat) : Bool := (s.domain d).pstate == 2

/-- The switched domain of a page (R411, R412). -/
def domOfPage (pg : Nat) : Option Nat :=
  (pageOf pg).bind fun p => p.dom.map (· + (pg - p.base) / 0x1000)

/-- Whether a page's registers can be reached: its domain is ON, or it lies in none (R413). -/
def State.pageOn (s : State) (pg : Nat) : Bool :=
  match domOfPage pg with
  | some d => s.domOn d
  | none => s.dev != .off

/-- PG_STATE of a page is RUN (R434). -/
def State.pageRun (s : State) (pg : Nat) : Bool := s.pageOn pg && s.rd (Reg.HDR.PG_STATE.STATE pg) == 2

/-- An ignored or refused write at a page offset is counted in PG_ERRCNT (R433); 0xFFF stands for a window. -/
def State.err (s : State) (pg off : Nat) : State :=
  (s.inc (Reg.HDR.PG_ERRCNT.COUNT pg)).wr (Reg.HDR.PG_ERRCNT.LAST_OFFSET pg) off

/-- A fault is raised to Sump (R390). -/
def State.raise (s : State) (src data : Nat) : State :=
  { s with inbox := s.inbox ++ [⟨src, data % 2 ^ 32, false, false⟩] }

/-- A fault that has itself moved the device to SAFE or HALT is raised to Sump (R395). -/
def State.raiseDirect (s : State) (src data : Nat) : State :=
  { s with inbox := s.inbox ++ [⟨src, data % 2 ^ 32, false, true⟩] }

/-- The byte of a memory at an address, when it has been written. -/
def memGet (m : List Host.Cell) (a : Nat) : Option Byte := alGet m a

/-- A memory with a byte written, addresses strictly rising. -/
def memPut (m : List Host.Cell) (a : Nat) (b : Byte) : List Host.Cell :=
  match m with
  | [] => [(a, b)]
  | (a', b') :: r => if a < a' then (a, b) :: (a', b') :: r else if a = a' then (a, b) :: r else (a', b') :: memPut r a b

/-- The canonical form of a memory: addresses strictly rising. -/
def Memory.wf (m : List Host.Cell) : Bool :=
  match m with
  | (a, _) :: (a', b') :: r => decide (a < a') && Memory.wf ((a', b') :: r)
  | _ => true

/-- What board SDRAM returns at an address: the byte written there, or a free value where nothing has been written (R489). -/
def State.sdByte (s : State) (a : Nat) : Byte := (memGet s.sd a).getD (Config.sdramByte s.freeCtr a)

/-- n bytes of board SDRAM from an address. -/
def State.sdBytes (s : State) (a n : Nat) : List Byte := (List.range n).map fun i => s.sdByte (a + i)

/-- Bytes written into a memory from an address. -/
def memWrite (m : List Host.Cell) (a : Nat) : List Byte → List Host.Cell
  | [] => m
  | b :: r => memWrite (memPut m a b) (a + 1) r

/-- Bytes written into board SDRAM from an address. -/
def State.sdWrite (s : State) (a : Nat) (l : List Byte) : State := { s with sd := memWrite s.sd a l }

/-- CAP of R444 in GiB: the smallest channel capacity. -/
def State.sdCapGib (s : State) : Nat :=
  min (min (s.rd (Reg.SDRAM.GEOMETRY.CAP_GIB 0)) (s.rd (Reg.SDRAM.GEOMETRY.CAP_GIB 1)))
    (min (s.rd (Reg.SDRAM.GEOMETRY.CAP_GIB 2)) (s.rd (Reg.SDRAM.GEOMETRY.CAP_GIB 3)))

/-- The bytes of board SDRAM: 4 × CAP (R444). -/
def State.sdSize (s : State) : Nat := 4 * s.sdCapGib * 2 ^ 30

/-- SDRAM is online while all four channels are trained and their pages are in RUN (R444). -/
def State.sdOnline (s : State) : Bool :=
  [0, 1, 2, 3].all fun c => s.flag (Reg.SDRAM.TRAIN_STATUS.TRAINED c) && s.pageRun (0x14000 + 0x1000 * c)

/-- The bytes of SDRAM partition p: first address and size (R448). -/
def State.partition (s : State) (p : Nat) : Nat × Nat :=
  (s.rd (Reg.DEVICE.SDRAM_MAP_BASE.MB p) * 2 ^ 20, s.rd (Reg.DEVICE.SDRAM_MAP_SIZE.MB p) * 2 ^ 20)

/-- Whether n bytes from an address lie wholly inside partition p (R448). -/
def State.inPartition (s : State) (p a n : Nat) : Bool :=
  let q := s.partition p
  decide (q.1 ≤ a) && decide (a + n ≤ q.1 + q.2)

/-- The channel of an SDRAM address (R444). -/
def sdChan (a : Nat) : Nat := a / 256 % 4

/-- An MSI-X message of a vector (R439): sent when its table entry is not masked and the function is in D0; masked, its pending bit is set; in D3hot it waits (R429). -/
def State.msix (s : State) (v : Nat) : State :=
  if s.pcie.d3 then { s with pcie := { s.pcie with msiWait := s.pcie.msiWait ++ [v] } }
  else if getBits (s.rdW (0x7F0000 + 16 * v + 12)) 0 1 = 1 then s.wr ⟨0x7F1000 + 4 * (v / 32), v % 32, 1⟩ 1
  else s.emit (.msix v)

/-- Bytes written to a queue, in host memory or in board SDRAM by its LOCATION (R381). Writes to host memory wait while the function is in D3hot, and are discarded and counted while the link is down (R429). -/
def State.qWrite (s : State) (inSd : Bool) (a : Nat) (l : List Byte) : State :=
  if inSd then s.sdWrite a l
  else if s.pcie.up && s.pcie.d3 then { s with pcie := { s.pcie with dmaWait := s.pcie.dmaWait ++ [(a, l)] } }
  else if s.pcie.up then s.emit (.hostWrite a l)
  else s.inc Reg.PCIE.CNT_DMA_DISCARD.COUNT

/-- A bit of PG_EVT_RAW set with nothing else: the CMD page's own overflow event is not posted while the queue is full. -/
def State.rawBit (s : State) (pg bit : Nat) : State := s.wr ⟨pg + 0x10, bit, 1⟩ 1

/-- The bytes of an event entry (R383). -/
def eventEntry (pg bit flags pend t seq : Nat) : List Byte :=
  leBytes 2 (pg / 0x1000) ++ leBytes 1 bit ++ leBytes 1 flags ++ leBytes 4 pend ++ stamp t ++ leBytes 2 0 ++ leBytes 4 seq ++ leBytes 8 0

/-- An entry posted to the event queue (R383): written at the tail with the present phase, or counted where the queue is full; the vector fires (R439). -/
def State.eqPut (s : State) (pg bit pend t : Nat) : State :=
  let n := 2 ^ s.rd Reg.CMD.EQ_CFG.LOG2
  let tail := s.rd Reg.CMD.EQ_STATUS.TAIL
  if (tail + 1) % n = s.hq.eqHead % n then
    let s := (s.inc Reg.CMD.CNT_EQ_OVERFLOW.COUNT).rawBit 0xE000 5
    { s with hq := { s.hq with eqOvf := true } }
  else
    let flags := b2n s.hq.eqPh + 2 * b2n s.hq.eqOvf
    let a := (s.rd64 0xE300) + 32 * tail
    let s := s.qWrite (s.flag Reg.CMD.EQ_CFG.LOCATION) a (eventEntry pg bit flags pend t s.hq.eqSeq)
    let s := s.wr Reg.CMD.EQ_STATUS.TAIL ((tail + 1) % n)
    let s := { s with hq := { s.hq with eqOvf := false, eqSeq := (s.hq.eqSeq + 1) % 2 ^ 32, eqPh := if tail + 1 = n then !s.hq.eqPh else s.hq.eqPh } }
    s.msix (s.rd Reg.CMD.EQ_CFG.VECTOR)

/-- A newly pending event (R383): posted at once, or kept while the function is in D3hot (R429) or a queue in board SDRAM stalls (R444). -/
def State.post (s : State) (pg bit pend : Nat) : State :=
  if !s.flag Reg.CMD.EQ_CFG.ENABLE then s
  else if s.pcie.d3 || (s.flag Reg.CMD.EQ_CFG.LOCATION && !s.sdOnline) then
    { s with hq := { s.hq with eqWait := s.hq.eqWait ++ [(pg, bit, pend, s.now)] } }
  else s.eqPut pg bit pend s.now

/-- The events that waited are posted (R429, R444). -/
def State.postWaiting (s : State) : State :=
  if s.pcie.d3 || (s.flag Reg.CMD.EQ_CFG.LOCATION && !s.sdOnline) then s
  else
    s.hq.eqWait.foldl (fun s e => if s.flag Reg.CMD.EQ_CFG.ENABLE then s.eqPut e.1 e.2.1 e.2.2.1 e.2.2.2 else s)
      { s with hq := { s.hq with eqWait := [] } }

/-- PG_EVT_PEND of a page: RAW and EN (R433, R435). -/
def State.pend (s : State) (pg : Nat) : Word := s.rdW (pg + 0x10) &&& s.rdW (pg + 0x14)

/-- The PEND bits of a page that are set now and were not before are posted, lowest first (R383, R435). -/
def State.postNew (s : State) (pg : Nat) (before : Word) : State :=
  (onesOf 32 (s.pend pg &&& ~~~ before).toNat).foldl (fun s b => s.post pg b (s.pend pg).toNat) s

/-- Hardware raises an event bit of a page (R435). -/
def State.evt (s : State) (pg bit : Nat) : State :=
  let before := s.pend pg
  (s.rawBit pg bit).postNew pg before

/-- The global state changes (R24): STATE_CHANGE of the DEVICE page (R454). Leaving RUN for SAFE or HALT, READY is driven low (R422); on entry to ARMED and RUN the BOOT page says so (R427). -/
def State.goto (s : State) (d : DevState) : State :=
  if s.dev = d then s
  else
    let low := s.dev == .run && (d == .safe || d == .halt)
    let s := State.evt { s with dev := d, boot := { s.boot with readyLow := low || (s.boot.readyLow && d != .run), readyAt := if low then s.up else s.boot.readyAt } } 0 0
    if d = .armed then s.evt 0x3000 4 else if d = .run then s.evt 0x3000 5 else s

/-- A list of page offsets' counters at 0 (the pages' CNT_CLEAR). -/
def State.zero (s : State) (l : List Fld) : State := l.foldl (fun s f => s.wr f 0) s

end Sys2Proof.Machine
end

