-- ==== Sys2Proof/Machine/Elem.lean ====
section
/-! DEFINITION. The elements: their status and its changes (R176, R178), their records in the working set (R291, R292), and the conversions between volts, milliamps, milliwatts and codes (R104). -/
namespace Sys2Proof.Machine

/-- The status codes of R176. -/
def stOff : Nat := 0
/-- R176. -/
def stHold : Nat := 1
/-- R176. -/
def stAcquire : Nat := 2
/-- R176. -/
def stTrack : Nat := 3
/-- R176. -/
def stCorrect : Nat := 4
/-- R176. -/
def stBlind : Nat := 5
/-- R176. -/
def stSat : Nat := 6
/-- R176. -/
def stQuar : Nat := 7

/-- The HOLD reasons of ELEM_STATUS.REASON (R189). -/
def whyStaged : Nat := 1
/-- R189. -/
def whyHoldoff : Nat := 2
/-- R189. -/
def whyWrap : Nat := 3
/-- R189. -/
def whyRange : Nat := 4
/-- R189. -/
def whyFixed : Nat := 5
/-- R189. -/
def whyStopped : Nat := 6

/-- The status of an element (R176). -/
def State.status (s : State) (eid : Nat) : Nat := s.rd (Reg.ELEM.ELEM_STATUS.STATUS eid)

/-- The reason of an element's HOLD or BLIND (R189). -/
def State.reason (s : State) (eid : Nat) : Nat := s.rd (Reg.ELEM.ELEM_STATUS.REASON eid)

/-- What Bramble keeps of an element. -/
def State.elem (s : State) (eid : Nat) : ElemSt := tabGet s.bram.elems ElemSt.idle eid

/-- What Bramble keeps of an element, set. -/
def State.setElem (s : State) (eid : Nat) (e : ElemSt) : State :=
  { s with bram := { s.bram with elems := tabPut s.bram.elems ElemSt.idle eid e } }

/-- The byte offset of the element record of an EID in the working set window (R291). -/
def elemRec (eid : Nat) : Nat := 0x300040 + 12 * eid

/-- n bytes at a byte offset of a window held as words. -/
def State.winBytes (s : State) (off n : Nat) : Nat :=
  leVal ((List.range n).map fun i => BitVec.ofNat 8 ((s.rdW ((off + i) / 4 * 4)).toNat / 256 ^ ((off + i) % 4)))

/-- A field of an element record of the working set in force (R292). -/
def State.recField (s : State) (eid lo len : Nat) : Nat := bitsOf (s.winBytes (elemRec eid) 12) lo len

/-- V_A in 0.125 mV: a cell's BAR voltage, a shutter's open voltage (R292). -/
def State.vA (s : State) (eid : Nat) : Int := sgn 16 (s.recField eid 0 16)

/-- V_B in 0.125 mV: a cell's CROSS voltage, a shutter's closed voltage (R292). -/
def State.vB (s : State) (eid : Nat) : Int := sgn 16 (s.recField eid 16 16)

/-- VPI in mV (R292). -/
def State.vPi (s : State) (eid : Nat) : Nat := s.recField eid 32 12

/-- The gradient sign S (R292). -/
def State.gradSign (s : State) (eid : Nat) : Int := if s.recField eid 44 1 = 0 then 1 else -1

/-- I_Q in 0.125 µA (R292). -/
def State.iQ (s : State) (eid : Nat) : Nat := s.recField eid 45 16

/-- R_H in units of 0.5 Ω (R292): 200 Ω plus 0.5 Ω a step. -/
def State.rH (s : State) (eid : Nat) : Nat := 400 + s.recField eid 61 8

/-- EFF in 0.001 rad/mW (R292). -/
def State.eff (s : State) (eid : Nat) : Nat := s.recField eid 69 10

/-- W2PI in 0.1 mW (R292). -/
def State.w2pi (s : State) (eid : Nat) : Nat := s.recField eid 79 8

/-- KT in 0.01 mW/°C (R292). -/
def State.kT (s : State) (eid : Nat) : Int := sgn 8 (s.recField eid 87 8)

/-- VFS of a tile in 0.125 mV (R104). -/
def State.vfs (s : State) (t : Nat) : Nat := if s.rd (Reg.DRIVE.RANGE.FAST_RANGE t) = 0 then 32000 else 16000

/-- IFS of a tile in 0.125 µA (R104). -/
def State.ifs (s : State) (t : Nat) : Nat := if s.rd (Reg.DRIVE.RANGE.HTR_RANGE t) = 0 then 64000 else 32000

/-- A voltage in 0.125 mV as a fast code of a tile before clamping (R104). -/
def State.fastOfV (s : State) (t : Nat) (v : Int) : Int := divRound (v * 2048) (s.vfs t)

/-- A current in 0.125 µA as a heater code of a tile before clamping (R104). -/
def State.htrOfI (s : State) (t i : Nat) : Int := divRound ((i : Int) * 65536) (s.ifs t)

/-- A fast code kept within the range's limits (R105). -/
def clampFast (c : Int) : Int := clampI (-2048) 2047 c

/-- A heater code kept within the range's limits (R105). -/
def clampHtr (c : Int) : Int := clampI 0 65535 c

/-- The calibrated fast code of a cell in a state, before clamping (R87, R292). -/
def State.cellCode (s : State) (eid : Nat) (cross : Bool) : Int :=
  s.fastOfV (tileOf eid) (if cross then s.vB eid else s.vA eid)

/-- Voltage j of a shutter's curve in 0.125 mV (R292), for 0, 2.5, 5, 10, 15, 20, 30 and 40 dB. -/
def State.curveV (s : State) (eid j : Nat) : Int :=
  sgn 16 (s.winBytes (0x31C840 + 16 * (512 * planeOf eid + placeOf eid) + 2 * j) 2)

/-- The attenuations of the points of a shutter curve, in 1/256 dB (R292). -/
def curveDb : List Nat := [0, 640, 1280, 2560, 3840, 5120, 7680, 10240]

/-- The segment of the shutter curve that holds an attenuation in 1/256 dB: the index of its lower point. -/
def curveSeg (a : Nat) : Nat := min ((curveDb.filter fun d => decide (d ≤ a)).length - 1) 6

/-- The fast voltage of a shutter's element model at an attenuation in 1/256 dB, in 0.125 mV times a denominator: the pair of numerator and denominator of the linear piece (R292). -/
def State.modelV (s : State) (eid a : Nat) : Int × Nat :=
  let a := min a 10240
  let j := curveSeg a
  let d0 := curveDb.getD j 0
  let d1 := curveDb.getD (j + 1) 0
  let v0 := s.curveV eid j
  let v1 := s.curveV eid (j + 1)
  (v0 * (d1 - d0 : Nat) + (v1 - v0) * (a - d0 : Nat), d1 - d0)

/-- The fast code of the element model at an attenuation in 1/256 dB, before clamping (R87, R172). -/
def State.modelCode (s : State) (eid a : Nat) : Int :=
  let v := s.modelV eid a
  divRound (v.1 * 2048) (v.2 * s.vfs (tileOf eid))

/-- The calibrated closed fast code of a shutter, before clamping (R115, R292). -/
def State.closedCode (s : State) (eid : Nat) : Int := s.fastOfV (tileOf eid) (s.vB eid)

/-- The fast code of a setpoint byte of a shutter before clamping: the closed code for 0xFF (R87). -/
def State.setCode (s : State) (eid v : Nat) : Int := if v = 0xFF then s.closedCode eid else s.modelCode eid (64 * v)

/-- The heater current in 0.125 µA of a heater code of a tile, times 65,536 (R104). -/
def State.htrI (s : State) (t c : Nat) : Nat := c * s.ifs t

/-- The heater power of an element at a heater code, in units of (0.125 µA)² × 2^-32 × 0.5 Ω. -/
def State.htrPow (s : State) (eid c : Nat) : Nat := (s.htrI (tileOf eid) c) ^ 2 * s.rH eid

/-- The units of htrPow in one 0.01 mW: with I in 0.125 µA × 2^-16 and R in 0.5 Ω, 1 unit is (0.125e-6)² × 0.5 × 2^-32 W, and 1e-5 W is 1.28e9 × 2^32 units. -/
def powUnit : Nat := 1280000000 * 2 ^ 32

/-- The integer square root found bit by bit from the top: the largest r with r² ≤ n among those with the given number of bits. -/
def isqrtBits (n : Nat) : Nat → Nat → Nat
  | 0, r => r
  | k + 1, r => let r' := r + 2 ^ k; isqrtBits n k (if r' * r' ≤ n then r' else r)

/-- The heater code nearest below or at a power in units of powUnit, rounded to the nearer code (R166, R170). -/
def State.codeOfPow (s : State) (eid p : Nat) : Nat :=
  let q := s.ifs (tileOf eid) ^ 2 * s.rH eid
  let r := if q = 0 then 0 else isqrtBits (4 * p / q) 18 0
  min ((r + 1) / 2) 65535

/-- An element's live fast code. -/
def State.fastLive (s : State) (eid : Nat) : Nat := s.rd (Reg.DRIVE.FAST_CODE.LIVE (tileOf eid) (chanOf eid))

/-- An element's live heater code. -/
def State.htrLive (s : State) (eid : Nat) : Nat := s.rd (Reg.DRIVE.HTR_CODE.LIVE (tileOf eid) (chanOf eid))

/-- The elements of a drive tile (R15). -/
def tileElems (t : Nat) : List Nat := (List.range 76).map fun k => 76 * t + k

/-- The elements of a Bramble cluster (R15). -/
def clusterElems (k : Nat) : List Nat := (List.range 2432).map fun i => 2432 * k + i

/-- Every element. -/
def allElems : List Nat := List.range numElem

/-- Whether an element runs in a global state (R178): ARMED, RUN or SAFE. -/
def DevState.live : DevState → Bool
  | .armed => true
  | .run => true
  | .safe => true
  | _ => false

end Sys2Proof.Machine
end

