-- ==== Sys2Proof/Machine/Drive.lean ====
section
/-! DEFINITION. The drive tiles (chapter 5): how a code becomes an output, pacing, the deglitcher, shapes, the safe strobe, tile modes, and the changes of an element's status that go with them (R178). -/
namespace Sys2Proof.Machine

/-- The key of a fast channel. -/
def fastKey (t k : Nat) : Nat := 2 * (128 * t + k)

/-- The key of a heater channel. -/
def htrKey (t k : Nat) : Nat := 2 * (128 * t + k) + 1

/-- The live code of a channel: kind 0 fast, 1 heater. -/
def liveFld (kind t k : Nat) : Fld := if kind = 0 then Reg.DRIVE.FAST_CODE.LIVE t k else Reg.DRIVE.HTR_CODE.LIVE t k

/-- The shadow code of a channel. -/
def shadowFld (kind t k : Nat) : Fld := if kind = 0 then Reg.DRIVE.FAST_CODE.SHADOW t k else Reg.DRIVE.HTR_CODE.SHADOW t k

/-- The mark of a channel. -/
def markFld (kind t k : Nat) : Fld := if kind = 0 then Reg.DRIVE.FAST_CFG.MARK t k else Reg.DRIVE.HTR_CFG.MARK t k

/-- The HOST_DIRTY bit of a channel. -/
def dirtyFld (kind t k : Nat) : Fld := if kind = 0 then Reg.DRIVE.FAST_CFG.HOST_DIRTY t k else Reg.DRIVE.HTR_CFG.HOST_DIRTY t k

/-- The strobe group of a channel. -/
def groupFld (kind t k : Nat) : Fld := if kind = 0 then Reg.DRIVE.FAST_CFG.GROUP t k else Reg.DRIVE.HTR_CFG.GROUP t k

/-- The key of a channel of a kind. -/
def chanKey (kind t k : Nat) : Nat := 2 * (128 * t + k) + kind

/-- The top four bits of a code: [11:8] fast, [15:12] heater (R116). -/
def topBits (kind c : Nat) : Nat := if kind = 0 then c / 256 % 16 else c / 4096 % 16

/-- Whether a channel drives a shutter: SAFE_EN (R115). -/
def safeEn (t k : Nat) : Bool := !isCell (76 * t + k)

/-- Whether Gantry is running for R111 and R113: PENDING, RUNNING, WAIT_TRIGGER or EXTENDING. -/
def State.gantryRunning (s : State) : Bool :=
  let g := s.rd Reg.GANTRY.STATE.GSTATE
  decide (1 ≤ g) && decide (g ≤ 4)

/-- The base of a drive tile's page (R123). -/
def drivePg (t : Nat) : Nat := 0x40000 + 0x1000 * t

/-- The mode of a drive tile: 0 OFF, 1 LIMIT, 2 SERVICE (R108). -/
def State.tileMode (s : State) (t : Nat) : Nat := if s.domOn t then s.rd (Reg.DRIVE.TILE_STATUS.MODE t) else 0

/-- The SHORT flag of a channel (R124): kind 0 fast, 1 heater. -/
def shortFld (kind t k : Nat) : Fld := ⟨drivePg t + (if kind = 0 then 0x80 else 0x8C) + 4 * (k / 32), k % 32, 1⟩

/-- Whether a fast channel's shape is playing (R95). -/
def State.playing (s : State) (t k : Nat) : Bool := s.drv.plays.any fun p => p.key == fastKey t k

/-- The range change of a tile, while one is in progress (R121). -/
def State.rangeCh (s : State) (t : Nat) : Option RangeCh := s.drv.range.find? fun r => r.tile == t

/-- A kind of a tile is in RANGE_SETTLE: its outputs are forced to zero, and no code goes live before its end (R121). -/
def State.settling (s : State) (kind t : Nat) : Bool :=
  match s.rangeCh t with
  | some r => r.forced && (if kind = 0 then r.fast else r.htr)
  | none => false

/-- The power of heater channel k of a tile at a code (R273): an element's, or the 250 Ω ballast heater's (R38). -/
def State.chanPow (s : State) (t k c : Nat) : Nat := if k = 76 then (s.htrI t c) ^ 2 * 500 else s.htrPow (76 * t + k) c

/-- The governor's live powers refreshed at a heater code change (R273). -/
def State.notePow (s : State) (t k old c : Nat) : State :=
  if k = 76 then { s with gov := { s.gov with bz := tabPut s.gov.bz 0 t (s.chanPow t k c) } }
  else
    let z := zoneOf (76 * t + k)
    { s with gov := { s.gov with ez := tabPut s.gov.ez 0 z (tabGet s.gov.ez 0 z + s.chanPow t k c - s.chanPow t k old) } }

/-- A live code set. Where the deglitcher acts, a major transition holds the output at its old code (R116); a change during a hold replaces the pending code. With bypass, any hold ends. -/
def State.putLive (s : State) (kind t k c : Nat) (bypass : Bool) : State :=
  let old := s.rd (liveFld kind t k)
  let key := chanKey kind t k
  let s1 := s.wr (liveFld kind t k) c
  let s1 := if kind = 1 ∧ old ≠ c then s1.notePow t k old c else s1
  let s1 := if old = c then s1 else { s1 with drv := { s1.drv with chg := alPut s1.drv.chg key s.up } }
  if bypass then { s1 with drv := { s1.drv with degl := alDel s1.drv.degl key } }
  else if topBits kind old ≠ topBits kind c ∧ (alGet s.drv.degl key).isNone then
    let s1 := s1.inc (Reg.DRIVE.CNT_DEGLITCH.COUNT t)
    { s1 with drv := { s1.drv with degl := alPut s1.drv.degl key old } }
  else s1

/-- A code goes live on a channel: 0 while its kind is in RANGE_SETTLE (R121); the deglitcher does not act while a shape of the channel plays (R96). -/
def State.setLive (s : State) (kind t k c : Nat) (bypass : Bool) : State :=
  s.putLive kind t k (if s.settling kind t then 0 else c) (bypass || (kind == 0 && s.playing t k))

/-- The drive supplies of a kind are absent, so that its outputs are clamped to ground (R110): VDD_DRVP and VDD_DRVN for fast channels, VDD_HTR for heaters. -/
def State.clamped (s : State) (kind : Nat) : Bool := if kind = 0 then s.drv.clamp % 4 != 0 else bitOf s.drv.clamp 2

/-- A drive self-test has taken the outputs of a tile from its channels (R461). -/
def State.dacOpen (s : State) (t : Nat) : Bool := match s.test.run with | some x => x.test == 4 && x.target == t | none => false

/-- The code a channel's output drives: none while it is clamped (R110) or its tile's test switches are open (R461), the held one while the deglitcher holds it (R116), else the live code. -/
def State.output (s : State) (kind t k : Nat) : Nat :=
  if s.clamped kind || s.dacOpen t then 0 else (alGet s.drv.degl (chanKey kind t k)).getD (s.rd (liveFld kind t k))

/-- A channel's current limiter acts (R108, R109): in LIMIT, and in SERVICE where its SHORT flag was set as the tile entered it. -/
def State.limited (s : State) (kind t k : Nat) : Bool := s.tileMode t == 1 || (s.tileMode t == 2 && s.drv.limited.contains (chanKey kind t k))

/-- A heater update's time kept for pacing (R112). -/
def State.noteHtr (s : State) (t k : Nat) : State :=
  { s with drv := { s.drv with upd := alPut s.drv.upd (htrKey t k) s.up } }

/-- A granted job has ended and waits to release its cost (R282). -/
def State.jobDone (s : State) (p : JobKind → Bool) : State :=
  { s with gov := { s.gov with runs := s.gov.runs.map fun r => if p r.1.kind then (r.1, true) else r } }

/-- A job leaves the waiting queue (R281, R282): an age guard on it ends. -/
def State.dropJob (s : State) (id : Nat) : State :=
  { s with gov := { s.gov with jobs := s.gov.jobs.filter (·.id != id)
                               agedAct := if s.gov.agedAct = some id then none else s.gov.agedAct
                               agedHtr := if s.gov.agedHtr = some id then none else s.gov.agedHtr } }

/-- Waiting jobs of a kind withdrawn. -/
def State.withdraw (s : State) (p : JobKind → Bool) : State :=
  let s := { s with gov := { s.gov with refused := s.gov.refused.filter fun k => !p k } }
  (s.gov.jobs.filter fun j => p j.kind).foldl (fun s j => s.dropJob j.id) s

/-- A heater channel's held update discarded, counted in CNT_PACE_DROP (R112); a granted wrap that waited in it ends. -/
def State.dropHeld (s : State) (t k : Nat) : State :=
  if (alGet s.drv.held (htrKey t k)).isSome then
    let s := s.jobDone (· == .wrap (76 * t + k))
    let s := (s.inc (Reg.DRIVE.CNT_PACE_DROP.COUNT t)).put (Reg.DRIVE.HTR_CFG.HELD t k) false
    { s with drv := { s.drv with held := alDel s.drv.held (htrKey t k) } }
  else s

/-- A direct update that goes live (R112). -/
def State.directLive (s : State) (kind t k c : Nat) : State :=
  let s := (s.setLive kind t k c false).inc (Reg.DRIVE.CNT_DIRECT.COUNT t)
  if kind = 0 then s else s.noteHtr t k

/-- A direct update (R112): discarded on a tile without power or in a range change; discarded and counted on a fast channel whose shape plays; a heater update within 1 µs of the channel's previous one is held, and replaces one already held; otherwise it goes live. -/
def State.direct (s : State) (kind t k c : Nat) : State :=
  if s.tileMode t = 0 ∨ (s.rangeCh t).isSome then s
  else if kind = 0 then
    if s.playing t k then s.inc (Reg.DRIVE.CNT_PACE_DROP.COUNT t) else s.directLive 0 t k c
  else
    match alGet s.drv.upd (htrKey t k) with
    | some t0 =>
      if s.up < t0 + us then
        let s1 := if (alGet s.drv.held (htrKey t k)).isSome then s.inc (Reg.DRIVE.CNT_PACE_DROP.COUNT t) else s.inc (Reg.DRIVE.CNT_PACED.COUNT t)
        let s1 := s1.put (Reg.DRIVE.HTR_CFG.HELD t k) true
        { s1 with drv := { s1.drv with held := alPut s1.drv.held (htrKey t k) c } }
      else s.directLive 1 t k c
    | none => s.directLive 1 t k c

/-- A direct update of an element's fast code. -/
def State.directFast (s : State) (eid : Nat) (c : Int) : State := s.direct 0 (tileOf eid) (chanOf eid) (unsgn 12 (clampFast c))

/-- A direct update of an element's heater code. -/
def State.directHtr (s : State) (eid c : Nat) : State := s.direct 1 (tileOf eid) (chanOf eid) c

/-- The point of a shape (R95): the point stored, or the reset shape's 16,384. -/
def State.shapePoint (s : State) (t bank shape pt : Nat) : Nat := tabGet s.drv.shapes 0x4000 (64 * (16 * (2 * t + bank) + shape) + pt)

/-- The code of a shape at point j (R95). -/
def State.shapeCode (s : State) (p : Play) (j : Nat) : Nat :=
  let t := p.key / 2 / 128
  let old := sgn 12 p.old
  let new := sgn 12 p.new
  let pj : Int := if j = 63 then 16384 else sgn 16 (s.shapePoint t (s.rd (Reg.DRIVE.SHAPE_STATUS.BANK t)) p.shape j)
  unsgn 12 (clampFast (old + divRound ((new - old) * pj) 16384))

/-- The last playing shape of a tile has ended: PLAYING clears, and a pending swap of the shape banks takes place (R125). -/
def State.shapesEnded (s : State) (t : Nat) : State :=
  if s.drv.plays.any fun p => p.key / 256 == t then s
  else
    let s := s.put (Reg.DRIVE.SHAPE_STATUS.PLAYING t) false
    if s.flag (Reg.DRIVE.SHAPE_STATUS.SWAP_PENDING t) then
      ((s.wr (Reg.DRIVE.SHAPE_STATUS.BANK t) (1 - s.rd (Reg.DRIVE.SHAPE_STATUS.BANK t))).put (Reg.DRIVE.SHAPE_STATUS.SWAP_PENDING t) false).evt (drivePg t) 5
    else s

/-- A shape is stopped: the channel plays no more (R115). -/
def State.stopPlay (s : State) (t k : Nat) : State :=
  if s.playing t k then
    State.shapesEnded { s with drv := { s.drv with plays := s.drv.plays.filter fun p => p.key != fastKey t k } } t
  else s

/-- A shape starts on a fast channel (R94, R95): point 0 goes live at once, with the deglitcher bypassed. -/
def State.startPlay (s : State) (t k new shape : Nat) : State :=
  let s := { s with drv := { s.drv with plays := s.drv.plays.filter fun p => p.key != fastKey t k } }
  let p : Play := ⟨fastKey t k, s.rd (Reg.DRIVE.FAST_CODE.LIVE t k), new, shape, 0⟩
  let s := s.setLive 0 t k (s.shapeCode p 0) true
  let s := s.put (Reg.DRIVE.SHAPE_STATUS.PLAYING t) true
  { s with drv := { s.drv with plays := s.drv.plays ++ [p] } }

/-- A CLK_SVC cycle passes: each playing shape's next point goes live (R95); after the last, the shape's end is to come. -/
def State.playTick (s : State) : State :=
  s.drv.plays.foldl (fun s p =>
    if p.point < 63 then
      let s := s.setLive 0 (p.key / 256) (p.key / 2 % 128) (s.shapeCode p (p.point + 1)) true
      { s with drv := { s.drv with plays := s.drv.plays.map fun q => if q.key = p.key then { q with point := q.point + 1 } else q } }
    else s) s

/-- SAFE_CODE of a tile's shutters loaded in the present range (R115). -/
def State.loadSafe (s : State) (t : Nat) : State :=
  let s := ((List.range 76).filter (safeEn t)).foldl (fun s k =>
    s.wr (Reg.DRIVE.FAST_CFG.SAFE_CODE t k) (unsgn 12 (clampFast (s.closedCode (76 * t + k))))) s
  s.put (Reg.DRIVE.TILE_STATUS.SAFE_LOADED t) true

/-- The code the safe strobe puts on a shutter's channel: SAFE_CODE, or 0 in LIMIT without one loaded (R115). -/
def State.safeCodeOf (s : State) (t k : Nat) : Nat :=
  if s.tileMode t = 1 ∧ s.flag (Reg.DRIVE.TILE_STATUS.SAFE_LOADED t) = false then 0 else s.rd (Reg.DRIVE.FAST_CFG.SAFE_CODE t k)

/-- The safe strobe on one channel (R115). -/
def State.safeChan (s : State) (t k : Nat) : State :=
  ((s.stopPlay t k).setLive 0 t k (s.safeCodeOf t k) true).put (Reg.DRIVE.FAST_CFG.MARK t k) false

/-- The safe strobe on one tile (R115, R122): a tile whose fast kind is in RANGE_SETTLE stays at 0 V and takes SAFE_CODE at its end; a change not yet begun acts at once and takes the new SAFE_CODE at its end. -/
def State.safeTile (s : State) (t : Nat) : State :=
  if s.tileMode t = 0 then s
  else
    let note (s : State) : State := { s with drv := { s.drv with range := s.drv.range.map fun r => if r.tile = t ∧ r.fast then { r with safed := true } else r } }
    match s.rangeCh t with
    | some r =>
      if r.fast ∧ r.forced then note s
      else ((List.range 76).filter (safeEn t)).foldl (fun s k => s.safeChan t k) (note s)
    | none => ((List.range 76).filter (safeEn t)).foldl (fun s k => s.safeChan t k) s

/-- The tiles that serve a shutter: plane H 57 to 63, plane V 121 to 127 (R13, R15). -/
def shutterTiles : List Nat := [57, 58, 59, 60, 61, 62, 63, 121, 122, 123, 124, 125, 126, 127]

/-- The safe strobe: it reaches every drive tile (R12); only tiles that serve a shutter hold a SAFE_EN channel. -/
def State.safeStrobe (s : State) : State := shutterTiles.foldl State.safeTile s

/-- A probe offset in force is removed: the fast code returns to its value without the offset (R156), and the pair is dropped. -/
def State.dropProbe (s : State) (eid : Nat) : State :=
  let e := s.elem eid
  match e.probe with
  | some p => (s.directFast eid (sgn 12 p.base)).setElem eid { e with probe := none }
  | none => s

/-- A pair in progress is discarded and counted (R158). -/
def State.abortProbe (s : State) (eid : Nat) : State :=
  if (s.elem eid).probe.isSome then (s.dropProbe eid).inc (Reg.BRAMBLE.CNT_PROBE_ABORT.COUNT (clusterOf eid)) else s

/-- The status and reason of an element set; ACTIVE clears on entry to ACQUIRE (R162), SAT_MS and WRAP_PENDING outside SATURATED, whose waiting wrap is withdrawn (R166, R167). -/
def State.setStatus (s : State) (eid st why : Nat) : State :=
  let s := if s.status eid = stSat ∧ st ≠ stSat then s.withdraw (· == .wrap eid) else s
  let s := (s.wr (Reg.ELEM.ELEM_STATUS.STATUS eid) st).wr (Reg.ELEM.ELEM_STATUS.REASON eid) why
  let s := if st = stAcquire then s.put (Reg.ELEM.ELEM_STATUS.ACTIVE eid) false else s
  if st = stSat then s else (s.wr (Reg.ELEM.ELEM_STATUS.SAT_MS eid) 0).put (Reg.ELEM.ELEM_STATUS.WRAP_PENDING eid) false

/-- An element's heater update that pacing holds is discarded (R112): its codes are held from now on. -/
def State.dropElemHeld (s : State) (eid : Nat) : State := s.dropHeld (tileOf eid) (chanOf eid)

/-- An element goes OFF: offsets removed, codes held (R178). -/
def State.elemOff (s : State) (eid : Nat) : State := ((s.dropProbe eid).dropElemHeld eid).setStatus eid stOff 0

/-- An element enters HOLD with a reason: probing stops (R178). -/
def State.elemHold (s : State) (eid why : Nat) : State := (s.dropProbe eid).setStatus eid stHold why

/-- The page of Bramble cluster k (R188). -/
def bramPg (k : Nat) : Nat := 0x20000 + 0x1000 * k

/-- Whether a cluster runs (R186). -/
def State.clusterRun (s : State) (k : Nat) : Bool := s.pageRun (bramPg k)

/-- Whether an element estimates by paired probing: a cell, or a shutter in null seek (R156, R174). -/
def State.probes (s : State) (eid : Nat) : Bool := isCell eid || s.flag (Reg.ELEM.ELEM_STATUS.SH_NULL eid)

/-- The sums that the standard deviation of an element's band history needs (R163): N × Σx² - (Σx)². -/
def histVar (l : List Int) : Nat := (((l.length : Nat) : Int) * (l.map fun x => x * x).sum - l.sum * l.sum).toNat

/-- b_out of an element that probes (R163), in gu: max(B_MIN, K_NOISE × σ) with σ over the history kept, rounded; 2 × B_MIN with fewer than 8 estimates. -/
def State.bandCell (s : State) (eid : Nat) : Nat :=
  let k := clusterOf eid
  let bmin := s.rd (Reg.BRAMBLE.BAND_CFG.B_MIN k)
  let h := (s.elem eid).hist
  let n := h.length
  if n < 8 then 2 * bmin
  else
    let kn := s.rd (Reg.BRAMBLE.BAND_CFG.K_NOISE k)
    max bmin ((isqrtBits (kn * kn * histVar h / (n * n)) 40 0 + 1) / 2)

/-- The outer band of an element in its unit (R163, R173): gu, or for a shutter outside null seek SH_BAND in 1/256 dB. -/
def State.bandOut (s : State) (eid : Nat) : Nat :=
  if s.probes eid then s.bandCell eid else 4 * s.rd (Reg.BRAMBLE.SHUTTER_CFG.SH_BAND (clusterOf eid))

/-- ELEM_GRAD.B_OUT brought up to date. -/
def State.refreshBand (s : State) (eid : Nat) : State := s.wr (Reg.ELEM.ELEM_GRAD.B_OUT eid) (min 65535 (s.bandOut eid))

/-- An element's band history is cleared (R163), and its band starts afresh. -/
def State.clearHist (s : State) (eid : Nat) : State :=
  State.refreshBand (s.setElem eid { s.elem eid with hist := [] }) eid

/-- An element enters ACQUIRE: its estimate starts afresh, and a shutter soft-starts (R172, R178). -/
def State.elemAcquire (s : State) (eid : Nat) : State :=
  let s := s.setStatus eid stAcquire 0
  let s := s.put (Reg.ELEM.ELEM_STATUS.SH_NULL eid) false
  (s.setElem eid { s.elem eid with sum := 0, pairs := 0, okRun := 0, soft := !isCell eid }).refreshBand eid

/-- A channel of an element is marked by staging (R87). -/
def State.marked (s : State) (eid : Nat) : Bool := s.flag (markFld 0 (tileOf eid) (chanOf eid)) || s.flag (markFld 1 (tileOf eid) (chanOf eid))

/-- An element enters ACQUIRE, or HOLD with reason STOPPED where its cluster is stopped (R178, R186); one that staging has marked waits for its strobe in HOLD with reason STAGED (R92). -/
def State.acquire (s : State) (eid : Nat) : State :=
  if !s.clusterRun (clusterOf eid) then s.elemHold eid whyStopped
  else if s.marked eid then (s.elemAcquire eid).setStatus eid stHold whyStaged
  else s.elemAcquire eid

/-- Whether an element may leave OFF (R178): ARMED, RUN or SAFE, EN = 1, its tile in SERVICE. -/
def State.mayRun (s : State) (eid : Nat) : Bool :=
  s.dev.live && s.flag (Reg.ELEM.ELEM_CTRL.EN eid) && s.tileMode (tileOf eid) == 2

/-- An element leaves OFF for ACQUIRE where it may, with its band history cleared (R163, R178). -/
def State.elemStart (s : State) (eid : Nat) : State :=
  if s.status eid = stOff ∧ s.mayRun eid then (s.clearHist eid).acquire eid else s

/-- An element is quarantined (R168, R178): its codes freeze, and an update that pacing holds is discarded; a shutter's fast channel takes SAFE_CODE; an element that is OFF is not touched. -/
def State.quarantine (s : State) (eid : Nat) : State :=
  if s.status eid = stOff ∨ s.status eid = stQuar then s
  else
    let s := ((s.dropProbe eid).dropElemHeld eid).setStatus eid stQuar 0
    let s := if isCell eid then s else s.directFast eid (sgn 12 (s.rd (Reg.DRIVE.FAST_CFG.SAFE_CODE (tileOf eid) (chanOf eid))))
    s.evt (0x20000 + 0x1000 * clusterOf eid) 5

/-- The channels of a tile: kind and number. -/
def tileChans : List (Nat × Nat) := ((List.range 76).map fun k => (0, k)) ++ ((List.range 77).map fun k => (1, k))

/-- The limiters of a tile that stay active in SERVICE are settled (R108, R109): those of the channels whose SHORT flag is set. -/
def State.keepLimits (s : State) (t : Nat) : State :=
  { s with drv := { s.drv with limited := (s.drv.limited.filter fun e => !(e / 256 == t)) ++
      (tileChans.filter fun c => s.flag (shortFld c.1 t c.2)).map fun c => chanKey c.1 t c.2 } }

/-- A tile enters SERVICE (R108): limiters are bypassed but on channels with SHORT set, readback starts at slot 0, SAFE_CODE is loaded, and its elements may start (R178). -/
def State.toService (s : State) (t : Nat) : State :=
  let s := s.keepLimits t
  let s := (s.wr (Reg.DRIVE.TILE_STATUS.MODE t) 2).wr (Reg.DRIVE.RB_STATUS.SLOT t) 0
  let s := s.loadSafe t
  (tileElems t).foldl State.elemStart s

/-- The elements of a tile that leaves SERVICE go OFF, but for the quarantined (R178, R168). -/
def State.elemsLeave (s : State) (t : Nat) : State :=
  (tileElems t).foldl (fun s eid => if s.status eid = stQuar then s else s.elemOff eid) s

/-- A tile enters LIMIT from SERVICE: readback stops, codes unchanged (R108). -/
def State.toLimit (s : State) (t : Nat) : State := (s.elemsLeave t).wr (Reg.DRIVE.TILE_STATUS.MODE t) 1

/-- Whether an element of a tile carries a circuit in the live image (R108). -/
def State.tileCarries (s : State) (t : Nat) : Bool :=
  match s.img.live with
  | some m => (tileElems t).any m.carries
  | none => false

/-- Whether every element of a tile has status OFF (R108). -/
def State.tileAllOff (s : State) (t : Nat) : Bool := (tileElems t).all fun eid => s.status eid == stOff

/-- Everything a tile holds beside its registers is forgotten. -/
def State.forgetTile (s : State) (t : Nat) : State :=
  let mine (key : Nat) : Bool := key / 256 == t
  { s with drv := { s.drv with
      shapes := s.drv.shapes.filter fun e => !(e.1 / 2048 == t)
      plays := s.drv.plays.filter fun p => !mine p.key
      held := s.drv.held.filter fun e => !mine e.1
      degl := s.drv.degl.filter fun e => !mine e.1
      chg := s.drv.chg.filter fun e => !mine e.1
      upd := s.drv.upd.filter fun e => !mine e.1
      hostWr := s.drv.hostWr.filter fun e => !mine e
      range := s.drv.range.filter fun r => r.tile != t
      limited := s.drv.limited.filter fun e => !mine e } }

/-- A tile that comes up (R108): LIMIT, codes 0, groups at default, flags, marks and counters cleared, both shape banks at the reset shape, ranges 0. -/
def State.tileFresh (s : State) (t : Nat) : State := ((s.elemsLeave t).clearRange (drivePg t + 0x40) 0xFC0).forgetTile t

/-- The fast outputs and heaters of a tile being powered down go to zero (R108). -/
def State.tileQuiesce (s : State) (t : Nat) : State :=
  let s := s.elemsLeave t
  let s := (List.range 76).foldl (fun s k => (s.stopPlay t k).setLive 0 t k 0 true) s
  (List.range 77).foldl (fun s k => (s.dropHeld t k).setLive 1 t k 0 true) s

/-- A transfer of a Bramble cluster's tile bus as its check bits found it (R11): a corrected error is counted; an uncorrectable one is reported with its data. -/
def State.busCheck (s : State) (cluster data : Nat) (e : Ecc) : State :=
  match e with
  | .ok => s
  | .corrected => { s with drv := { s.drv with busCorr := tabPut s.drv.busCorr 0 cluster (tabGet s.drv.busCorr 0 cluster + 1) } }
  | .uncorrectable => s.raise (4 + cluster) data

/-- A refused host write to a drive tile: the HOST_REFUSED event, counted in PG_ERRCNT (R108, R113). -/
def State.hostRefused (s : State) (t off : Nat) : State := (s.err (drivePg t) off).evt (drivePg t) 6

/-- TILE_CFG.MODE_REQ written (R108): SERVICE in ARMED, RUN or SAFE; LIMIT in ARMED or SAFE, or where no element of the tile carries a circuit; 0 and 3 ignored. -/
def State.modeReq (s : State) (t req : Nat) : State :=
  let m := s.tileMode t
  if req = 2 ∧ m = 1 then
    if s.dev.live then (s.wr (Reg.DRIVE.TILE_CFG.MODE_REQ t) 2).toService t else s.hostRefused t 0x40
  else if req = 1 ∧ m = 2 then
    if s.dev = .armed ∨ s.dev = .safe ∨ s.tileCarries t = false then (s.wr (Reg.DRIVE.TILE_CFG.MODE_REQ t) 1).toLimit t else s.hostRefused t 0x40
  else if req = 1 ∨ req = 2 then s.wr (Reg.DRIVE.TILE_CFG.MODE_REQ t) req
  else s

/-- What a host write of a code may do (R113): 0 refused, 1 shadow and live at once, 2 the middle row of the table. -/
def State.hostRow (s : State) (t : Nat) : Nat :=
  if s.gantryRunning ∨ s.dev = .safe ∨ s.dev = .halt then 0
  else if s.dev = .armed ∨ s.dev = .run then 2
  else if s.tileMode t = 1 ∧ (s.dev = .boot ∨ s.dev = .hold) then 1
  else 0

/-- A host code write refused (R113): counted in CNT_REFUSED and PG_ERRCNT. -/
def State.codeRefused (s : State) (t off : Nat) : State := (s.inc (Reg.DRIVE.CNT_REFUSED.COUNT t)).hostRefused t off

/-- The channel's shadow counts as written by the host (R121). -/
def State.noteHostWr (s : State) (key : Nat) : State :=
  if s.drv.hostWr.contains key then s else { s with drv := { s.drv with hostWr := key :: s.drv.hostWr } }

/-- A host write of a SHADOW field (R113). -/
def State.hostShadow (s : State) (kind t k c : Nat) : State :=
  let off := (shadowFld kind t k).off % 0x1000
  match s.hostRow t with
  | 1 => (((s.wr (shadowFld kind t k) c).noteHostWr (chanKey kind t k)).setLive kind t k c false)
  | 2 => ((s.wr (shadowFld kind t k) c).noteHostWr (chanKey kind t k)).put (dirtyFld kind t k) true
  | _ => s.codeRefused t off

/-- A host write of DIRECT (R113): channel, kind and code; a fast channel 76 or a channel above 76 is ignored and counted (R16, R123). -/
def State.hostDirect (s : State) (t chan kind code : Nat) : State :=
  let c := if kind = 0 then code % 2 ^ 12 else code % 2 ^ 16
  if 76 < chan ∨ (kind = 0 ∧ chan = 76) then s.err (drivePg t) 0x50
  else
    match s.hostRow t with
    | 1 => ((s.wr (shadowFld kind t chan) c).noteHostWr (chanKey kind t chan)).setLive kind t chan c false
    | 2 =>
      let ok := if chan = 76 then s.rd Reg.BUDGET.BALLAST_CTRL.MODE == 0
        else
          let st := s.status (76 * t + chan)
          st == stOff || st == stHold || st == stQuar
      if ok then
        let s := if kind = 1 then (s.dropHeld t chan).noteHtr t chan else s
        s.setLive kind t chan c false
      else s.codeRefused t 0x50
    | _ => s.codeRefused t 0x50

/-- PG_COMMIT.CODES (R113): every HOST_DIRTY channel of the tile goes live at once; in LIMIT in BOOT or HOLD it has no effect. -/
def State.commitCodes (s : State) (t : Nat) : State :=
  match s.hostRow t with
  | 1 => s
  | 2 =>
    let s := tileChans.foldl (fun s c =>
      if s.flag (dirtyFld c.1 t c.2) then
        let s := (s.put (dirtyFld c.1 t c.2) false).setLive c.1 t c.2 (s.rd (shadowFld c.1 t c.2)) false
        if c.1 = 1 then (s.dropHeld t c.2).noteHtr t c.2 else s
      else s) s
    { s with drv := { s.drv with hostWr := s.drv.hostWr.filter fun e => !(e / 256 == t) } }
  | _ => s.codeRefused t 0x28

/-- PG_COMMIT.SHAPES (R125): the banks swap at once where no shape of the tile plays, else SWAP_PENDING is set. -/
def State.commitShapes (s : State) (t : Nat) : State :=
  if s.drv.plays.any fun p => p.key / 256 == t then s.put (Reg.DRIVE.SHAPE_STATUS.SWAP_PENDING t) true
  else (s.wr (Reg.DRIVE.SHAPE_STATUS.BANK t) (1 - s.rd (Reg.DRIVE.SHAPE_STATUS.BANK t))).evt (drivePg t) 5

/-- The key of the shadow bank's point that SHAPE_ADDR names (R125). -/
def State.shapeAddr (s : State) (t : Nat) : Nat :=
  64 * (16 * (2 * t + (1 - s.rd (Reg.DRIVE.SHAPE_STATUS.BANK t))) + s.rd (Reg.DRIVE.SHAPE_ADDR.SHAPE t)) + s.rd (Reg.DRIVE.SHAPE_ADDR.POINT t)

/-- The address advances by one point after a SHAPE_DATA access while AUTOINC is 1 (R124), through the points of a shape into the next shape. -/
def State.shapeNext (s : State) (t : Nat) : State :=
  if s.flag (Reg.DRIVE.SHAPE_ADDR.AUTOINC t) then
    let n := (64 * s.rd (Reg.DRIVE.SHAPE_ADDR.SHAPE t) + s.rd (Reg.DRIVE.SHAPE_ADDR.POINT t) + 1) % 1024
    (s.wr (Reg.DRIVE.SHAPE_ADDR.POINT t) (n % 64)).wr (Reg.DRIVE.SHAPE_ADDR.SHAPE t) (n / 64)
  else s

/-- A write of SHAPE_DATA (R125). -/
def State.shapeWrite (s : State) (t v : Nat) : State :=
  State.shapeNext { s with drv := { s.drv with shapes := tabPut s.drv.shapes 0x4000 (s.shapeAddr t) (v % 2 ^ 16) } } t

/-- Why a range change is refused (R120): 1 device state, 2 circuit on the tile, 3 commit point too near, 4 change in progress; none when it is permitted. -/
def State.rangeRefusal (s : State) (t : Nat) (nearCommit : Bool) : Option Nat :=
  if (s.rangeCh t).isSome then some 4
  else if !(s.dev == .hold || s.dev == .armed || s.dev == .run || s.dev == .safe) then some 1
  else if (s.dev == .run || s.dev == .safe) && s.tileCarries t then some 2
  else if s.gantryRunning && (s.flag Reg.GANTRY.NEXT_SLOT.FIXED || nearCommit) then some 3
  else none

end Sys2Proof.Machine
end

