-- ==== Sys2Proof/Machine/Monitor.lean ====
section
/-! DEFINITION. The monitor converters and capture (chapter 6): correction, flags, ranges, which input is converted next, and the rings. -/
namespace Sys2Proof.Machine

/-- The base of a monitor tile's page (R149). -/
def monPg (m : Nat) : Nat := 0xC0000 + 0x1000 * m

/-- The range of a monitor's amplifier (R128). -/
def State.monRange (s : State) (mid : Nat) : Nat := s.rd (Reg.MONITOR.MON_CFG.RANGE (mid / 256) (mid % 256))

/-- The level of a protection zone: 0 PIC, 1 AFE_H, 2 AFE_V, 3 CTL (R285). -/
def State.zoneLevel (s : State) (k : Nat) : Nat := s.rd (Reg.THERMAL.ZONE_STATUS.LEVEL k)

/-- The factor of a range: a value is a photocurrent of value × factor in units of 12.5 nA / 65,536 (R127, R134). -/
def rangeFactor (r : Nat) : Nat := if r = 0 then 32000 else if r = 1 then 2000 else if r = 2 then 125 else 8

/-- The units of photocurrent in 1 mW of waveguide power at 3.5 mA/W (R40). -/
def ampsPerMw : Nat := 65536 * 280

/-- OFS and GAIN of a monitor in a range, from the working set (R134, R291); where the values are absent, of a host-loaded set or with no set in force, 0 and 0x8000 (R135). -/
def State.correction (s : State) (mid r : Nat) : Int × Nat :=
  let o := s.winBytes (0x320840 + 16 * mid + 4 * r) 2
  let g := s.winBytes (0x320840 + 16 * mid + 4 * r + 2) 2
  if s.flag Reg.FUSE.FUSE_STATUS.CAL_ABSENT || (s.rd Reg.FUSE.FUSE_STATUS.WS_SOURCE == 1 && o == 0x8000) then (0, 0x8000)
  else (sgn 16 o, g)

/-- The corrected value before clamping (R134). -/
def State.corrected (s : State) (mid r raw14 : Nat) : Int :=
  let c := s.correction mid r
  ((4 * (raw14 : Int) - c.1) * c.2) / 32768

/-- A converter's state. -/
def State.conv (s : State) (n : Nat) : Conv := tabGet s.mon.convs Conv.idle n

/-- A converter's state set. -/
def State.setConv (s : State) (n : Nat) (c : Conv) : State :=
  { s with mon := { s.mon with convs := tabPut s.mon.convs Conv.idle n c } }

/-- The mode, selection and scan mask of a converter's registers (R132). -/
def State.convRegs (s : State) (n : Nat) : Nat × Nat × Nat :=
  (s.rd (Reg.MONITOR.CONV_CTRL.MODE (n / 8) (n % 8)), s.rd (Reg.MONITOR.CHSEL.SEL (n / 8) (n % 8)), s.rd (Reg.MONITOR.SCAN_MASK.MASK (n / 8) (n % 8)))

/-- The input a conversion takes (R131, R132): SEL, or in SCAN the lowest set bit above the input last converted, wrapping; an empty mask acts as HOST. -/
def scanInput (mode sel mask last : Nat) : Nat :=
  if mode = 2 then
    match (onesOf 32 mask).find? (fun b => decide (last < b)) with
    | some b => b
    | none => (lowestOne 32 mask).getD sel
  else sel

/-- The CHSEL deadline before a conversion start (R131): 12.5 ns. -/
def deadline : Nat := 12500 * ps

/-- A converter begins a conversion at the present time with the setting given (R130, R131): its input, the range of that input, and whether a SETTLING window of the channel is open (R136). -/
def State.beginWith (s : State) (n : Nat) (g : Nat × Nat × Nat) (lost : List Nat) : State :=
  let c := s.conv n
  let inp := scanInput g.1 g.2.1 g.2.2 c.input
  let mid := 32 * n + inp
  let near := c.writes.filter fun w => decide (s.up < w.at' + deadline)
  s.setConv n ⟨inp, s.monRange mid, s.up, s.mon.period, decide (s.up < (alGet s.mon.settle mid).getD 0), near.map fun w => { w with late := false }, lost⟩

/-- A converter begins its next conversion (R130, R131): after a write that missed the deadline it takes the setting before that write. -/
def State.beginConv (s : State) (n : Nat) : State :=
  let g := match (s.conv n).writes.find? (·.late) with
    | some w => w.was
    | none => s.convRegs n
  s.beginWith n g []

/-- A write to a converter's selection, mode or mask is noted (R131, R132): it is late when it comes more than 24 CLK_LOOP ticks into the conversion period, and a late selection is counted. -/
def State.convNote (s : State) (n : Nat) (sel : Bool) : State :=
  let c := s.conv n
  let late := decide (24 < s.mon.sub)
  let s := s.setConv n { c with writes := c.writes ++ [⟨s.up, s.convRegs n, late, sel && !late⟩] }
  if sel && late then s.inc (Reg.MONITOR.CNT_CHSEL_LATE.COUNT (n / 8) (n % 8)) else s

/-- The converters of a monitor tile run while its domain is ON and its page is in RUN, or in DRAINING for the conversions in progress (R130, R149). -/
def State.convRunning (s : State) (n : Nat) : Bool :=
  s.domOn (128 + n / 8) && (let p := s.rd (Reg.HDR.PG_STATE.STATE (monPg (n / 8))); p == 2 || p == 3) && s.flag (Reg.MONITOR.CONV_STATUS.RUNNING (n / 8) (n % 8))

/-- A SETTLING window opened on a monitor, ending with the later of its ends (R136). -/
def State.openSettle (s : State) (mid len : Nat) : State :=
  { s with mon := { s.mon with settle := alPut s.mon.settle mid (max (s.up + len) ((alGet s.mon.settle mid).getD 0)) } }

/-- An amplifier switched to a range (R128, R129): the low count restarts and a SETTLING window of 400 ns opens. -/
def State.switchRange (s : State) (mid r : Nat) : State :=
  let s := (s.wr (Reg.MONITOR.MON_CFG.RANGE (mid / 256) (mid % 256)) r).wr (Reg.MONITOR.MON_CFG.LOW_COUNT (mid / 256) (mid % 256)) 0
  s.openSettle mid (400 * ns)

/-- A host-priority write of a monitor's range (R129): a write naming the present range has no effect. -/
def State.hostRange (s : State) (mid r : Nat) : State := if s.monRange mid = r then s else s.switchRange mid r

/-- AR_DOWN in effect: 0 acts as 1 (R150). -/
def State.arDown (s : State) (m : Nat) : Nat := max 1 (s.rd (Reg.MONITOR.AR_CTRL.AR_DOWN m))

/-- Auto-range after a conversion (R128). -/
def State.autoRange (s : State) (mid value : Nat) (ovr settling : Bool) : State :=
  let m := mid / 256
  let j := mid % 256
  let r := s.monRange mid
  let ar := s.flag (Reg.MONITOR.MON_CFG.AR_EN m j)
  if ovr then
    if ar && r != 0 then ((s.switchRange mid (r - 1)).inc (Reg.MONITOR.CNT_RANGE_UP.COUNT m)).evt (monPg m) 1
    else s.wr (Reg.MONITOR.MON_CFG.LOW_COUNT m j) 0
  else if !settling && decide (value < s.rd (Reg.MONITOR.AR_CTRL.AR_LOW m)) then
    let n := s.rd (Reg.MONITOR.MON_CFG.LOW_COUNT m j) + 1
    if ar && decide (s.arDown m ≤ n) && r != 3 then
      ((s.switchRange mid (r + 1)).inc (Reg.MONITOR.CNT_RANGE_DOWN.COUNT m)).evt (monPg m) 1
    else s.wr (Reg.MONITOR.MON_CFG.LOW_COUNT m j) (min n 15)
  else s.wr (Reg.MONITOR.MON_CFG.LOW_COUNT m j) 0

/-- A conversion result as it is delivered (R134, R136). -/
structure Result where
  mid   : Nat
  value : Nat
  range : Nat
  ovr   : Bool
  susp  : Bool
  settl : Bool
  start : Nat
  tag   : Nat
deriving DecidableEq, Repr

/-- The photocurrent a result stands for, in units of 12.5 nA / 65,536 (R134). -/
def Result.amps (r : Result) : Int := (r.value * rangeFactor r.range : Nat)

/-- The result of the conversion that ends on converter n with the 14-bit value raw14 (R134, R136). -/
def State.resultOf (s : State) (n raw14 : Nat) : Result :=
  let c := s.conv n
  let mid := 32 * n + c.input
  let v := s.corrected mid c.range raw14
  let ovr := raw14 == 16383 || decide (65535 < v)
  { mid, value := if ovr then 65535 else (clampI 0 65535 v).toNat, range := c.range, ovr
    susp := s.rd (Reg.MONITOR.CONV_STATUS.SUSPECT_LEFT (n / 8) (n % 8)) != 0
    settl := c.settl, start := c.start, tag := c.period % 2 ^ 17 }

/-- A delivered result in the registers of its tile (R150, R151), its counters and events (R152). -/
def State.recordResult (s : State) (n : Nat) (r : Result) : State :=
  let m := n / 8
  let u := n % 8
  let j := r.mid % 256
  let flags := b2n r.ovr * 2 ^ 18 + b2n r.susp * 2 ^ 19 + b2n r.settl * 2 ^ 20
  let left := s.rd (Reg.MONITOR.CONV_STATUS.SUSPECT_LEFT m u)
  let s := (s.wr (Reg.MONITOR.CONV_STATUS.LAST_SEL m u) (r.mid % 32)).wr (Reg.MONITOR.CONV_STATUS.SUSPECT_LEFT m u) (if r.ovr then 2 else left - 1)
  let s := s.wrW (Reg.MONITOR.LAST_RESULT.VALUE m u).off (BitVec.ofNat 32 (r.value + r.range * 2 ^ 16 + flags + r.mid % 32 * 2 ^ 24))
  let s := s.wrW (Reg.MONITOR.MON_LAST.VALUE m j).off (BitVec.ofNat 32 (r.value + r.range * 2 ^ 16 + flags + 2 ^ 31))
  let s := if r.susp then s.inc (Reg.MONITOR.CNT_SUSPECT.COUNT m) else s
  let s := if r.settl then s.inc (Reg.MONITOR.CNT_SETTLING.COUNT m) else s
  if r.ovr then
    let s := (s.inc (Reg.MONITOR.CNT_OVR.COUNT m)).evt (monPg m) 0
    let s := if s.monRange r.mid = 0 then s.evt (monPg m) 3 else s
    s.openSettle r.mid (600 * ns)
  else s

/-- Whether an ingress-tap result reads above +20.5 dBm (R43): its power in mW is above 10^2.05; an OVR in range 0 counts as above (R137). -/
def overHigh (r : Result) : Bool :=
  (r.ovr && r.range == 0) || decide (10 ^ 41 * ampsPerMw ^ 20 < (r.value * rangeFactor r.range) ^ 20)

/-- Whether it reads at or below +20.0 dBm (R43). -/
def overLow (r : Result) : Bool := !(r.ovr && r.range == 0) && decide (r.value * rangeFactor r.range ≤ 100 * ampsPerMw)

/-- The overpower check on an ingress tap (R43): two consecutive conversions above +20.5 dBm begin an excursion, reported once; the first at or below +20.0 dBm ends it. -/
def State.overpower (s : State) (r : Result) : State :=
  if r.mid < 19456 then s
  else
    let one := s.mon.overOne.contains r.mid
    let run := s.mon.overRun.contains r.mid
    if overHigh r then
      if run then s
      else if one then
        State.raise { s with mon := { s.mon with overRun := r.mid :: s.mon.overRun, overOne := s.mon.overOne.filter (· != r.mid) } } 22 (r.mid - 19456)
      else { s with mon := { s.mon with overOne := r.mid :: s.mon.overOne } }
    else
      let s := { s with mon := { s.mon with overOne := s.mon.overOne.filter (· != r.mid) } }
      if overLow r then { s with mon := { s.mon with overRun := s.mon.overRun.filter (· != r.mid) } } else s

/-- A capture ring. -/
def State.ring (s : State) (r : Nat) : RingSt := tabGet s.mon.rings RingSt.idle r

/-- A capture ring set. -/
def State.setRing (s : State) (r : Nat) (g : RingSt) : State :=
  { s with mon := { s.mon with rings := tabPut s.mon.rings RingSt.idle r g } }

/-- The offset of a ring's block in BAR0 (R153). -/
def ringOff (r : Nat) : Nat := 0xD400 + 0x40 * r

/-- WR_PTR of a ring (R146). -/
def State.capWr (s : State) (r : Nat) : Nat := s.rd64 (ringOff r + 0x0C)

/-- RD_PTR of a ring (R146). -/
def State.capRd (s : State) (r : Nat) : Nat := s.rd64 (ringOff r + 0x14)

/-- The size of a ring in bytes (R142). -/
def State.capSize (s : State) (r : Nat) : Nat := 2 ^ s.rd (Reg.CAPTURE.RING_CTRL.SIZE_LOG2 r)

/-- The bytes between RD_PTR and WR_PTR (R146). -/
def State.capFill (s : State) (r : Nat) : Nat :=
  let n := 2 * s.capSize r
  (s.capWr r + n - s.capRd r % n) % n

/-- EMPTY and FULL of a ring brought up to date (R146). -/
def State.capFlags (s : State) (r : Nat) : State :=
  (s.put (Reg.CAPTURE.RING_STATUS.EMPTY r) (s.capFill r == 0)).put (Reg.CAPTURE.RING_STATUS.FULL r) (s.capFill r == s.capSize r)

/-- The bytes of a ring that wait in the write buffer. -/
def RingSt.waiting (g : RingSt) : Nat := g.part.length + (g.bursts.map (·.length)).sum

/-- The write buffer's fill in bursts, all rings (R145). -/
def State.capLevel (s : State) : Nat :=
  (s.mon.rings.map fun e => e.2.bursts.length + b2n (!e.2.part.isEmpty)).sum

/-- LIMIT in effect: 0 and values above 200 act as 200 (R153). -/
def State.capLimit (s : State) : Nat :=
  let l := s.rd Reg.CAPTURE.CAP_CFG.LIMIT
  if l = 0 ∨ 200 < l then 200 else l

/-- BUF_LEVEL brought up to date (R153). -/
def State.capBufReg (s : State) : State := s.wr Reg.CAPTURE.CAP_STATUS.BUF_LEVEL (min s.capLevel 2047)

/-- Eight bytes put into a ring's part of the write buffer; a full burst of 64 bytes is closed (R145). -/
def State.capAppend (s : State) (r : Nat) (rec : List Byte) : State :=
  let g := s.ring r
  let p := g.part ++ rec
  let g := if p.length < 64 then { g with part := p } else { g with part := [], bursts := g.bursts ++ [p] }
  (s.setRing r g).capBufReg

/-- A record offered to a ring (R144, R145, R147): refused beyond the cap of its period, refused while the write buffer is full or board SDRAM is offline (R444), dropped by a full ring under DROP_NEW, and otherwise put into the write buffer. A sync record is never refused by the cap (R141). -/
def State.capOffer (s : State) (r : Nat) (rec : List Byte) (sync : Bool) : State :=
  let n := if s.mon.capAt = s.mon.period then s.mon.capN else 0
  if !sync && decide (s.capLimit ≤ n) then
    ((s.inc (Reg.CAPTURE.CNT_CAP_REFUSED.COUNT r)).inc Reg.CAPTURE.CNT_REFUSED_CAP.COUNT).evt 0xD000 16
  else if s.capLevel ≥ 1024 ∨ s.sdOnline = false then
    ((s.inc (Reg.CAPTURE.CNT_CAP_REFUSED.COUNT r)).inc Reg.CAPTURE.CNT_BACKPRESSURE.COUNT).evt 0xD000 16
  else if s.rd (Reg.CAPTURE.RING_CTRL.POLICY r) = 0 ∧ s.capSize r < s.capFill r + (s.ring r).waiting + 8 then
    (s.evt 0xD000 17).inc (Reg.CAPTURE.CNT_DROP_FULL.COUNT r)
  else
    let s := if sync then s.inc Reg.CAPTURE.CNT_SYNC.COUNT else { s with mon := { s.mon with capAt := s.mon.period, capN := n + 1 } }
    s.capAppend r rec

/-- A record put among those of its period by its place (R145): ring by ring, and within a ring by converter. -/
def placeIn (l : List (Nat × List Byte)) (k : Nat) (rec : List Byte) : List (Nat × List Byte) :=
  match l with
  | [] => [(k, rec)]
  | e :: r => if k < e.1 then (k, rec) :: e :: r else e :: placeIn r k rec

/-- Capture takes the results of the conversions that have ended (R145): ring by ring, and within a ring in ascending converter order. -/
def State.capTake (s : State) : State :=
  s.mon.batch.foldl (fun s e => s.capOffer (e.1 / 1024) e.2 false) { s with mon := { s.mon with batch := [] } }

/-- A record held until the results of its period are in; a second one of its converter belongs to the next period. -/
def State.capHold (s : State) (r n : Nat) (rec : List Byte) : State :=
  let k := 1024 * r + n
  let s := if s.mon.batch.any fun e => e.1 == k then s.capTake else s
  { s with mon := { s.mon with batch := placeIn s.mon.batch k rec } }

/-- The bytes of a capture record (R140). -/
def capRecord (r : Result) : List Byte :=
  leBytes 4 (r.value + r.range * 2 ^ 16 + b2n r.ovr * 2 ^ 18 + b2n r.susp * 2 ^ 19 + b2n r.settl * 2 ^ 20) ++ leBytes 4 (r.mid + r.tag * 2 ^ 15)

/-- The bytes of a sync record of a time (R141). -/
def syncRecord (t : Nat) : List Byte := leBytes 4 (nsOf t) ++ leBytes 4 (0x7FFF + secOf t % 2 ^ 17 * 2 ^ 15)

/-- A ring takes records (R148, RUNNING of R153): it is enabled and running, and the page works. -/
def State.capRunning (s : State) (r : Nat) : Bool :=
  s.pageRun 0xD000 && s.flag (Reg.CAPTURE.RING_CTRL.ENABLE r) && s.flag (Reg.CAPTURE.RING_CTRL.RUN r)

/-- A sync record of the present tag era into every running ring, after every record of the era before (R141). -/
def State.syncAll (s : State) : State :=
  let s := s.capTake
  (List.range 16).foldl (fun s r => if s.capRunning r then s.capOffer r (syncRecord s.mon.eraAt) true else s) s

/-- The time tag wraps (R139, R141): a new era begins at the present network time. -/
def State.tagWrap (s : State) : State := State.syncAll { s with mon := { s.mon with eraAt := s.now } }

/-- A bit of a ring's masks (R154). -/
def State.maskBit (s : State) (r off i : Nat) : Bool := s.winBytes (0x600000 + 0x1000 * r + off + i / 8) 1 / 2 ^ (i % 8) % 2 == 1

/-- Whether a ring takes conversions that started at a time (R148): from RUN on, and those begun before RUN was cleared; none once the page stops. -/
def State.capTakes (s : State) (r start : Nat) : Bool :=
  let g := s.ring r
  s.pageRun 0xD000 && s.flag (Reg.CAPTURE.RING_CTRL.ENABLE r) &&
  ((s.flag (Reg.CAPTURE.RING_CTRL.RUN r) && decide (g.runAt ≤ start)) || (g.stopAt.map (fun t => decide (start < t))).getD false)

/-- A result passed through the tests of R143 for a ring and held for it. -/
def State.capResult (s : State) (r : Nat) (x : Result) : State :=
  let n := x.mid / 32
  if s.capTakes r x.start && s.maskBit r 0xA00 n && s.maskBit r 0 x.mid && !(s.flag (Reg.CAPTURE.RING_CTRL.SKIP_UNSETTLED r) && (x.susp || x.settl)) then
    let g := s.ring r
    let d := tabGet g.dec 0 n
    let dec := s.rd (Reg.CAPTURE.RING_CTRL.DECIM r)
    let s := s.setRing r { g with dec := tabPut g.dec 0 n (if dec ≤ d then 0 else d + 1) }
    if d ≠ 0 then s
    else if 2 ≤ s.zoneLevel 3 then
      let g := s.ring r
      let s := s.setRing r { g with skip := !g.skip }
      if g.skip then s.inc Reg.CAPTURE.CNT_THROTTLE_SKIP.COUNT else s.capHold r n (capRecord x)
    else s.capHold r n (capRecord x)
  else s

/-- Bytes written into a ring in board SDRAM from a position, wrapping at its end (R146). -/
def State.ringWrite (s : State) (base size pos : Nat) : List Byte → State
  | [] => s
  | b :: r => State.ringWrite { s with sd := memPut s.sd (base + pos % size) b } base size (pos + 1) r

/-- The bursts written in the last 1 µs (R153): when, and their bytes. -/
def State.capRecent (s : State) : List (Nat × Nat) := s.mon.recent.filter fun e => decide (s.up < e.1 + us)

/-- RATE (R153): the bytes written in the last 1 µs. -/
def State.capRate (s : State) : Nat := min 65535 ((s.capRecent.map (·.2)).sum)

/-- Room made in a ring under OVERWRITE for a burst that would not fit (R147): RD_PTR passes the oldest eight records. -/
def State.capRoom (s : State) (r n : Nat) : State :=
  if s.capFill r + n ≤ s.capSize r then s
  else ((s.wr64 (ringOff r + 0x14) ((s.capRd r + 64) % (2 * s.capSize r))).add (Reg.CAPTURE.CNT_OVERWRITTEN.COUNT r) 8).evt 0xD000 17

/-- The next burst of a ring becomes visible in board SDRAM (R145 to R147): WR_PTR advances, and RING_WM is raised as the fill reaches the watermark. -/
def State.burstDone (s : State) (r : Nat) : State :=
  match (s.ring r).bursts with
  | [] => s
  | b :: rest =>
    let before := s.capFill r
    let s := s.capRoom r b.length
    let s := s.ringWrite (s.rd64 (ringOff r + 4)) (s.capSize r) (s.capWr r) b
    let s := s.wr64 (ringOff r + 0x0C) ((s.capWr r + b.length) % (2 * s.capSize r))
    let s := (s.setRing r { s.ring r with bursts := rest }).capBufReg
    let s := ((s.add (Reg.CAPTURE.CNT_RECORDS.COUNT r) (b.length / 8)).add Reg.CAPTURE.CNT_WRITTEN.COUNT (b.length / 8)).capFlags r
    let s := { s with mon := { s.mon with recent := s.capRecent ++ [(s.up, b.length)] } }
    let wm := 64 * s.rd (Reg.CAPTURE.WATERMARK.FILL r)
    if wm ≠ 0 ∧ before < wm ∧ wm ≤ s.capFill r then s.evt 0xD000 r else s

/-- A partial burst is closed (R145), with the records that have come in. -/
def State.capFlush (s : State) (r : Nat) : State :=
  let s := s.capTake
  let g := s.ring r
  if g.part.isEmpty then s else s.setRing r { g with part := [], bursts := g.bursts ++ [g.part] }

/-- RUN of a ring set or cleared (R148): a ring that begins RUN takes a sync record first. -/
def State.capRun (s : State) (r : Nat) (on : Bool) : State :=
  let was := s.flag (Reg.CAPTURE.RING_CTRL.RUN r)
  let s := s.capTake
  if on then
    if was ∨ s.flag (Reg.CAPTURE.RING_CTRL.ENABLE r) = false then s
    else
      let s := s.put (Reg.CAPTURE.RING_CTRL.RUN r) true
      let s := s.setRing r { s.ring r with runAt := s.up, stopAt := none, dec := [], skip := false }
      if s.capRunning r then s.capOffer r (syncRecord s.mon.eraAt) true else s
  else if was then
    let s := s.put (Reg.CAPTURE.RING_CTRL.RUN r) false
    s.setRing r { s.ring r with stopAt := some s.up }
  else s

/-- ENABLE of a ring set (R142): size 12 to 34, base aligned to 4 KiB, wholly inside CAPTURE; refused otherwise. -/
def State.capEnable (s : State) (r : Nat) : State :=
  let l := s.rd (Reg.CAPTURE.RING_CTRL.SIZE_LOG2 r)
  if 12 ≤ l ∧ l ≤ 34 ∧ s.inPartition 2 (s.rd64 (ringOff r + 4)) (2 ^ l) then s.put (Reg.CAPTURE.RING_CTRL.ENABLE r) true
  else (s.err 0xD000 (0x400 + 0x40 * r)).evt 0xD000 18

/-- ENABLE of a ring cleared: RUN clears with it (R148). -/
def State.capDisable (s : State) (r : Nat) : State := (s.capRun r false).put (Reg.CAPTURE.RING_CTRL.ENABLE r) false

/-- RD_PTR written by the host (R146): it takes effect within the span from its present value to WR_PTR. -/
def State.capRdWrite (s : State) (r v : Nat) : State :=
  let n := 2 * s.capSize r
  if v < n ∧ (v + n - s.capRd r % n) % n ≤ s.capFill r then (s.wr64 (ringOff r + 0x14) v).capFlags r
  else s.err 0xD000 (0x418 + 0x40 * r)

/-- A converter's part of a converter-start event (R138): its conversion is abandoned, and it begins another with the setting that met the deadline measured back from the event; in DRAINING it stops (R149). -/
def State.restartConv (s : State) (n : Nat) : State :=
  let c := s.conv n
  let s := s.inc (Reg.MONITOR.CNT_ABANDONED.COUNT (n / 8) (n % 8))
  if s.rd (Reg.HDR.PG_STATE.STATE (monPg (n / 8))) = 3 then s.put (Reg.MONITOR.CONV_STATUS.RUNNING (n / 8) (n % 8)) false
  else
    let near := c.writes.filter fun w => decide (s.up < w.at' + deadline)
    let g := match near.head? with
      | some w => w.was
      | none => s.convRegs n
    let s := s.add (Reg.MONITOR.CNT_CHSEL_LATE.COUNT (n / 8) (n % 8)) (near.filter (·.sel)).length
    let s := s.setConv n { c with writes := near.map fun w => { w with sel := false } }
    s.beginWith n g (c.input :: c.lost)

/-- Every converter restarts at a converter-start event (R138), and a new tag era begins (R141). -/
def State.converterRestart (s : State) : State :=
  let s := s.capTake
  let s := { s with mon := { s.mon with period := 0, sub := 0 } }
  let s := (List.range 78).foldl (fun s m =>
    let l := (List.range 8).filter fun u => s.convRunning (8 * m + u)
    if l.isEmpty then s else (l.foldl (fun s u => s.restartConv (8 * m + u)) s).evt (monPg m) 2) s
  s.tagWrap

end Sys2Proof.Machine
end

