-- ==== Sys2Proof/Machine/Governor.lean ====
section
/-! DEFINITION. The budget governor (chapter 10): budgets and live totals, ballast targets, admission, and background jobs. -/
namespace Sys2Proof.Machine

/-- The element power of a fine zone (R273). -/
def State.ezPow (s : State) (z : Nat) : Nat := tabGet s.gov.ez 0 z

/-- The power of ballast heater b; one whose readback has failed is absent (R276). -/
def State.bPow (s : State) (b : Nat) : Nat :=
  if bitOf (s.rd (Reg.DRIVE.RB_FAIL_HTR.FLAGS b 2)) 12 then 0 else tabGet s.gov.bz 0 b

/-- The ballast power of a fine zone (R273). -/
def State.bzPow (s : State) (z : Nat) : Nat := s.bPow z + s.bPow (64 + z)

/-- The fine zones. -/
def zones : List Nat := List.range 64

/-- The element power of all zones (R273). -/
def State.elemTotal (s : State) : Nat := (zones.map s.ezPow).sum

/-- The ballast power of all zones (R273). -/
def State.ballastTotal (s : State) : Nat := (zones.map s.bzPow).sum

/-- The PIC throttle's stage (R271). -/
def State.picStage (s : State) : Nat := s.rd (Reg.THERMAL.ZONE_STATUS.STAGE 0)

/-- The effective heater budget in units of powUnit × 1/4 (R271, R274): HTR_BUDGET, or 75 % of it in PIC stage 2. One 0.1 W is 10,000 powUnit. -/
def State.effBudget (s : State) : Nat :=
  s.rd Reg.BUDGET.HTR_BUDGET.W10 * 2500 * powUnit * (if s.picStage = 2 then 3 else 4)

/-- EFFECTIVE in 0.1 W (R287). -/
def State.effW10 (s : State) : Nat := s.effBudget / (10000 * powUnit)

/-- Every element's power recomputed in full (R273). -/
def State.recomputePow (s : State) : State :=
  let ez := allElems.foldl (fun t eid => tabPut t 0 (zoneOf eid) (tabGet t 0 (zoneOf eid) + s.htrPow eid (s.htrLive eid))) ([] : Tab Nat)
  let bz := (List.range 128).foldl (fun t b => tabPut t 0 b (s.chanPow b 76 (s.rd (Reg.DRIVE.HTR_CODE.LIVE b 76)))) ([] : Tab Nat)
  { s with gov := { s.gov with ez, bz } }

/-- The activity that capture is charged (R273): CAP_COST for each GB/s, that is 1,000 bytes per µs, rounded down. -/
def State.capActivity (s : State) : Nat := s.rd Reg.BUDGET.CAP_COST.UNITS * s.capRate / 1000

/-- Whether a job has a heater cost kind (R281). -/
def heaterJob : JobKind → Bool
  | .wrap _ => true
  | _ => false

/-- The activity total (R273). -/
def State.actTotal (s : State) : Nat := ((s.gov.runs.filter fun r => !heaterJob r.1.kind).map (·.1.cost)).sum + s.capActivity

/-- The power of granted wraps that is not applied yet (R282). -/
def State.reserved (s : State) : Nat := ((s.gov.runs.filter fun r => heaterJob r.1.kind).map (·.1.cost)).sum

/-- A page's CNT and an event together: a counter increased and an event raised. -/
def State.countEvt (s : State) (f : Fld) (pg bit : Nat) : State := (s.inc f).evt pg bit

/-- The full-scale power of ballast heater b in its tile's present range; 0 when it is absent (R276). -/
def State.bMax (s : State) (b : Nat) : Nat :=
  if bitOf (s.rd (Reg.DRIVE.RB_FAIL_HTR.FLAGS b 2)) 12 then 0 else s.chanPow b 76 65535

/-- A ballast target set (R175, R276): a new value starts a ramp; forced, it starts one whatever the target was. -/
def State.setTarget (s : State) (b v : Nat) (force : Bool) : State :=
  if tabGet s.gov.target 0 b = v && !force then s
  else { s with gov := { s.gov with target := tabPut s.gov.target 0 b v }, bram := { s.bram with ramps := alPut s.bram.ramps b v } }

/-- Whether ballast is held at 0: PIC stage 1 or 2, or an episode of R275. -/
def State.ballastHeld (s : State) : Bool := s.picStage != 0 || s.gov.overTemp

/-- The unscaled targets of a zone's two ballast heaters for an element power (R276): the combined target shared equally, a heater that cannot take its share leaving the rest to its partner. -/
def State.zoneTargets (s : State) (z e : Nat) : Nat × Nat :=
  let a := s.bMax z
  let b := s.bMax (64 + z)
  let t := min (s.rd (Reg.BUDGET.ZONE_TARGET.TARGET z) * 10 * powUnit - e) (a + b)
  if a = 0 then (0, t) else if b = 0 then (t, 0)
  else
    let ta := min (t / 2) a
    let tb := min (t - ta) b
    (min (t - tb) a, tb)

/-- The ballast targets set from the zones' element powers (R276); while MODE is OFF they stay 0 and no ramp starts (R175). -/
def State.setBallast (s : State) (e : Nat → Nat) (force : Bool) : State :=
  if s.rd Reg.BUDGET.BALLAST_CTRL.MODE = 0 || s.ballastHeld then
    let s := s.put Reg.BUDGET.BALLAST_CTRL.REDUCED (s.rd Reg.BUDGET.BALLAST_CTRL.MODE != 0)
    (List.range 128).foldl (fun s b => s.setTarget b 0 (force && s.rd Reg.BUDGET.BALLAST_CTRL.MODE != 0)) s
  else
    let ts := zones.map fun z => s.zoneTargets z (e z)
    let tot := (ts.map fun p => p.1 + p.2).sum
    let room := s.effBudget - (zones.map e).sum - s.reserved
    let scale (v : Nat) : Nat := if tot ≤ room then v else v * room / tot
    let s := s.put Reg.BUDGET.BALLAST_CTRL.REDUCED (decide (room < tot))
    zones.foldl (fun s z =>
      let p := ts.getD z (0, 0)
      (s.setTarget z (scale p.1) force).setTarget (64 + z) (scale p.2) force) s

/-- The ballast targets set from the live element power (R276). -/
def State.ballastLive (s : State) (force : Bool) : State := s.setBallast s.ezPow force

/-- Every ballast target at 0, with every heater ramped to 0 (R175, R271, R275). -/
def State.ballastZero (s : State) : State :=
  let s := s.put Reg.BUDGET.BALLAST_CTRL.REDUCED (s.rd Reg.BUDGET.BALLAST_CTRL.MODE != 0)
  (List.range 128).foldl (fun s b => s.setTarget b 0 true) s

/-- The test of R275 on the live element power. -/
def State.checkHtrOver (s : State) : State :=
  let e := s.elemTotal
  if s.gov.overTemp then
    if 100 * e < 98 * s.effBudget then
      State.ballastLive { s with gov := { s.gov with overTemp := false } } true
    else s
  else if s.effBudget < e then
    let s := State.ballastZero { s with gov := { s.gov with overTemp := true } }
    (s.countEvt Reg.BUDGET.CNT_HTR_OVER.COUNT 0x6000 3).raise 29 (e / (100 * powUnit))
  else s

/-- The predicted element power of an image in a zone (R277). -/
def State.predict (s : State) (m : Image) (z : Nat) : Nat :=
  let sx := m.heat.getD z 0 * 10 * powUnit
  match s.img.live with
  | some l => s.ezPow z + sx - l.heat.getD z 0 * 10 * powUnit
  | none => sx

/-- The pin positions: bitmap positions with a quarantined cell in either plane (R58). -/
def State.pinned (s : State) (x : Nat) : Bool := s.status (cellEid 0 x) == stQuar || s.status (cellEid 1 x) == stQuar

/-- The bitmap positions whose state differs between two bitmaps. -/
def diffPos (a b : Nat) : List Nat := onesOf 4352 (a ^^^ b)

/-- The flips of a transition to an image per strobe group (R278): f[0] to f[15]. -/
def State.flipsOf (s : State) (m : Image) : List Nat :=
  let xs := (diffPos m.cells s.img.liveCells).filter fun x => !s.pinned x
  let gs := xs.flatMap fun x => [cellEid 0 x, cellEid 1 x].map fun eid => s.rd (Reg.DRIVE.FAST_CFG.GROUP (tileOf eid) (chanOf eid))
  (List.range 16).map fun k => gs.count k

/-- One pass of the stagger procedure (R279) with the even share q: the group's flips, the slot j and its fill, and the slots given so far; fails when a slot would exceed the budget. -/
def stagPass (q budget : Nat) : List Nat → Nat → Nat → List Nat → Bool → Nat × List Nat × Bool
  | [], j, acc, steps, ok => (j, steps, ok && decide (acc ≤ budget))
  | f :: r, j, acc, steps, ok =>
    if 0 < acc ∧ (2 * q < 2 * acc + f ∨ budget < acc + f) then stagPass q budget r (j + 1) f (steps ++ [j + 1]) (ok && decide (acc ≤ budget))
    else stagPass q budget r j (acc + f) (steps ++ [j]) ok

/-- The stagger procedure of R279 from n slots, for at most fuel more values of n. -/
def stagSearch (fs : List Nat) (total budget : Nat) : Nat → Nat → Option (List Nat)
  | 0, _ => none
  | fuel + 1, n =>
    let r := stagPass (divUp total n) budget fs 0 0 [] true
    if r.1 < n && r.2.2 then some r.2.1 else stagSearch fs total budget fuel (n + 1)

/-- The stagger steps of R279, or none. -/
def stagger (fs : List Nat) (budget : Nat) : Option (List Nat) :=
  let total := sumN fs
  let n := divUp total budget
  stagSearch fs total budget (18 - n) n

/-- The result of testing one image (R279): the tests failed as bits (heater 1, zone 2, flips 4), the first failing zone, the sum of flips, and the steps where stagger is needed. -/
structure Tested where
  fail  : Nat
  zone  : Option Nat
  flips : Nat
  steps : Option (List Nat)
deriving DecidableEq, Repr

/-- The tests of R279 for an image under an admission policy (R193). -/
def State.admitTest (s : State) (m : Image) (policy : Nat) : Tested :=
  let pred := zones.map (s.predict m)
  let sum := pred.sum
  let heat := decide (s.effBudget < sum) && decide (s.elemTotal < sum)
  let lim := s.rd Reg.BUDGET.ZONE_LIMIT.MW * 100 * powUnit
  let zone := zones.find? fun z => decide (lim < pred.getD z 0) && decide (s.ezPow z < pred.getD z 0)
  let fs := s.flipsOf m
  let tot := sumN fs
  let budget := s.rd Reg.BUDGET.FLIP_BUDGET.FLIPS
  let steps := if tot ≤ budget || policy == 2 then none else stagger fs budget
  let flipBad := decide (budget < tot) && steps.isNone
  ⟨b2n heat + 2 * b2n zone.isSome + 4 * b2n flipBad, zone, tot, steps⟩

/-- The stagger slots that a step list uses (R280). -/
def slotsUsed (steps : List Nat) : Nat := (steps.foldl max 0) + 1

/-- GROUP_STEP written (R287). -/
def State.wrSteps (s : State) (steps : List Nat) : State :=
  (List.range 4).foldl (fun s i =>
    s.wrW (0x6070 + 4 * i) (BitVec.ofNat 32 ((List.range 4).foldl (fun w j => w + steps.getD (4 * i + j) 0 * 2 ^ (8 * j)) 0))) s

/-- The outcome of admission. -/
inductive Admit where
  | admitted | stagger | substitute | hold
deriving DecidableEq, Repr

/-- The code of an outcome (R287). -/
def Admit.code : Admit → Nat
  | .admitted => 0
  | .stagger => 1
  | .substitute => 2
  | .hold => 3

/-- The zone test's failure reported (R287, R288). -/
def State.noteZone (s : State) (m : Image) (t : Tested) : State :=
  match t.zone with
  | some z =>
    let s := (s.wr Reg.BUDGET.ADMIT_ZONE.ZONE z).wr Reg.BUDGET.ADMIT_ZONE.PRED_MW (min 65535 ((s.predict m z + 50 * powUnit) / (100 * powUnit)))
    s.evt 0x6000 4
  | none => s

/-- What the test of a bench shows and counts (R279, R280): ADMIT_LAST, the steps of its stagger, and the counter and event of its outcome. -/
def State.admitNote (s : State) (o : Admit) (f af fl : Nat) (steps : List Nat) : State :=
  let s := (((s.wr Reg.BUDGET.ADMIT_LAST.OUTCOME o.code).wr Reg.BUDGET.ADMIT_LAST.FAIL f).wr Reg.BUDGET.ADMIT_LAST.ALT_FAIL af).wr Reg.BUDGET.ADMIT_LAST.FLIPS fl
  let s := (s.wr Reg.BUDGET.ADMIT_LAST.STEPS (slotsUsed steps)).wrSteps steps
  match o with
  | .admitted => s.inc Reg.BUDGET.CNT_ADMIT.COUNT
  | .stagger => s.countEvt Reg.BUDGET.CNT_STAGGER.COUNT 0x6000 2
  | .substitute => s.countEvt Reg.BUDGET.CNT_SUBSTITUTE.COUNT 0x6000 1
  | .hold => s.countEvt Reg.BUDGET.CNT_HOLD.COUNT 0x6000 0

/-- An admission that ends in an outcome, with the steps of its stagger. -/
def State.admitDone (s : State) (o : Admit) (f af fl : Nat) (steps : Option (List Nat)) : State × Admit × List Nat :=
  (s.admitNote o f af fl (steps.getD (List.replicate 16 0)), o, steps.getD (List.replicate 16 0))

/-- Admission of an image that failed its test, with the alternate tested too where it may be taken (R280). -/
def State.admitFail (s : State) (t : Tested) (alt : Option Image) (policy : Nat) : State × Admit × List Nat :=
  match alt with
  | some a =>
    let u := s.admitTest a policy
    if u.fail = 0 then (s.noteZone a u).admitDone .substitute t.fail 0 u.flips u.steps
    else (s.noteZone a u).admitDone .hold t.fail u.fail u.flips none
  | none => s.admitDone .hold t.fail 0 t.flips none

/-- Admission of an image that was tested (R279, R280). -/
def State.admitBy (s : State) (t : Tested) (alt : Option Image) (policy : Nat) : State × Admit × List Nat :=
  if t.fail ≠ 0 then s.admitFail t (if policy = 1 then none else alt) policy
  else s.admitDone (if t.steps.isSome then .stagger else .admitted) 0 0 t.flips t.steps

/-- Admission (R279, R280) of an image under a policy, with the alternate where it may be taken: the outcome, whether the alternate is taken, and the steps. -/
def State.admission (s : State) (m : Image) (alt : Option Image) (policy : Nat) : State × Admit × List Nat :=
  (s.noteZone m (s.admitTest m policy)).admitBy (s.admitTest m policy) alt policy

/-- The whole budget of a cost kind: what a larger cost is treated as (R282). -/
def State.kindBudget (s : State) (heater : Bool) : Nat := if heater then s.effBudget else s.rd Reg.BUDGET.ACT_BUDGET.UNITS

/-- The remaining budget of a cost kind (R282). -/
def State.kindLeft (s : State) (heater : Bool) : Nat :=
  if heater then s.effBudget - s.elemTotal - s.reserved else s.rd Reg.BUDGET.ACT_BUDGET.UNITS - s.actTotal

/-- Whether a waiting job's cost fits (R282); with an episode of R275 no job with a heater cost is granted. -/
def State.jobFits (s : State) (j : Job) : Bool :=
  let h := heaterJob j.kind
  decide (min j.cost (s.kindBudget h) ≤ s.kindLeft h) && !(h && decide (0 < j.cost) && s.gov.overTemp)

/-- The aged job of a cost kind (R282). -/
def State.agedOf (s : State) (heater : Bool) : Option Nat := if heater then s.gov.agedHtr else s.gov.agedAct

/-- The highest-priority job of a list, the oldest among equals. -/
def headJob : List Job → Option Job
  | [] => none
  | j :: r =>
    match headJob r with
    | some k => if j.prio < k.prio then some k else some j
    | none => some j

/-- A job offered (R281): queued, or refused by a full queue, in whose order it is offered again. -/
def State.offer (s : State) (k : JobKind) (prio cost : Nat) : State :=
  let first := match s.gov.refused.head? with
    | some k' => k == k' || heaterJob k
    | none => true
  if s.gov.jobs.length < 64 && first then
    let j : Job := ⟨s.gov.nextId, k, prio, cost, s.up⟩
    { s with gov := { s.gov with jobs := s.gov.jobs ++ [j], nextId := s.gov.nextId + 1, refused := s.gov.refused.filter (· != k) } }
  else if heaterJob k || s.gov.refused.contains k then s
  else { s with gov := { s.gov with refused := s.gov.refused ++ [k] } }

/-- Whether a job waits or runs for a kind of work. -/
def State.hasJob (s : State) (k : JobKind) : Bool := (s.gov.jobs.any fun j => j.kind == k) || s.gov.runs.any fun r => r.1.kind == k

end Sys2Proof.Machine
end

