-- ==== Sys2Proof/Machine/Bramble.lean ====
section
/-! DEFINITION. Bramble (chapter 7): what the loops measure, their law and bands, blind elements and feed-forward, shutter loops, wraps, ballast ramps, and the attention of the converters. -/
namespace Sys2Proof.Machine

/-- Whether an element's cell stands at CROSS. -/
def State.crossed (s : State) (eid : Nat) : Bool := bitOf s.img.liveCells (placeOf eid)

/-- The monitors that give a cell's input powers, inputs a and b (R159): the outputs of the stage before that link to them, or a stage 0 cell's own outputs by its present state; a shutter's stage 16 tap for both. -/
def State.inputMids (s : State) (eid : Nat) : Nat × Nat :=
  let q := placeOf eid
  let base := planeOf eid * 9728
  if !isCell eid then (base + 8192 + q, base + 8192 + q)
  else
    let st := q / 256
    let c := q % 256
    if st = 0 then
      let x := b2n (s.crossed eid)
      (base + 2 * c + x, base + 2 * c + (1 - x))
    else (base + 512 * (st - 1) + linkBack fabN (st - 1) (2 * c), base + 512 * (st - 1) + linkBack fabN (st - 1) (2 * c + 1))

/-- The elements whose input power a monitor gives: the cell that an output waveguide links to, a stage 0 cell itself, or the shutter behind stage 16. -/
def readersOf (mid : Nat) : List Nat :=
  if 19456 ≤ mid then []
  else
    let p := mid / 9728
    let q := mid % 9728
    if 8704 ≤ q then []
    else
      let st := q / 512
      let w := q % 512
      let next := if st = 16 then shutEid p w else cellEid p (posOf fabN (st + 1) (linkOf fabN st w / 2))
      if st = 0 then [cellEid p (w / 2), next] else [next]

/-- The latest unflagged result of a monitor whose conversion started within the last 200 µs, and in ACQUIRE after the element's holdoff end (R159). -/
def State.recent (s : State) (eid mid : Nat) : Option Int :=
  match alGet s.bram.seen mid with
  | some r =>
    if s.up ≤ r.start + 200 * us ∧ (s.status eid ≠ stAcquire ∨ (s.elem eid).offEnd ≤ r.start) then some r.amps else none
  | none => none

/-- The input powers Pa and Pb, where both are known (R159); a shutter's Pb is 0 (R174). -/
def State.inputs (s : State) (eid : Nat) : Option (Int × Int) :=
  let m := s.inputMids eid
  match s.recent eid m.1, s.recent eid m.2 with
  | some a, some b => some (a, if isCell eid then b else 0)
  | _, _ => none

/-- The weak tap of an element for its input powers (R157, R174). -/
def State.weakTap (s : State) (eid : Nat) (pa pb : Int) : Nat :=
  if !isCell eid then egressMid eid
  else
    let weakIsB := decide (pb ≤ pa)
    cellTap eid (b2n (weakIsB != s.crossed eid))

/-- The weak tap by the last results, whatever their age. -/
def State.weakTapNow (s : State) (eid : Nat) : Nat :=
  let m := s.inputMids eid
  let v (mid : Nat) : Int := ((alGet s.bram.seen mid).map (·.amps)).getD 0
  s.weakTap eid (v m.1) (if isCell eid then v m.2 else 0)

/-- A photocurrent in units of 12.5 nA / 65,536 is at least k / 160 decades above 1 pA, that is k in 1/16 dB (R164): a unit is 12,500 / 65,536 pA. -/
def atLeastDb (p : Int) (k : Nat) : Bool := decide (10 ^ k * 65536 ^ 160 ≤ (p.toNat * 12500) ^ 160)

/-- A photocurrent as 1/16 dB above 1 pA, rounded down and kept within 16 bits, found bit by bit (R189). -/
def dbOfAmps (p : Int) : Nat → Nat → Nat
  | 0, r => r
  | k + 1, r => dbOfAmps p k (if atLeastDb p (r + 2 ^ k) then r + 2 ^ k else r)

/-- 10 log10 of num / den in 1/256 dB, rounded to the nearest and found bit by bit: k counts when num / den is at least 10^((2k - 1) / 5120). -/
def dbRatio (num den : Nat) : Nat → Nat → Nat
  | 0, r => r
  | k + 1, r =>
    let t := r + 2 ^ k
    dbRatio num den k (if 10 ^ (2 * t - 1) * den ^ 5120 ≤ num ^ 5120 then t else r)

/-- L_MIN of a cluster (R164). -/
def State.lMin (s : State) (k : Nat) : Nat := s.rd (Reg.BRAMBLE.BLIND_CFG.L_MIN k)

/-- Whether a photocurrent is at least a cluster's L_MIN. -/
def State.light (s : State) (k : Nat) (p : Int) : Bool := atLeastDb p (s.lMin k)

/-- A monitor is lit when its last unflagged value represents at least L_MIN (R179). -/
def State.lit (s : State) (mid : Nat) : Bool :=
  match alGet s.bram.seen mid with
  | some r => s.light (monCluster (monTile mid)) r.amps
  | none => false

/-- A converter in LOOP mode (R132). -/
def State.loopMode (s : State) (n : Nat) : Bool :=
  let m := s.rd (Reg.MONITOR.CONV_CTRL.MODE (n / 8) (n % 8))
  m == 0 || m == 3

/-- A conversion request in an attention class (R179); a monitor asked for already in that class is not asked for twice. -/
def State.request (s : State) (mid cls : Nat) : State :=
  if s.bram.reqs.contains (mid, cls) then s else { s with bram := { s.bram with reqs := s.bram.reqs ++ [(mid, cls)] } }

/-- Whether an egress port is blanked: as a pin-conflict port of the live image, by TRANSITION_BLANK until its release, or by Sump (R89, R98, R392). -/
def State.blankedPort (s : State) (e : Nat) : Bool := s.img.pinPorts.contains e || s.img.release.contains e || s.sump.blanked.contains e

/-- A shutter's target At in 1/256 dB, with whether it is CLOSED (R172): a CLOSED target counts as 40 dB. -/
def State.target (s : State) (eid : Nat) : Nat × Bool :=
  let e := placeOf eid
  let v := match s.img.live with
    | some m => m.set (planeOf eid) e
    | none => 0xFF
  if v = 0xFF ∨ s.blankedPort e ∨ s.dev = .armed ∨ s.dev = .safe then (10240, true) else (64 * v, false)

/-- A shutter's loop ramps: its working setpoint, once a measurement has set it, is not yet its target (R172, SH_RAMP of R189). -/
def State.ramping (s : State) (eid : Nat) : Bool :=
  !isCell eid && s.status eid != stOff && s.status eid != stQuar && (s.elem eid).aw.any fun a => a != (s.target eid).1

/-- The attention class of an element (R179). -/
def State.classOf (s : State) (eid : Nat) : Nat :=
  let st := s.status eid
  if st = stAcquire then 0
  else if st = stCorrect ∨ st = stSat ∨ s.ramping eid = true then 1
  else 2

/-- The missing input conversions of an element requested in its class (R159). -/
def State.requestInputs (s : State) (eid : Nat) : State :=
  let m := s.inputMids eid
  let ask (s : State) (mid : Nat) : State := if (s.recent eid mid).isSome then s else s.request mid (s.classOf eid)
  ask (ask s m.1) m.2

/-- δ in fast codes (R156): DELTA × 0.1 % of Vπ, rounded, at least 1. -/
def State.probeDelta (s : State) (eid : Nat) : Nat :=
  max 1 ((divRound ((s.rd (Reg.BRAMBLE.PROBE_CFG.DELTA (clusterOf eid)) * s.vPi eid * 8 * 2048 : Nat) : Int) (1000 * s.vfs (tileOf eid))).toNat)

/-- The step response of an amplifier range to within 1 % (R127). -/
def rangeStep (r : Nat) : Nat := if r = 0 then 60 * ns else if r = 1 then 100 * ns else if r = 2 then 200 * ns else 400 * ns

/-- The probe dwell of an element for a range (R158); doubled while its plane's AFE zone is at THROTTLE (R187). -/
def State.dwell (s : State) (eid r : Nat) (major : Bool) : Nat :=
  let d := rangeStep r + 10 * ns + (if major then 40 * ns else 0)
  if 2 ≤ s.zoneLevel (1 + planeOf eid) then 2 * d else d

/-- Whether an element's loop is at work: ACQUIRE, TRACK, CORRECT or SATURATED, and not the via cell of a Plumb window (R304). -/
def State.working (s : State) (eid : Nat) : Bool :=
  let st := s.status eid
  let windowed := match s.plumb.window with
    | some w => w.base.any fun b => b.1 == eid
    | none => false
  (st == stAcquire || st == stTrack || st == stCorrect || st == stSat) && !windowed

/-- The fast code live with an offset in force set by a direct update; what makes the transition major is noted (R112, R116, R158). -/
def State.probeCode (s : State) (eid : Nat) (p : ProbeSt) (c : Int) (step : Nat) : State :=
  let old := s.fastLive eid
  let new := unsgn 12 (clampFast c)
  let s := s.directFast eid c
  (s.setElem eid { s.elem eid with probe := some { p with step, since := s.up, major := topBits 0 old != topBits 0 new } }).request p.tap (s.classOf eid)

/-- HTR_WAIT has passed at a local time since an element's last heater update, and pacing holds none (R112, R162, R173). -/
def State.htrReady (s : State) (eid at' : Nat) : Bool :=
  (alGet s.drv.held (htrKey (tileOf eid) (chanOf eid))).isNone &&
  match alGet s.drv.upd (htrKey (tileOf eid) (chanOf eid)) with
  | some t => decide (t + s.rd (Reg.BRAMBLE.TIMING_CFG.HTR_WAIT (clusterOf eid)) * 100 * ns ≤ at')
  | none => true

/-- A pair begins (R156): the +δ offset goes live. It waits for input powers, and for HTR_WAIT after the last heater update (R159, R162). -/
def State.probePlus (s : State) (eid : Nat) : State :=
  let e := s.elem eid
  let k := clusterOf eid
  if !(s.working eid && s.probes eid && e.probe.isNone && s.clusterRun k) then s
  else if s.htrReady eid s.up = false then s
  else
    match s.inputs eid with
    | none => s.requestInputs eid
    | some (pa, pb) =>
      let d := s.probeDelta eid
      let base := s.fastLive eid
      s.probeCode eid ⟨0, d, base, s.weakTap eid pa pb, 0, 0, 0, 0, false, 0⟩ (sgn 12 base + d) 1

/-- The second half of a pair: the -δ offset goes live after the first sample (R156). -/
def State.probeMinus (s : State) (eid : Nat) : State :=
  match (s.elem eid).probe with
  | some p => if p.step = 2 then s.probeCode eid p (sgn 12 p.base - p.delta) 3 else s
  | none => s

/-- The end of a pair: the offset is removed and the pair result counts towards the estimate (R156); that of a pair completed after its cluster was stopped is discarded (R186). -/
def State.probeRemove (s : State) (eid : Nat) : State :=
  match (s.elem eid).probe with
  | some p =>
    if p.step = 4 then
      let s := s.directFast eid (sgn 12 p.base)
      let e := s.elem eid
      s.setElem eid (if s.status eid = stHold then { e with probe := none } else { e with probe := none, sum := e.sum + (p.plus - p.minus), pairs := e.pairs + 1 })
    else s
  | none => s

/-- The probe phase that a conversion period falls in (R180). -/
def State.phaseOf (s : State) (k period : Nat) : Nat := period / max 1 (s.rd (Reg.BRAMBLE.PROBE_CFG.PHASE_PERIODS k))

/-- The parity of the phases an element probes in (R180): its stage's, or odd for a shutter. -/
def phaseParity (eid : Nat) : Nat := if isCell eid then placeOf eid / 256 % 2 else 1

/-- A result taken as a sample of a pair (R156, R158, R180): not before the dwell, in the element's phase but in ACQUIRE; a flagged sample, a changed range or a phase that ended discards the pair. -/
def State.probeSample (s : State) (eid : Nat) (r : Result) (period : Nat) : State :=
  let e := s.elem eid
  match e.probe with
  | some p =>
    if p.tap ≠ r.mid ∨ r.start + 12500 * ps < p.since + s.dwell eid r.range p.major ∨ !(p.step == 1 || p.step == 3) then s
    else if r.susp || r.settl then s.abortProbe eid
    else
      let ph := s.phaseOf (clusterOf eid) period
      let free := s.status eid == stAcquire
      if p.step = 1 then
        if free || ph % 2 == phaseParity eid then s.setElem eid { e with probe := some { p with step := 2, range := r.range, plus := r.amps, phase := ph } }
        else s
      else if p.range ≠ r.range ∨ (free = false ∧ p.phase ≠ ph) then s.abortProbe eid
      else s.setElem eid { e with probe := some { p with step := 4, minus := r.amps } }
  | none => s

/-- The heater code an element's loop works from: one held by pacing, else the live one. -/
def State.htrAim (s : State) (eid : Nat) : Nat := (alGet s.drv.held (htrKey (tileOf eid) (chanOf eid))).getD (s.htrLive eid)

/-- A heater update of a loop (R162). -/
def State.stepHtr (s : State) (eid c : Nat) : State := (s.directHtr eid c).checkHtrOver

/-- Whether an egress port's shutter of a plane is live at the closed code and not ramping (R165). -/
def State.shutClosed (s : State) (p e : Nat) : Bool :=
  let v := match s.img.live with
    | some m => m.set p e
    | none => 0xFF
  (v == 0xFF || s.blankedPort e || s.dev == .safe) && !s.ramping (shutEid p e)

/-- Whether a cell is wrap-eligible (R165). -/
def State.wrapEligible (s : State) (eid : Nat) : Bool :=
  isCell eid && !s.flag (Reg.ELEM.ELEM_CTRL.NO_WRAP eid) &&
  ((match s.inputs eid with
    | some (pa, pb) => !s.light (clusterOf eid) (pa + pb)
    | none => false) ||
   (match s.img.live with
    | some m => !m.carries eid
    | none => true) ||
   (egressAt s.img.liveCells (placeOf eid)).all fun e => s.shutClosed (planeOf eid) e)

/-- The heater power of an element's code after a wrap, where it fits (R166), in the units of State.htrPow. -/
def State.wrapPow (s : State) (eid : Nat) : Option Nat :=
  let c := s.htrAim eid
  let w := s.w2pi eid * 10 * powUnit
  if c = 65535 then (if w ≤ s.htrPow eid c then some (s.htrPow eid c - w) else none)
  else if c = 0 then (if w ≤ s.htrPow eid 65535 then some w else none)
  else none

/-- The heater power a wrap adds (R166): 0 for a downward wrap. -/
def State.wrapCost (s : State) (eid : Nat) : Nat := if s.htrAim eid = 0 then s.w2pi eid * 10 * powUnit else 0

/-- An element enters SATURATED (R162, R167). -/
def State.saturate (s : State) (eid : Nat) : State :=
  if s.status eid = stSat then s
  else
    let s := s.setStatus eid stSat 0
    let s := (s.inc (Reg.BRAMBLE.CNT_SATURATED.COUNT (clusterOf eid))).evt (bramPg (clusterOf eid)) 0
    s.setElem eid { s.elem eid with satAt := s.up, satRaised := false }

/-- A pending wrap withdrawn (R166). -/
def State.wrapDrop (s : State) (eid : Nat) : State :=
  (s.withdraw (· == .wrap eid)).put (Reg.ELEM.ELEM_STATUS.WRAP_PENDING eid) false

/-- A wrap requested of the governor where the element is eligible and it fits, unless its job waits already; otherwise a pending one is withdrawn (R166, R167, R281). -/
def State.wrapCheck (s : State) (eid : Nat) : State :=
  if s.wrapEligible eid && (s.wrapPow eid).isSome then
    let s := s.put (Reg.ELEM.ELEM_STATUS.WRAP_PENDING eid) true
    if s.gov.jobs.any fun j => j.kind == .wrap eid then s
    else s.offer (.wrap eid) (s.rd (Reg.BRAMBLE.TIMING_CFG.WRAP_PRIORITY (clusterOf eid))) (s.wrapCost eid)
  else s.wrapDrop eid

/-- The law of R162 for an error, an outer band and a step: HYST in 1/16. -/
def State.law (s : State) (eid : Nat) (g : Int) (bo step : Nat) : State :=
  let hyst := s.rd (Reg.BRAMBLE.BAND_CFG.HYST (clusterOf eid))
  let a0 := s.status eid == stAcquire || s.flag (Reg.ELEM.ELEM_STATUS.ACTIVE eid)
  let a1 := a0 || decide (bo < g.natAbs)
  let a2 := a1 && !decide (16 * g.natAbs < bo * hyst)
  let s := s.put (Reg.ELEM.ELEM_STATUS.ACTIVE eid) a2
  if !a2 then s.setStatus eid stTrack 0
  else
    let c := s.htrAim eid
    if (c = 65535 ∧ 0 < g) ∨ (c = 0 ∧ g < 0) then (s.saturate eid).wrapCheck eid
    else (s.setStatus eid stCorrect 0).stepHtr eid (clampHtr (c + step * g.sign)).toNat

/-- Why an element is blind with given input powers, if it is (R169): 10 NO_STEER, 8 LIGHT, 9 CONTRAST. -/
def State.blindWhy (s : State) (eid : Nat) (pa pb : Int) : Option Nat :=
  let k := clusterOf eid
  if s.probes eid && !s.loopMode (s.weakTap eid pa pb / 32) then some 10
  else if !s.light k (pa + pb) then some 8
  else if isCell eid && decide ((pa - pb).natAbs * 65536 < s.rd (Reg.BRAMBLE.BLIND_CFG.C_MIN k) * (pa + pb).toNat) then some 9
  else none

/-- The last reading of PIC sensor z, in 1/16 °C. -/
def State.picTemp (s : State) (z : Nat) : Int := sgn 16 (s.rd (Reg.THERMAL.SENSOR.TEMP z))

/-- An element enters BLIND (R169, R170): the heater is frozen at the code it holds. -/
def State.enterBlind (s : State) (eid why : Nat) : State :=
  let s := (s.abortProbe eid).setStatus eid stBlind why
  let s := s.inc (Reg.BRAMBLE.CNT_BLIND.COUNT (clusterOf eid))
  let s := if why = 8 then s.evt (bramPg (clusterOf eid)) 4 else s
  s.setElem eid { s.elem eid with tfCode := s.htrAim eid, tf := s.picTemp (zoneOf eid), okRun := 0, sum := 0, pairs := 0 }

/-- A cell's metrics (R189): contrast in 1/65,536 and Pa + Pb in 1/16 dB above 1 pA. -/
def State.cellMetric (s : State) (eid : Nat) (pa pb : Int) : State :=
  if isCell eid then
    let m0 := if pa + pb ≤ 0 then 0 else min 65535 ((pa - pb).natAbs * 65536 / (pa + pb).toNat)
    (s.wr (Reg.ELEM.ELEM_METRIC.M0 eid) m0).wr (Reg.ELEM.ELEM_METRIC.M1 eid) (dbOfAmps (pa + pb) 16 0)
  else s

/-- The blind test at a refresh of an element's input powers (R169, R170). -/
def State.blindRefresh (s : State) (eid : Nat) : State :=
  match s.inputs eid with
  | none => s
  | some (pa, pb) =>
    if s.working eid then
      let s := s.cellMetric eid pa pb
      match s.blindWhy eid pa pb with
      | some why => s.enterBlind eid why
      | none => s
    else if s.status eid = stBlind ∧ s.reason eid ≠ 10 then
      let s := s.cellMetric eid pa pb
      match s.blindWhy eid pa pb with
      | some _ => s.setElem eid { s.elem eid with okRun := 0 }
      | none =>
        let n := (s.elem eid).okRun + 1
        let s := s.setElem eid { s.elem eid with okRun := n }
        if s.rd (Reg.BRAMBLE.TIMING_CFG.BLIND_EXIT (clusterOf eid)) ≤ n then s.acquire eid else s
    else s

/-- The pairs an estimate of an element averages (R156). -/
def State.pairsNeeded (s : State) (eid : Nat) : Nat :=
  let k := clusterOf eid
  if s.status eid = stAcquire then s.rd (Reg.BRAMBLE.PROBE_CFG.PAIRS_ACQ k) else s.rd (Reg.BRAMBLE.PROBE_CFG.PAIRS k)

/-- The estimate g of an element (R160): S × 65,536 × D / (Pa - Pb), rounded, D the mean pair result; where Pa = Pb the specification states no result, and a free value stands for it. -/
def State.gradient (s : State) (eid : Nat) (pa pb : Int) : Int :=
  let e := s.elem eid
  let d := pa - pb
  if d = 0 then Config.gradient s.freeCtr
  else divRound (s.gradSign eid * d.sign * 65536 * e.sum) (e.pairs * d.natAbs)

/-- An estimate completes (R162): BLIND, or the law of the cell loop. An estimate without input powers waits. -/
def State.estimate (s : State) (eid : Nat) : State :=
  let k := clusterOf eid
  let e := s.elem eid
  if !(s.working eid && s.probes eid && s.clusterRun k && decide (0 < e.pairs) && decide (s.pairsNeeded eid ≤ e.pairs)) then s
  else
    match s.inputs eid with
    | none => s.requestInputs eid
    | some (pa, pb) =>
      let g := s.gradient eid pa pb
      let s := if pa = pb then s.draw else s
      let s := (s.inc (Reg.BRAMBLE.CNT_ESTIMATES.COUNT k)).cellMetric eid pa pb
      let s := s.setElem eid { e with sum := 0, pairs := 0 }
      match s.blindWhy eid pa pb with
      | some why => s.enterBlind eid why
      | none =>
        let s := s.wr (Reg.ELEM.ELEM_GRAD.G eid) (unsgn 16 (clampI (-32768) 32767 g))
        let s := if s.status eid = stTrack then s.setElem eid { s.elem eid with hist := (g :: (s.elem eid).hist).take 64 } else s
        let bo := s.rd (Reg.ELEM.ELEM_GRAD.B_OUT eid)
        let step := if 4 * bo < g.natAbs then s.rd (Reg.BRAMBLE.STEP_CFG.STEP_COARSE k) else s.rd (Reg.BRAMBLE.STEP_CFG.STEP_FINE k)
        s.law eid g bo step

/-- The heater step of a shutter for an error in 1/256 dB (R173): SH_GAIN × e / slope, the slope being the model's attenuation change per volt at Aw, times Vπ / π, the heater efficiency and the heater power's change per code at the present code; limited to STEP_COARSE. π is taken as 355 / 113. -/
def State.shutStep (s : State) (eid : Nat) (e : Int) (aw : Nat) : Nat :=
  let k := clusterOf eid
  let coarse := s.rd (Reg.BRAMBLE.STEP_CFG.STEP_COARSE k)
  let j := curveSeg (min aw 10240)
  let dv := (s.curveV eid (j + 1) - s.curveV eid j).natAbs
  let dd := curveDb.getD (j + 1) 0 - curveDb.getD j 0
  let den := 8 * 113 * dd * 8 * s.vPi eid * s.eff eid * 2 * s.htrAim eid * s.ifs (tileOf eid) ^ 2 * s.rH eid
  let num := s.rd (Reg.BRAMBLE.SHUTTER_CFG.SH_GAIN k) * e.natAbs * dv * 100000 * powUnit * 355
  if den = 0 then coarse else min coarse (divRound num den).toNat

/-- The metric of a shutter in 1/256 dB (R171), saturating at 65,535. -/
def shutA (thru drop : Int) : Nat :=
  if thru ≤ 0 then 65535 else dbRatio (thru + drop).toNat thru.toNat 16 0

/-- The two results a shutter measurement uses, if they serve (R171, R173): unflagged, started within 2 µs of each other, after the holdoff end and HTR_WAIT after the last heater update. -/
def State.shutSeen (s : State) (eid : Nat) : Option (Int × Int) :=
  let e := s.elem eid
  match alGet s.bram.seen (egressMid eid), alGet s.bram.seen (dropMid eid) with
  | some t, some d =>
    let first := min t.start d.start
    if e.offEnd ≤ first ∧ max t.start d.start ≤ first + 2 * us ∧ s.htrReady eid first = true then some (t.amps, d.amps) else none
  | _, _ => none

/-- Aw moves toward At (R172): at most SOFT_RATE × the time since the last measurement. -/
def State.rampTo (s : State) (eid aw at' : Nat) : Nat :=
  let most := s.rd (Reg.BRAMBLE.SHUTTER_CFG.SOFT_RATE (clusterOf eid)) * 256 * (s.up - (s.elem eid).measAt) / (10 * us)
  if at' ≤ aw then max at' (aw - most) else min at' (aw + most)

/-- Aw takes effect (R172, R189): kept and shown. -/
def State.setAw (s : State) (eid aw : Nat) : State :=
  let s := s.wr (Reg.ELEM.ELEM_METRIC.M1 eid) aw
  s.setElem eid { s.elem eid with aw := some aw, soft := false, measAt := s.up }

/-- The working setpoint after a measurement of A (R172): at a soft-start min(A, 40 dB), else moved toward the target. -/
def State.nextAw (s : State) (eid a : Nat) : Nat :=
  match (s.elem eid).soft, (s.elem eid).aw with
  | false, some aw => s.rampTo eid aw (s.target eid).1
  | _, _ => min a 10240

/-- A change of Aw moves the fast code by the model's code difference, with one direct update (R172); at a soft-start the code stays. -/
def State.moveAw (s : State) (eid aw' : Nat) : State :=
  match (s.elem eid).soft, (s.elem eid).aw with
  | false, some aw => if aw' = aw then s else s.directFast eid (sgn 12 (s.fastLive eid) + s.modelCode eid aw' - s.modelCode eid aw)
  | _, _ => s

/-- A shutter measurement (R172 to R174); the results it lacks are asked for in the shutter's class (R179). -/
def State.measure (s : State) (eid : Nat) : State :=
  let k := clusterOf eid
  if isCell eid || !s.working eid || !s.clusterRun k then s
  else
    match s.shutSeen eid with
    | none => ((s.request (egressMid eid) (s.classOf eid)).request (dropMid eid) (s.classOf eid)).requestInputs eid
    | some (thru, drop) =>
      let a := shutA thru drop
      let s := s.wr (Reg.ELEM.ELEM_METRIC.M0 eid) a
      let shb := 4 * s.rd (Reg.BRAMBLE.SHUTTER_CFG.SH_BAND k)
      let tgt := s.target eid
      let blind := match s.inputs eid with
        | some (p, _) => if s.light k p then none else some 8
        | none => none
      match blind with
      | some why => s.enterBlind eid why
      | none =>
        if s.flag (Reg.ELEM.ELEM_STATUS.SH_NULL eid) then
          if a < 10240 - 4 * shb then
            let s := (s.abortProbe eid).put (Reg.ELEM.ELEM_STATUS.SH_NULL eid) false
            (s.setElem eid { s.elem eid with soft := true, sum := 0, pairs := 0 }).refreshBand eid
          else s
        else
          let aw' := s.nextAw eid a
          let s := (s.moveAw eid aw').setAw eid aw'
          let err : Int := (a : Int) - aw'
          let s := s.wr (Reg.ELEM.ELEM_GRAD.G eid) (unsgn 16 (clampI (-32768) 32767 err))
          if tgt.2 && aw' == 10240 && decide (10240 - shb ≤ a) then
            let s := s.put (Reg.ELEM.ELEM_STATUS.SH_NULL eid) true
            let s := s.setElem eid { s.elem eid with sum := 0, pairs := 0 }
            (s.refreshBand eid).setStatus eid (if s.status eid = stAcquire then stCorrect else s.status eid) 0
          else s.law eid err shb (s.shutStep eid err aw')

/-- WRAP_SETTLE ends (R166, R178). -/
def State.wrapSettled (s : State) (eid : Nat) : State :=
  if s.status eid = stHold ∧ s.reason eid = whyWrap then s.acquire eid else s

/-- A wrap the governor grants (R166): the new code by direct update, and HOLD with reason WRAP. A wrap no longer wanted, or not fitting, is withdrawn. The job ends with its direct update, at once or when pacing lets it go (R281). -/
def State.wrapGo (s : State) (eid : Nat) : State :=
  let wanted := s.status eid == stSat && s.flag (Reg.ELEM.ELEM_STATUS.WRAP_PENDING eid) && s.wrapEligible eid
  match if wanted then s.wrapPow eid else none with
  | none => (s.wrapDrop eid).jobDone (· == .wrap eid)
  | some p =>
    let s := s.stepHtr eid (s.codeOfPow eid p)
    let s := if (alGet s.drv.held (htrKey (tileOf eid) (chanOf eid))).isSome then s else s.jobDone (· == .wrap eid)
    let s := (s.inc (Reg.BRAMBLE.CNT_WRAPS.COUNT (clusterOf eid))).evt (bramPg (clusterOf eid)) 2
    (s.elemHold eid whyWrap).checkHtrOver

/-- SATURATED for QUAR_TIME (R167): LOOP_SATURATED is raised once for a stay. -/
def State.loopSaturated (s : State) (eid : Nat) : State :=
  let e := s.elem eid
  if s.status eid = stSat ∧ e.satRaised = false then
    ((s.setElem eid { e with satRaised := true }).evt (bramPg (clusterOf eid)) 1).raise 20 eid
  else s

/-- A quarantine ends (R168, R178): ACQUIRE, or OFF where EN is 0 or the tile is not in SERVICE. -/
def State.quarClear (s : State) (eid : Nat) : State :=
  if s.dev.live = false then s.err (bramPg (clusterOf eid)) 0xFFF
  else if s.status eid ≠ stQuar then s
  else
    let s := s.clearHist eid
    let s := (if s.flag (Reg.ELEM.ELEM_CTRL.EN eid) && s.tileMode (tileOf eid) == 2 then s.acquire eid else s.setStatus eid stOff 0)
    s.refreshBand eid

/-- EN of an element written (R178). -/
def State.elemEn (s : State) (eid : Nat) (on : Bool) : State :=
  let s := s.put (Reg.ELEM.ELEM_CTRL.EN eid) on
  if on then s.elemStart eid
  else if s.status eid = stQuar then s
  else s.elemOff eid

/-- A holdoff ends (R100, R178): HOLD with reason FIXED where a FIXED override is in force, else ACQUIRE. It never ends before the element's shape. -/
def State.holdoffEnd (s : State) (eid : Nat) : State :=
  if s.status eid = stHold ∧ s.reason eid = whyHoldoff ∧ s.playing (tileOf eid) (chanOf eid) = false then
    let s := s.setElem eid { s.elem eid with offEnd := s.up }
    let fixed := match s.img.live.bind (·.ovr eid) with
      | some o => o.kind == 2
      | none => false
    if fixed then s.setStatus eid stHold whyFixed else s.acquire eid
  else s

/-- An element stops with its cluster (R178, R186): HOLD with reason STOPPED; its pair is discarded at once, or in a drain goes on. -/
def State.elemStop (s : State) (eid : Nat) (abort : Bool) : State :=
  if s.status eid = stOff ∨ s.status eid = stQuar then s
  else if abort then (s.wrapDrop eid).elemHold eid whyStopped
  else (s.wrapDrop eid).setStatus eid stHold whyStopped

/-- The weak tap of a pair in progress is a monitor. -/
def State.tapAwaited (s : State) (mid : Nat) : Bool :=
  match (monElem mid).bind fun eid => (s.elem eid).probe with
  | some p => p.tap == mid
  | none => false

/-- A cluster stops (R178, R186): every element that is not OFF or QUARANTINED stops; the converters are asked only for what pairs in progress still need. Its ballast ramps stop. -/
def State.clusterStop (s : State) (k : Nat) (abort : Bool) : State :=
  let s := (clusterElems k).foldl (fun s eid => s.elemStop eid abort) s
  { s with bram := { s.bram with
      reqs := s.bram.reqs.filter fun r => monCluster (monTile r.1) != k || s.tapAwaited r.1
      guard := s.bram.guard.filter fun m => monCluster (monTile m) != k } }

/-- No pair of a cluster is in progress (R186). -/
def State.clusterIdle (s : State) (k : Nat) : Bool := (clusterElems k).all fun eid => (s.elem eid).probe.isNone

/-- A cluster starts again (R178, R186): every element in HOLD with reason STOPPED enters ACQUIRE. -/
def State.clusterStart (s : State) (k : Nat) : State :=
  (clusterElems k).foldl (fun s eid => if s.status eid = stHold ∧ s.reason eid = whyStopped then s.acquire eid else s) s

/-- A new target of a shutter without a strobe: its loop soft-starts (R172). -/
def State.softStart (s : State) (eid : Nat) : State :=
  if s.working eid then
    let s := (s.abortProbe eid).put (Reg.ELEM.ELEM_STATUS.SH_NULL eid) false
    (s.setElem eid { s.elem eid with soft := true, sum := 0, pairs := 0 }).refreshBand eid
  else s

/-- The heater code of a ballast heater at a power, in the units of State.htrPow: its resistance is 250 Ω (R38). -/
def State.ballastCode (s : State) (b p : Nat) : Nat :=
  let q := s.ifs b ^ 2 * 500
  min ((isqrtBits (4 * p / q) 18 0 + 1) / 2) 65535

/-- A ballast heater moves one step toward its target (R175): at most BALLAST_RATE × 1 µs. Ramps stop with their cluster (R186). -/
def State.ballastStep (s : State) (b : Nat) : State :=
  let k := b / 32
  match alGet s.bram.ramps b with
  | none => s
  | some t =>
    if s.clusterRun k = false then s
    else
      let r := s.rd (Reg.BRAMBLE.BALLAST_RATE.RATE k) * powUnit
      let p := tabGet s.gov.bz 0 b
      let next := if t ≤ p then max t (p - r) else min t (p + r)
      let s := s.direct 1 b 76 (s.ballastCode b next)
      if next = t then { s with bram := { s.bram with ramps := alDel s.bram.ramps b } } else s

/-- A lit monitor unconverted for AGE becomes a guard request (R181). -/
def State.guardRequest (s : State) (mid : Nat) : State :=
  if s.lit mid && s.loopMode (mid / 32) && !s.bram.guard.contains mid then { s with bram := { s.bram with guard := s.bram.guard ++ [mid] } } else s

/-- A lit monitor goes 200 µs without a conversion (R181). -/
def State.starve (s : State) (mid : Nat) : State :=
  if s.lit mid then
    let k := monCluster (monTile mid)
    ((s.inc (Reg.BRAMBLE.CNT_STARVE_MISS.COUNT k)).evt (bramPg k) 3).raise 21 mid
  else s

/-- A requested result does not arrive (R182): counted, and requested again in the same class. -/
def State.resultTimeout (s : State) (mid : Nat) : State :=
  match alGet s.bram.asked mid with
  | some cls =>
    let s := s.inc (Reg.BRAMBLE.CNT_TIMEOUT.COUNT (monCluster (monTile mid)))
    State.request { s with bram := { s.bram with asked := alDel s.bram.asked mid } } mid cls
  | none => s

/-- The lit and the due unlit monitors of a converter, which ROUTINE takes in turn (R179): an unlit monitor once per UNLIT_MS first, else the next lit one after the present input. -/
def State.routine (s : State) (n : Nat) : Option Nat :=
  let mids := (List.range 32).map fun i => 32 * n + i
  let k := monCluster (n / 8)
  let due := s.rd (Reg.BRAMBLE.STARVE_CFG.UNLIT_MS k) * ms
  let sel := s.rd (Reg.MONITOR.CHSEL.SEL (n / 8) (n % 8))
  match mids.find? fun m => !s.lit m && (let t := tabGet s.bram.convAt 0 m; t == 0 || decide (t - 1 + due ≤ s.up)) with
  | some m => some m
  | none => ((mids.drop (sel + 1)) ++ mids.take (sel + 1)).find? s.lit

/-- The request that a class offers on a converter, oldest first (R179); a cluster that drains keeps no round robin (R186). -/
def State.classHead (s : State) (n cls : Nat) : Option Nat :=
  match s.bram.reqs.find? fun r => r.1 / 32 == n && r.2 == cls with
  | some r => some r.1
  | none => if cls = 2 ∧ s.clusterRun (monCluster (n / 8)) = true then s.routine n else none

/-- The weights of the four classes in a cluster; all 0 act as all 1 (R179). -/
def State.weights (s : State) (k : Nat) : List Nat :=
  let w := [s.rd (Reg.BRAMBLE.ATTN_WEIGHT.TRANSITION k), s.rd (Reg.BRAMBLE.ATTN_WEIGHT.OUT_OF_BAND k), s.rd (Reg.BRAMBLE.ATTN_WEIGHT.ROUTINE k), s.rd (Reg.BRAMBLE.ATTN_WEIGHT.PROBE k)]
  if sumN w = 0 then [1, 1, 1, 1] else w

/-- The class that holds a place of the rotation. -/
def slotClass : List Nat → Nat → Nat → Nat
  | [], _, c => c
  | w :: r, t, c => if t < w then c else slotClass r (t - w) (c + 1)

/-- The monitor that attention chooses for a converter's next conversion, and whether the rotation moves on (R179, R181, R187). -/
def State.attend (s : State) (n : Nat) : Option (Nat × Nat × Bool) :=
  if 2 ≤ s.zoneLevel 3 ∧ s.mon.period % 2 = 0 then none
  else
    match s.bram.guard.find? fun m => m / 32 == n with
    | some m => some (m, 2, false)
    | none =>
      let w := s.weights (monCluster (n / 8))
      let c := slotClass w (tabGet s.bram.turn 0 n % sumN w) 0
      ((List.range 4).findSome? fun i => (s.classHead n ((c + i) % 4)).map fun m => (m, (c + i) % 4, true))

/-- A cluster's schedulers work: in RUN, and in DRAINING for the pairs in progress (R186). -/
def State.clusterSteers (s : State) (k : Nat) : Bool := s.clusterRun k || (s.pageOn (bramPg k) && s.rd (Reg.HDR.PG_STATE.STATE (bramPg k)) == 3)

/-- Attention's choice written to CHSEL (R179): the request is granted, and its result awaited. -/
def State.steer (s : State) (n : Nat) : State :=
  if s.dev.live = false ∨ s.clusterSteers (monCluster (n / 8)) = false then s
  else
    match s.attend n with
    | none => s
    | some (mid, cls, turn) =>
      let s := s.wr (Reg.MONITOR.CHSEL.SEL (n / 8) (n % 8)) (mid % 32)
      let w := s.weights (monCluster (n / 8))
      let t := if turn then tabPut s.bram.turn 0 n ((tabGet s.bram.turn 0 n + 1) % sumN w) else s.bram.turn
      { s with bram := { s.bram with
          turn := t
          reqs := s.bram.reqs.filter fun r => !(r.1 == mid && r.2 == cls)
          guard := s.bram.guard.filter (· != mid)
          asked := alPut s.bram.asked mid cls } }

/-- The clusters that take a monitor's results: its own, or all four for an ingress tap (R19). -/
def clustersOf (mid : Nat) : List Nat := if 19456 ≤ mid then [0, 1, 2, 3] else [monCluster (monTile mid)]

/-- A monitor's conversion noted (R181, R183): the age of a lit monitor, and no more guard request on it. -/
def State.noteConv (s : State) (n : Nat) (r : Result) : State :=
  let k := monCluster (n / 8)
  let t := tabGet s.bram.convAt 0 r.mid
  let age := if t = 0 then 0 else (r.start - (t - 1)) / us
  let ages := if s.lit r.mid then tabPut s.bram.ages 0 k (max (tabGet s.bram.ages 0 k) (min 255 age)) else s.bram.ages
  { s with bram := { s.bram with ages, convAt := tabPut s.bram.convAt 0 r.mid (r.start + 1), guard := if s.loopMode n then s.bram.guard.filter (· != r.mid) else s.bram.guard } }

/-- While the CTL zone is at THROTTLE, every second conversion of a converter in LOOP mode repeats the one before, and its result goes to capture alone (R187). -/
def State.repeated (s : State) (n period : Nat) : Bool := decide (2 ≤ s.zoneLevel 3) && s.loopMode n && period % 2 == 1

/-- A result discarded for every element in holdoff that it is about, as its tap or as its input, and counted (R100, R182). -/
def State.holdoffDrop (s : State) (mid : Nat) : State :=
  ((monElem mid).toList ++ readersOf mid).eraseDups.foldl (fun s eid =>
    if s.status eid = stHold ∧ s.reason eid = whyHoldoff then s.inc (Reg.BRAMBLE.CNT_DISCARD_HOLDOFF.COUNT (clusterOf eid)) else s) s

/-- A result delivered to Bramble (R159, R182): a flagged one is ignored and counted; an element in holdoff discards it; samples of pairs are taken; and the elements whose input it gives are tested. -/
def State.deliver (s : State) (n : Nat) (r : Result) : State :=
  let period := (s.conv n).period
  let s := s.noteConv n r
  if s.repeated n period then s
  else
    let s := s.holdoffDrop r.mid
    let s := match monElem r.mid with
      | some eid => s.probeSample eid r period
      | none => s
    if r.susp || r.settl then (clustersOf r.mid).foldl (fun s k => s.inc (Reg.BRAMBLE.CNT_FLAGGED.COUNT k)) s
    else
      let s := { s with bram := { s.bram with seen := alPut s.bram.seen r.mid ⟨r.amps, r.start⟩, asked := alDel s.bram.asked r.mid } }
      (readersOf r.mid).foldl (fun s eid => if s.clusterRun (clusterOf eid) then s.blindRefresh eid else s) s

/-- The elements with a tap on a converter: the cells of its inputs, or the shutters. -/
def convElems (n : Nat) : List Nat := ((List.range 32).filterMap fun i => monElem (32 * n + i)).eraseDups

/-- At a conversion start of a converter in LOOP mode, the NO_STEER elements that it serves leave BLIND (R170). -/
def State.steerBack (s : State) (n : Nat) : State :=
  if s.loopMode n then
    (convElems n).foldl (fun s eid => if s.status eid = stBlind ∧ s.reason eid = 10 ∧ s.weakTapNow eid / 32 = n then s.acquire eid else s) s
  else s

/-- A converter leaves LOOP mode: the elements whose weak tap it converts become BLIND with reason NO_STEER (R169). -/
def State.steerLost (s : State) (n : Nat) : State :=
  if s.loopMode n then s
  else (convElems n).foldl (fun s eid => if s.working eid && s.probes eid && s.weakTapNow eid / 32 == n then s.enterBlind eid 10 else s) s

/-- Whether a PIC sensor is failed (R268). -/
def State.sensorFailed (s : State) (i : Nat) : Bool := s.flag (Reg.THERMAL.SENSOR.FAILED i)

/-- Feed-forward of a BLIND element (R170). -/
def State.feedForward (s : State) (eid : Nat) : State :=
  let e := s.elem eid
  let z := zoneOf eid
  if s.status eid = stBlind ∧ s.sensorFailed z = false ∧ z ∈ s.bram.fresh then
    let p : Int := (s.htrPow eid e.tfCode : Nat) + s.kT eid * (s.picTemp z - e.tf) * (powUnit / 16 : Nat)
    let c := s.codeOfPow eid p.toNat
    if c = s.htrAim eid then s else s.stepHtr eid c
  else s

/-- The work of a loop epoch on one element (R183). -/
def State.epochElem (s : State) (eid : Nat) : State :=
  let s := (s.refreshBand eid).feedForward eid
  if s.status eid = stSat then
    let ms' := min 65535 ((s.up - (s.elem eid).satAt) / ms)
    (s.wr (Reg.ELEM.ELEM_STATUS.SAT_MS eid) ms').wrapCheck eid
  else s

/-- STATUS_COUNT and MAX_AGE of a cluster, and its epoch counted (R183). -/
def State.epochCluster (s : State) (k : Nat) : State :=
  let sts := (clusterElems k).map s.status
  let s := (List.range 8).foldl (fun s c => s.wr (Reg.BRAMBLE.STATUS_COUNT.COUNT k c) (sts.count c)) s
  let blindFailed := (clusterElems k).any fun eid => s.status eid == stBlind && s.sensorFailed (zoneOf eid)
  let s := if blindFailed then s.inc (Reg.BRAMBLE.CNT_FF_NO_SENSOR.COUNT k) else s
  (s.wr (Reg.BRAMBLE.MAX_AGE.US k) (tabGet s.bram.ages 0 k)).incWrap (Reg.BRAMBLE.EPOCH_COUNT.COUNT k)

/-- A loop epoch starts (R183): bands, feed-forward, saturation timers, counts; the governor recomputes its live totals and sets ballast (R273, R276). -/
def State.loopEpoch (s : State) : State :=
  let s := allElems.foldl State.epochElem s
  let s := [0, 1, 2, 3].foldl State.epochCluster s
  let s := State.recomputePow { s with bram := { s.bram with fresh := [] } }
  (s.checkHtrOver).ballastLive false

/-- A bank swap discards the probe pairs whose samples fall on both sides of it (R298). -/
def State.swapProbes (s : State) : State :=
  (s.bram.elems.map (·.1)).foldl (fun s eid =>
    match (s.elem eid).probe with
    | some p => if p.step = 2 ∨ p.step = 3 then s.abortProbe eid else s
    | none => s) s

end Sys2Proof.Machine
end

