-- ==== Sys2Proof/Machine/Transition.lean ====
section
/-! DEFINITION. Images and the transition (chapter 4): image slots and the prefetch of store images, staging, strobes, blanking, and what a quarantine does to a transition. -/
namespace Sys2Proof.Machine

/-- The GANTRY page. -/
def gantryPg : Nat := 0x9000

/-- The tile bus of a Bramble cluster is under test (R460). -/
def State.clusterTested (s : State) (c : Nat) : Bool :=
  match s.test.run with
  | some t => t.test == 2 && bitOf (s.rd Reg.TEST.TB_CFG.BUSES) c
  | none => false

/-- Whether an SDRAM address lies in the range of a running SDRAM test, whose check-bit errors are counted by the test (R459). -/
def State.sdTesting (s : State) (a : Nat) : Bool :=
  (match s.test.run with | some t => t.test == 3 | none => false) && decide (s.rd Reg.TEST.SD_START.MB * 2 ^ 20 ≤ a) &&
    decide (a < (s.rd Reg.TEST.SD_START.MB + max 1 (s.rd Reg.TEST.SD_SIZE.MB)) * 2 ^ 20)

/-- A corrected or uncorrectable error of a board-SDRAM read (R445): counted, recorded, raised. -/
def State.sdEcc (s : State) (a : Nat) (e : Ecc) : State :=
  let c := sdChan a
  if e != .ok && s.sdTesting a then s.inc Reg.TEST.SD_FAIL_INFO.COUNT
  else match e with
  | .ok => s
  | .corrected =>
    let s := ((s.inc (Reg.SDRAM.CNT_CE.COUNT c)).wr (Reg.SDRAM.LAST_CE_ADDR_LO.ADDR c) (a / 64)).wr (Reg.SDRAM.LAST_CE_ADDR_HI.ADDR c) (a / 2 ^ 32)
    (s.evt (0x14000 + 0x1000 * c) 0).raise (40 + c) (a / 64)
  | .uncorrectable =>
    let s := ((s.inc (Reg.SDRAM.CNT_UE.COUNT c)).wr (Reg.SDRAM.LAST_UE_ADDR_LO.ADDR c) (a / 64)).wr (Reg.SDRAM.LAST_UE_ADDR_HI.ADDR c) (a / 2 ^ 32)
    (s.evt (0x14000 + 0x1000 * c) 1).raise (44 + c) (a / 64)

/-- The bytes of image cache slot n (R83). -/
def State.slotBytes (s : State) (n : Nat) : List Byte := bytesOf ((List.range 512).map fun i => s.rdW (0x400000 + 0x800 * n + 4 * i))

/-- VALID of slot n (R83). -/
def State.slotValid (s : State) (n : Nat) : Bool := bitOf (s.rd (Reg.GANTRY.SLOT_VALID.VALID (n / 32))) (n % 32)

/-- VALID of slot n set. -/
def State.setValid (s : State) (n : Nat) (b : Bool) : State :=
  s.wr ⟨(Reg.GANTRY.SLOT_VALID.VALID (n / 32)).off, n % 32, 1⟩ (b2n b)

/-- A slot of the live image, or fixed for the next bench at a commit point that has passed (R66, R84). -/
def State.slotInUse (s : State) (n : Nat) : Bool :=
  s.img.liveRef == .slot n || (match s.img.next with
    | some f => f.ref == .slot n
    | none => false)

/-- A slot written whole, with VALID as given (R66, R83). -/
def State.writeSlot (s : State) (n : Nat) (b : List Byte) (valid : Bool) : State :=
  let s := (List.range 512).foldl (fun s i => s.wrW (0x400000 + 0x800 * n + 4 * i) (BitVec.ofNat 32 (leAt b (4 * i) 4))) s
  s.setValid n valid

/-- A host write of a word of a slot (R83, R84). -/
def State.slotWord (s : State) (n i : Nat) (w : Word) : State :=
  if s.slotInUse n then s.err gantryPg 0xFFF
  else (s.wrW (0x400000 + 0x800 * n + 4 * i) w).setValid n false

/-- SLOT_CHECK.GO (R83, R102). -/
def State.slotCheck (s : State) (n : Nat) : State :=
  if s.flag Reg.GANTRY.SLOT_CHECK_STATUS.BUSY then s.err gantryPg 0x404
  else
    let s := (s.put Reg.GANTRY.SLOT_CHECK_STATUS.BUSY true).wr Reg.GANTRY.SLOT_CHECK_STATUS.SLOT n
    { s with img := { s.img with checking := some n } }

/-- The check of a slot ends (R83): VALID on success. -/
def State.slotCheckDone (s : State) : State :=
  match s.img.checking with
  | none => s
  | some n =>
    let c := imageCheck (s.slotBytes n)
    let s := (s.put Reg.GANTRY.SLOT_CHECK_STATUS.BUSY false).wr Reg.GANTRY.SLOT_CHECK_STATUS.RESULT c
    let s := if c = 0 then s.setValid n true else s
    State.evt { s with img := { s.img with checking := none } } gantryPg 16

/-- A store image arrives in its prefetch buffer and is checked by R82 (R85); unreadable data leave it unusable (R445). -/
def State.fetchArrival (s : State) (addr : Nat) (ecc : Ecc) : State :=
  if s.sdOnline = false then s
  else
    let s := s.sdEcc addr ecc
    let b := s.sdBytes addr 2048
    let c := imageCheck b
    let res : Nat × Option Image := if ecc = .uncorrectable then (15, none) else if c = 0 then (0, some (parseImage b)) else (c, none)
    let s := s.draw
    { s with img := { s.img with prefetch := s.img.prefetch.map fun p => if p.addr = addr ∧ p.arrived.isNone then { p with arrived := some res } else p } }

/-- The image that stands for no light at all: the base of the first staging (R177, R219). -/
def Image.dark : Image := ⟨0, 0, 0, [], List.replicate 64 0, []⟩

/-- The fast code an image's override gives an element (R80). -/
def Image.fastOvr (m : Image) (eid : Nat) : Option Nat := (m.ovr eid).bind fun o => if o.kind = 0 ∨ o.kind = 2 then some o.fast else none

/-- The heater code an image's override gives an element (R80). -/
def Image.htrOvr (m : Image) (eid : Nat) : Option Nat := (m.ovr eid).bind fun o => if o.kind = 1 ∨ o.kind = 2 then some o.htr else none

/-- Whether an image holds an element FIXED (R80). -/
def Image.fixed (m : Image) (eid : Nat) : Bool :=
  match m.ovr eid with
  | some o => o.kind == 2
  | none => false

/-- The override by which an image sets an element's fast channel (R80, R87): its kind and codes, the heater code of a FAST entry left out. -/
def Image.fastEntry (m : Image) (eid : Nat) : Option Ovr :=
  (m.ovr eid).bind fun o => if o.kind = 2 then some o else if o.kind = 0 then some { o with htr := 0 } else none

/-- The override by which an image sets an element's heater channel (R80, R87): its kind and codes, the fast code of a HEATER entry left out. -/
def Image.htrEntry (m : Image) (eid : Nat) : Option Ovr :=
  (m.ovr eid).bind fun o => if o.kind = 2 then some o else if o.kind = 1 then some { o with fast := 0 } else none

/-- TRANSITION_BLANK is in force for a transition to an image (R98). -/
def State.blanking (s : State) (m : Image) : Bool :=
  let b := s.rd Reg.GANTRY.IMG_CTRL.BLANK_MODE
  b == 2 || (b == 1 && bitOf m.flags 0)

/-- A channel that staging marks: its key, the code before clamping, and its transition shape. -/
structure Mark where
  key   : Nat
  code  : Int
  shape : Nat
deriving DecidableEq, Repr

/-- The calibrated fast code of an element under an image (R87): a cell's by the bitmap as staged, a shutter's by its setpoint. -/
def State.calCode (s : State) (m : Image) (cells eid : Nat) : Int :=
  if isCell eid then s.cellCode eid (bitOf cells (placeOf eid)) else s.setCode eid (m.set (planeOf eid) (placeOf eid))

/-- The fast code of an element under an image: its override's, or the calibrated one (R80, R87). -/
def State.imageCode (s : State) (m : Image) (cells eid : Nat) : Int :=
  match m.fastOvr eid with
  | some c => sgn 12 c
  | none => s.calCode m cells eid

/-- The fast key of an element. -/
def eidFast (eid : Nat) : Nat := fastKey (tileOf eid) (chanOf eid)

/-- The heater key of an element. -/
def eidHtr (eid : Nat) : Nat := htrKey (tileOf eid) (chanOf eid)

/-- The element of a channel key. -/
def keyEid (key : Nat) : Nat := 76 * (key / 256) + key / 2 % 128

/-- The cell channels that staging marks (R87, R94): both planes of each flipped position. -/
def State.markCells (s : State) (m : Image) (cells : Nat) : List Mark :=
  (diffPos cells s.img.liveCells).flatMap fun x => [0, 1].map fun p =>
    let eid := cellEid p x
    ⟨eidFast eid, s.imageCode m cells eid, 4 * m.shapeSet + (if bitOf cells x then 0 else 1)⟩

/-- A shutter that TRANSITION_BLANK closes at T and releases later (R98): its port is to be released, and its setpoint is not closed. -/
def Image.reopens (m : Image) (release : List Nat) (p e : Nat) : Bool := release.contains e && m.set p e != 0xFF

/-- The shutter channels that staging marks (R87, R89, R94): a setpoint that differs, a closing port, or a port that is a pin-conflict port no longer. A blanked shutter to be released takes the code of its new setpoint into its shadow, any other closing one the closed code. -/
def State.markShutters (s : State) (l m : Image) (cells : Nat) (closing release : List Nat) : List Mark :=
  (List.range 1024).filterMap fun i =>
    let p := i / 512
    let e := i % 512
    let eid := shutEid p e
    let shape (dir : Nat) : Nat := 4 * m.shapeSet + 2 + dir
    if s.status eid = stQuar then none
    else if closing.contains e then some ⟨eidFast eid, if m.reopens release p e then s.imageCode m cells eid else s.closedCode eid, shape 1⟩
    else if m.set p e ≠ l.set p e ∨ s.img.pinPorts.contains e then
      some ⟨eidFast eid, s.imageCode m cells eid, shape (if l.set p e < m.set p e ∧ !s.img.pinPorts.contains e then 1 else 0)⟩
    else none

/-- The closed codes that the shutters to be released play at T (R98), by channel. -/
def State.closeCodes (s : State) (m : Image) (release : List Nat) : List (Nat × Nat) :=
  ((List.range 1024).filter fun i => m.reopens release (i / 512) (i % 512)).map fun i =>
    let eid := shutEid (i / 512) (i % 512)
    (eidFast eid, unsgn 12 (clampFast (s.closedCode eid)))

/-- The channels that staging marks for overrides alone (R80, R87, R94): an override added, changed or removed on a fast channel, added or changed on a heater channel. -/
def State.markOvrs (s : State) (l m : Image) (cells : Nat) (have' : List Nat) : List Mark :=
  (((m.ovrs ++ l.ovrs).map (·.eid)).eraseDups).flatMap fun eid =>
    if s.status eid = stQuar ∨ (isCell eid ∧ s.pinned (placeOf eid)) then []
    else
      let code := s.imageCode m cells eid
      let f : List Mark :=
        if m.fastEntry eid ≠ l.fastEntry eid ∧ !have'.contains (eidFast eid) then
          [⟨eidFast eid, code, 4 * m.shapeSet + (if isCell eid then 0 else 2) + (if sgn 12 (s.fastLive eid) < code then 0 else 1)⟩] else []
      let h : List Mark := match m.htrEntry eid with
        | some o => if l.htrEntry eid = some o then [] else [⟨eidHtr eid, (o.htr : Int), 0⟩]
        | none => []
      f ++ h

/-- A staged channel: shadow code and mark written in the tile (R87); a code beyond the range is clamped and counted (R105). -/
def State.writeMark (s : State) (k : Mark) : State :=
  let t := k.key / 256
  let c := k.key / 2 % 128
  let kind := k.key % 2
  let s := if kind = 0 ∧ clampFast k.code ≠ k.code then s.inc (Reg.DRIVE.CNT_CLIP.COUNT t) else s
  let code := if kind = 0 then unsgn 12 (clampFast k.code) else (clampHtr k.code).toNat
  (s.wr (shadowFld kind t c) code).put (markFld kind t c) true

/-- An element marked by staging goes to HOLD with reason STAGED and its pair is discarded (R92, R158, R178). -/
def State.stageElem (s : State) (eid : Nat) : State :=
  let st := s.status eid
  if 2 ≤ st ∧ st ≤ 6 then (s.abortProbe eid).setStatus eid stHold whyStaged else s

/-- An element whose mark is discarded enters ACQUIRE (R178). -/
def State.unstageElem (s : State) (eid : Nat) : State :=
  if s.status eid = stHold ∧ s.reason eid = whyStaged then s.acquire eid else s

/-- A mark cleared in its tile. -/
def State.clearMark (s : State) (key : Nat) : State := s.put (markFld (key % 2) (key / 256) (key / 2 % 128)) false

/-- A pin conflict reported (R88). -/
def State.pinConflict (s : State) (x : Nat) : State :=
  ((s.inc Reg.GANTRY.CNT_PIN_CONFLICT.COUNT).evt gantryPg 20).raise 11 x

/-- Staging worked out for an image (R87 to R89, R97), with the conflicts and ignored overrides already reported left out of the report. -/
def State.stageFor (s : State) (m : Image) (old : Option Staged) : State :=
  let l := s.img.live.getD Image.dark
  let live := s.img.liveCells
  let held := (diffPos m.cells live).filter s.pinned
  let cells := held.foldl (fun c x => c ^^^ 2 ^ x) m.cells
  let ignored := (m.ovrs.map (·.eid)).filter fun e => s.status e == stQuar
  let was := match old with
    | some o => o
    | none => ⟨0, [], [], [], [], [], [], 0, [], [], s.up, false, false⟩
  let s := (held.filter fun x => !was.conflict.contains x).foldl State.pinConflict s
  let s := (ignored.filter fun x => !was.ignored.contains x).foldl (fun s _ => s.inc Reg.GANTRY.CNT_PIN_CONFLICT.COUNT) s
  let pinPorts := (held.flatMap (egressAt m.cells)).eraseDups
  let flips := diffPos cells live
  let changed := (flips.flatMap (egressAt cells)).eraseDups
  let blanked := if s.blanking m then changed else []
  let closing := (blanked ++ pinPorts ++ s.sump.blanked).eraseDups
  let release := blanked.filter fun e => !pinPorts.contains e && !s.sump.blanked.contains e
  let ms := s.markCells m cells ++ s.markShutters l m cells closing release
  let ms := (ms ++ s.markOvrs l m cells (ms.map (·.key))).filter fun k => s.tileMode (k.key / 256) != 0
  let s := (was.marks.map (·.1)).foldl State.clearMark s
  let s := ms.foldl State.writeMark s
  let keys := ms.map (·.key)
  let s := ((was.marks.map (·.1)).filter fun k => !keys.contains k).foldl (fun s k => s.unstageElem (keyEid k)) s
  let s := keys.foldl (fun s k => s.stageElem (keyEid k)) s
  let g : Staged := ⟨cells, held, ignored, changed, pinPorts, closing, release, flips.length, ms.map fun k => (k.key, k.shape), s.closeCodes m release, was.started, was.complete, was.armed⟩
  { s with img := { s.img with staged := some g } }

/-- Staging starts (R90): nothing where no image is fixed, or its outcome was HOLD. Transfers of the tiles listed met an uncorrectable tile-bus error, which is raised and the transfer sent again, or a corrected one (R11). -/
def State.stagingStart (s : State) (errs corrs : List Nat) : State :=
  match s.img.next with
  | some f =>
    if f.held ∨ s.img.staged.isSome then s
    else
      let check (e : Ecc) (s : State) (t : Nat) : State := if t < 128 then s.busCheck (t / 32) t e else s
      corrs.foldl (check .corrected) (errs.foldl (check .uncorrectable) (s.stageFor f.image none))
  | none => s

/-- Staging completes (R90). -/
def State.stagingComplete (s : State) : State :=
  match s.img.staged with
  | some g =>
    if g.complete then s
    else
      let d := min 65535 ((s.up - g.started) / ns)
      let s := s.wr Reg.GANTRY.STAGE_LAST.NS d
      let s := s.wr Reg.GANTRY.STAGE_MAX.NS (max d (s.rd Reg.GANTRY.STAGE_MAX.NS))
      { s with img := { s.img with staged := some { g with complete := true } } }
  | none => s

/-- Marks and shadow codes discarded (R91, R101). -/
def State.discardMarks (s : State) : State :=
  match s.img.staged with
  | some g =>
    let s := (g.marks.map (·.1)).foldl State.clearMark s
    let s := (g.marks.map (·.1)).foldl (fun s k => s.unstageElem (keyEid k)) s
    { s with img := { s.img with staged := none } }
  | none => s

/-- The fixed image is given up: nothing goes live at the coming boundary. -/
def State.dropNext (s : State) : State :=
  let s := s.discardMarks
  let s := s.put Reg.GANTRY.NEXT_SLOT.FIXED false
  { s with img := { s.img with next := none } }

/-- The arming deadline (R91): the strobe is armed, or withheld and reported. -/
def State.armingDeadline (s : State) : State :=
  match s.img.staged with
  | some g =>
    if g.armed then s
    else if g.complete then { s with img := { s.img with staged := some { g with armed := true } } }
    else
      let s := s.discardMarks
      ((s.inc Reg.GANTRY.CNT_STAGE_LATE.COUNT).evt gantryPg 19).raise 12 (s.rd Reg.GANTRY.BENCH_NUM.COUNT)
  | none => s

/-- LIVE_SLOT and LIVE_ADDR, or NEXT_SLOT's slot and source, for a reference. -/
def refSlot : ImgRef → Nat × Bool × Nat
  | .slot n => (n, false, 0)
  | .store a => (0, true, a)
  | .none => (0, false, 0)

/-- Bramble exchanges the amplifier ranges of a strobed cell's two taps (R161); a tap whose AR_EN is 0 keeps its range. -/
def State.exchangeTaps (s : State) (eid : Nat) : State :=
  let a := cellTap eid 0
  let b := cellTap eid 1
  let ra := s.monRange a
  let rb := s.monRange b
  let set (s : State) (mid r : Nat) : State := if s.flag (Reg.MONITOR.MON_CFG.AR_EN (mid / 256) (mid % 256)) then s.hostRange mid r else s
  set (set s a rb) b ra

/-- A marked channel fires with a code (R93 to R96, R114): a fast channel starts its shape, a heater channel steps; one whose mark the safe strobe has cleared stays, and so does one whose kind is in RANGE_SETTLE. -/
def State.fireAs (s : State) (key shape code : Nat) : State :=
  let t := key / 256
  let k := key / 2 % 128
  if s.flag (markFld (key % 2) t k) = false then s
  else
    let s := s.clearMark key
    if s.settling (key % 2) t then s
    else if key % 2 = 0 then s.startPlay t k code shape
    else ((s.dropHeld t k).setLive 1 t k code false).noteHtr t k

/-- A marked channel of a firing group goes live with its shadow code (R93, R111). -/
def State.fireMark (s : State) (key shape : Nat) : State := s.fireAs key shape (s.rd (shadowFld (key % 2) (key / 256) (key / 2 % 128)))

/-- An element enters holdoff (R98, R100, R178): at its strobe, or at its release; one held FIXED does where the image holds it FIXED no longer. -/
def State.enterHoldoff (s : State) (eid : Nat) : State :=
  let st := s.status eid
  let why := s.reason eid
  if 2 ≤ st ∧ st ≤ 6 then (s.abortProbe eid).setStatus eid stHold whyHoldoff
  else if st = stHold ∧ (why = whyStaged ∨ why = whyHoldoff ∨ (why = whyFixed ∧ !(s.img.live.any fun m => m.fixed eid))) then
    s.setStatus eid stHold whyHoldoff
  else s

/-- Whether a shutter awaits the blank release (R98): it fired at T and enters holdoff only then. -/
def State.awaits (s : State) (eid : Nat) : Bool :=
  !isCell eid && s.img.release.contains (placeOf eid) && (match s.img.live with
    | some m => m.set (planeOf eid) (placeOf eid) != 0xFF
    | none => false)

/-- A strobe ends what the host has written to channels' shadows since the last (R121, R125). -/
def State.strobeHost (s : State) (p : Nat → Bool) : State :=
  let keys := s.drv.hostWr.filter p
  let s := keys.foldl (fun s key => s.put (dirtyFld (key % 2) (key / 256) (key / 2 % 128)) false) s
  { s with drv := { s.drv with hostWr := s.drv.hostWr.filter fun key => !keys.contains key } }

/-- The strobe group of a channel, by its key. -/
def State.groupOf (s : State) (key : Nat) : Nat := s.rd (groupFld (key % 2) (key / 256) (key / 2 % 128))

/-- The strobe of a group of the present transition (R93): its marked channels that are left go live, their elements enter holdoff, and the taps of its cells exchange their ranges, once for a cell (R161). -/
def State.groupStrobe (s : State) (g : Nat) : State :=
  if !s.img.groups.contains g then s
  else
    let mine := s.img.firing.filter fun m => s.groupOf m.1 == g
    let cells := (((mine.filter fun m => s.flag (markFld (m.1 % 2) (m.1 / 256) (m.1 / 2 % 128))).map fun m => keyEid m.1).filter fun eid =>
      isCell eid && !s.img.swapped.contains eid).eraseDups
    let s := s.strobeHost fun key => s.groupOf key == g
    let s := mine.foldl (fun s m => s.fireMark m.1 m.2) s
    let s := mine.foldl (fun s m => s.enterHoldoff (keyEid m.1)) s
    let s := cells.foldl State.exchangeTaps s
    let s := { s with img := { s.img with
        firing := s.img.firing.filter fun m => !mine.contains m
        groups := s.img.groups.filter (· != g)
        swapped := s.img.swapped ++ cells } }
    if mine.isEmpty then s else s.checkHtrOver

/-- A shape ends (R95): the live code equals the new one. -/
def State.shapeEnd (s : State) (t k : Nat) : State :=
  match s.drv.plays.find? fun p => p.key == fastKey t k with
  | some p => (s.setLive 0 t k p.new true).stopPlay t k
  | none => s

/-- Blanked shutters are released (R98): each goes to its new setpoint's code with the opening shape and enters holdoff. Its shadow, which may hold a later image's code, stays. -/
def State.blankRelease (s : State) : State :=
  match s.img.live with
  | some m =>
    let eids := s.img.release.flatMap fun e => [shutEid 0 e, shutEid 1 e]
    let go := eids.filter fun eid => s.awaits eid && s.status eid != stQuar && s.tileMode (tileOf eid) != 0
    let s := { s with img := { s.img with release := [] } }
    go.foldl (fun s eid =>
      (s.startPlay (tileOf eid) (chanOf eid) (unsgn 12 (clampFast (s.imageCode m m.cells eid))) (4 * m.shapeSet + 2)).enterHoldoff eid) s
  | none => { s with img := { s.img with release := [] } }

/-- Blank releases still to come are cancelled (R101): the shutters' loops start again, targeting closed. -/
def State.cancelRelease (s : State) : State :=
  let eids := s.img.release.flatMap fun e => [shutEid 0 e, shutEid 1 e]
  let s := { s with img := { s.img with release := [] } }
  eids.foldl State.unstageElem s

/-- The armed image goes live at T (R98, R99): blanked and pin-conflict shutters close, the incoming image becomes the live one, and the groups are left to fire. An unmarked element that it holds FIXED no longer enters holdoff (R80). -/
def State.goLive (s : State) : State :=
  match s.img.next, s.img.staged with
  | some f, some g =>
    let closeEids := g.closing.flatMap fun e => [shutEid 0 e, shutEid 1 e]
    let closeMarks := g.marks.filter fun m => m.1 % 2 == 0 && closeEids.contains (keyEid m.1)
    let r := refSlot f.ref
    let freed := match s.img.live with
      | some l => (l.ovrs.map Ovr.eid).filter fun eid => l.fixed eid && s.status eid == stHold && s.reason eid == whyFixed && !g.marks.any fun m => keyEid m.1 == eid
      | none => []
    let s := { s with img := { s.img with live := some f.image, liveRef := f.ref, liveCells := g.cells, pinPorts := g.pinPorts,
                                          release := g.release, next := none, staged := none,
                                          firing := g.marks.filter fun m => !closeMarks.contains m, groups := List.range 16, swapped := [] } }
    let s := s.strobeHost fun key => closeMarks.any fun m => m.1 == key
    let s := closeMarks.foldl (fun s m => match alGet g.closes m.1 with
      | some c => s.fireAs m.1 m.2 c
      | none => s.fireMark m.1 m.2) s
    let s := closeMarks.foldl (fun s m => if s.awaits (keyEid m.1) then s else s.enterHoldoff (keyEid m.1)) s
    let s := freed.foldl State.enterHoldoff s
    let s := ((s.wr Reg.GANTRY.LIVE_SLOT.SLOT r.1).put Reg.GANTRY.LIVE_SLOT.SOURCE r.2.1).put Reg.GANTRY.LIVE_SLOT.NONE false
    let s := (s.wr Reg.GANTRY.LIVE_ADDR_LO.ADDR (r.2.2 / 2048)).wr Reg.GANTRY.LIVE_ADDR_HI.ADDR (r.2.2 / 2 ^ 32)
    let s := (s.wr Reg.GANTRY.LIVE_IMAGE_ID.ID f.image.id).wr Reg.GANTRY.LAST_FLIPS.FLIPS g.flips
    let s := (s.wr Reg.GANTRY.LAST_FLIPS.CHANGED g.changed.length).wr Reg.GANTRY.BLANKED.PORTS g.closing.length
    let used := f.steps.eraseDups.length
    let s := (s.wr Reg.GANTRY.LAST_STAGGER.SLOTS used).wr Reg.GANTRY.LAST_STAGGER.SPREAD_NS (5 * f.steps.foldl max 0)
    s.inc Reg.GANTRY.CNT_TRANSITIONS.COUNT
  | _, _ => s

/-- A quarantine as Sump or the host makes it (R58, R88, R168): the loop stops, a pending wrap is withdrawn, and staging not yet armed is worked out again with the position held. -/
def State.quarantineNow (s : State) (eid : Nat) : State :=
  if s.status eid = stOff ∨ s.status eid = stQuar then s
  else
    let s := (s.wrapDrop eid).quarantine eid
    match s.img.next, s.img.staged with
    | some f, some g => if g.armed then s else s.stageFor f.image (some g)
    | _, _ => s

/-- The egress ports that Sump blanks: both shutters to SAFE_CODE by direct update, their loops towards closed (R392). -/
def State.blankPort (s : State) (e : Nat) : State :=
  if s.sump.blanked.contains e then s
  else
    let s := { s with sump := { s.sump with blanked := s.sump.blanked ++ [e] } }
    let s := s.inc Reg.SUMP.CNT_BLANK.COUNT
    [shutEid 0 e, shutEid 1 e].foldl (fun s eid =>
      let s := if s.status eid = stQuar then s else s.directFast eid (sgn 12 (s.rd (Reg.DRIVE.FAST_CFG.SAFE_CODE (tileOf eid) (chanOf eid))))
      s.softStart eid) s

end Sys2Proof.Machine
end

