-- ==== Sys2Proof/Machine/Gantry.lean ====
section
/-! DEFINITION. Gantry (chapter 8): bench descriptors, the choice of the next bench, commit points and boundaries, starts, jumps, RESYNC, stops, triggers and the stream; and the entry to SAFE, which freezes it. -/
namespace Sys2Proof.Machine

/-- DURATION of a descriptor (R191). -/
def Bench.dur (b : Bench) : Nat := bitsOf b.timing 0 24
/-- TRIGGERED (R191). -/
def Bench.triggered (b : Bench) : Bool := bitOf b.timing 24
/-- TRIG_SRC (R191). -/
def Bench.trigSrc (b : Bench) : Nat := bitsOf b.timing 25 2
/-- ADMIT_POLICY (R191, R193). -/
def Bench.policy (b : Bench) : Nat := bitsOf b.timing 27 2
/-- TO_STREAM (R191). -/
def Bench.toStream (b : Bench) : Bool := bitOf b.timing 29
/-- STOP_AFTER (R191). -/
def Bench.stopAfter (b : Bench) : Bool := bitOf b.timing 30
/-- LABEL (R191). -/
def Bench.labelOf (b : Bench) : Nat := bitsOf b.label 0 12
/-- COUNT of a loop (R191). -/
def Bench.count (b : Bench) : Nat := bitsOf b.loop 0 24
/-- LOOP_BEGIN (R191). -/
def Bench.loopBegin (b : Bench) : Bool := bitOf b.loop 24
/-- LOOP_END (R191). -/
def Bench.loopEnd (b : Bench) : Bool := bitOf b.loop 25
/-- SEQ (R191). -/
def Bench.seqOf (b : Bench) : Nat := bitsOf b.seq 0 16
/-- Reserved bits that are not 0 (R194). -/
def Bench.reservedBad (b : Bench) : Bool := bitOf b.timing 31 || b.label / 2 ^ 12 != 0 || b.loop / 2 ^ 26 != 0 || b.seq / 2 ^ 16 != 0

/-- A descriptor read from its 32 bytes (R191). -/
def parseBench (stream : Bool) (idx : Nat) (b : List Byte) : Bench :=
  ⟨stream, idx, leAt b 0 8, leAt b 8 8, leAt b 0x10 4, leAt b 0x14 2, leAt b 0x16 2, leAt b 0x18 4, leAt b 0x1C 4⟩

/-- Entry i of bench memory (R199). -/
def State.entry (s : State) (i : Nat) : Bench := parseBench false i (bytesOf ((List.range 8).map fun j => s.rdW (0x580000 + 32 * i + 4 * j)))

/-- The granule in force, in time units (R195). -/
def State.gran (s : State) : Nat := s.rd Reg.GANTRY.GRANULE_STATUS.PS * ps

/-- The commit lead in force in granules (R90, R197). -/
def State.leadG (s : State) : Nat := max (clampN 16 23 (s.rd Reg.GANTRY.COMMIT_LEAD.G)) (divUp 760000 (s.rd Reg.GANTRY.GRANULE_STATUS.PS))

/-- The minimum bench in granules (R197). -/
def State.minBench (s : State) : Nat := max 24 (divUp 1200000 (s.rd Reg.GANTRY.GRANULE_STATUS.PS))

/-- SYNC_DELAY in effect: at least L + 2 (R232). -/
def State.syncDelay (s : State) : Nat := max (s.leadG + 2) (s.rd Reg.GANTRY_TRIG.SYNC_CFG.SYNC_DELAY)

/-- Whether this device is a chassis master (R220). -/
def State.master (s : State) : Bool := s.rd Reg.GANTRY_TRIG.SYNC_CFG.ROLE == 1

/-- GSTATE (R229). -/
def State.gstate (s : State) : Nat := s.rd Reg.GANTRY.STATE.GSTATE

/-- GSTATE set. -/
def State.setG (s : State) (g : Nat) : State := s.wr Reg.GANTRY.STATE.GSTATE g

/-- The next planned boundary set, with NEXT_T, which reads 0 in WAIT_TRIGGER (R230). -/
def State.setNextT (s : State) (t : Option Nat) : State :=
  State.wrTime { s with gan := { s.gan with nextT := t } } 0x90C0 (if s.gstate = 3 then 0 else t.getD 0)

/-- The next boundary from the plan and the pending RESYNC (R226): a boundary planned after Tr - minimum bench gives way to Tr. -/
def State.replan (s : State) : State :=
  s.setNextT (match s.gan.resync, s.gan.plan with
    | some (tr, _), some p => if tr < p + s.minBench * s.gran then some tr else some p
    | some (tr, _), none => some tr
    | none, p => p)

/-- The planned boundary set, which a pending RESYNC may displace (R226). -/
def State.setPlan (s : State) (t : Option Nat) : State := State.replan { s with gan := { s.gan with plan := t } }

/-- The running states of Gantry: RUNNING, WAIT_TRIGGER, EXTENDING. -/
def State.playingG (s : State) : Bool := let g := s.gstate; g == 2 || g == 3 || g == 4

/-- The code a Plumb window's copies return to; the window closes (R304). -/
def State.closeWindow (s : State) : State :=
  match s.plumb.window with
  | some w =>
    let s := { s with plumb := { s.plumb with window := none } }
    w.base.foldl (fun s b => s.directFast b.1 (sgn 12 b.2)) s
  | none => s

/-- Every pending request withdrawn and the trigger queues emptied (R219, R227, R228). -/
def State.clearReq (s : State) : State :=
  let s := (s.wrW Reg.GANTRY.PENDING.START.off 0).wr Reg.GANTRY_TRIG.TRIGIN_STATUS.QUEUED 0
  { s with gan := { s.gan with jump := none, resync := none, resyncT := false, stop := false, ended := false, syncTrig := false, trigEarly := [], trigNext := [] } }

/-- Nothing more is planned (R227, R228): no bench is fixed, the requests and the pulses of benches that will not start are cleared, and a granule period that waits takes effect (R196). -/
def State.gantryHalt (s : State) (g : Nat) : State :=
  let s := match s.gan.period.getLast? with
    | some p => s.wr Reg.GANTRY.GRANULE_STATUS.PS p.1
    | none => s
  let s := ((s.dropNext.clearReq).setPlan none).setG g
  { s with gan := { s.gan with fixed := none, ep := none, period := [] } }

/-- Gantry becomes STOPPED (R227). -/
def State.gantryStopped (s : State) : State := (s.gantryHalt 0).evt gantryPg 1

/-- Gantry enters FROZEN as the device enters SAFE or HALT (R228). -/
def State.gantryFreeze (s : State) : State :=
  if s.gantryRunning then (s.gantryHalt 5).evt gantryPg 15 else s

/-- The safe strobe issued (R115, R399): counted, with the SUMP event; blank releases to come are cancelled (R101). -/
def State.fireSafe (s : State) : State := ((s.safeStrobe.cancelRelease).inc Reg.SUMP.CNT_SAFE.COUNT).evt 0x7000 4

/-- Every shutter whose target the entry to or exit from SAFE changes soft-starts (R172). -/
def State.softStartAll (s : State) : State := ((List.range 1024).map fun i => shutEid (i / 512) (i % 512)).foldl State.softStart s

/-- The device enters SAFE (R25, R399): the safe strobe, Gantry FROZEN, windows closed, shutters towards closed. SAFE_LAST keeps the source; the latency it shows is a matter of timing, a free value within the bounds of R399. -/
def State.enterSafe (s : State) (src : Nat) : State :=
  if s.dev = .armed ∨ s.dev = .run then
    let s := (s.goto .safe).gantryFreeze
    let s := (s.fireSafe).closeWindow
    let s := (s.softStartAll).wr Reg.SUMP.SAFE_LAST.SOURCE src
    (s.wr Reg.SUMP.SAFE_LAST.LATENCY_NS ((Config.freeWord s.freeCtr 0x7068).toNat % 24)).draw
  else s

/-- Where a chosen bench lies. -/
inductive Nxt where
  | stop | endOfRegion | at' (stream : Bool) (idx : Nat)
deriving DecidableEq, Repr

/-- The sequence successor of a descriptor (R201). -/
def State.seqNext (s : State) (x : Bench) : Nxt :=
  if x.stream then .at' true (x.idx + 1)
  else if x.toStream then .at' true s.gan.spos
  else if x.idx + 1 < s.gan.limit then .at' false (x.idx + 1)
  else .endOfRegion

/-- A descriptor by its place: a locked entry, or a stream descriptor that is present in the buffer. -/
def State.benchAt (s : State) (stream : Bool) (idx : Nat) : Option Bench :=
  if stream then (s.gan.sbuf.find? fun e => e.1 == idx).map (·.2) else some (s.entry idx)

/-- What R201 chooses: the place, the loop stack after it, whether a loop returned, and the loop-marker errors. -/
structure Choice where
  next   : Nxt
  stack  : List LoopLvl
  looped : Bool
  errs   : Nat
deriving DecidableEq, Repr

/-- The loop part of R201 for the live bench x. -/
def State.chooseSeq (s : State) (x : Bench) (stack : List LoopLvl) : Choice :=
  match x.loopEnd, stack with
  | true, top :: rest =>
    let left := top.left.getD (x.count - 1)
    if x.count = 0 ∨ 0 < left then
      let left' := if x.count = 0 then left else left - 1
      ⟨.at' top.stream top.idx, { top with left := some left', forever := x.count == 0 } :: rest, true, 0⟩
    else ⟨s.seqNext x, rest, false, 0⟩
  | true, [] => ⟨s.seqNext x, [], false, 1⟩
  | false, _ => ⟨s.seqNext x, stack, false, 0⟩

/-- R201: stop, jump or RESYNC label, loop, sequence; a label's entry or a jump's starts with an empty loop stack. -/
def State.choose (s : State) (x : Bench) (stop : Bool) (target : Option Nat) : Choice :=
  if stop || x.stopAfter then ⟨.stop, s.gan.stack, false, 0⟩
  else
    match target with
    | some i => ⟨.at' false i, [], false, 0⟩
    | none => s.chooseSeq x s.gan.stack

/-- The loop stack with a begun loop pushed (R201): depth 4 at most. -/
def pushLoop (b : Bench) (c : Choice) : List LoopLvl × Nat :=
  if b.loopBegin && !c.looped then
    if c.stack.length < 4 then (⟨b.stream, b.idx, none, false⟩ :: c.stack, c.errs) else (c.stack, c.errs + 1)
  else (c.stack, c.errs)

/-- The provisional successor of a bench with the loop stack as it will stand (R201): no jump or stop pending. -/
def State.provisional (s : State) (b : Bench) : Option Bench :=
  let c := if b.stopAfter then Choice.mk .stop s.gan.stack false 0 else s.chooseSeq b s.gan.stack
  match c.next with
  | .at' st i => s.benchAt st i
  | _ => none

/-- An image reference of a descriptor (R192): none where it is unusable, KIND 2 and 3 among them. -/
def State.decodeRef (s : State) (r : Nat) : ImgRef :=
  let kind := r % 4
  if kind = 0 then (if r / 2 ^ 11 = 0 then .slot (bitsOf r 2 9) else .none)
  else if kind = 1 then (if bitsOf r 2 9 = 0 ∧ s.inPartition 0 (r / 2 ^ 11 * 2048) 2048 then .store (r / 2 ^ 11 * 2048) else .none)
  else .none

/-- How a reference serves at a commit point (R86): the image, or unusable, or late. -/
inductive Usable where
  | image (r : ImgRef) (m : Image)
  | invalid
  | late
deriving DecidableEq, Repr

/-- The image of a reference at a commit point (R86, R192). -/
def State.usable (s : State) (r : Nat) : Usable :=
  match s.decodeRef r with
  | .slot n => if s.slotValid n then .image (.slot n) (parseImage (s.slotBytes n)) else .invalid
  | .store a =>
    match (s.img.prefetch.find? fun p => p.addr == a).bind (·.arrived) with
    | some (_, some m) => .image (.store a) m
    | some (_, none) => .invalid
    | none => .late
  | .none => .invalid

/-- The first data of an image report: the slot, or the store address bits [42:11] (R388). -/
def refData (r : Nat) : Nat := if r % 4 = 1 then bitsOf r 11 32 else bitsOf r 2 9

/-- An unusable or late image reported (R86, R103). -/
def State.imageReport (s : State) (r : Nat) (u : Usable) : State :=
  match u with
  | .image _ _ => s
  | .invalid => ((s.inc Reg.GANTRY.CNT_IMAGE_INVALID.COUNT).evt gantryPg 17).raise 9 (refData r)
  | .late => ((s.inc Reg.GANTRY.CNT_IMAGE_LATE.COUNT).evt gantryPg 18).raise 10 (refData r)

/-- BENCH_HELD (R193, R231): the event, and under policy ALERT the Sump source. -/
def State.benchHeld (s : State) (b : Bench) : State :=
  let s := s.evt gantryPg 13
  if b.policy = 3 then s.raise 13 (if b.stream then b.seqOf else b.idx) else s

/-- The next bench's image registers (R102). -/
def State.noteNext (s : State) (r : ImgRef) (m : Image) (subst : Bool) : State :=
  let q := refSlot r
  let s := ((s.wr Reg.GANTRY.NEXT_SLOT.SLOT q.1).put Reg.GANTRY.NEXT_SLOT.SOURCE q.2.1).put Reg.GANTRY.NEXT_SLOT.SUBST subst
  (s.put Reg.GANTRY.NEXT_SLOT.FIXED true).wr Reg.GANTRY.NEXT_IMAGE_ID.ID m.id

/-- What stands fixed for the boundary: an image, with its predicted powers and the steps of its stagger (R276, R280). -/
def State.fixNext (s : State) (r : ImgRef) (m : Image) (sub held : Bool) (steps pred : List Nat) : State :=
  { s with img := { s.img with next := some ⟨r, m, sub, steps, held, pred⟩ } }

/-- What an admission fixes for the boundary (R280), with the powers that each image predicts. -/
def State.admitTake (res : State × Admit × List Nat) (b : Bench) (r : ImgRef) (m : Image) (subst : Bool) (alt : Option (ImgRef × Image)) (pred : Image → List Nat) : State :=
  match res.2.1, alt with
  | .substitute, some (ra, ma) => ((res.1.noteNext ra ma true).inc Reg.GANTRY.CNT_SUBSTITUTED.COUNT).fixNext ra ma true false res.2.2 (pred ma)
  | .hold, _ => (res.1.fixNext r m subst true res.2.2 (pred m)).benchHeld b
  | _, _ => res.1.fixNext r m subst false res.2.2 (pred m)

/-- The image of a fixed bench admitted, or not (R280): what stands fixed for the boundary. -/
def State.admitFix (s : State) (b : Bench) (r : ImgRef) (m : Image) (subst : Bool) (alt : Option (ImgRef × Image)) : State :=
  State.admitTake ((s.noteNext r m subst).admission m (alt.map (·.2)) b.policy) b r m subst alt fun a => zones.map ((s.noteNext r m subst).predict a)

/-- The image of a fixed bench chosen and admitted (R86, R280): the image, else the alternate, else HOLD. -/
def State.takeImage (s : State) (b : Bench) : State :=
  let ua := s.usable b.alt
  let altAbsent := b.alt % 4 == 2
  match s.usable b.image with
  | .image r m =>
    let alt := match ua with
      | .image ra ma => some (ra, ma)
      | _ => none
    s.admitFix b r m false alt
  | u =>
    let s := s.imageReport b.image u
    match ua with
    | .image ra ma => (s.inc Reg.GANTRY.CNT_SUBSTITUTED.COUNT).admitFix b ra ma true none
    | v =>
      let s := if altAbsent then s else s.imageReport b.alt v
      let s := s.put Reg.GANTRY.NEXT_SLOT.FIXED true
      (State.benchHeld { s with img := { s.img with next := none } } b)

/-- The store images that a bench needs, as prefetch requests (R85). -/
def State.fetchesOf (s : State) (b : Bench) : List Prefetch :=
  let one (r : Nat) (alt : Bool) : List Prefetch := match s.decodeRef r with
    | .store a => [⟨a, false, alt, none⟩]
    | _ => []
  one b.image false ++ one b.alt true

/-- The prefetch buffers at a commit point (R85): those of the fixed bench kept for it, and its provisional successor's store images requested. -/
def State.prefetchFor (s : State) (b : Bench) : State :=
  let mine := (s.fetchesOf b).map (·.addr)
  let keep := (s.img.prefetch.filter fun p => mine.contains p.addr).map fun p => { p with fixed := true }
  let next := match s.provisional b with
    | some n => s.fetchesOf n
    | none => []
  { s with img := { s.img with prefetch := keep ++ next } }

/-- The descriptors available ahead of playback (R206): in the buffer and not yet fixed, and in the ring and not yet fetched. -/
def State.streamAhead (s : State) : Nat :=
  let n := 2 ^ (s.rd Reg.GANTRY.STREAM_CFG.SIZE_LOG2 + 1)
  let w := s.rd Reg.GANTRY.STREAM_WR_PTR.PTR
  let r := s.rd Reg.GANTRY.STREAM_RD_PTR.PTR
  (s.gan.sbuf.filter fun e => decide (s.gan.spos ≤ e.1)).length + (w + n - r % n) % n / 32

/-- LOOP_LEFT and STATE.DEPTH brought up to date (R230). -/
def State.loopRegs (s : State) : State :=
  let st := s.gan.stack.reverse
  let s := s.wr Reg.GANTRY.STATE.DEPTH st.length
  (List.range 4).foldl (fun s d =>
    match st[d]? with
    | some l => ((s.wr (Reg.GANTRY.LOOP_LEFT.LEFT d) (l.left.getD 0)).put (Reg.GANTRY.LOOP_LEFT.FOREVER d) l.forever).put (Reg.GANTRY.LOOP_LEFT.ACTIVE d) true
    | none => s.wrW (Reg.GANTRY.LOOP_LEFT.LEFT d).off 0) s

/-- The slip that ends an underflow episode (R225): LATE with the first granule of it. -/
def State.endEpisode (s : State) (t : Nat) : State :=
  match s.gan.ep with
  | some e =>
    let d := (t - e.planned) / s.gran
    let s := { s with gan := { s.gan with ep := none } }
    if d = 0 then s else ((s.add Reg.GANTRY.SLIP.G d).put Reg.GANTRY.SLIP.LATE true).evt gantryPg 7
  | none => s

/-- Stream entries no longer live are released (R202): all before the one that plays, the one fixed and the next to play, but from the first that begins a loop still on the stack. -/
def State.releaseStream (s : State) : State :=
  let held := (s.gan.stack.filter (·.stream)).map (·.idx)
  let used := (s.gan.live.toList ++ s.gan.fixed.toList).filterMap fun b => if b.stream then some b.idx else none
  let low := (held ++ used).foldl min s.gan.spos
  { s with gan := { s.gan with sbuf := s.gan.sbuf.filter fun e => decide (low ≤ e.1) } }

/-- The loop stack after a commit point with its errors (R201): counted, shown, and what a popped loop held in the stream buffer released (R202). -/
def State.takeStack (s : State) (p : List LoopLvl × Nat) : State :=
  let s := (State.loopRegs { s with gan := { s.gan with stack := p.1 } }).releaseStream
  if p.2 = 0 then s else (s.add Reg.GANTRY.CNT_LOOP_ERR.COUNT p.2).evt gantryPg 21

/-- A bench taken by the loop stack (R201) and the stream (R202). -/
def State.fixTake (s : State) (b : Bench) (c : Choice) : State :=
  State.takeStack { s with gan := { s.gan with fixed := some b, spos := if b.stream then max s.gan.spos (b.idx + 1) else s.gan.spos } } (pushLoop b c)

/-- A jump that is taken (R211): counted, and nothing pends. -/
def State.fixJump (s : State) : State :=
  let s := ((s.countEvt Reg.GANTRY.CNT_JUMPS.COUNT gantryPg 3).put Reg.GANTRY.PENDING.JUMP false).put Reg.GANTRY.PENDING.DEFERRED false
  { s with gan := { s.gan with jump := none } }

/-- What a fixed bench shows of itself (R194): too short, or with reserved bits set. -/
def State.fixNote (s : State) (b : Bench) : State :=
  let s := if b.dur < s.minBench then s.countEvt Reg.GANTRY.CNT_SHORT_BENCH.COUNT gantryPg 12 else s
  if b.reservedBad then s.err gantryPg 0xFFF else s

/-- A commit point that fixes a bench fixes an armed swap with it (R297), unless the arming fell in the same cycle (R299). -/
def State.fixSwap (s : State) : State :=
  if s.flag Reg.PLUMB.BANK_STATUS.SWAP_ARMED ∧ s.plumb.armAt < s.mon.clock then { s with plumb := { s.plumb with swapFix := true } } else s

/-- The boundary of a bench fixed for t is planned for t and no longer moves but with a SYNC pulse. -/
def State.fixAt (s : State) (t : Nat) : State := State.setNextT { s with gan := { s.gan with plan := some t } } (some t)

/-- A start's first bench is fixed (R229). -/
def State.fixStart (s : State) : State :=
  if s.flag Reg.GANTRY.PENDING.START then (s.put Reg.GANTRY.PENDING.START false).evt gantryPg 0 else s

/-- The bench is fixed to begin at t (R207): an episode ends, Gantry plays, its image is taken and the images to come are prefetched; an armed swap is fixed with it. -/
def State.fixEnd (s : State) (b : Bench) (t : Nat) : State :=
  let s := ((s.endEpisode t).setG 2).fixAt t
  ((s.fixStart.takeImage b).prefetchFor b).fixSwap

/-- A bench fixed for the boundary t (R207): its faults treated (R194, R201), its image taken and admitted, the successor's store images requested; an armed swap is fixed with it (R297), and a Plumb window closes (R304). -/
def State.fixBench (s : State) (b : Bench) (c : Choice) (t : Nat) (jumped : Bool) : State :=
  let s := s.closeWindow
  let before := s.streamAhead
  let s := s.fixTake b c
  let s := if jumped then s.fixJump else s
  let s := s.fixNote b
  let lwm := s.rd Reg.GANTRY.STREAM_CFG.LWM
  let s := if lwm ≤ before ∧ s.streamAhead < lwm then s.evt gantryPg 8 else s
  s.fixEnd b t

/-- The SEQ that the missing stream descriptor should carry (R224). -/
def State.expectSeq (s : State) : Nat := s.rd Reg.GANTRY.STREAM_SEQ.EXPECT

/-- Gantry freezes on an underflow and the device enters SAFE (R224, R395). -/
def State.underflowStop (s : State) (src : Nat) : State :=
  let s := (s.raiseDirect src s.expectSeq).enterSafe src
  s.gantryFreeze

/-- Whether the buffer is full of held entries, so that the fetch has stopped (R202). -/
def State.bufStall (s : State) : Bool := decide (8192 - s.gan.limit ≤ s.gan.sbuf.length) && (s.gan.stack.any (·.stream))

/-- An underflow at the commit point of boundary t (R224), with the reason LOOP_TOO_LONG where held entries fill the buffer (R202). -/
def State.underflow (s : State) (t : Nat) : State :=
  let pol := s.rd Reg.GANTRY.UNDERFLOW_POLICY.POLICY
  let s := s.countEvt Reg.GANTRY.CNT_UNDERFLOW.COUNT gantryPg 6
  let s := { s with gan := { s.gan with tooLong := s.bufStall } }
  let slot := s.rd Reg.GANTRY.SAFE_IMAGE.SLOT
  if pol = 2 ∨ (pol = 1 ∧ s.slotValid slot = false) then s.underflowStop 15
  else if pol = 1 then
    let s := (s.raise 15 s.expectSeq).setG 4
    let b : Bench := ⟨false, 8192, 4 * slot, 2, 0, 0, 0, 0, 0⟩
    let s := { s with gan := { s.gan with ep := some ⟨t, 0, true⟩, fixed := some b } }
    (((s.closeWindow.fixAt t).fixStart.takeImage b).prefetchFor b).fixSwap
  else
    let s := (((s.raise 15 s.expectSeq).setG 4).fixStart).inc Reg.GANTRY.CNT_EXTEND_G.COUNT
    State.fixAt { s with gan := { s.gan with ep := some ⟨t, 1, false⟩ } } (t + s.gran)

/-- Whether a trigger input's queue holds a trigger (R212). -/
def State.trigQueued (s : State) (i : Nat) : Bool := bitOf (s.rd Reg.GANTRY_TRIG.TRIGIN_STATUS.QUEUED) i

/-- A queued trigger consumed (R212, R213). -/
def State.takeTrig (s : State) (i : Nat) : State :=
  let s := s.wr ⟨Reg.GANTRY_TRIG.TRIGIN_STATUS.QUEUED.off, i, 1⟩ 0
  { s with gan := { s.gan with syncTrig := false } }

/-- No bench follows (R201, R227): Gantry stops at the coming boundary. What R201 did to the loop stack on the way stands. -/
def State.noNext (s : State) (eor : Bool) (c : Choice) : State :=
  let s := s.takeStack (c.stack, c.errs)
  let s := if eor then s.evt gantryPg 22 else s
  State.put { s with gan := { s.gan with fixed := none, stop := true, ended := true } } Reg.GANTRY.PENDING.STOP true

/-- The label entry of the RESYNC whose commit point that of boundary t is, or that a missing descriptor has carried past it (R226). -/
def State.resyncAt (s : State) (t : Nat) : Option (Option Nat) :=
  match s.gan.resync with
  | some (tr, lab) => if tr = t ∨ s.gan.resyncT = true then some lab else none
  | none => if s.gan.resyncT then some none else none

/-- The choice of the bench for the boundary t (R201): a RESYNC's label or a jump's; the bench of a start whose first bench has not begun; or the live bench's successor. -/
def State.chooseAt (s : State) (t : Nat) : Choice :=
  let target := match s.resyncAt t with
    | some (some i) => some i
    | _ => s.gan.jump
  match s.gan.live, target with
  | some x, _ => s.choose x s.gan.stop target
  | none, some i => ⟨.at' false i, [], false, 0⟩
  | none, none => ⟨.at' s.gan.first.1 s.gan.first.2, s.gan.stack, false, 0⟩

/-- Whether the choice for the boundary t takes the pending jump (R211). -/
def State.takesJump (s : State) (t : Nat) : Bool := ((s.resyncAt t).bind id).isNone && s.gan.jump.isSome

/-- A triggered bench waits (R213): WAIT_TRIGGER is entered, and an underflow's episode ends with the slip it has by then (R225). -/
def State.waitTrigger (s : State) (t : Nat) : State :=
  if s.gstate = 3 then s else (((s.endEpisode t).setG 3).inc Reg.GANTRY.CNT_TRIG_WAIT.COUNT).setPlan none

/-- Whether the bench must wait for its trigger at the commit point of t (R213, R226): a start's first bench and a RESYNC's need none. -/
def State.needsTrigger (s : State) (b : Bench) (t : Nat) : Bool := b.triggered && s.gan.live.isSome && (s.resyncAt t).isNone

/-- A commit point for the boundary t (R207, R213, R224, R226). retry: it is taken again in an episode or after a trigger wait, where an absent descriptor changes nothing here; trig: the trigger has come. -/
def State.commitFor (s : State) (t : Nat) (retry trig : Bool) : State :=
  let c := s.chooseAt t
  let rs := (s.resyncAt t).isSome
  let jump := s.takesJump t
  match c.next with
  | .stop => s.noNext false c
  | .endOfRegion => s.noNext true c
  | .at' st i =>
    match s.benchAt st i with
    | none => if retry then s else State.underflow { s with gan := { s.gan with resyncT := rs } } t
    | some b =>
      let needs := s.needsTrigger b t
      if needs && !trig && !s.trigQueued b.trigSrc then s.waitTrigger t
      else
        let s := if needs then s.takeTrig b.trigSrc else s
        State.fixBench { s with gan := { s.gan with resyncT := rs } } b c t jump

/-- COMMIT_POINT (R207): at T - L granules while Gantry is PENDING or RUNNING and that commit point has not passed, or at a RESYNC's own commit point. -/
def State.commitPoint (s : State) : State :=
  match s.gan.nextT with
  | none => s
  | some t =>
    if s.gan.fixed.isSome ∨ s.gan.ended = true then s
    else if s.gstate = 1 ∨ s.gstate = 2 then s.commitFor t false false
    else if (s.gstate = 3 ∨ s.gstate = 4) ∧ (s.gan.resync.map (·.1)) = some t then s.commitFor t false false
    else s

/-- The granule edge at or last before the present time, counted from the last boundary. -/
def State.edgeNow (s : State) : Nat := s.gan.lastT + (s.now - s.gan.lastT) / s.gran * s.gran

/-- Whether a boundary at t would fall after Tr - minimum bench of the pending RESYNC, so that Tr takes its place (R226). -/
def State.overTr (s : State) (t : Nat) : Bool :=
  match s.gan.resync with
  | some (tr, _) => decide (tr < t + s.minBench * s.gran)
  | none => false

/-- MAX_EXTEND in effect: 0 acts as 1 (R230). -/
def State.maxExtend (s : State) : Nat := max 1 (s.rd Reg.GANTRY.MAX_EXTEND.G)

/-- The granules by which an episode has extended past the planned boundary (R224); a safe bench's, by the first boundary that could follow now. -/
def State.extension (s : State) (e : Episode) : Nat :=
  if e.safe then (s.edgeNow + s.leadG * s.gran - e.planned) / s.gran else e.ext

/-- The end of a RESYNC (R226): SLIP and LATE clear and RESYNC_DONE is raised. -/
def State.resyncDone (s : State) : State :=
  let s := State.evt ((s.wrW Reg.GANTRY.SLIP.G.off 0).put Reg.GANTRY.PENDING.RESYNC false) gantryPg 10
  { s with gan := { s.gan with resync := none } }

/-- Tr passes while its stream descriptor is missing (R226): the RESYNC ends there, and the episode goes on. -/
def State.resyncPass (s : State) : State :=
  match s.gan.resync with
  | some (tr, _) => if s.gan.resyncT = true ∧ tr ≤ s.now then { s.resyncDone with granAcc := (s.now - tr) % s.gran } else s
  | none => s

/-- The commit point taken again at a granule edge of an episode that extends the live bench (R224): one granule more while the descriptor is absent. -/
def State.extendRetry (s : State) (e : Episode) (t : Nat) : State :=
  let r := s.commitFor t true false
  if r.gstate = 4 ∧ r.gan.ended = false then
    let s := { s.inc Reg.GANTRY.CNT_EXTEND_G.COUNT with gan := { s.gan with ep := some { e with ext := e.ext + 1 } } }
    if s.gan.resyncT then s.fixAt (t + s.gran) else s.setPlan (some (t + s.gran))
  else r

/-- UNDERFLOW_RETRY (R224): at a granule edge in EXTENDING the commit point is taken again, until the extension reaches MAX_EXTEND or Tr of a pending RESYNC takes the boundary's place. Under SAFE_IMAGE the descriptor is fixed once the safe bench has lasted long enough. -/
def State.underflowRetry (s : State) : State :=
  let s := if s.gstate = 4 then s.resyncPass else s
  match s.gstate, s.gan.ep with
  | 4, some e =>
    if s.maxExtend ≤ s.extension e then s
    else if e.safe then
      let t := s.edgeNow + s.leadG * s.gran
      if s.gan.fixed.isSome ∨ s.now < s.gan.lastT + (s.minBench - s.leadG) * s.gran ∨ s.overTr t = true then s
      else s.commitFor t true false
    else if s.gan.resync.isSome ∧ s.gan.resyncT = false ∧ s.gan.nextT ≠ s.gan.plan then s
    else
      match s.gan.nextT with
      | some t => s.extendRetry e t
      | none => s
  | _, _ => s

/-- UNDERFLOW_LIMIT (R224): the extension of an episode reaches MAX_EXTEND. -/
def State.underflowLimit (s : State) : State :=
  match s.gstate, s.gan.ep with
  | 4, some e => if s.maxExtend ≤ s.extension e then s.underflowStop 16 else s
  | _, _ => s

/-- TRIGGER_WAIT_COMMIT (R211, R213): the first granule edge after the trigger, or after a jump to a bench that waits for none. A chassis master's boundary of a triggered bench follows one granule later; a boundary that Tr of a pending RESYNC displaces waits for Tr (R226). -/
def State.triggerCommit (s : State) : State :=
  if s.gstate = 3 then
    let t := s.edgeNow + s.leadG * s.gran
    let waits := match s.chooseAt t with
      | ⟨.at' st i, _, _, _⟩ => ((s.benchAt st i).map fun b => s.needsTrigger b t).getD false
      | _ => false
    let t := if s.master && waits then t + s.gran else t
    if s.overTr t then s else s.commitFor t true s.gan.syncTrig
  else s

/-- The registers of the live bench (R230). -/
def State.liveRegs (s : State) (b : Bench) (t : Nat) : State :=
  let s := (s.put Reg.GANTRY.STATE.SOURCE b.stream).wr Reg.GANTRY.STATE.INDEX (if b.stream then 0 else b.idx)
  let s := (s.wr Reg.GANTRY.LIVE_BENCH.SEQ (if b.stream then b.seqOf else 0)).wr Reg.GANTRY.LIVE_BENCH.LABEL b.labelOf
  s.wrTime 0x90B4 t

/-- A granule period that waits takes effect at this boundary (R196). -/
def State.takePeriod (s : State) : State :=
  let s := match s.gan.period.find? (·.2 == 0) with
    | some p => s.wr Reg.GANTRY.GRANULE_STATUS.PS p.1
    | none => s
  { s with gan := { s.gan with period := (s.gan.period.filter (·.2 != 0)).map fun p => (p.1, p.2 - 1) } }

/-- A change of Gantry's own state. -/
def State.modGan (s : State) (f : GanSt → GanSt) : State := { s with gan := f s.gan }

/-- A change of the image state. -/
def State.modImg (s : State) (f : ImgSt → ImgSt) : State := { s with img := f s.img }

/-- Whether the bench that plays next is the SAFE_IMAGE of an underflow episode. -/
def State.epSafe (s : State) : Bool :=
  match s.gan.ep with
  | some e => e.safe
  | none => false

/-- The counts of a bench that begins (R208). -/
def State.beginCount (s : State) (strobed : Bool) : State :=
  let s := (s.incWrap Reg.GANTRY.BENCH_NUM.COUNT).inc Reg.GANTRY.CNT_BENCHES.COUNT
  if strobed then s else s.inc Reg.GANTRY.CNT_SKIPPED.COUNT

/-- What was fixed for the bench is released as it begins (R208). -/
def State.beginClear (s : State) : State :=
  (s.put Reg.GANTRY.NEXT_SLOT.FIXED false).modImg fun i => { i with next := none, prefetch := i.prefetch.filter fun p => !p.fixed }

/-- Gantry's own record of the bench that begins. -/
def GanSt.begin (g : GanSt) (b : Bench) (t : Nat) (strobed safe : Bool) : GanSt :=
  { g with fixed := none, lastT := t, live := if safe then g.live else some b, struck := g.struck || strobed, trigEarly := g.trigNext, trigNext := [] }

/-- A boundary of a RESYNC's bench ends the request (R226). -/
def State.beginResync (s : State) : State :=
  if s.gan.resyncT then
    let s := if s.gan.resync.isSome then s.resyncDone else s
    s.modGan fun g => { g with resyncT := false }
  else s

/-- The bench that begins at t as registers and state show it (R208, R209, R225, R226). The boundary is a granule edge, so the granule phase is zero at t (R196, R217). -/
def State.beginBench (s : State) (b : Bench) (t : Nat) (strobed : Bool) : State :=
  let safe := s.epSafe
  let s := ((s.beginCount strobed).beginClear).modGan fun g => g.begin b t strobed safe
  let s := (((s.liveRegs b t).takePeriod).releaseStream).beginResync
  let s := { s with granAcc := (s.now - t) % max 1 s.gran }
  let s := s.setPlan (if safe then none else some (t + max b.dur s.minBench * s.gran))
  if strobed ∧ s.dev = .armed then s.goto .run else s

/-- BENCH_BOUNDARY (R99, R208, R209, R227): at T the armed image goes live and the fixed bench begins; ballast targets follow the prediction (R276); a stop takes effect. -/
def State.boundary (s : State) : State :=
  match s.gan.nextT with
  | none => s
  | some t =>
    match s.gan.fixed with
    | none => if (s.gan.stop ∨ s.gan.ended) ∧ s.playingG then (State.wrTime { s with gan := { s.gan with lastT := t } } 0x90B4 t).gantryStopped else s
    | some b =>
      if !(s.gstate = 2 ∨ s.gstate = 4) then s
      else
        let stop := s.gan.stop
        let strobed := match s.img.staged with
          | some g => g.armed
          | none => false
        let pred := match s.img.next with
          | some f => f.pred
          | none => []
        let s := if strobed then s.goLive else s.discardMarks
        let s := s.beginBench b t strobed
        let s := if strobed then s.setBallast (fun z => pred.getD z 0) false else s
        if stop then s.gantryStopped else s

/-- The term of R217 in granules for NOW and AT_TEV. -/
def State.startTerm (s : State) : Nat := if s.master then s.syncDelay + 1 else s.leadG + 2

/-- Why a start is refused (R218), 0 for none. -/
def State.startRefusal (s : State) (mode : Nat) (t0 : Nat) (fromStream : Bool) (index : Nat) : Nat :=
  let locked := let st := s.rd Reg.TIME.TIME_STATUS.SERVO_STATE; st == 2
  if !((s.dev == .armed || s.dev == .run) && s.gstate == 0) then 1
  else if mode = 1 ∧ locked = false then 2
  else if mode = 1 ∧ t0 < s.now + s.startTerm * s.gran then 3
  else if (if fromStream then !s.flag Reg.GANTRY.STREAM_CFG.ENABLE else decide (s.gan.limit ≤ index)) then 4
  else if s.flag (Reg.HDR.PG_CTRL.ENABLE gantryPg) = false then 5
  else if mode = 2 ∧ s.rd Reg.GANTRY_TRIG.SYNC_CFG.ROLE ≠ 2 then 6
  else 0

/-- A start requested (R217 to R219): accepted, Gantry is PENDING. -/
def State.gantryStart (s : State) (mode t0 : Nat) (fromStream : Bool) (index : Nat) : State :=
  let r := s.startRefusal mode t0 fromStream index
  let s := s.wr Reg.GANTRY.START_RESULT.REASON r
  if r ≠ 0 then s.evt gantryPg 2
  else
    let s := s.clearReq
    let s := ((s.wrW Reg.GANTRY.SLIP.G.off 0).wr Reg.GANTRY.BENCH_NUM.COUNT 0).put Reg.GANTRY.PENDING.START true
    let s := { s with gan := { s.gan with live := none, fixed := none, stack := [], ep := none, first := (fromStream, if fromStream then s.gan.spos else index), mode := mode, struck := false } }
    let s := ((s.releaseStream).loopRegs).setG 1
    let s := s.setPlan (if mode = 0 then some (s.now + s.startTerm * s.gran) else if mode = 1 then some t0 else none)
    s.evt gantryPg 0

/-- The start of GCTL.START by START_CFG and START_TIME (R217). -/
def State.gctlStart (s : State) : State :=
  s.gantryStart (s.rd Reg.GANTRY.START_CFG.MODE) (s.rdTime 0x9048) (s.flag Reg.GANTRY.START_CFG.FROM_STREAM) (s.rd Reg.GANTRY.START_CFG.INDEX)

/-- A Gantry-start time event at a time (R217, AT_TEV). -/
def State.startByEvent (s : State) (t : Nat) : State :=
  if s.gstate = 1 ∧ s.gan.nextT = none ∧ s.gan.mode = 3 then s.setPlan (some (t + s.startTerm * s.gran)) else s

/-- A stop requested (R227). -/
def State.gantryStop (s : State) : State :=
  match s.gstate with
  | 2 => State.put { s with gan := { s.gan with stop := true } } Reg.GANTRY.PENDING.STOP true
  | 1 => s.gantryStopped
  | 3 => s.gantryStopped
  | 4 => s.gantryStopped
  | _ => s

/-- An ABORT stop (R227): in RUNNING before the arming deadline the strobe is withheld and the marks discarded, without STAGE_LATE; the bench fixed does not begin, and its pulses are cancelled. -/
def State.gantryAbort (s : State) : State :=
  let armed := match s.img.staged with
    | some g => g.armed
    | none => false
  if s.gstate = 2 ∧ armed = false ∧ s.gan.fixed.isSome = true then
    (State.dropNext { s with gan := { s.gan with fixed := none, stop := true, ended := true } }).put Reg.GANTRY.PENDING.STOP true
  else s.gantryStop

/-- The entry a label resolves to (R199). -/
def State.labelEntry (s : State) (l : Nat) : Option Nat := alGet s.gan.labels l

/-- A jump requested (R210, R211). -/
def State.gantryJump (s : State) (label : Nat) : State :=
  let r := if !s.playingG then 1 else if (s.labelEntry label).isNone then 2 else 0
  let s := s.wr Reg.GANTRY.JUMP_RESULT.REASON r
  if r ≠ 0 then s.evt gantryPg 5
  else
    let deferred := s.gstate == 2 && (s.gan.fixed.isSome || s.gan.ended)
    let s := ({ s with gan := { s.gan with jump := s.labelEntry label } } : State).put Reg.GANTRY.PENDING.JUMP true
    let s := s.put Reg.GANTRY.PENDING.DEFERRED deferred
    if deferred then s.countEvt Reg.GANTRY.CNT_JUMP_DEFERRED.COUNT gantryPg 4 else s

/-- Why a RESYNC is refused (R226), 0 for none. -/
def State.resyncRefusal (s : State) (tr : Nat) (label : Option Nat) : Nat :=
  let minT := s.minBench * s.gran
  let near := decide (tr < s.gan.lastT + minT) ||
    (match s.gan.fixed, s.gan.nextT with
     | some _, some t => decide (tr < t + minT) && decide (t < tr)
     | _, _ => false)
  if !s.playingG then 1
  else if tr < s.now + (s.leadG + 2) * s.gran then 2
  else if near then 3
  else match label with
    | some l => if (s.labelEntry l).isNone then 4 else 0
    | none => 0

/-- A RESYNC requested (R226): accepted, it replaces any pending one, and a boundary planned after Tr - minimum bench gives way to Tr. -/
def State.gantryResync (s : State) (tr : Nat) (label : Option Nat) : State :=
  let r := s.resyncRefusal tr label
  let s := s.wr Reg.GANTRY.RESYNC_RESULT.REASON r
  if r ≠ 0 then s.evt gantryPg 11
  else
    let s := ({ s with gan := { s.gan with resync := some (tr, label.bind s.labelEntry), resyncT := false } } : State).put Reg.GANTRY.PENDING.RESYNC true
    if s.gan.fixed.isSome ∨ s.gan.ended = true then s else s.replan

/-- CANCEL (R230): a pending start, jump or RESYNC is withdrawn. -/
def State.gantryCancel (s : State) : State :=
  if s.gstate = 1 then s.gantryStopped
  else
    let s := ((s.put Reg.GANTRY.PENDING.JUMP false).put Reg.GANTRY.PENDING.DEFERRED false).put Reg.GANTRY.PENDING.RESYNC false
    let s := { s with gan := { s.gan with jump := none } }
    match s.gan.resync with
    | some _ =>
      let s := { s with gan := { s.gan with resync := none, resyncT := false } }
      if s.gan.fixed.isSome ∨ s.gan.ended = true then s else s.replan
    | none => s

/-- GRANULE_PERIOD written (R196). -/
def State.periodWrite (s : State) (v : Nat) : State :=
  let c := clampN 40000 200000 v
  let s := if c = v then s else s.err gantryPg 0x68
  let s := s.wr Reg.GANTRY.GRANULE_PERIOD.PS c
  if s.gstate = 0 ∨ s.gstate = 5 then State.wr { s with gan := { s.gan with period := [] } } Reg.GANTRY.GRANULE_STATUS.PS c
  else
    let late := match s.gan.nextT with
      | some t => if s.now + 10 * ns < t then 0 else 1
      | none => 0
    { s with gan := { s.gan with period := (s.gan.period.filter fun p => p.2 < late) ++ [(c, late)] } }

/-- LOCK_APPLY.GO (R199). -/
def State.lockApply (s : State) : State :=
  if s.gstate ≠ 0 then s.err gantryPg 0x84
  else State.put { s with gan := { s.gan with limit := s.rd Reg.GANTRY.LOCK_LIMIT.ENTRIES } } Reg.GANTRY.LOCK_STATUS.BUSY true

/-- The label map of the locked entries and the highest entry whose label was dropped (R199). -/
def State.buildLabels (s : State) : List (Nat × Nat) × Option Nat :=
  (List.range s.gan.limit).foldl (fun (r : List (Nat × Nat) × Option Nat) i =>
    let l := (s.entry i).labelOf
    if l = 0 then r
    else if (alGet r.1 l).isSome then (r.1, some i)
    else ((l, i) :: r.1, r.2)) ([], none)

/-- The label map rebuild ends (R199). -/
def State.lockDone (s : State) : State :=
  if s.flag Reg.GANTRY.LOCK_STATUS.BUSY then
    let m := s.buildLabels
    let s := { s with gan := { s.gan with labels := m.1 } }
    let s := (s.put Reg.GANTRY.LOCK_STATUS.BUSY false).put Reg.GANTRY.LOCK_STATUS.DUP m.2.isSome
    ((s.wr Reg.GANTRY.LOCK_STATUS.LABELS m.1.length).wr Reg.GANTRY.LOCK_STATUS.DUP_INDEX (m.2.getD 0)).evt gantryPg 14
  else s

/-- Whether a bench is the locked entry i. -/
def isEntry (b : Option Bench) (i : Nat) : Bool :=
  match b with
  | some b => !b.stream && b.idx == i
  | none => false

/-- A descriptor written to bench memory (R200): ignored in the stream buffer; while Gantry runs, for the live or the fixed entry, or where it would change LABEL. -/
def State.benchWrite (s : State) (i : Nat) (ws : List Word) : State :=
  let new := parseBench false i (bytesOf ws)
  if s.gan.limit ≤ i then s.err gantryPg 0xFFF
  else if s.gantryRunning ∧ (isEntry s.gan.live i ∨ isEntry s.gan.fixed i ∨ new.labelOf ≠ (s.entry i).labelOf) then s.err gantryPg 0xFFF
  else (List.range 8).foldl (fun s j => s.wrW (0x580000 + 32 * i + 4 * j) (ws.getD j 0)) s

/-- STREAM_CFG.ENABLE set (R203): the ring, the buffer and the Gantry state are checked; the buffer begins empty. -/
def State.streamEnable (s : State) : State :=
  let l := s.rd Reg.GANTRY.STREAM_CFG.SIZE_LOG2
  let base := s.rd64 0x9090
  if 12 ≤ l ∧ l ≤ 30 ∧ base % 4096 = 0 ∧ s.inPartition 1 base (2 ^ l) ∧ s.gan.limit + 64 ≤ 8192 ∧ s.gstate = 0 then
    if s.flag Reg.GANTRY.STREAM_CFG.ENABLE then s
    else State.put { s with gan := { s.gan with sbuf := [], staken := 0, spos := 0, stall := false } } Reg.GANTRY.STREAM_CFG.ENABLE true
  else s.err gantryPg 0x8C

/-- STREAM_WR_PTR written (R203). -/
def State.streamWr (s : State) (v : Nat) : State :=
  if v % 32 ≠ 0 then s.err gantryPg 0x98
  else s.wr Reg.GANTRY.STREAM_WR_PTR.PTR (v % 2 ^ (s.rd Reg.GANTRY.STREAM_CFG.SIZE_LOG2 + 1))

/-- A stream descriptor fetched (R203, R205, R445): taken where its SEQ is the expected one and the buffer has room; another SEQ stalls the fetch; unreadable data leave it absent. The buffer entries are filled in turn (R199). -/
def State.streamFetch (s : State) (ecc : Ecc) : State :=
  let n := 2 ^ (s.rd Reg.GANTRY.STREAM_CFG.SIZE_LOG2 + 1)
  let r := s.rd Reg.GANTRY.STREAM_RD_PTR.PTR
  if !(s.flag Reg.GANTRY.STREAM_CFG.ENABLE && s.sdOnline && !s.gan.stall && r % n != s.rd Reg.GANTRY.STREAM_WR_PTR.PTR % n && decide (s.gan.sbuf.length < 8192 - s.gan.limit)) then s
  else
    let a := s.rd64 0x9090 + r % (n / 2)
    let s := s.sdEcc a ecc
    if ecc = .uncorrectable then s
    else
      let b := parseBench true s.gan.staken (s.sdBytes a 32)
      let s := s.draw
      if b.seqOf ≠ s.expectSeq then
        State.raise (State.evt { s with gan := { s.gan with stall := true } } gantryPg 9) 14 s.expectSeq
      else
        let s := (s.wr Reg.GANTRY.STREAM_RD_PTR.PTR ((r + 32) % n)).wr Reg.GANTRY.STREAM_SEQ.EXPECT (b.seqOf + 1)
        let i := s.gan.limit + s.gan.staken % (8192 - s.gan.limit)
        let s := (List.range 8).foldl (fun s j => s.wrW (0x580000 + 32 * i + 4 * j) (BitVec.ofNat 32 (leAt (s.sdBytes a 32) (4 * j) 4))) s
        { s with gan := { s.gan with sbuf := s.gan.sbuf ++ [(s.gan.staken, b)], staken := s.gan.staken + 1 } }

/-- STREAM_SEQ.EXPECT written (R205, R230): while the stream is disabled, or STALLED, where it restarts the fetch. -/
def State.streamExpect (s : State) (v : Nat) : State :=
  if s.flag Reg.GANTRY.STREAM_CFG.ENABLE ∧ s.gan.stall = false ∧ s.bufStall = false then s.err gantryPg 0xA0
  else State.wr { s with gan := { s.gan with stall := false } } Reg.GANTRY.STREAM_SEQ.EXPECT v

/-- The GANTRY_TRIG page. -/
def trigPg : Nat := 0xA000

/-- An accepted trigger edge on input i (R212). -/
def State.trigEdge (s : State) (i : Nat) : State :=
  if s.flag (Reg.GANTRY_TRIG.TRIGIN_CFG.TO_GANTRY i) = false then s
  else if !s.playingG then s.inc Reg.GANTRY_TRIG.CNT_TRIG_IGNORED.COUNT
  else if s.trigQueued i then s.countEvt Reg.GANTRY_TRIG.CNT_TRIG_OVERRUN.COUNT trigPg 1
  else (s.wr ⟨Reg.GANTRY_TRIG.TRIGIN_STATUS.QUEUED.off, i, 1⟩ 1).countEvt Reg.GANTRY_TRIG.CNT_TRIG_ACCEPTED.COUNT trigPg 0

/-- One schedule tick in time units (R195). -/
def State.schedTick (s : State) : Nat := s.gran / 32

/-- A pulse begins on TRIGO output k and ends no earlier than a time; an overlapping one merges (R216). -/
def State.pulse (s : State) (k stop : Nat) : State :=
  let s := (s.incWrap (Reg.GANTRY_TRIG.TRIGO_STAT.PULSES k)).put (Reg.GANTRY_TRIG.TRIGO_STAT.ASSERTED k) true
  { s with gan := { s.gan with trigEnd := tabPut s.gan.trigEnd 0 k (max stop (tabGet s.gan.trigEnd 0 k)) } }

/-- WIDTH of TRIGO output k in ticks: 0 acts as 1 (R232). -/
def State.trigWidth (s : State) (k : Nat) : Nat := max 1 (s.rd (Reg.GANTRY_TRIG.TRIGO_CFG.WIDTH k))

/-- Whether output k takes pulses of Gantry (source 0) or of time events (source 1): enabled, and that source or both (R214, R216). -/
def State.trigTakes (s : State) (k src : Nat) : Bool :=
  let x := s.rd (Reg.GANTRY_TRIG.TRIGO_CFG.SOURCE k)
  s.flag (Reg.GANTRY_TRIG.TRIGO_CFG.ENABLE k) && (x == src || x == 2)

/-- The benches whose pulse on an output may be due, each with its boundary and whether it is the one after the coming bench (R214, R215): the fixed bench; and for a LEAD beyond the commit lead the provisional successor at its planned boundary, known from the commit point of the bench before it. -/
def State.trigoBenches (s : State) (far : Bool) : List (Bench × Nat × Bool) :=
  match s.gan.nextT with
  | none => []
  | some t =>
    let ahead (b : Bench) (t : Nat) (after : Bool) : List (Bench × Nat × Bool) :=
      if far then ((s.provisional b).toList.filter fun n => !n.triggered).map fun n => (n, t, after) else []
    match s.gan.fixed with
    | some b => (b, t, false) :: ahead b (t + max b.dur s.minBench * s.gran) true
    | none => if s.gstate = 2 ∧ s.gan.ended = false then s.gan.live.toList.flatMap fun b => ahead b t false else []

/-- TRIGO_ASSERT (R214, R215): the pulse of output k for the first bench that fires it and whose pulse has not been asserted; late where its time has passed. -/
def State.trigoAssert (s : State) (k : Nat) : State :=
  let lead := min 64 (s.rd (Reg.GANTRY_TRIG.TRIGO_CFG.LEAD k))
  let far := decide (s.leadG < lead)
  let done (after : Bool) : Bool := if after then s.gan.trigNext.contains k else s.gan.trigEarly.contains k
  match (s.trigoBenches far).find? fun x => bitOf x.1.trigo k && !done x.2.2 with
  | some (_, t, after) =>
    if !(s.trigTakes k 0 && s.gantryRunning) then s
    else
      let at' := t - lead * s.gran
      let late := far && decide (at' < s.now)
      let s := if late then s.countEvt Reg.GANTRY_TRIG.CNT_TRIGO_LATE.COUNT trigPg 2 else s
      let s := { s with gan := { s.gan with trigEarly := if after then s.gan.trigEarly else k :: s.gan.trigEarly
                                            trigNext := if after then k :: s.gan.trigNext else s.gan.trigNext } }
      s.pulse k ((if late then s.now else at') + s.trigWidth k * s.schedTick)
  | none => s

/-- TRIGO_RELEASE (R216): the assertion of output k ends once the latest of its pulses has. -/
def State.trigoRelease (s : State) (k : Nat) : State :=
  if s.now < tabGet s.gan.trigEnd 0 k then s
  else State.put { s with gan := { s.gan with trigEnd := tabPut s.gan.trigEnd 0 k 0 } } (Reg.GANTRY_TRIG.TRIGO_STAT.ASSERTED k) false

/-- Whether output k is active (R216, R232): forced by FORCE with SOURCE 3, inactive while disabled, and else by its pulses. -/
def State.trigoActive (s : State) (k : Nat) : Bool :=
  if s.rd (Reg.GANTRY_TRIG.TRIGO_CFG.SOURCE k) = 3 then s.flag (Reg.GANTRY_TRIG.TRIGO_CFG.FORCE k)
  else s.flag (Reg.GANTRY_TRIG.TRIGO_CFG.ENABLE k) && s.flag (Reg.GANTRY_TRIG.TRIGO_STAT.ASSERTED k)

/-- The level that the block drives on pin TRIGOk: POLARITY applied (R214, R216). -/
def State.trigoLevel (s : State) (k : Nat) : Bool := s.trigoActive k != s.flag (Reg.GANTRY_TRIG.TRIGO_CFG.POLARITY k)

/-- A SYNC pulse moves the coming boundary of a slave, and a RESYNC's Tr with it where that boundary is Tr (R221). -/
def State.moveBoundary (s : State) (t : Nat) (e : Int) : State :=
  let t' := ((t : Int) + e).toNat
  let rs := s.gan.resync.map fun r => if r.1 = t then (t', r.2) else r
  let p := if s.gan.plan = some t then some t' else s.gan.plan
  State.setNextT { s with gan := { s.gan with resync := rs, plan := p } } (some t')

/-- SYNC_IN_PULSE (R220, R221): an edge at a time, wide for a start pulse; in ECHO role the turn-around in ps is kept. -/
def State.syncIn (s : State) (tin : Nat) (wide : Bool) (turn : Nat) : State :=
  let role := s.rd Reg.GANTRY_TRIG.SYNC_CFG.ROLE
  let skew := s.rd Reg.GANTRY_TRIG.SYNC_SKEW.PS * ps
  let seen (s : State) : State := s.evt trigPg 3
  if role = 3 then
    let s := (s.wr Reg.GANTRY_TRIG.TURN.PS turn).put Reg.GANTRY_TRIG.TURN.VALID true
    if s.gstate = 5 then s else s.emit (.pin 1 wide)
  else if role ≠ 2 then s
  else if wide then
    let t := tin - skew + s.syncDelay * s.gran
    if s.gstate = 1 ∧ s.gan.nextT = none ∧ s.gan.mode = 2 then seen (s.setPlan (some t))
    else if s.playingG then seen (s.gantryResync t none)
    else s
  else if s.gstate = 3 then seen { s with gan := { s.gan with syncTrig := true } }
  else if s.gstate = 2 then
    match s.gan.nextT with
    | none => s
    | some t =>
      let e : Int := (tin : Int) - skew - ((t : Int) - s.leadG * s.gran)
      let s := seen (s.wr Reg.GANTRY_TRIG.SYNC_LAST_ERR.PS (unsgn 16 (clampI (-32768) 32767 (e / (ps : Int)))))
      if e.natAbs ≤ s.schedTick then s.moveBoundary t e
      else s.countEvt Reg.GANTRY_TRIG.CNT_SYNC_ERR.COUNT trigPg 4
  else s

/-- SYNC_PULSE.GO (R222): on a master with Gantry STOPPED the echo measurement starts, with 64 pulses to emit. -/
def State.echoGo (s : State) : State :=
  if s.master ∧ s.gstate = 0 then State.put { s with gan := { s.gan with echo := some 64 } } Reg.GANTRY_TRIG.ECHO_RESULT.VALID false
  else s.err trigPg 0x108

/-- The echo measurement ends (R222): the mean round trip in ps, valid where all 64 echoes returned. -/
def State.echoDone (s : State) (mean : Nat) (all : Bool) : State :=
  match s.gan.echo with
  | some left =>
    let s := { s with gan := { s.gan with echo := none } }
    ((s.wr Reg.GANTRY_TRIG.ECHO_RESULT.PS mean).put Reg.GANTRY_TRIG.ECHO_RESULT.VALID (all && left == 0)).evt trigPg 5
  | none => s

/-- SYNC_OUT_PULSE (R220, R222): a master emits a start pulse, or with EACH a boundary pulse; with Gantry STOPPED, the pulses of an echo measurement that are still to come. -/
def State.syncOut (s : State) (wide : Bool) : State :=
  if s.master = false then s
  else if s.gantryRunning then (if wide ∨ s.flag Reg.GANTRY_TRIG.SYNC_CFG.EACH then s.emit (.pin 1 wide) else s)
  else
    match s.gstate, s.gan.echo with
    | 0, some (n + 1) => State.emit { s with gan := { s.gan with echo := some n } } (.pin 1 wide)
    | _, _ => s

end Sys2Proof.Machine
end

