-- ==== Sys2Proof/Machine/SeamSolve.lean ====
section
/-! DEFINITION. Seam's solver (R50 to R60) as pure functions, for any fabric of 2^n ports: the routes of one circuit, the search of R53, the recursive looping method of R54, the probe of R57. -/
namespace Sys2Proof.Machine

/-- Cells already fixed by circuits: which positions, and their states (bit 1 for CROSS). -/
structure SFix where
  mask : Nat
  vals : Nat
deriving DecidableEq, Repr

/-- What a solve reads: the fabric's number n, the base bitmap, and the pinned positions with their pin states (R58). -/
structure SolveIn where
  n       : Nat
  base    : Nat
  pinMask : Nat
  pinVal  : Nat
deriving DecidableEq, Repr

/-- Where the search ended: the cells fixed and the probe's egress port, when it succeeds; the first egress port without a compatible route (R53); and whether a pin rejected a route (R59). -/
structure SearchOut where
  fixed : Option (SFix × Option Nat)
  fail  : Option Nat
  con   : Bool
deriving DecidableEq, Repr

/-- Bit x of a bitmap set to a state. -/
def setBit (v x : Nat) (b : Bool) : Nat := if bitOf v x = b then v else if b then v + 2 ^ x else v - 2 ^ x

/-- A cell fixed at a state. -/
def SFix.fix (f : SFix) (x : Nat) (b : Bool) : SFix := ⟨setBit f.mask x true, setBit f.vals x b⟩

/-- Cells fixed along a route. -/
def SFix.along (f : SFix) (steps : List (Nat × Bool)) : SFix := steps.foldl (fun g p => g.fix p.1 p.2) f

/-- The first half of a route (R64): from input waveguide w of stage s, k stages whose outputs ROUTE chooses; the positions with their states, and the waveguide that enters the middle stage. -/
def fwdSteps (n r : Nat) : Nat → Nat → Nat → List (Nat × Bool) × Nat
  | 0, _, w => ([], w)
  | k + 1, s, w =>
    let b := bitOf r s
    let p := fwdSteps n r k (s + 1) (linkOf n s (2 * (w / 2) + b2n b))
    ((posOf n s (w / 2), (w % 2 == 1) != b) :: p.1, p.2)

/-- The second half of a route, backwards: from output waveguide w of stage 2n - 2 - j, k stages whose inputs ROUTE's bits j and on choose; and the waveguide that leaves the middle stage. -/
def bwdSteps (n r : Nat) : Nat → Nat → Nat → List (Nat × Bool) × Nat
  | 0, _, w => ([], w)
  | k + 1, j, w =>
    let b := bitOf r j
    let s := 2 * n - 2 - j
    let p := bwdSteps n r k (j + 1) (linkBack n (s - 1) (2 * (w / 2) + b2n b))
    ((posOf n s (w / 2), (w % 2 == 1) != b) :: p.1, p.2)

/-- The positions that a circuit from ingress i to egress e crosses by ROUTE r, each with its state (R33, R34, R64). -/
def routeSteps (n i e r : Nat) : List (Nat × Bool) :=
  let f := fwdSteps n r (n - 1) 0 i
  let b := bwdSteps n r (n - 1) 0 e
  f.1 ++ (posOf n (n - 1) (f.2 / 2), f.2 % 2 != b.2 % 2) :: b.1.reverse

/-- The ROUTE of the path of ingress i in a bitmap (R64): bit s is the output taken from its stage-s cell. -/
def routeOf (n cells : Nat) : Nat → Nat → Nat → Nat
  | 0, _, _ => 0
  | k + 1, s, w =>
    let out := through (bitOf cells (posOf n s (w / 2))) w
    out % 2 * 2 ^ s + routeOf n cells k (s + 1) (linkOf n s out)

/-- Whether a pin rejects a cell's state (R59). -/
def SolveIn.pinBad (p : SolveIn) (x : Nat) (b : Bool) : Bool := bitOf p.pinMask x && bitOf p.pinVal x != b

/-- Whether a route agrees with every cell already fixed (R53). -/
def SFix.agrees (f : SFix) (steps : List (Nat × Bool)) : Bool := steps.all fun q => !bitOf f.mask q.1 || bitOf f.vals q.1 == q.2

/-- The flips of a route (R53): the cells it newly fixes at a state other than their base state. -/
def SolveIn.flipsNew (p : SolveIn) (f : SFix) (steps : List (Nat × Bool)) : Nat :=
  steps.countP fun q => !bitOf f.mask q.1 && bitOf p.base q.1 != q.2

/-- A candidate put into its place: fewest flips first, then the lowest ROUTE (R53). -/
def insertCand (c : Nat × List (Nat × Bool)) : List (Nat × List (Nat × Bool)) → List (Nat × List (Nat × Bool))
  | [] => [c]
  | d :: r => if c.1 ≤ d.1 then c :: d :: r else d :: insertCand c r

/-- The compatible routes of a circuit in the order of R53 among those that pass a test, and whether a pin rejected one. -/
def SolveIn.cands (p : SolveIn) (f : SFix) (i e : Nat) (via : List (Nat × Bool) → Bool) : List (Nat × List (Nat × Bool)) × Bool :=
  let all := ((List.range (2 ^ (p.n - 1))).map (routeSteps p.n i e)).filter fun st => f.agrees st && via st
  let good := all.filter fun st => !st.any fun q => p.pinBad q.1 q.2
  ((good.map fun st => (p.flipsNew f st, st)).foldr insertCand [], all.length != good.length)

/-- The first choice whose continuation succeeds; what fails first is kept, and that a pin rejected something. -/
def firstOf {α : Type} (k : α → SearchOut) : List α → SearchOut
  | [] => ⟨none, none, false⟩
  | a :: r =>
    let x := k a
    match x.fixed with
    | some _ => x
    | none =>
      let y := firstOf k r
      ⟨y.fixed, if x.fail.isSome then x.fail else y.fail, x.con || y.con⟩

/-- The search of R53: new circuits (egress, ingress) in the order given, backtracking over earlier choices, then a last part. -/
def SolveIn.search (p : SolveIn) (last : SFix → SearchOut) : List (Nat × Nat) → SFix → SearchOut
  | [], f => last f
  | (e, i) :: r, f =>
    let cs := p.cands f i e fun _ => true
    if cs.1.isEmpty then ⟨none, some e, cs.2⟩
    else
      let x := firstOf (fun c : Nat × List (Nat × Bool) => p.search last r (f.along c.2)) cs.1
      ⟨x.fixed, x.fail, x.con || cs.2⟩

/-- A probe's wishes (R57): its ingress port, the via position, the via input, the via state. -/
structure ProbeReq where
  port  : Nat
  pos   : Nat
  inp   : Nat
  cross : Bool
deriving DecidableEq, Repr

/-- The input waveguide of a circuit at its stage-s cell along ROUTE steps: found by walking the states forward. -/
def inputAt (n : Nat) : List (Nat × Bool) → Nat → Nat → Nat → Option Nat
  | [], _, _, _ => none
  | (x, b) :: r, s, w, pos => if x = pos then some (w % 2) else inputAt n r (s + 1) (linkOf n s (through b w)) pos

/-- A route passes the via cell on the named input in the named state (R57). -/
def ProbeReq.meets (q : ProbeReq) (n : Nat) (steps : List (Nat × Bool)) : Bool :=
  steps.contains (q.pos, q.cross) && inputAt n steps 0 q.port q.pos == some q.inp

/-- The last part of a probe solve (R57): the lowest egress port unassigned in the base that the probe reaches. -/
def SolveIn.probeEnd (p : SolveIn) (q : ProbeReq) (frees : List Nat) (f : SFix) : SearchOut :=
  firstOf (fun e =>
    let cs := p.cands f q.port e (q.meets p.n)
    match cs.1 with
    | [] => ⟨none, none, cs.2⟩
    | c :: _ => ⟨some (f.along c.2, some e), none, cs.2⟩) frees

/-- A circuit in the looping method (R54): ingress, egress, the ROUTE bits chosen, and the waveguides that enter its stage-s cell and leave its stage-(2n - 2 - s) cell. -/
structure LoopCirc where
  i  : Nat
  e  : Nat
  r  : Nat
  fw : Nat
  bw : Nat
deriving DecidableEq, Repr

/-- Two circuits share their stage-s cell or its mirror cell, so that their bits differ. -/
def LoopCirc.shares (a b : LoopCirc) : Bool := a.fw / 2 == b.fw / 2 || a.bw / 2 == b.bw / 2

/-- The loop grown from circuits whose bits are set: each circuit that shares a cell with one of them takes the opposite bit. -/
def growLoop : Nat → List (LoopCirc × Bool) → List LoopCirc → List (LoopCirc × Bool) × List LoopCirc
  | 0, got, rest => (got, rest)
  | fuel + 1, got, rest =>
    let new := rest.filterMap fun c => (got.find? fun g => g.1.shares c).map fun g => (c, !g.2)
    growLoop fuel (got ++ new) (rest.filter fun c => !got.any fun g => g.1.shares c)

/-- The cells that a circuit's bit b at level s places, with their states: stage s, its mirror stage, and at the last level the middle stage. -/
def LoopCirc.places (n s : Nat) (c : LoopCirc) (b : Bool) : List (Nat × Bool) :=
  let m := 2 * n - 2 - s
  let ends := [(posOf n s (c.fw / 2), (c.fw % 2 == 1) != b), (posOf n m (c.bw / 2), (c.bw % 2 == 1) != b)]
  if s + 2 = n then
    let fw := linkOf n s (2 * (c.fw / 2) + b2n b)
    let bw := linkBack n (m - 1) (2 * (c.bw / 2) + b2n b)
    ends ++ [(posOf n (n - 1) (fw / 2), fw % 2 != bw % 2)]
  else ends

/-- A circuit with its bit of level s chosen. -/
def LoopCirc.take (n s : Nat) (c : LoopCirc) (b : Bool) : LoopCirc :=
  let m := 2 * n - 2 - s
  ⟨c.i, c.e, c.r + b2n b * 2 ^ s, linkOf n s (2 * (c.fw / 2) + b2n b), linkBack n (m - 1) (2 * (c.bw / 2) + b2n b)⟩

/-- The circuits of one level set loop by loop, lowest ingress first (R54): the circuits with their bits taken, or the egress port of R59; and whether a pin rejected a setting. -/
def SolveIn.level (p : SolveIn) (s : Nat) : Nat → List LoopCirc → List LoopCirc → Bool → Except Nat (List LoopCirc) × Bool
  | 0, _, done, con => (.ok done, con)
  | _ + 1, [], done, con => (.ok done, con)
  | fuel + 1, c :: rest, done, con =>
    let b0 := (c.fw % 2 == 1) != bitOf p.base (posOf p.n s (c.fw / 2))
    let g := growLoop rest.length [(c, b0)] rest
    let bad (flip : Bool) : Bool := g.1.any fun q => (q.1.places p.n s (q.2 != flip)).any fun x => p.pinBad x.1 x.2
    if !bad false then p.level s fuel g.2 (done ++ g.1.map fun q => q.1.take p.n s q.2) con
    else if !bad true then p.level s fuel g.2 (done ++ g.1.map fun q => q.1.take p.n s !q.2) true
    else (.error ((g.1.map (·.1.e)).foldl min c.e), true)

/-- Circuits in rising order of ingress port. -/
def insertCirc (c : LoopCirc) : List LoopCirc → List LoopCirc
  | [] => [c]
  | d :: r => if c.i ≤ d.i then c :: d :: r else d :: insertCirc c r

/-- The levels of the looping method from s on. -/
def SolveIn.loopFrom (p : SolveIn) : Nat → Nat → List LoopCirc → Bool → Except Nat (List LoopCirc) × Bool
  | 0, _, cs, con => (.ok cs, con)
  | k + 1, s, cs, con =>
    match p.level s cs.length (cs.foldr insertCirc []) [] con with
    | (.ok cs', con') => p.loopFrom k (s + 1) cs' con'
    | (.error e, con') => (.error e, con')

/-- The recursive looping method over circuits (egress, ingress): the cells fixed, or the egress port of R59. -/
def SolveIn.looping (p : SolveIn) (circ : List (Nat × Nat)) : Except Nat SFix × Bool :=
  match p.loopFrom (p.n - 1) 0 (circ.map fun c => ⟨c.2, c.1, 0, c.2, c.1⟩) false with
  | (.ok cs, con) => (.ok (cs.foldl (fun f c => f.along (routeSteps p.n c.i c.e c.r)) ⟨0, 0⟩), con)
  | (.error e, con) => (.error e, con)

/-- The circuits of a request classed by R50 and R60: retained, new, the number of ports changed to none, and whether a pin turned a retained circuit into a new one. -/
structure Classed where
  kept   : List (Nat × Nat)
  new    : List (Nat × Nat)
  toNone : Nat
  con    : Bool
deriving DecidableEq, Repr

/-- The circuits of a resolved permutation classed against the base's assignment (R50, R60). -/
def SolveIn.classify (p : SolveIn) (baseAssign want : List (Option Nat)) : Classed :=
  let ports := List.range (2 ^ p.n)
  let circ := ports.filterMap fun e => (want.getD e none).map fun i => (e, i)
  let same := circ.filter fun c => baseAssign.getD c.1 none == some c.2
  let broken (c : Nat × Nat) : Bool := (pathTo p.n p.base c.1).1.any fun x => p.pinBad x (bitOf p.base x)
  let kept := same.filter fun c => !broken c
  ⟨kept, circ.filter fun c => !kept.contains c,
   ports.countP fun e => (baseAssign.getD e none).isSome && (want.getD e none).isNone,
   kept.length != same.length⟩

/-- What a solve finds: the result code of R65 (0, 1 or 2), FIRST_FAIL, CONSTRAINED, INCREMENTAL, the bitmap, and for each egress port its circuit's ingress port and whether it is new. -/
structure Solved where
  code   : Nat
  first  : Nat
  con    : Bool
  incr   : Bool
  cells  : Nat
  assign : List (Option Nat)
  new    : List Nat
deriving DecidableEq, Repr

/-- The bitmap of a result (R55): the fixed cells, the pin states of the pinned ones, and the base state of the others; and whether a pin replaced a base state. -/
def SolveIn.finish (p : SolveIn) (f : SFix) : Nat × Bool :=
  let size := (2 * p.n - 1) * 2 ^ (p.n - 1)
  let pick (x : Nat) : Bool := if bitOf f.mask x then bitOf f.vals x else if bitOf p.pinMask x then bitOf p.pinVal x else bitOf p.base x
  ((List.range size).foldl (fun v x => if pick x then v + 2 ^ x else v) 0,
   (List.range size).any fun x => !bitOf f.mask x && p.pinBad x (bitOf p.base x))

/-- The modes of R48. -/
inductive SolveMode where
  | full | undisturbed | probe (q : ProbeReq)
deriving DecidableEq, Repr

/-- The cells that retained circuits hold (R53). -/
def SolveIn.heldBy (p : SolveIn) (kept : List (Nat × Nat)) : SFix :=
  kept.foldl (fun f c => f.along ((pathTo p.n p.base c.1).1.map fun x => (x, bitOf p.base x))) ⟨0, 0⟩

/-- A solve (R50 to R60) of a resolved permutation; a probe's ignores it and retains every circuit of the base. -/
def SolveIn.solve (p : SolveIn) (mode : SolveMode) (baseAssign want : List (Option Nat)) : Solved :=
  let want := match mode with
    | .probe _ => baseAssign
    | _ => want
  let c := p.classify baseAssign want
  let done (f : SFix) : SearchOut := ⟨some (f, none), none, false⟩
  let last : SFix → SearchOut := match mode with
    | .probe q => p.probeEnd q ((List.range (2 ^ p.n)).filter fun e => (baseAssign.getD e none).isNone)
    | _ => done
  let x := p.search last c.new (p.heldBy c.kept)
  let nNew := c.new.length + (match mode with
    | .probe _ => 1
    | _ => 0)
  let incr := decide (nNew + c.toNone ≤ 16)
  let fail (code first : Nat) (con : Bool) : Solved := ⟨code, first, con || c.con, incr, 0, [], []⟩
  let good (f : SFix) (pe : Option Nat) (con : Bool) : Solved :=
    let v := p.finish f
    let assign := (List.range (2 ^ p.n)).map fun e =>
      match mode, pe with
      | .probe q, some e' => if e = e' then some q.port else want.getD e none
      | _, _ => want.getD e none
    ⟨0, 0xFFFF, con || c.con || v.2, incr, v.1, assign, c.new.map (·.1) ++ pe.toList⟩
  match x.fixed with
  | some (f, pe) => good f pe x.con
  | none =>
    match mode with
    | .full =>
      match p.looping (c.kept ++ c.new) with
      | (.ok f, con) => good f none (x.con || con)
      | (.error e, con) => fail 2 e (x.con || con)
    | .undisturbed => fail 1 (x.fail.getD 0xFFFF) x.con
    | .probe _ => fail 1 0xFFFF x.con

end Sys2Proof.Machine
end

