-- ==== Sys2Proof/Machine/Seam.lean ====
section
/-! DEFINITION. Seam's requests, lanes and results (chapter 3). -/
namespace Sys2Proof.Machine

/-- The SEAM page. -/
def seamPg : Nat := 0xB000

/-- A change of Seam's own state. -/
def State.modSeam (s : State) (f : SeamSt → SeamSt) : State := { s with seam := f s.seam }

/-- STATUS shows the queue and the lanes (R73). -/
def State.seamRegs (s : State) : State :=
  let n := s.seam.queue.length
  let s := ((s.wr Reg.SEAM.STATUS.QUEUED n).put Reg.SEAM.STATUS.FULL (decide (64 ≤ n))).put Reg.SEAM.STATUS.FETCHING s.seam.fetch.isSome
  s.wr Reg.SEAM.STATUS.LANE_BUSY (ofOnes (s.seam.lanes.map (·.lane)))

/-- The live image as it stands, pinned cells held (R58, R88). -/
def State.liveImage (s : State) : Option Image := s.img.live.map fun m => { m with cells := s.img.liveCells }

/-- The image a BASE field names: the live image, or a slot that holds a valid Palzo image (R48, R51). -/
def State.baseImage (s : State) (b : Nat) : Option Image :=
  if b = 0xFFFF then s.liveImage
  else if imageCheck (s.slotBytes b) = 0 then some (parseImage (s.slotBytes b)) else none

/-- The ingress port of each assigned egress port of an image (R488). -/
def Image.assignment (m : Image) : List (Option Nat) :=
  (List.range 512).map fun e => if m.assigned e then some (ingressOf m.cells e) else none

/-- A permutation with its KEEP entries resolved against an assignment (R49, R50). -/
def resolvePerm (perm : List Nat) (assign : List (Option Nat)) : List (Option Nat) :=
  (List.range 512).map fun e =>
    let v := perm.getD e 0xFFFF
    if v = 0xFFFE then assign.getD e none else if v < 512 then some v else none

/-- The first entry that repeats an earlier ingress port (R51, check 5). -/
def firstDup : List (Option Nat) → Nat → List Nat → Option Nat
  | [], _, _ => none
  | none :: r, e, seen => firstDup r (e + 1) seen
  | some i :: r, e, seen => if seen.contains i then some e else firstDup r (e + 1) (i :: seen)

/-- The request that a descriptor of 1,088 bytes holds (R48). -/
def parseSolve (b : List Byte) (dest : SolveDest) : SolveReq where
  tag := leAt b 4 4
  mode := leAt b 3 1
  target := leAt b 8 2
  base := leAt b 0xA 2
  hi := bitOf (leAt b 0xC 2) 0
  all := bitOf (leAt b 0xC 2) 1
  setH := leAt b 0xE 1
  setV := leAt b 0xF 1
  paths := leAt b 0x10 8
  probe := leAt b 0x18 8
  perm := (List.range 512).map fun e => leAt b (0x40 + 2 * e) 2
  dest := dest

/-- A setpoint byte that R78 does not give. -/
def badSetpoint (v : Nat) : Bool := decide (0xA0 < v) && decide (v < 0xFF)

/-- The offset of the lowest failing field of a descriptor (R51, check 4): a host's request has MODE 0 or 1 (R57) and PROBE 0. -/
def solveFault (b : List Byte) : Option Nat :=
  let r := parseSolve b .plumb
  let heads : List (Nat × Bool) := [
    (0x00, leAt b 0 2 != 0x5352), (0x02, leAt b 2 1 != 1), (0x03, decide (1 < r.mode)),
    (0x08, decide (511 < r.target) && r.target != 0xFFFF), (0x0A, decide (511 < r.base) && r.base != 0xFFFF),
    (0x0C, decide (3 < leAt b 0xC 2)), (0x0E, badSetpoint r.setH), (0x0F, badSetpoint r.setV),
    (0x10, r.paths % 64 != 0), (0x18, r.probe != 0)]
  match heads.find? (·.2) with
  | some h => some h.1
  | none =>
    match (List.range 32).find? fun j => leAt b (0x20 + j) 1 != 0 with
    | some j => some (0x20 + j)
    | none => ((List.range 512).find? fun e => decide (0x1FF < r.perm.getD e 0) && decide (r.perm.getD e 0 < 0xFFFE)).map fun e => 0x40 + 2 * e

/-- The 64 bytes of a result record (R63). -/
def solveRecord (tag code flags lane flips changed circ pinned ns heat target base first t : Nat) : List Byte :=
  leBytes 4 tag ++ leBytes 1 code ++ leBytes 1 flags ++ leBytes 1 lane ++ leBytes 1 0 ++ leBytes 2 flips ++ leBytes 2 changed ++
  leBytes 2 circ ++ leBytes 2 pinned ++ leBytes 4 ns ++ leBytes 4 heat ++ leBytes 2 target ++ leBytes 2 base ++ leBytes 2 first ++
  leBytes 2 0 ++ stamp t ++ List.replicate 22 0

/-- A result record delivered on its route (R52), shown and counted (R73). The events DONE, FAIL and TIMEOUT are those of a record that is written, which one in absent SDRAM is not (R63, R74). -/
def State.seamResult (s : State) (dest : SolveDest) (tag code flags lane ns : Nat) (rec : List Byte) : State :=
  let s := ((s.wr Reg.SEAM.LAST_TAG.TAG tag).wr Reg.SEAM.LAST_RESULT.CODE code).wr Reg.SEAM.LAST_RESULT.FLAGS flags
  let s := (s.wr Reg.SEAM.LAST_RESULT.LANE lane).inc (Reg.SEAM.CNT_CODE.COUNT code)
  let s := s.wr Reg.SEAM.MAX_SOLVE.NS (max (s.rd Reg.SEAM.MAX_SOLVE.NS) (min ns 16777215))
  let s := if bitOf flags 2 then s.inc Reg.SEAM.CNT_STALE.COUNT else s
  let s := if bitOf flags 0 then s.inc Reg.SEAM.CNT_CONSTRAINED.COUNT else s
  let lost := match dest with
    | .reg a => !(s.sdOnline && decide (a + 64 ≤ s.sdSize))
    | _ => false
  let s := match dest with
    | .reg a => if lost then s else s.sdWrite a rec
    | .op b k => s.modSeam fun q => { q with done := q.done ++ [(b, k, rec)] }
    | .plumb => s.modSeam fun q => { q with probe := some code }
  let s := if lost then s else s.evt seamPg 0
  let s := if lost || code == 0 then s else s.evt seamPg 1
  let s := if !lost && code == 3 then s.evt seamPg 2 else s
  if code = 4 then s.evt seamPg 3 else s

/-- A result other than OK: no count and no time in its record (R63). -/
def State.seamFail (s : State) (dest : SolveDest) (tag target base code flags lane first : Nat) : State :=
  s.seamResult dest tag code flags lane 0 (solveRecord tag code flags lane 0 0 0 0 0 0 target base first s.now)

/-- R51, check 1: SEAM takes requests. -/
def State.seamOpen (s : State) : Bool :=
  s.pageRun seamPg && s.flag (Reg.HDR.PG_CTRL.ENABLE seamPg) && (match s.dev with
    | .hold => true
    | .armed => true
    | .run => true
    | .safe => true
    | _ => false)

/-- Whether a waiting job is Seam's. -/
def seamJob (k : JobKind) : Bool := match k with
  | .seam _ => true
  | _ => false

/-- The waiting requests in the order in which the lanes take them (R68). -/
def State.seamOrder (s : State) : List SolveReq := s.seam.queue.filter (·.hi) ++ s.seam.queue.filter fun r => !r.hi

/-- The governor priority of a request's solve (R68, R73). -/
def State.seamPrio (s : State) (r : SolveReq) : Nat := if r.hi then s.rd Reg.SEAM.CFG.HIGH_PRIORITY else s.rd Reg.SEAM.CFG.JOB_PRIORITY

/-- Jobs with the priorities of the requests they stand for: Seam's take the requests' in their order. -/
def seamRank : List Job → List Nat → List Job
  | j :: js, p :: ps => if seamJob j.kind then { j with prio := p } :: seamRank js ps else j :: seamRank js (p :: ps)
  | js, _ => js

/-- The waiting jobs of Seam stand for the first requests of the order (R68): one that arrives with HIGH_PRI behind an ordinary one raises the job that waits. -/
def State.seamRaise (s : State) : State :=
  { s with gov := { s.gov with jobs := seamRank s.gov.jobs (s.seamOrder.map s.seamPrio) } }

/-- A request put into the queue (R68). -/
def State.seamQueue (s : State) (r : SolveReq) : State := (s.modSeam fun q => { q with queue := q.queue ++ [r] }).seamRaise.seamRegs

/-- TARGET_SLOT is the target of a queued or running request (R51, check 6). -/
def State.slotPending (s : State) (t : Nat) : Bool :=
  t != 0xFFFF && ((s.seam.queue.any fun q => q.target == t) || s.seam.lanes.any fun l => l.req.target == t)

/-- A request checked in the order of R51 and queued, or answered: a descriptor, or none where it could not be fetched; a probe's comes from Plumb, checked for its slots and its port alone (R57). -/
def State.seamSubmit (s : State) (desc : Option (List Byte)) (dest : SolveDest) : State :=
  let b := desc.getD []
  let r := parseSolve b dest
  let s := s.draw
  let free := fun k => (Config.freeWord s.freeCtr k).toNat
  let tag := if desc.isSome then r.tag else free 0
  let target := if desc.isSome then r.target else free 1 % 2 ^ 16
  let base := if desc.isSome then r.base else free 2 % 2 ^ 16
  let fail (code first : Nat) : State := (s.seamFail dest tag target base code 0 0xFF first).seamRegs
  if !s.seamOpen then fail 0x0A 0xFFFF
  else if 64 ≤ s.seam.queue.length then fail 4 0xFFFF
  else if desc.isNone then fail 0x0B 0xFFFF
  else
    match solveFault b with
    | some o => fail 6 o
    | none =>
      let assign := match s.baseImage r.base with
        | some m => m.assignment
        | none => []
      match firstDup (resolvePerm r.perm assign) 0 [] with
      | some e => fail 6 (0x40 + 2 * e)
      | none => if s.slotPending r.target then fail 7 0xFFFF else s.seamQueue r

/-- Plumb's request (R57, R303): built inside, so that only the states of Seam and of its queue can refuse it (R51). The answer is 0 where it is queued. -/
def State.seamProbe (s : State) (tag target base probe : Nat) : State × Nat :=
  let r : SolveReq := ⟨tag, 2, target, base, true, false, 0xFF, 0xFF, 0, probe, [], .plumb⟩
  let s := s.modSeam fun q => { q with probe := none }
  let fail (code : Nat) : State × Nat := ((s.seamFail .plumb tag target base code 0 0xFF 0xFFFF).seamRegs, code)
  if !s.seamOpen then fail 0x0A
  else if 64 ≤ s.seam.queue.length then fail 4
  else if s.slotPending target then fail 7
  else (s.seamQueue r, 0)

/-- SEAM.DOORBELL.GO (R52): the addresses are latched, and the descriptor is fetched. -/
def State.seamDoorbell (s : State) : State :=
  if s.seam.fetch.isSome then s.err seamPg 0x058
  else
    let a := s.rd64 0xB048 / 64 * 64
    let d := s.rd64 0xB050 / 64 * 64
    (s.modSeam fun q => { q with fetch := some (a, d) }).seamRegs

/-- The descriptor fetched over the register path arrives (R51, R52). -/
def State.seamFetched (s : State) (ecc : Ecc) : State :=
  match s.seam.fetch with
  | none => s
  | some (a, d) =>
    let ok := s.sdOnline && decide (a + 1088 ≤ s.sdSize)
    let s := s.modSeam fun q => { q with fetch := none }
    let s := if ok then s.sdEcc a ecc else s
    let desc := if ok && ecc != .uncorrectable then some (s.sdBytes a 1088) else none
    (s.seamSubmit desc (.reg d)).seamRegs

/-- The request a free lane takes next (R68): high priority and probes first, then in order of acceptance. -/
def State.seamHead (s : State) : Option SolveReq := s.seamOrder.head?

/-- The pinned positions (R58) as a bitmap. -/
def State.pinMap (s : State) : Nat := (List.range 4352).foldl (fun v x => if s.pinned x then v + 2 ^ x else v) 0

/-- A working set is in force (R295). -/
def State.wsInForce (s : State) : Bool := !s.flag Reg.FUSE.FUSE_STATUS.CAL_ABSENT

/-- The heat signature of an image (R62, R79): in each fine zone the power of every element's heater, at I_Q or at the code of a HEATER or FIXED override in its tile's present range; all 0 while no working set is in force. -/
def State.heatOf (s : State) (m : Image) : List Nat :=
  if !s.wsInForce then List.replicate 64 0
  else
    let pow (eid : Nat) : Nat := match m.htrOvr eid with
      | some c => s.htrPow eid c
      | none => (s.iQ eid * 65536) ^ 2 * s.rH eid
    let t := allElems.foldl (fun t eid => tabPut t 0 (zoneOf eid) (tabGet t 0 (zoneOf eid) + pow eid)) ([] : Tab Nat)
    zones.map fun z => min 65535 ((tabGet t 0 z + 5 * powUnit) / (10 * powUnit))

/-- The bytes of an image, CREATED 0 and without CRC-32C (R75 to R80). -/
def imageBytes (m : Image) (flipHint baseSlot circ : Nat) (ovrs : List Byte) : List Byte :=
  leBytes 2 0x5A50 ++ leBytes 1 1 ++ leBytes 1 0 ++ leBytes 2 m.flags ++ leBytes 2 flipHint ++ leBytes 4 (sumN m.heat) ++
  leBytes 2 baseSlot ++ leBytes 2 circ ++ leBytes 4 m.id ++ leBytes 2 m.ovrs.length ++ List.replicate 42 0 ++
  leBytes 544 m.cells ++ m.sets.map (BitVec.ofNat 8) ++ m.heat.flatMap (leBytes 2) ++ bytesAt ovrs 0 280 ++ leBytes 4 0

/-- The bytes of an override entry (R80). -/
def ovrBytes (o : Ovr) : List Byte := leBytes 2 (o.eid + o.kind * 2 ^ 14) ++ leBytes 2 o.fast ++ leBytes 2 o.htr ++ leBytes 2 0

/-- An image completed with its time of writing and its CRC-32C (R62, R81). -/
def sealImage (b : List Byte) (t : Nat) : List Byte :=
  let b := b.take 0x16 ++ stamp t ++ (b.drop 0x20).take (0x7FC - 0x20)
  b ++ leBytes 4 (crc32c b)

/-- The result image of a solve (R62): setpoints plane H then plane V. -/
def resultImage (r : SolveReq) (m : Image) (x : Solved) : Image :=
  let probe := r.mode == 2
  let setOf (p e : Nat) : Nat :=
    if (x.assign.getD e none).isNone then 0xFF
    else if probe then (if x.new.getLast? == some e then 0xFF else m.set p e)
    else if x.new.contains e || r.all then (if p = 0 then r.setH else r.setV)
    else m.set p e
  { flags := 2 + m.flags % 2 + bitsOf m.flags 2 2 * 4, id := r.tag, cells := x.cells,
    sets := (List.range 1024).map fun k => setOf (k / 512) (k % 512), heat := m.heat, ovrs := m.ovrs }

/-- One entry of the path list (R64). -/
def pathEntry (base cells : Nat) (m : Image) (x : Solved) (e : Nat) : Nat :=
  match x.assign.getD e none with
  | none => e * 2 ^ 9
  | some i =>
    let r := routeOf fabN cells 8 0 i
    let new := x.new.contains e
    let ch := new || r != routeOf fabN base 8 0 i
    i + e * 2 ^ 9 + r * 2 ^ 18 + b2n ch * 2 ^ 26 + b2n new * 2 ^ 27 + b2n (m.assigned e) * 2 ^ 28

/-- A solve that ends with a code and no result. -/
def SolveOut.none (code first : Nat) (con incr : Bool) : SolveOut := ⟨code, first, con, incr, 0, 0, 0, 0, 0, 0, [], [], 0, false⟩

/-- The mode of a request (R48, R57). -/
def SolveReq.solveMode (r : SolveReq) : SolveMode :=
  if r.mode = 2 then .probe ⟨r.probe % 512, bitsOf r.probe 9 13, bitsOf r.probe 22 1, bitOf r.probe 23⟩
  else if r.mode = 1 then .undisturbed else .full

/-- The solve of a request from the present snapshot (R47, R50 to R62). -/
def State.solveNow (s : State) (r : SolveReq) : SolveOut :=
  match s.baseImage r.base with
  | none => SolveOut.none 9 0xFFFF false false
  | some m =>
    let assign := m.assignment
    let want := resolvePerm r.perm assign
    let dup := if r.mode = 2 then none else firstDup want 0 []
    if dup.isSome then SolveOut.none 6 (0x40 + 2 * dup.getD 0) false false
    else if r.mode = 2 ∧ assign.contains (some (r.probe % 512)) then SolveOut.none 6 0x18 false false
    else
      let pins := s.pinMap
      let live := match s.img.live with
        | some _ => s.img.liveCells
        | none => m.cells
      let x := SolveIn.solve ⟨fabN, m.cells, pins, live⟩ r.solveMode assign want
      if x.code ≠ 0 then SolveOut.none x.code x.first x.con x.incr
      else
        let img := resultImage r m x
        let img := { img with heat := s.heatOf img }
        let flips := popN 4352 (x.cells ^^^ m.cells)
        let circ := (List.range 512).countP img.assigned
        let paths := (List.range 512).map (pathEntry m.cells x.cells img x)
        let quar := (List.range 512).any fun e => img.assigned e && (s.status (shutEid 0 e) == stQuar || s.status (shutEid 1 e) == stQuar)
        ⟨0, 0xFFFF, x.con, x.incr, flips, paths.countP fun w => bitOf w 26, circ, popN 4352 pins, sumN img.heat, x.cells,
         imageBytes img flips r.base circ (m.ovrs.flatMap ovrBytes), paths, m.cells, quar⟩

/-- A lane takes the head of the queue (R47, R68, R69). -/
def State.laneStart (s : State) (lane : Nat) : State :=
  match s.seamHead with
  | none => s
  | some r =>
    let l : LaneSt := ⟨lane, r, s.up, s.solveNow r, s.pinMap, false, false⟩
    (s.modSeam fun q => { q with queue := q.queue.erase r, lanes := q.lanes ++ [l] }).seamRaise.seamRegs

/-- A lane ends: it is free, and its job releases its cost (R68, R282). -/
def State.laneFree (s : State) (lane : Nat) : State :=
  ((s.modSeam fun q => { q with lanes := q.lanes.filter (·.lane != lane) }).jobDone (· == .seam lane)).seamRegs

/-- The pins have changed (R61, R67): a lane whose result conflicts with a new pin, in its pin state of R58, solves again from a fresh snapshot; another is STALE. -/
def State.lanePins (s : State) (l : LaneSt) : State :=
  let now := s.pinMap
  if now = l.pins then s
  else
    let held := match s.img.live with
      | some _ => s.img.liveCells
      | none => l.out.base
    let clash := l.out.code == 0 && (onesOf 4352 now).any fun x => !bitOf l.pins x && bitOf l.out.cells x != bitOf held x
    let swap (s : State) (l' : LaneSt) : State := s.modSeam fun q => { q with lanes := q.lanes.map fun k => if k.lane = l.lane then l' else k }
    if clash then
      let s := swap s { l with out := s.solveNow l.req, pins := now, again := true }
      s.countEvt Reg.SEAM.CNT_RESOLVED.COUNT seamPg 4
    else swap s { l with pins := now, stale := true }

/-- The pins may have changed: every lane is looked at (R61, R67). -/
def State.seamPins (s : State) : State := s.seam.lanes.foldl State.lanePins s

/-- STALE on every lane that a test names (R67). -/
def State.seamStale (s : State) (p : LaneSt → Bool) : State :=
  s.modSeam fun q => { q with lanes := q.lanes.map fun l => if p l then { l with stale := true } else l }

/-- The live image has changed (R67). -/
def State.seamLive (s : State) : State := s.seamStale fun l => l.req.base == 0xFFFF

/-- The flags of a result (R63) but SLOT_WRITTEN and PATHS_WRITTEN; SHUTTER_QUAR is the snapshot's (R47, R62). -/
def LaneSt.flags (l : LaneSt) : Nat :=
  b2n l.out.con + 2 * b2n l.out.incr + 4 * b2n l.stale + 8 * b2n l.again + 16 * b2n l.out.quar

/-- SEAM_SOLVE_COMPLETE (R62 to R67) of a lane. -/
def State.laneComplete (s : State) (lane : Nat) : State :=
  match s.seam.lanes.find? (·.lane == lane) with
  | none => s
  | some l =>
    let r := l.req
    let o := l.out
    let flags := l.flags
    let s := s.laneFree lane
    if o.code ≠ 0 then s.seamFail r.dest r.tag r.target r.base o.code flags lane o.first
    else if r.target ≠ 0xFFFF ∧ s.slotInUse r.target = true then s.seamFail r.dest r.tag r.target r.base 8 flags lane 0xFFFF
    else
      let toSlot := r.target != 0xFFFF
      let toSd := r.paths != 0 && s.sdOnline && decide (r.paths + 2048 ≤ s.sdSize)
      let s := if toSlot then s.writeSlot r.target (sealImage o.image s.now) true else s
      let s := if toSd then s.sdWrite r.paths (o.paths.flatMap (leBytes 4)) else s
      let flags := flags + 32 * b2n toSlot + 64 * b2n toSd
      let ns := (s.up - l.start) / ns
      s.seamResult r.dest r.tag 0 flags lane ns
        (solveRecord r.tag 0 flags lane o.flips o.changed o.circ o.pinned (min ns (2 ^ 32 - 1)) o.heat r.target r.base 0xFFFF s.now)

/-- SEAM_TIMEOUT (R71) of a lane. -/
def State.laneTimeout (s : State) (lane : Nat) : State :=
  match s.seam.lanes.find? (·.lane == lane) with
  | none => s
  | some l =>
    if s.up < l.start + 200000 * ns then s
    else ((s.laneFree lane).seamFail l.req.dest l.req.tag l.req.target l.req.base 3 (l.flags % 16) lane 0xFFFF).raise 8 l.req.tag

/-- Every queued and running request ends ABORTED (R72). -/
def State.seamAbort (s : State) : State :=
  let q := s.seam.queue
  let ls := s.seam.lanes
  let s := s.withdraw seamJob
  let s := s.modSeam fun q => { q with queue := [] }
  let s := q.foldl (fun s r => s.seamFail r.dest r.tag r.target r.base 5 0 0xFF 0xFFFF) s
  let s := ls.foldl (fun s l => (s.laneFree l.lane).seamFail l.req.dest l.req.tag l.req.target l.req.base 5 (l.flags % 16) l.lane 0xFFFF) s
  s.seamRegs

/-- A lane is free and may take requests (R68, R72). -/
def State.laneIdle (s : State) (lane : Nat) : Bool :=
  bitOf (s.rd Reg.SEAM.CFG.LANE_EN) lane && !(s.seam.lanes.any fun l => l.lane == lane)

/-- A free lane offers its next request to the governor (R68, R281): the first one that no waiting job stands for. -/
def State.seamOffer (s : State) (lane : Nat) : State :=
  if s.laneIdle lane && !(s.gov.jobs.any fun j => j.kind == .seam lane) then
    match s.seamOrder[s.gov.jobs.countP fun j => seamJob j.kind]? with
    | some r => s.offer (.seam lane) (s.seamPrio r) (s.rd Reg.SEAM.JOB_COST.COST)
    | none => s
  else s

end Sys2Proof.Machine
end

