-- ==== Sys2Proof/Machine/Plumb.lean ====
section
/-! DEFINITION. Plumb (chapter 11): the working set and the pending bank, bank swaps, calibration runs, the atlas, and the fuse generations. -/
namespace Sys2Proof.Machine

/-- The PLUMB page. -/
def plumbPg : Nat := 0xC000

/-- The FUSE page. -/
def fusePg : Nat := 0x4000

/-- A change of Plumb's own state. -/
def State.modPlumb (s : State) (f : PlumbSt → PlumbSt) : State := { s with plumb := f s.plumb }

/-- A word of the working set window or of the pending bank window. -/
def inBank (base off : Nat) : Bool := decide (base ≤ off) && decide (off < base + 0x80000)

/-- The working set and the pending bank exchanged (R297). -/
def State.swapBanks (s : State) : State :=
  let w := s.regs.filter fun e => inBank 0x300000 e.1
  let p := s.regs.filter fun e => inBank 0x380000 e.1
  { s with regs := (s.regs.filter fun e => decide (e.1 < 0x300000)) ++ (p.map fun e => (e.1 - 0x80000, e.2)) ++
      (w.map fun e => (e.1 + 0x80000, e.2)) ++ s.regs.filter fun e => decide (0x400000 ≤ e.1) }

/-- The pending bank filled with a copy of the working set (R296, R297). -/
def State.copyBank (s : State) : State :=
  let w := s.regs.filter fun e => inBank 0x300000 e.1
  { s with regs := (s.regs.filter fun e => decide (e.1 < 0x380000)) ++ (w.map fun e => (e.1 + 0x80000, e.2)) ++
      s.regs.filter fun e => decide (0x400000 ≤ e.1) }

/-- n bytes of a window from a BAR0 offset, as a list. -/
def State.winList (s : State) (off n : Nat) : List Byte := (List.range n).map fun i => BitVec.ofNat 8 (s.winBytes (off + i) 1)

/-- The size of a generation region (R290). -/
def regionSize : Nat := 0x70000

/-- Arming a swap (R296, R297, R307). -/
def State.armSwap (s : State) (host : Bool) : State :=
  ((s.put Reg.PLUMB.BANK_STATUS.PENDING_READY true).put Reg.PLUMB.BANK_STATUS.SWAP_ARMED true).modPlumb fun p => { p with hostSet := host, swapFix := false, armAt := s.mon.clock }

/-- BANK_SWAP (R297, R298): the pending bank comes into force at an instant. -/
def State.bankSwap (s : State) (t : Nat) : State :=
  let host := s.plumb.hostSet
  let s := (s.swapBanks.swapProbes).recomputePow
  let s := (List.range 128).foldl State.loadSafe s
  let s := ((s.put Reg.PLUMB.BANK_STATUS.SWAP_ARMED false).put Reg.PLUMB.BANK_STATUS.PENDING_READY false).put Reg.PLUMB.BANK_STATUS.COPYING true
  let s := ((s.incWrap Reg.PLUMB.BANK_STATUS.SWAPS).wrTime 0xC074 t).modPlumb fun p => { p with swapFix := false, hostSet := false }
  let s := if host then (s.wr Reg.FUSE.FUSE_STATUS.WS_SOURCE 1).put Reg.FUSE.FUSE_STATUS.CAL_ABSENT false else s
  ((s.seamStale fun _ => true).evt plumbPg 2).checkHtrOver

/-- SWAP_INSTANT (R297): while Gantry is STOPPED or FROZEN, or after a fixed swap's boundary has failed to occur, at the first granule edge at least one CLK_LOOP cycle after the arming. -/
def State.swapInstant (s : State) : State :=
  if s.flag Reg.PLUMB.BANK_STATUS.SWAP_ARMED ∧ (s.gstate = 0 ∨ s.gstate = 5) ∧ s.plumb.armAt < s.mon.clock then s.bankSwap s.now else s

/-- PENDING_COPY_DONE (R297). -/
def State.pendingCopied (s : State) : State :=
  if s.flag Reg.PLUMB.BANK_STATUS.COPYING then (s.copyBank).put Reg.PLUMB.BANK_STATUS.COPYING false else s

/-- BANK_CTRL.HOST_SWAP (R296). -/
def State.hostSwap (s : State) : State := s.modPlumb fun p => { p with checking := true }

/-- The item of the pending bank that fails HOST_SWAP's check, 0 for none (R296, R314). -/
def State.bankCheck (s : State) : Nat :=
  if s.winBytes 0x380000 2 ≠ 0x5047 then 1
  else if s.winBytes 0x380002 1 ≠ 1 then 2
  else if s.winBytes 0x380008 8 ≠ s.unit.unitId then 3
  else if s.winBytes 0x3EFFFC 4 ≠ crc32c (s.winList 0x380000 0x6FFFC) then 4
  else 0

/-- HOST_SWAP_CHECK_DONE (R296). -/
def State.hostSwapChecked (s : State) : State :=
  if s.plumb.checking then
    let c := s.bankCheck
    let s := (s.modPlumb fun p => { p with checking := false }).wr Reg.PLUMB.BANK_STATUS.HOST_CHECK c
    if c = 0 then s.armSwap true else s
  else s

/-- BANK_CTRL.ABANDON (R314): an armed swap is discarded. -/
def State.bankAbandon (s : State) : State :=
  (s.put Reg.PLUMB.BANK_STATUS.SWAP_ARMED false).modPlumb fun p => { p with swapFix := false, hostSet := false }

/-- A run is in progress or asked for (R281, R307). -/
def State.runBusy (s : State) : Bool := s.flag Reg.PLUMB.RUN_STATUS.BUSY

/-- Whether kind p (1 DARK, 2 RECENTRE, 3 SWEEP) can run in the present global state (R300); SWEEP also needs SWEEP_SLOTS.EN (R314). -/
def State.kindRuns (s : State) (p : Nat) : Bool :=
  let d := s.dev
  let base := d == .armed || d == .run || d == .safe
  if p = 1 then base || d == .hold else if p = 2 then base else d == .run && s.flag Reg.PLUMB.SWEEP_SLOTS.EN

/-- The run goes on with its next kind that can run, or comes to its end (R300, R308). -/
def State.runNext (s : State) : State :=
  match s.plumb.run with
  | none => s
  | some r =>
    let p := s.rd Reg.PLUMB.RUN_STATUS.PHASE
    let kinds := s.rd Reg.PLUMB.RUN_STATUS.KINDS
    let next := if r.ending then none else ([1, 2, 3].filter fun k => decide (p < k) && bitOf kinds (k - 1) && s.kindRuns k).head?
    s.wr Reg.PLUMB.RUN_STATUS.PHASE (next.getD 0)

/-- A change of the run in progress. -/
def State.modRun (s : State) (f : RunSt → RunSt) : State := s.modPlumb fun p => { p with run := p.run.map f }

/-- RUN_REQ and its like (R306, R307): 0 requested, 1 ALREADY_RUNNING with the kinds merged, 2 REFUSED. -/
def State.runRequest (s : State) (kinds : Nat) : State × Nat :=
  let dead := s.dev == .off || s.dev == .boot || s.dev == .halt
  if dead || !s.flag (Reg.HDR.PG_CTRL.ENABLE plumbPg) || s.flag Reg.FUSE.FUSE_STATUS.COMMIT_BUSY then (s.wr Reg.PLUMB.RUN_STATUS.RESULT 6, 2)
  else if s.runBusy then
    let p := s.rd Reg.PLUMB.RUN_STATUS.PHASE
    let late := if s.plumb.run.isSome && p == 0 then [] else [0, 1, 2].filter fun b => bitOf kinds b && decide (p ≤ b + 1)
    let s := s.wr Reg.PLUMB.RUN_STATUS.KINDS (ofOnes (late ++ onesOf 3 (s.rd Reg.PLUMB.RUN_STATUS.KINDS)))
    (s.countEvt Reg.PLUMB.CNT_MERGED.COUNT plumbPg 3, 1)
  else
    let s := ((s.put Reg.PLUMB.RUN_STATUS.BUSY true).wr Reg.PLUMB.RUN_STATUS.KINDS kinds).wr Reg.PLUMB.RUN_STATUS.PHASE 0
    (s.wr Reg.PLUMB.RUN_STATUS.RESULT 0, 0)

/-- A run offered to the governor (R281). -/
def State.plumbOffer (s : State) : State :=
  if s.runBusy && s.plumb.run.isNone && !s.hasJob .plumb then s.offer .plumb (s.rd Reg.PLUMB.JOB.PRIORITY) (s.rd Reg.PLUMB.JOB.COST) else s

/-- The unlit monitors of LOOP-mode converters (R301). -/
def State.darkList (s : State) : List Nat := (List.range 19968).filter fun m => s.loopMode (m / 32) && !s.lit m

/-- PLUMB_RUN_START (R296, R300): the granted run copies the working set into the pending bank and begins its kinds. -/
def State.plumbStart (s : State) : State :=
  let s := (s.copyBank).inc Reg.PLUMB.CNT_RUNS.COUNT
  let s := s.put Reg.PLUMB.BANK_STATUS.PENDING_READY false
  let r : RunSt := ⟨s.darkList, none, 0, false, false, 0, 0, 0, 0, false⟩
  ((s.modPlumb fun p => { p with run := some r }).wr Reg.PLUMB.SWEEP_PROGRESS.VISITS 0).runNext

/-- A value offered to the pending bank (R305): taken where it lies within its limit; rejected and counted beyond it. REJECT_LIMIT rejections end the run. -/
def State.plumbTake (s : State) (f : Fld) (old new : Nat) (within : Bool) : State :=
  if within then
    if old = new then s else (s.wr f new).modRun fun r => { r with taken := r.taken + 1 }
  else
    let s := (s.inc Reg.PLUMB.CNT_REJECTED.COUNT).modRun fun r => { r with rejected := r.rejected + 1 }
    match s.plumb.run with
    | some r => if s.rd Reg.PLUMB.LIMITS.REJECT_LIMIT ≤ r.rejected then s.wr Reg.PLUMB.RUN_STATUS.PHASE 0 else s
    | none => s

/-- The monitor of a DARK run set back to its own range and left (R301). -/
def State.darkLeave (s : State) : State :=
  match s.plumb.run.bind (·.cur) with
  | some d => (s.hostRange d.mid d.orig).modRun fun r => { r with cur := none }
  | none => s

/-- The values of a monitor offered to the pending bank, ranges 0 to 3 (R301, R305). -/
def State.darkStore (s : State) (mid : Nat) (ofs : List Nat) : State :=
  (List.range 4).foldl (fun s r =>
    let off := 0x320840 + 16 * mid + 4 * r
    let old := s.winBytes off 2
    let new := ofs.getD r old
    s.plumbTake ⟨off + 0x80000, 0, 16⟩ old new (decide ((sgn 16 new - sgn 16 old).natAbs ≤ 4 * s.rd Reg.PLUMB.LIMITS.MAX_DOFS))) s

/-- A range of a DARK monitor begun (R301): set with a host-priority write, and its conversions asked for in class PROBE. -/
def State.darkRange (s : State) (d : DarkSt) : State :=
  ((s.hostRange d.mid d.range).request d.mid 3).modRun fun r => { r with cur := some d }

/-- DARK_MONITOR_STEP (R301): the next monitor is begun, or the next range of the one in work once 16 conversions are in, or its values are stored. -/
def State.darkStep (s : State) : State :=
  if s.rd Reg.PLUMB.RUN_STATUS.PHASE ≠ 1 ∨ s.flag Reg.PLUMB.BANK_STATUS.COPYING = true then s
  else
    match s.plumb.run with
    | none => s
    | some r =>
      match r.cur with
      | none =>
        match r.dark with
        | [] => s.runNext
        | m :: rest => (s.modRun fun r => { r with dark := rest }).darkRange ⟨m, s.monRange m, 0, 0, 0, []⟩
      | some d =>
        if !s.loopMode (d.mid / 32) then s.darkLeave
        else if d.n < 16 then s.request d.mid 3
        else
          let ofs := d.ofs ++ [(2 * d.sum + 16) / 32]
          if d.range = 3 then ((s.darkLeave).darkStore d.mid ofs)
          else s.darkRange { d with range := d.range + 1, sum := 0, n := 0, ofs := ofs }

/-- A conversion of the monitor that a DARK run measures (R301): raw16 is summed; a result of L_MIN or more, or SUSPECT, drops the monitor; one in its SETTLING window, or while the pending bank is being copied (R297), does not count. -/
def State.darkTake (s : State) (r : Result) (raw14 : Nat) : State :=
  match s.plumb.run.bind (·.cur) with
  | none => s
  | some d =>
    if d.mid ≠ r.mid ∨ r.range ≠ d.range ∨ 16 ≤ d.n then s
    else if r.settl || s.flag Reg.PLUMB.BANK_STATUS.COPYING then s.request d.mid 3
    else if r.susp || s.light (monCluster (monTile r.mid)) r.amps then s.darkLeave
    else
      let s := s.modRun fun q => { q with cur := some { d with sum := d.sum + 4 * raw14, n := d.n + 1 } }
      if d.n < 15 then s.request d.mid 3 else s

/-- The converter of a DARK monitor has left LOOP mode (R301). -/
def State.darkMode (s : State) : State :=
  match s.plumb.run.bind (·.cur) with
  | some d => if s.loopMode (d.mid / 32) then s else s.darkLeave
  | none => s

/-- The atlas may be written: enabled, not frozen, and its SDRAM online (R309). -/
def State.atlasOn (s : State) : Bool := s.flag Reg.PLUMB.ATLAS_CTRL.ENABLE && !s.flag Reg.PLUMB.ATLAS_CTRL.FREEZE && s.sdOnline

/-- The address of bin b of an element in the atlas (R309). -/
def State.atlasBin (s : State) (eid b : Nat) : Nat := s.rd64 0xC088 / 4096 * 4096 + 64 + 128 * eid + 2 * b

/-- A bin's heater power in µW; 0 is empty (R309). -/
def State.binPow (s : State) (eid b : Nat) : Nat := leVal (s.sdBytes (s.atlasBin eid b) 2)

/-- An element's live heater power written into the atlas bin of its zone temperature (R302, R309), which is left unchanged where its read shows an uncorrectable error (R445). -/
def State.atlasNote (s : State) (eid : Nat) (ecc : Ecc) : State :=
  let b := s.picTemp (zoneOf eid) / 16 - 18
  if b < 0 ∨ 64 ≤ b then s
  else
    let b := b.toNat
    let s := s.sdEcc (s.atlasBin eid b) ecc
    if ecc = .uncorrectable then s
    else
    let uw := min 65535 (s.htrPow eid (s.htrLive eid) * 100 / (10 * powUnit))
    let old := s.binPow eid b
    let new := if old = 0 then uw else (3 * old + uw) / 4
    (s.draw).sdWrite (s.atlasBin eid b) (leBytes 2 new)

/-- KT as the least-squares slope of heater power against temperature over the filled bins, in 0.01 mW/°C, where they span at least 4 °C (R302). -/
def State.atlasSlope (s : State) (eid : Nat) : Option Int :=
  let pts := ((List.range 64).map fun b => (b, s.binPow eid b)).filter fun p => p.2 != 0
  match pts.head?, pts.getLast? with
  | some lo, some hi =>
    if hi.1 < lo.1 + 4 then none
    else
      let n : Int := pts.length
      let sx : Int := ((pts.map (·.1)).sum : Nat)
      let sy : Int := ((pts.map (·.2)).sum : Nat)
      let sxx : Int := ((pts.map fun p => p.1 * p.1).sum : Nat)
      let sxy : Int := ((pts.map fun p => p.1 * p.2).sum : Nat)
      some (clampI (-128) 127 (divRound (n * sxy - sx * sy) (10 * (n * sxx - sx * sx)).toNat))
  | _, _ => none

/-- Whether RECENTRE takes an element (R302): a cell, or a shutter in null seek, in TRACK for its last 64 estimates. -/
def State.recentred (s : State) (eid : Nat) : Bool :=
  s.status eid == stTrack && decide ((s.elem eid).hist.length = 64) && (isCell eid || s.probes eid)

/-- RECENTRE of one element: the atlas, KT and I_Q (R302, R305). -/
def State.recentreElem (s : State) (eid : Nat) (ecc : Ecc) : State :=
  if !s.recentred eid then s
  else
    let rec0 := elemRec eid
    let s := if s.atlasOn then s.atlasNote eid ecc else s
    let s := match (if s.atlasOn then s.atlasSlope eid else none) with
      | some k => s.plumbTake ⟨rec0 + 0x80008, 23, 8⟩ (unsgn 8 (s.kT eid)) (unsgn 8 k) true
      | none => s
    let old := s.iQ eid
    let new := min 65535 ((2 * s.htrI (tileOf eid) (s.htrLive eid) + 65536) / 131072)
    let pow (i : Nat) : Int := ((i * 65536) ^ 2 * s.rH eid : Nat)
    s.plumbTake ⟨rec0 + 0x80004, 13, 16⟩ old new (decide ((pow new - pow old).natAbs ≤ s.rd Reg.PLUMB.MAX_DP.P * 10 * powUnit))

/-- RECENTRE (R302), with the elements whose atlas bin reads with an uncorrectable error, and those whose bin is corrected (R445). -/
def State.recentre (s : State) (errs corrs : List Nat) : State :=
  if s.rd Reg.PLUMB.RUN_STATUS.PHASE ≠ 2 ∨ s.flag Reg.PLUMB.BANK_STATUS.COPYING = true then s
  else
    let s := allElems.foldl (fun s eid => if s.rd Reg.PLUMB.RUN_STATUS.PHASE = 2 then s.recentreElem eid (if errs.contains eid then .uncorrectable else if corrs.contains eid then .corrected else .ok) else s) s
    if s.rd Reg.PLUMB.RUN_STATUS.PHASE = 2 then s.runNext else s

/-- The bitmap position and state of visit v (R303). -/
def visitOf (v : Nat) : Nat × Bool := (v / 2, v % 2 == 1)

/-- A visit is over: the next one comes (R303). -/
def State.visitNext (s : State) : State :=
  match s.plumb.run with
  | some r => (s.wr Reg.PLUMB.SWEEP_PROGRESS.VISITS (r.visit + 1)).modRun fun r => { r with visit := r.visit + 1, asked := false, ready := false }
  | none => s

/-- Whether a position is passed over before Seam is asked (R303): it carries a circuit in BASE_SLOT, or it is pinned. -/
def State.visitPassed (s : State) (x : Nat) : Bool :=
  s.pinned x || (match s.baseImage (s.rd Reg.PLUMB.SWEEP_SLOTS.BASE_SLOT) with
    | some m => (egressAt m.cells x).any m.assigned
    | none => false)

/-- Visits passed over until one is left to do, for at most fuel visits (R303). -/
def State.visitSkip (s : State) : Nat → State
  | 0 => s
  | fuel + 1 =>
    match s.plumb.run with
    | some r =>
      if r.visit < 8704 ∧ s.visitPassed (r.visit / 2) = true then ((s.inc Reg.PLUMB.CNT_PASSED.COUNT).visitNext).visitSkip fuel else s
    | none => s

/-- SWEEP_VISIT_SUBMIT (R303): the next visit's PROBE solve, once PROBE_SLOT is neither live nor fixed; the kind ends when no visit is left or SWEEP cannot run, and waits while PIC stage 2 is in force (R271). -/
def State.sweepSubmit (s : State) : State :=
  if s.rd Reg.PLUMB.RUN_STATUS.PHASE ≠ 3 then s
  else if !s.kindRuns 3 then s.runNext
  else
    match s.plumb.run with
    | none => s
    | some r =>
      if r.asked ∨ r.ready ∨ s.plumb.window.isSome ∨ s.picStage = 2 ∨ s.flag Reg.PLUMB.BANK_STATUS.COPYING then s
      else
        let s := s.visitSkip 8704
        match s.plumb.run with
        | none => s
        | some r =>
          if 8704 ≤ r.visit then s.runNext
          else
            let slot := s.rd Reg.PLUMB.SWEEP_SLOTS.PROBE_SLOT
            if s.slotInUse slot then s
            else
              let v := visitOf r.visit
              let probe := s.rd Reg.PLUMB.PROBE_CFG.PORT + v.1 * 2 ^ 9 + b2n v.2 * 2 ^ 23
              let s := s.draw
              let a := s.seamProbe (Config.freeWord s.freeCtr 0).toNat slot (s.rd Reg.PLUMB.SWEEP_SLOTS.BASE_SLOT) probe
              if a.2 = 0 then a.1.modRun fun r => { r with asked := true } else a.1

/-- The result of Plumb's probe solve (R303): the image waits in PROBE_SLOT, or the visit is passed over, or it is asked for again. -/
def State.probeSolved (s : State) : State :=
  match s.seam.probe, s.plumb.run with
  | some code, some r =>
    let s := s.modSeam fun q => { q with probe := none }
    if !r.asked then s
    else if code = 0 then s.modRun fun r => { r with asked := false, ready := true }
    else if code = 1 then (s.inc Reg.PLUMB.CNT_PASSED.COUNT).visitNext
    else s.modRun fun r => { r with asked := false }
  | _, _ => s

/-- POINTS of a sweep (R314). -/
def State.sweepPoints (s : State) : Nat := clampN 3 8 (s.rd Reg.PLUMB.SWEEP_CFG.POINTS)

/-- STEP of a sweep (R314). -/
def State.sweepStep (s : State) : Nat := clampN 1 64 (s.rd Reg.PLUMB.SWEEP_CFG.STEP)

/-- The code of point j of a sweep about code c (R304). -/
def State.pointCode (s : State) (c : Int) (j : Nat) : Int :=
  clampFast (c + divRound ((2 * (j : Int) - s.sweepPoints + 1) * s.sweepStep) 2)

/-- The copies of a window at a point's codes (R304). -/
def State.pointLive (s : State) (w : Window) (j : Nat) : State :=
  let s := s.modPlumb fun p => { p with window := some { w with since := s.up } }
  w.base.foldl (fun s b => s.directFast b.1 (s.pointCode (sgn 12 b.2) j)) s

/-- The copies of a position's cell that a window acts on (R304): those not QUARANTINED. -/
def State.viaCopies (s : State) (pos : Nat) : List Nat := [cellEid 0 pos, cellEid 1 pos].filter fun eid => s.status eid != stQuar

/-- A window may open on a via cell (R304): 500 ns after the boundary, and its holdoff over. -/
def State.viaReady (s : State) (pos : Nat) : Bool :=
  decide (s.gan.lastT + 500 * ns ≤ s.now) && (s.viaCopies pos).all fun eid => !(s.status eid == stHold && s.reason eid == whyHoldoff)

/-- The probe port's ingress tap reads below MIN_DBM (R305). -/
def State.probeDark (s : State) : Bool :=
  match alGet s.bram.seen (ingressMid (s.rd Reg.PLUMB.PROBE_CFG.PORT)) with
  | none => true
  | some r =>
    let p := r.amps.toNat ^ 10
    let d := sgn 8 (s.rd Reg.PLUMB.PROBE_CFG.MIN_DBM)
    if d < 0 then decide (p * 10 ^ d.natAbs < ampsPerMw ^ 10) else decide (p < ampsPerMw ^ 10 * 10 ^ d.natAbs)

/-- A sweep's windows may open (R271, R297, R300, R304): SWEEP is the present kind and can run, no window is open, PROBE_SLOT is live, PIC stage 2 is not in force and the pending bank is not being copied. -/
def State.windowFree (s : State) : Bool :=
  s.rd Reg.PLUMB.RUN_STATUS.PHASE == 3 && s.kindRuns 3 && s.plumb.window.isNone && s.img.liveRef == .slot (s.rd Reg.PLUMB.SWEEP_SLOTS.PROBE_SLOT) &&
  s.picStage != 2 && !s.flag Reg.PLUMB.BANK_STATUS.COPYING

/-- A Plumb window opens (R304, R305): its image is unused and its via cell is ready, or the window is idle. -/
def State.windowOpen (s : State) (timed : Bool) : State :=
  if !s.windowFree then s
  else
    match s.plumb.run with
    | none => s
    | some r =>
      if !r.ready then s.inc Reg.PLUMB.CNT_WINDOW_IDLE.COUNT
      else if !s.viaReady (visitOf r.visit).1 then s
      else if s.probeDark then ((s.modRun fun r => { r with darkWin := r.darkWin + 1 }).visitNext).evt plumbPg 4
      else
        let v := visitOf r.visit
        let codes := (s.viaCopies v.1).map fun eid => (eid, unsgn 12 (clampFast (s.cellCode eid v.2)))
        s.pointLive ⟨v.1, v.2, codes, 0, [], timed, s.up + s.rd Reg.PLUMB.SWEEP_CFG.WINDOW_G * s.gran, s.up⟩ 0

/-- The ratio of a sample's weak tap to the sum of both in 1/65,536 (R304); where the sum is not positive the specification gives none: a free value. -/
def ratioOf (free : Nat) (p : SweepPt) : Int :=
  if p.weak + p.strong ≤ 0 then ((Config.freeWord free 0).toNat % 65537 : Nat) else (2 * p.weak * 65536 + (p.weak + p.strong)) / (2 * (p.weak + p.strong))

/-- The vertex of the least-squares quadratic through the points of one copy (R304), as a code offset from c times STEP / 2, in the form numerator and denominator; a fit without curvature has none. -/
def vertexOf (free : Nat) (pts : List SweepPt) : Option (Int × Int) :=
  let n : Int := pts.length
  let us : List Int := (List.range pts.length).map fun j : Nat => 2 * (j : Int) - n + 1
  let ys := pts.map (ratioOf free)
  let uy := us.zip ys
  let sum (f : Int → Int → Int) : Int := (uy.map fun p => f p.1 p.2).sum
  let s2 := sum fun u _ => u * u
  let s4 := sum fun u _ => u * u * u * u
  let b := sum fun u y => u * y
  let c2 := n * sum (fun u y => u * u * y) - s2 * sum fun _ y => y
  if c2 = 0 then none else some (-(b * (n * s4 - s2 * s2)), 2 * s2 * c2)

/-- The value of one copy after its last point, offered to the pending bank (R305). -/
def State.sweepValue (s : State) (w : Window) (eid : Nat) : State :=
  let t := tileOf eid
  let old := if w.cross then s.vB eid else s.vA eid
  let c := sgn 12 ((alGet w.base eid).getD 0)
  let s := s.draw
  let new : Int := match vertexOf s.freeCtr (w.pts.filter fun p => p.eid == eid) with
    | some (num, den) =>
      let num := if den < 0 then -num else num
      divRound ((2 * c * den.natAbs + num * s.sweepStep) * s.vfs t) (4096 * den.natAbs)
    | none => sgn 16 (Config.freeWord s.freeCtr 1).toNat
  let f : Fld := ⟨elemRec eid + 0x80000, if w.cross then 16 else 0, 16⟩
  s.plumbTake f (unsgn 16 old) (unsgn 16 (clampI (-32768) 32767 new)) (decide ((new - old).natAbs ≤ 8 * s.rd Reg.PLUMB.LIMITS.MAX_DV))

/-- The weak taps of a window have been dwelt on since the present point went live (R158, R304). -/
def State.pointRipe (s : State) (w : Window) : Bool :=
  w.base.all fun b => decide (w.since + s.dwell b.1 (s.monRange (s.weakTapNow b.1)) false ≤ s.up)

/-- SWEEP_POINT (R304): the samples of the present point, one for each copy, no earlier than the probe dwell; then the next point goes live, or after the last c is restored and the values are taken. PIC stage 2 (R271) and a bank copy (R297) hold it up. -/
def State.sweepPoint (s : State) (samples : List (Nat × Int × Int)) : State :=
  match s.plumb.window with
  | none => s
  | some w =>
    if s.picStage = 2 ∨ s.flag Reg.PLUMB.BANK_STATUS.COPYING = true ∨ s.pointRipe w = false then s
    else
      let pts := w.base.filterMap fun b => (samples.find? fun x => x.1 == b.1).map fun x => SweepPt.mk b.1 0 x.2.1 x.2.2
      let w := { w with pts := w.pts ++ pts, point := w.point + 1 }
      if w.point < s.sweepPoints then s.pointLive w w.point
      else
        let s := s.closeWindow
        let s := w.base.foldl (fun s b => s.sweepValue w b.1) s
        (s.modRun fun r => { r with litWin := r.litWin + 1 }).visitNext

/-- A window that a PLUMB time event opened closes when WINDOW_G granules have run out (R304). -/
def State.windowEnd (s : State) : State :=
  match s.plumb.window with
  | some w => if w.timed ∧ w.stop ≤ s.up then s.closeWindow else s
  | none => s

/-- A run ends with a result (R307, R314): 1 DONE, 2 NO_CHANGE, 3 FAILED, 4 ABORTED, 5 NO_PROBE; a DONE run arms its swap, and a good run notes the sensors. -/
def State.runEnd (s : State) (result : Nat) : State :=
  let s := (s.darkLeave).closeWindow
  let rej := match s.plumb.run with
    | some r => r.rejected
    | none => 0
  let s := (s.modPlumb fun p => { p with run := none }).jobDone (· == .plumb)
  let s := ((s.put Reg.PLUMB.RUN_STATUS.BUSY false).wr Reg.PLUMB.RUN_STATUS.PHASE 0).wr Reg.PLUMB.RUN_STATUS.RESULT result
  let s := if result = 1 then s.armSwap false else s
  let s := if result = 3 then s.raise 34 rej else s
  if result = 1 ∨ result = 2 then
    let s := s.modPlumb fun p => { p with good := some s.up }
    ((List.range 64).foldl (fun s z => if s.sensorFailed z then s else s.wr (Reg.PLUMB.ZONE_T_LAST.TEMP z) (s.rd (Reg.THERMAL.SENSOR.TEMP z))) s).evt plumbPg 0
  else s.evt plumbPg 1

/-- PLUMB_RUN_END (R305, R307): a granted run whose kinds are over. -/
def State.plumbRunEnd (s : State) : State :=
  match s.plumb.run with
  | none => s
  | some r =>
    if s.rd Reg.PLUMB.RUN_STATUS.PHASE ≠ 0 then s
    else if s.rd Reg.PLUMB.LIMITS.REJECT_LIMIT ≤ r.rejected ∧ 0 < r.rejected then s.runEnd 3
    else if 0 < r.darkWin ∧ r.litWin = 0 then s.runEnd 5
    else if 0 < r.taken then s.runEnd 1
    else s.runEnd 2

/-- A run aborted (R272, R308): via codes restored, the pending bank discarded. A run that waits for its grant ends too. -/
def State.plumbAbort (s : State) : State :=
  if s.runBusy then
    let s := s.withdraw (· == .plumb)
    (s.put Reg.PLUMB.BANK_STATUS.PENDING_READY false).runEnd 4
  else s

/-- A run drained (R308): it ends with its present kind, or at the end of the present window. -/
def State.plumbDrain (s : State) : State :=
  if s.plumb.run.isSome then
    let s := s.modRun fun r => { r with ending := true }
    if s.rd Reg.PLUMB.RUN_STATUS.PHASE = 3 ∧ s.plumb.window.isNone then s.runNext else s
  else if s.runBusy then s.plumbAbort
  else s

/-- The window of a SWEEP that is to end has closed (R308). -/
def State.drainCheck (s : State) : State :=
  match s.plumb.run with
  | some r => if r.ending ∧ s.rd Reg.PLUMB.RUN_STATUS.PHASE = 3 ∧ s.plumb.window.isNone then s.runNext else s
  | none => s

/-- A run that the device requests itself (R306): TRIGGERED is raised with it. -/
def State.trigRun (s : State) (kinds : Nat) : State := ((s.evt plumbPg 5).runRequest kinds).1

/-- CAL_MAX_INTERVAL has run out since the last run that ended DONE or NO_CHANGE (R306). -/
def State.intervalOver (s : State) : Bool :=
  match s.plumb.good with
  | some t => decide (t + max 10 (s.rd Reg.PLUMB.CAL_MAX_INTERVAL.S) * sec ≤ s.up)
  | none => false

/-- PLUMB_INTERVAL_TRIGGER (R306). -/
def State.intervalTrigger (s : State) : State :=
  if s.flag Reg.PLUMB.TRIG_CFG.INTERVAL_EN && s.intervalOver then s.trigRun (s.rd Reg.PLUMB.TRIG_CFG.INTERVAL_KINDS) else s

/-- PLUMB_TEMP_TRIGGER (R306), judged at a sensor round; CAL_DT is in 0.1 °C. -/
def State.tempTrigger (s : State) : State :=
  let dt := max 5 (s.rd Reg.PLUMB.CAL_DT.DT)
  let away (z : Nat) : Bool := !s.sensorFailed z && decide (16 * dt < 10 * (s.picTemp z - sgn 16 (s.rd (Reg.PLUMB.ZONE_T_LAST.TEMP z))).natAbs)
  if s.flag Reg.PLUMB.TRIG_CFG.TEMP_EN && (List.range 64).any away then s.trigRun (s.rd Reg.PLUMB.TRIG_CFG.TEMP_KINDS) else s

/-- The bytes of the atlas (R309). -/
def atlasSize : Nat := 1245248

/-- ATLAS_BASE (R309). -/
def State.atlasBase (s : State) : Nat := s.rd64 0xC088 / 4096 * 4096

/-- The 64-byte atlas header: MAGIC, UNIT_ID and CRC-32C of the 60 bytes before it (R309). -/
def State.atlasHeader (s : State) : List Byte :=
  let h := leBytes 2 0x4154 ++ List.replicate 6 0 ++ leBytes 8 s.unit.unitId ++ List.replicate 44 0
  h ++ leBytes 4 (crc32c h)

/-- ATLAS_CTRL.FREEZE set (R309). -/
def State.atlasFreeze (s : State) : State :=
  (s.put Reg.PLUMB.ATLAS_CTRL.FREEZE true).modPlumb fun p => { p with freezing := true }

/-- ATLAS_FREEZE_DONE (R309). -/
def State.atlasFrozen (s : State) : State :=
  if s.plumb.freezing then
    let s := s.modPlumb fun p => { p with freezing := false }
    let s := if s.sdOnline then s.sdWrite s.atlasBase s.atlasHeader else s
    s.put Reg.PLUMB.ATLAS_CTRL.VALID true
  else s

/-- ATLAS_CTRL.FREEZE cleared (R309). -/
def State.atlasThaw (s : State) : State :=
  ((s.put Reg.PLUMB.ATLAS_CTRL.FREEZE false).put Reg.PLUMB.ATLAS_CTRL.VALID false).modPlumb fun p => { p with freezing := false }

/-- ATLAS_CTRL.ENABLE set (R309): a bad header clears the atlas to 0. -/
def State.atlasEnable (s : State) : State :=
  let s := (s.put Reg.PLUMB.ATLAS_CTRL.ENABLE true).draw
  let h := s.sdBytes s.atlasBase 64
  let bad := leAt h 0 2 != 0x4154 || leAt h 8 8 != s.unit.unitId || leAt h 60 4 != crc32c (h.take 60)
  if s.sdOnline ∧ bad = true then (s.sdWrite s.atlasBase (List.replicate atlasSize 0)).evt plumbPg 6 else s

/-- A byte of the fuse array. -/
def State.fuseByte (s : State) (a : Nat) : Nat := s.winBytes (0x800000 + a) 1

/-- Bytes burnt into the fuse array: a fuse once programmed stays programmed (R293). -/
def State.burn (s : State) (a : Nat) (l : List Byte) : State :=
  (l.zip (List.range l.length)).foldl (fun s p =>
    let a := a + p.2
    let f : Fld := ⟨(0x800000 + a) / 4 * 4, 8 * (a % 4), 8⟩
    s.wr f (s.rd f ||| p.1.toNat)) s

/-- A marker byte read as burnt (R293). -/
def markBurnt (b : Nat) : Bool := decide (4 ≤ popN 8 b)

/-- A marker byte with 1 to 7 fuses programmed (R293). -/
def markPartial (b : Nat) : Bool := decide (0 < popN 8 b) && decide (popN 8 b < 8)

/-- The valid marker of a generation (R290). -/
def State.validMark (s : State) (g : Nat) : Nat := s.fuseByte (0x10000 + g)

/-- The revocation marker of a generation (R290). -/
def State.revokeMark (s : State) (g : Nat) : Nat := s.fuseByte (0x10010 + g)

/-- The first byte of a generation's region in the array (R290). -/
def regionOf (g : Nat) : Nat := 0x40000 + g * 0x70000

/-- No fuse of a generation has been programmed (R311). -/
def State.genBlank (s : State) (g : Nat) : Bool :=
  s.validMark g == 0 && s.revokeMark g == 0 &&
  (s.regs.all fun e => !(decide (0x800000 + regionOf g ≤ e.1) && decide (e.1 < 0x800000 + regionOf g + regionSize)))

/-- A generation's checks at boot (R294) beside its markers. -/
def State.genChecks (s : State) (g : Nat) : Bool :=
  let b := 0x800000 + regionOf g
  s.winBytes b 2 == 0x5047 && s.winBytes (b + 2) 1 == 1 && s.winBytes (b + 3) 1 == g && s.winBytes (b + 8) 8 == s.unit.unitId &&
  s.winBytes (b + 0x6FFFC) 4 == crc32c (s.winList b 0x6FFFC)

/-- The state of a generation (R312): 0 BLANK, 1 WRITTEN, 2 VALID, 3 REVOKED, 4 BAD. -/
def State.genState (s : State) (g : Nat) : Nat :=
  if s.genBlank g then 0
  else if markBurnt (s.revokeMark g) then 3
  else if !markBurnt (s.validMark g) then 1
  else if s.genChecks g then 2
  else 4

/-- GEN_STATUS, COMMITS_LEFT and REVOKE_PENDING as the array stands (R311, R312). -/
def State.fuseRegs (s : State) : State :=
  let s := (List.range 4).foldl (fun s g =>
    ((s.wr ⟨0x4044, 8 * g, 3⟩ (s.genState g)).wr ⟨0x4044, 8 * g + 3, 1⟩ (b2n (markPartial (s.validMark g)))).wr
      ⟨0x4044, 8 * g + 4, 1⟩ (b2n (markPartial (s.revokeMark g)))) s
  let top := s.rd Reg.FUSE.FUSE_STATUS.IN_FORCE
  let pend := s.genState top == 2 && (List.range top).any fun g => s.genState g == 2 || markPartial (s.revokeMark g)
  (s.wr Reg.FUSE.FUSE_STATUS.COMMITS_LEFT ((List.range 4).countP fun g => g != 0 && s.genBlank g)).put Reg.FUSE.FUSE_STATUS.REVOKE_PENDING pend

/-- The target of a commit (R310): the lowest generation above every one that is not blank. -/
def State.commitTarget (s : State) : Option Nat :=
  let g := ((List.range 4).filter fun g => !s.genBlank g).foldl (fun m g => max m (g + 1)) 0
  if g < 4 then some g else none

/-- What a commit writes into region g (R310): the working set with SOURCE 1 and GEN, and its CRC-32C made good. -/
def State.commitImage (s : State) (g : Nat) : List Byte :=
  let w := s.winList 0x300000 0x6FFFC
  let w := w.take 3 ++ [BitVec.ofNat 8 g, 1] ++ w.drop 5
  w ++ leBytes 4 (crc32c w)

/-- The page is unlocked (R436). -/
def State.unlocked (s : State) (pg : Nat) : Bool := !s.flag (Reg.HDR.PG_LOCK.LOCKED pg)

/-- Why a commit is refused (R310, R312), 0 for no reason. -/
def State.commitRefusal (s : State) (confirm : Nat) (local' : Bool) : Nat :=
  if confirm ≠ 0xF05E then 9
  else if !(local' && s.unlocked fusePg) then 2
  else if !(s.dev == .hold || s.dev == .armed || s.dev == .run) then 4
  else if s.runBusy then 6
  else if s.zoneLevel 3 ≠ 0 then 5
  else if s.commitTarget.isNone then 3
  else 0

/-- FUSE_CMD.COMMIT and the FUSE_COMMIT op (R310): the result of R312, 0 where the commit has started. -/
def State.fuseCommit (s : State) (confirm : Nat) (local' : Bool) : State × Nat :=
  if s.flag Reg.FUSE.FUSE_STATUS.COMMIT_BUSY then (s, 4)
  else
    let r := s.commitRefusal confirm local'
    if r ≠ 0 then (s.wr Reg.FUSE.COMMIT_STATUS.RESULT r, r)
    else
      let g := s.commitTarget.getD 0
      let s := (s.put Reg.FUSE.FUSE_STATUS.COMMIT_BUSY true).wrW 0x404C (BitVec.ofNat 32 (1 + g * 2 ^ 8))
      let s := s.wr Reg.FUSE.COMMIT_PROGRESS.BYTES 0
      (s.modPlumb fun p => { p with commit := some (s.commitImage g) }, 0)

/-- The region as it stands after a failed verification: the image but for the bytes that hold something else. -/
def heldBytes (image : List Byte) (held : List (Nat × Byte)) : List Byte :=
  (image.zip (List.range image.length)).map fun p => (alGet held p.2).getD p.1

/-- FUSE_COMMIT_END (R310). -/
def State.fuseEnd (s : State) (e : FuseEnd) : State :=
  match s.plumb.commit with
  | none => s
  | some image =>
    let g := s.rd Reg.FUSE.COMMIT_STATUS.TARGET
    let s := (s.modPlumb fun p => { p with commit := none }).put Reg.FUSE.FUSE_STATUS.COMMIT_BUSY false
    let s := (s.wr Reg.FUSE.COMMIT_STATUS.STEP 0).wr Reg.FUSE.COMMIT_PROGRESS.BYTES regionSize
    match e with
    | .done n =>
      let lower := (List.range g).filter fun k => s.genState k == 2
      let s := (s.burn (regionOf g) image).burn (0x10000 + g) [0xFF]
      let s := lower.foldl (fun s k => s.burn (0x10010 + k) [0xFF]) s
      let s := (s.wr Reg.FUSE.COMMIT_STATUS.RESULT 1).wr Reg.FUSE.COMMIT_STATUS.RETRIES n
      (s.fuseRegs).evt fusePg 0
    | .verifyFail held =>
      let s := (s.burn (regionOf g) (heldBytes image held)).wr Reg.FUSE.COMMIT_STATUS.RESULT 7
      let s := ((s.wr Reg.FUSE.COMMIT_STATUS.RETRIES 3).fuseRegs).evt fusePg 1
      s.raise 35 (s.rdW 0x404C).toNat
    | .markerFail b =>
      let s := ((s.burn (regionOf g) image).burn (0x10000 + g) [b]).wr Reg.FUSE.COMMIT_STATUS.RESULT 8
      let s := ((s.wr Reg.FUSE.COMMIT_STATUS.RETRIES 3).fuseRegs).evt fusePg 1
      s.raise 35 (s.rdW 0x404C).toNat

/-- FUSE_CMD.FINISH_REVOKE (R311, R312): with CONFIRM and the page unlocked, partial markers of the generation in force are completed and every lower generation is revoked. -/
def State.finishRevoke (s : State) (confirm : Nat) : State :=
  if confirm ≠ 0xF05E ∨ s.unlocked fusePg = false then s.err fusePg 0x48
  else
    let g := s.rd Reg.FUSE.FUSE_STATUS.IN_FORCE
    let s := if markPartial (s.validMark g) then s.burn (0x10000 + g) [0xFF] else s
    let s := (List.range g).foldl (fun s k => s.burn (0x10010 + k) [0xFF]) s
    s.fuseRegs

/-- BOOT_FUSE_LOAD (R294, R295): the highest generation that qualifies becomes the working set; a bad one is reported; with none, CAL_ABSENT. -/
def State.fuseLoad (s : State) : State :=
  let gs := [3, 2, 1, 0]
  let bad := (gs.takeWhile fun g => s.genState g != 2).filter fun g => s.genState g == 4
  let s := bad.foldl (fun s g => (s.raise 32 g).evt fusePg 3) s
  match gs.find? fun g => s.genState g == 2 with
  | some g =>
    let s := s.clearRange 0x300000 0x80000
    let src := 0x800000 + regionOf g
    let s := (s.regs.filter fun e => decide (src ≤ e.1) && decide (e.1 < src + regionSize)).foldl (fun s e => s.wrW (e.1 - src + 0x300000) e.2) s
    ((s.wr Reg.FUSE.FUSE_STATUS.IN_FORCE g).wr Reg.FUSE.FUSE_STATUS.WS_SOURCE 0).fuseRegs
  | none =>
    let s := (s.clearRange 0x300000 0x80000).put Reg.FUSE.FUSE_STATUS.CAL_ABSENT true
    ((s.wr Reg.FUSE.FUSE_STATUS.WS_SOURCE 2).fuseRegs).evt fusePg 2

end Sys2Proof.Machine
end

