-- ==== Sys2Proof/Machine/Thermal.lean ====
section
/-! DEFINITION. Temperature protection, the core supply loop, and the grant of background jobs (chapter 10). -/
namespace Sys2Proof.Machine

/-- The THERMAL page. -/
def thermPg : Nat := 0x5000

/-- The BUDGET page. -/
def budgetPg : Nat := 0x6000

/-- The protection zone of a sensor (R264). -/
def zoneOfSensor (i : Nat) : Nat := if i < 64 then 0 else if i < 80 then 1 else if i < 96 then 2 else 3

/-- The sensors of a protection zone (R264). -/
def sensorsOf (k : Nat) : List Nat := (List.range 120).filter fun i => zoneOfSensor i == k

/-- The sensors a sensor is compared with (R268): its neighbours in the 8 × 8 grid for a PIC sensor, the others of its zone else. -/
def peersOf (i : Nat) : List Nat :=
  if i < 64 then
    (List.range 64).filter fun j => j != i && decide (((i % 8 : Nat) - (j % 8 : Nat) : Int).natAbs ≤ 1) && decide (((i / 8 : Nat) - (j / 8 : Nat) : Int).natAbs ≤ 1)
  else (sensorsOf (zoneOfSensor i)).filter (· != i)

/-- A number put into its place in a rising list. -/
def insertInt (a : Int) : List Int → List Int
  | [] => [a]
  | b :: r => if a ≤ b then a :: b :: r else b :: insertInt a r

/-- Twice the median of a list of readings (R268); none of an empty list. -/
def median2 (l : List Int) : Option Int :=
  let s := l.foldr insertInt []
  let n := s.length
  if n = 0 then none
  else if n % 2 = 1 then (s[n / 2]?).map (2 * ·)
  else (s[n / 2]?).bind fun b => (s[n / 2 - 1]?).map fun a => a + b

/-- A change of the thermal state. -/
def State.modTherm (s : State) (f : ThermSt → ThermSt) : State := { s with therm := f s.therm }

/-- Whether a sensor is masked (R269). -/
def State.masked (s : State) (i : Nat) : Bool := bitOf (s.rd (Reg.THERMAL.SENSOR_MASK.MASK (i / 32))) (i % 32)

/-- A sensor's FAILED bits and REASON (R285). -/
def State.setFailed (s : State) (i : Nat) (f : Bool) (why : Nat) : State :=
  ((s.put (Reg.THERMAL.SENSOR.FAILED i) f).wr (Reg.THERMAL.SENSOR.REASON i) why).wr ⟨0x5090 + 4 * (i / 32), i % 32, 1⟩ (b2n f)

/-- A sensor fails (R268). -/
def State.sensorFail (s : State) (i why : Nat) : State :=
  let s := (s.setFailed i true why).modTherm fun t => { t with odd := tabPut t.odd 0 i 0, fine := tabPut t.fine 0 i 0 }
  (s.countEvt Reg.THERMAL.CNT_SENSOR_FAIL.COUNT thermPg 16).raise 28 i

/-- The implausibility of a reading (R268) among the readings of the valid sensors it is compared with. -/
def implausible (dt : Nat) (t : Int) (peers : List Int) : Bool :=
  match median2 peers with
  | some m => decide (2 * 16 * dt < (2 * t - m).natAbs)
  | none => false

/-- One sensor's sample judged (R268); before holds which sensors were valid, with their readings of this round. -/
def State.judge (s : State) (before : List (Nat × Int)) (i : Nat) (x : Sample) : State :=
  let failed := s.sensorFailed i
  let dt := max 5 (s.rd Reg.THERMAL.PLAUS_DT.C)
  let worse (s : State) (why : Nat) : State :=
    if failed then (s.modTherm fun t => { t with fine := tabPut t.fine 0 i 0 }) else s.sensorFail i why
  match x with
  | .opened => worse s 1
  | .shorted => worse s 2
  | .silent =>
    let t0 := tabGet s.therm.seen 0 i
    let s := s.modTherm fun t => { t with odd := tabPut t.odd 0 i 0, fine := tabPut t.fine 0 i 0 }
    if 200 * us < s.up - (t0 - 1) then worse s 3 else s
  | .ok t =>
    let s := (s.wr (Reg.THERMAL.SENSOR.TEMP i) (unsgn 16 t)).modTherm fun h => { h with seen := tabPut h.seen 0 i (s.up + 1) }
    if implausible dt t ((peersOf i).filterMap (alGet before)) then
      let n := tabGet s.therm.odd 0 i + 1
      let s := s.modTherm fun h => { h with odd := tabPut h.odd 0 i n, fine := tabPut h.fine 0 i 0 }
      if failed ∨ n < 2 then s else s.sensorFail i 4
    else
      let n := tabGet s.therm.fine 0 i + 1
      let s := s.modTherm fun h => { h with odd := tabPut h.odd 0 i 0, fine := tabPut h.fine 0 i (if failed then n else 0) }
      if failed ∧ 20 ≤ n then
        ((s.setFailed i false 0).modTherm fun h => { h with fine := tabPut h.fine 0 i 0 }).evt thermPg 17
      else s

/-- The hottest of readings with their sensors, the lowest sensor among equals. -/
def hottest : List (Nat × Int) → Option (Nat × Int)
  | [] => none
  | a :: r =>
    match hottest r with
    | some b => if a.2 < b.2 then some b else some a
    | none => some a

/-- A threshold of a zone in 1/16 °C (R285): level 1 WARN, 2 THROTTLE, 3 SHUTDOWN. -/
def State.threshold (s : State) (k l : Nat) : Int := (16 * s.rd ⟨0x5040 + 4 * k, 8 * (l - 1), 8⟩ : Nat)

/-- The hysteresis of a zone in 1/16 °C: 0 acts as 1 (R285). -/
def State.hyst (s : State) (k : Nat) : Int := (16 * max 1 (s.rd (Reg.THERMAL.ZONE_THR.HYST k)) : Nat)

/-- A zone's values of a round (R265, R268, R269), with the sensor that gives the level value; was tells which sensors had failed before this round. -/
def State.zoneRound (s : State) (k : Nat) (was : List Nat) : Round × Option Nat :=
  let on := (sensorsOf k).filter fun i => !s.masked i
  let temp (i : Nat) : Int := sgn 16 (s.rd (Reg.THERMAL.SENSOR.TEMP i))
  let lvl := hottest (on.map fun i => (i, if was.contains i then s.threshold k 2 + 16 else temp i))
  let shut := hottest ((on.filter fun i => !s.sensorFailed i).map fun i => (i, temp i))
  let nFail := (sensorsOf k).countP s.sensorFailed
  (⟨lvl.map (·.2), shut.map (·.2), shut.isNone || decide ((sensorsOf k).length ≤ 2 * nFail)⟩, lvl.map (·.1))

/-- A round noted for a zone (R285). -/
def State.noteRound (s : State) (k : Nat) (r : Round) (hot : Option Nat) : State :=
  let s := s.modTherm fun t => { t with zones := t.zones.modify k fun z => { z with rounds := (r :: z.rounds).take 1312, since := z.since + 1 } }
  let n := (sensorsOf k).countP s.sensorFailed
  let s := (s.wr (Reg.THERMAL.ZONE_FAILED.COUNT k) n).put (Reg.THERMAL.ZONE_STATUS.FAILED_ANY k) (decide (0 < n))
  match r.level, hot with
  | some v, some i =>
    let s := (s.wr (Reg.THERMAL.ZONE_STATUS.VALUE k) (unsgn 16 v)).wr (Reg.THERMAL.ZONE_STATUS.HOTTEST k) i
    if sgn 16 (s.rd (Reg.THERMAL.ZONE_MAX.VALUE k)) < v then s.wr (Reg.THERMAL.ZONE_MAX.VALUE k) (unsgn 16 v) else s
  | _, _ => s

/-- What the hardware keeps of a zone. -/
def State.zone (s : State) (k : Nat) : ZoneSt := s.therm.zones.getD k ⟨[], 0, none⟩

/-- A value reaches a threshold. -/
def reaches (v : Option Int) (thr : Int) : Bool :=
  match v with
  | some x => decide (thr ≤ x)
  | none => false

/-- A value lies below a threshold. -/
def below (v : Option Int) (thr : Int) : Bool :=
  match v with
  | some x => decide (x < thr)
  | none => false

/-- Two consecutive rounds at or above a threshold (R266). -/
def twice (f : Round → Option Int) (thr : Int) : List Round → Bool
  | a :: b :: _ => reaches (f a) thr && reaches (f b) thr
  | _ => false

/-- TEMP_DWELL in time units (R285, R490). -/
def State.tempDwell (s : State) : Nat := max 200 (s.rd Reg.THERMAL.TEMP_DWELL.US) * us

/-- Whether a zone may enter or leave THROTTLE now (R266). -/
def State.throttleFree (s : State) (k : Nat) : Bool :=
  match (s.zone k).thrAt with
  | some t => decide (t + s.tempDwell ≤ s.up)
  | none => true

/-- Every round of a dwell, since the zone's level last changed, lies below a bound (R266). -/
def State.dwellBelow (s : State) (k : Nat) (ok : Round → Bool) : Bool :=
  let n := divUp s.tempDwell (50 * us)
  let z := s.zone k
  decide (n ≤ z.since) && decide (n ≤ z.rounds.length) && (z.rounds.take n).all ok

/-- The level a zone takes after a round (R266, R267, R269). -/
def State.nextLevel (s : State) (k : Nat) : Nat :=
  let l := s.zoneLevel k
  let rs := (s.zone k).rounds
  let forced := match rs with
    | r :: _ => r.forced
    | [] => false
  let badLeft := (sensorsOf k).any fun i => s.sensorFailed i && !s.masked i
  if l < 3 && (forced || twice (·.shut) (s.threshold k 3) rs) then 3
  else if l < 2 && twice (·.level) (s.threshold k 2) rs && s.throttleFree k then 2
  else if l < 1 && twice (·.level) (s.threshold k 1) rs then 1
  else if l = 3 then (if s.dwellBelow k fun r => !r.forced && below r.shut (s.threshold k 3 - s.hyst k) then 2 else 3)
  else if l = 2 then
    (if s.dwellBelow k (fun r => below r.level (s.threshold k 2 - s.hyst k)) && !badLeft && s.throttleFree k then 1 else 2)
  else if l = 1 then (if s.dwellBelow k fun r => below r.level (s.threshold k 1 - s.hyst k) then 0 else 1)
  else l

/-- The PIC stage set (R271). -/
def State.setStage (s : State) (n : Nat) : State := s.wr (Reg.THERMAL.ZONE_STATUS.STAGE 0) n

/-- The entry to and the end of throttle actions (R270, R271). -/
def State.throttleEdge (s : State) (k : Nat) (on : Bool) : State :=
  let s := s.modTherm fun t => { t with zones := t.zones.modify k fun z => { z with thrAt := some s.up } }
  if k ≠ 0 then s
  else if on then (s.setStage 1).ballastZero
  else ((s.setStage 0).checkHtrOver).ballastLive true

/-- A zone enters SHUTDOWN (R267, R272): in ARMED or RUN the device enters SAFE, by itself (R395). -/
def State.zoneShutdown (s : State) (k : Nat) : State :=
  let s := s.evt thermPg (8 + k)
  if s.dev = .armed ∨ s.dev = .run then (s.enterSafe 27).raiseDirect 27 k else s.raise 27 k

/-- ZONE_LEVEL_CHANGE (R267). -/
def State.zoneMove (s : State) (k l : Nat) : State :=
  let old := s.zoneLevel k
  if l = old then s
  else
    let s := (s.wr (Reg.THERMAL.ZONE_STATUS.LEVEL k) l).modTherm fun t => { t with zones := t.zones.modify k fun z => { z with since := 0 } }
    let s := if decide (2 ≤ l) = decide (2 ≤ old) then s else s.throttleEdge k (decide (2 ≤ l))
    if l < old then s.evt thermPg (12 + k)
    else if l = 3 then s.zoneShutdown k
    else if l = 2 then ((s.inc (Reg.THERMAL.CNT_THROTTLE.COUNT k)).evt thermPg (4 + k)).raise 26 k
    else (s.evt thermPg k).raise 25 k

/-- A zone after a round's samples (R265 to R267). -/
def State.zoneStep (s : State) (k : Nat) (was : List Nat) : State :=
  let r := s.zoneRound k was
  let s := s.noteRound k r.1 r.2
  s.zoneMove k (s.nextLevel k)

/-- SENSOR_ROUND (R265 to R272): 120 samples; sensors, zones, the device's re-entry to SAFE, feed-forward's fresh readings (R170) and Plumb's temperature trigger (R306). In OFF nothing runs. -/
def State.sensorRound (s : State) (xs : List Sample) : State :=
  if s.dev = .off then s
  else
    let ids := List.range 120
    let was := ids.filter s.sensorFailed
    let before := ids.filterMap fun i =>
      match xs.getD i .silent with
      | .ok t => if was.contains i then none else some (i, t)
      | _ => none
    let s := ids.foldl (fun s i => s.judge before i (xs.getD i .silent)) s
    let read := (List.range 64).filter fun i =>
      match xs.getD i .silent with
      | .ok _ => true
      | _ => false
    let s := { s with bram := { s.bram with fresh := (s.bram.fresh ++ read).eraseDups } }
    let hot : Bool := (List.range 4).any fun k => s.zoneLevel k == 3
    let s := if hot && (s.dev == .armed || s.dev == .run) then s.enterSafe 27 else s
    let s := (List.range 4).foldl (fun s k => s.zoneStep k was) s
    s.tempTrigger

/-- PIC_STAGE2_ENTRY (R271): the PIC zone is still at THROTTLE or above. -/
def State.picStage2 (s : State) : State :=
  if 2 ≤ s.zoneLevel 0 ∧ s.picStage = 1 ∧ s.throttleFree 0 = true then (s.setStage 2).checkHtrOver else s

/-- Whether the governor may grant a waiting job now (R271, R281, R282): it fits, no age guard of its kind names another, no SWEEP run starts in PIC stage 2, and a Seam job has a free lane and a request. -/
def State.grantable (s : State) (j : Job) : Bool :=
  s.jobFits j && (match s.agedOf (heaterJob j.kind) with
    | some id => id == j.id
    | none => true) && (match j.kind with
    | .seam l => s.laneIdle l && !s.seam.queue.isEmpty
    | .plumb => !(s.picStage == 2 && bitOf (s.rd Reg.PLUMB.RUN_STATUS.KINDS) 2)
    | .wrap _ => true)

/-- JOB_GRANT (R282): the highest-priority waiting job that fits is granted, and its work begins: a lane (R47), a Plumb run (R300), or a wrap (R166). -/
def State.jobGrant (s : State) : State :=
  match headJob (s.gov.jobs.filter s.grantable) with
  | none => s
  | some j =>
    let s := (s.dropJob j.id).inc Reg.BUDGET.CNT_JOBS.COUNT
    let s := { s with gov := { s.gov with runs := s.gov.runs ++ [(j, false)] } }
    match j.kind with
    | .seam l => s.laneStart l
    | .plumb => s.plumbStart
    | .wrap eid => s.wrapGo eid

/-- JOB_END (R282): jobs that have ended release their cost. -/
def State.jobEnd (s : State) : State := { s with gov := { s.gov with runs := s.gov.runs.filter fun r => !r.2 } }

/-- JOB_AGED (R282): the age guard comes into force for the highest-priority waiting job of a kind that has waited JOB_AGE. It stands until that job is granted, so no other job takes its place. -/
def State.jobAged (s : State) (heater : Bool) : State :=
  match headJob (s.gov.jobs.filter fun j => heaterJob j.kind == heater) with
  | none => s
  | some j =>
    if (s.agedOf heater).isSome ∨ s.up < j.born + max 10 (s.rd Reg.BUDGET.JOB_AGE.US) * 1000 * ns then s
    else
      let s := { s with gov := { s.gov with agedAct := if heater then s.gov.agedAct else some j.id, agedHtr := if heater then some j.id else s.gov.agedHtr } }
      s.evt budgetPg 5

/-- JOB_OFFER (R281): the block that holds a piece of background work offers it to the governor. -/
def State.jobOffer (s : State) (k : JobKind) : State :=
  match k with
  | .seam l => s.seamOffer l
  | .plumb => s.plumbOffer
  | .wrap eid => if eid < numElem ∧ s.status eid = stSat then s.wrapCheck eid else s

/-- The core supply loop acts (R284): from the end of self-test on, in every state but OFF. -/
def State.avsOn (s : State) : Bool := s.dev != .off && s.boot.self

/-- A transaction sent on the AVSBus (R283, R284): with ENABLE = 0 nothing is sent. -/
def State.avsSend (s : State) (c : AvsCmd) : State :=
  if s.flag Reg.BUDGET.AVS_CTRL.ENABLE then (s.modTherm fun t => { t with avs := some ⟨c, 0⟩, again := none }).emit (.avs c) else s

/-- A voltage request (R284): clamped to MIN_MV and MAX_MV; nothing is sent with ENABLE = 0. -/
def State.avsStep (s : State) (d : Int) : State :=
  if s.flag Reg.BUDGET.AVS_CTRL.ENABLE = false then s
  else
    let lo := clampN 650 900 (s.rd Reg.BUDGET.AVS_LIMITS.MIN_MV)
    let hi := clampN 650 900 (s.rd Reg.BUDGET.AVS_LIMITS.MAX_MV)
    let mv := clampN lo hi ((s.rd Reg.BUDGET.AVS_STATUS.REQ_MV : Int) + d).toNat
    let s := (s.wr Reg.BUDGET.AVS_STATUS.REQ_MV mv).inc (if d < 0 then Reg.BUDGET.CNT_AVS_DOWN.COUNT else Reg.BUDGET.CNT_AVS_UP.COUNT)
    (s.avsSend (.write mv)).evt budgetPg 6

/-- The transaction that failed is sent again at the end of a period that asks for no other (R284). -/
def State.avsAgain (s : State) : State :=
  match s.therm.again with
  | some c => s.avsSend c
  | none => s

/-- AVS_PERIOD (R284): the worst margin of the period and its delay monitor; a margin below CRIT has had its request already. -/
def State.avsPeriod (s : State) (m mon : Nat) : State :=
  if !s.avsOn then s
  else
    let s := (s.wr Reg.BUDGET.MARGIN_NOW.WORST m).wr Reg.BUDGET.MARGIN_NOW.MONITOR mon
    let tooHot := decide (s.rd Reg.BUDGET.AVS_MARGIN.HI < m)
    let n := if tooHot then s.therm.above + 1 else 0
    let down := decide (max 1 (s.rd Reg.BUDGET.AVS_CTRL.DOWN_COUNT) ≤ n) && tooHot
    let s := s.modTherm fun t => { t with above := if down then 0 else n }
    if m < s.rd Reg.BUDGET.AVS_MARGIN.CRIT then s.avsAgain
    else if m < s.rd Reg.BUDGET.AVS_MARGIN.LO then s.avsStep 5
    else if down then s.avsStep (-5)
    else s.avsAgain

/-- MARGIN_CRIT (R284). -/
def State.marginCrit (s : State) (m : Nat) : State :=
  if !s.avsOn ∨ s.rd Reg.BUDGET.AVS_MARGIN.CRIT ≤ m then s else ((s.avsStep 20).evt budgetPg 8).raise 30 m

/-- AVS_RESPONSE (R283): the regulator answers the transaction under way, Read Vout with a voltage. -/
def State.avsAnswer (s : State) (mv : Nat) : State :=
  match s.therm.avs with
  | none => s
  | some x =>
    let s := s.modTherm fun t => { t with avs := none }
    match x.cmd with
    | .write _ => s.put Reg.BUDGET.AVS_STATUS.FAULT false
    | .readVout => (s.put Reg.BUDGET.AVS_STATUS.FAULT false).wr Reg.BUDGET.AVS_STATUS.READ_MV mv
    | .readStatus => s

/-- AVS_FAULT (R284): a transaction fails or is not answered. It is sent again twice; the third failure is reported with the regulator's status, Read Status is sent, and the transaction waits for the next period. With ENABLE = 0 nothing is sent. -/
def State.avsFail (s : State) (status : Nat) : State :=
  match s.therm.avs with
  | none => s
  | some x =>
    if x.fails < 2 then
      let s := s.modTherm fun t => { t with avs := some { x with fails := x.fails + 1 } }
      if s.flag Reg.BUDGET.AVS_CTRL.ENABLE then s.emit (.avs x.cmd) else s
    else
      let s := (s.modTherm fun t => { t with avs := none }).put Reg.BUDGET.AVS_STATUS.FAULT true
      let s := (s.countEvt Reg.BUDGET.CNT_AVS_FAULT.COUNT budgetPg 7).raise 31 status
      if x.cmd = .readStatus then s
      else (s.avsSend .readStatus).modTherm fun t => { t with again := some x.cmd }

end Sys2Proof.Machine
end

