-- ==== Sys2Proof/Machine/Time.lean ====
section
/-! DEFINITION. Network time, the servo, time events, timestamps and PPS_OUT (chapter 9), and what a CLK_LOOP tick does. -/
namespace Sys2Proof.Machine

/-- The TIME page. -/
def timePg : Nat := 0x8000

/-- The unit of FREQ_ADJ, 2^-40 ns, in time units (R235). -/
def fu : Nat := 1000

/-- The nominal TIME_INC, 1.5625 ns, in units of 2^-40 ns (R234). -/
def nomInc : Nat := 1717986918400

/-- The counter's range: 48 bits of seconds (R234). -/
def timeWrap : Nat := 2 ^ 48 * sec

/-- A change of the time unit. -/
def State.modTime (s : State) (f : TimeSt → TimeSt) : State := { s with time := f s.time }

/-- SERVO_MODE: 0 AUTO, 1 HOST, 2 PPS_IN, 3 OFF. -/
def State.servoMode (s : State) : Nat := s.rd Reg.TIME.TIME_CTRL.SERVO_MODE

/-- SERVO_STATE (R246): 0 FREE_RUN, 1 ACQUIRING, 2 LOCKED, 3 HOLDOVER. -/
def State.servo (s : State) : Nat := s.rd Reg.TIME.TIME_STATUS.SERVO_STATE

/-- FREQ_ADJ (R235). -/
def State.freqAdj (s : State) : Int := sgn 32 (s.rd Reg.TIME.FREQ_ADJ.ADJ)

/-- FREQ_ADJ set within ±200 ppm (R235). -/
def State.setAdj (s : State) (a : Int) : State := s.wr Reg.TIME.FREQ_ADJ.ADJ (unsgn 32 (clampI (-343597384) 343597384 a))

/-- RATE in ppm: 0 acts as 1, above 100 as 100 (R262). -/
def State.slewRate (s : State) : Nat := clampN 1 100 (s.rd Reg.TIME.SLEW_CFG.RATE)

/-- The slew term of a tick (R249): RATE ppm of the nominal towards the target, and no more than is left. -/
def State.slewTerm (s : State) : Int :=
  let m : Int := (nomInc * s.slewRate / 1000000 : Nat)
  clampI (-m) m s.time.slew

/-- TIME_INC in units of 2^-40 ns (R235). -/
def State.timeInc (s : State) : Int := (nomInc : Int) + s.freqAdj + s.slewTerm

/-- A slew target, in time units, replaces what is left of the old one (R249). -/
def State.slewTo (s : State) (d : Int) : State := s.modTime fun t => { t with slew := divRound d fu }

/-- Whether a step is permitted: Gantry is STOPPED or FROZEN (R249). -/
def State.stepFree (s : State) : Bool := s.gstate == 0 || s.gstate == 5

/-- PPS_OUT may assert (R260). -/
def State.ppsFree (s : State) : Bool :=
  s.flag Reg.TIME.PPS_CFG.ENABLE && (s.flag Reg.TIME.PPS_CFG.ALWAYS || s.servo == 2 || s.servo == 3)

/-- PPS_OUT is held inactive where it may not assert (R260). -/
def State.ppsCheck (s : State) : State := if s.ppsFree then s else s.modTime fun t => { t with ppsOn := false }

/-- The servo takes a state, with the events of R263. -/
def State.setServo (s : State) (n : Nat) : State :=
  let old := s.servo
  let s := if n = 0 then s.modTime fun t => { t with reached := false } else s
  if n = old then s
  else
    let s := s.wr Reg.TIME.TIME_STATUS.SERVO_STATE n
    let s := if n = 1 then s.modTime fun t => { t with good := 0 } else s
    let s := if n = 2 then (s.modTime fun t => { t with reached := true }).evt timePg 16 else s
    let s := if old = 2 then s.evt timePg 17 else s
    s.ppsCheck

/-- The plan of an armed time event. -/
def State.tev (s : State) (k : Nat) : Option TevPlan := s.time.tevs.find? (·.k == k)

/-- A time event's plan removed or set. -/
def State.setTev (s : State) (k : Nat) (p : Option TevPlan) : State :=
  s.modTime fun t => { t with tevs := (match p with
    | some p => [p]
    | none => []) ++ t.tevs.filter (·.k != k) }

/-- PERIOD of a time event in time units, 0 for a single event (R255). -/
def State.tevPeriod (s : State) (k : Nat) : Nat :=
  if s.flag (Reg.TIME.TEV_CTRL.PERIODIC k) then s.rd (Reg.TIME.TEV_PERIOD.NS k) * ns else 0

/-- A time event is disarmed (R257). -/
def State.tevDisarm (s : State) (k : Nat) : State :=
  ((s.setTev k none).put (Reg.TIME.TEV_CTRL.ARM k) false).put (Reg.TIME.TEV_STATUS.ARMED k) false

/-- A firing of a time event noted (R255, R257): FIRED, LATE, the events, and the next plan; n counts the grid points it stands for. -/
def State.tevNote (s : State) (p : TevPlan) (late : Bool) (n : Nat) : State :=
  let k := p.k
  let s := (s.incWrap (Reg.TIME.TEV_STATUS.FIRED k)).put (Reg.TIME.TEV_STATUS.LATE k) late
  let s := s.evt timePg k
  let s := if late then s.evt timePg 26 else s
  let s := s.add (Reg.TIME.TEV_MISSED.COUNT k) (n - 1)
  let per := s.tevPeriod k
  if per = 0 then s.tevDisarm k else s.setTev k (some ⟨k, p.at' + n * per, false⟩)

/-- Whether a time event selects a target bit of R256, counted from 0 for TRIGO. -/
def State.tevHas (s : State) (k b : Nat) : Bool := bitOf (s.rd (Reg.TIME.TEV_CTRL.TARGETS k)) b

/-- The rings that the events firing together name for a capture target (R256). -/
def State.tevRings (s : State) (ks : List Nat) (b : Nat) : List Nat :=
  (List.range 16).filter fun r => ks.any fun k => s.tevHas k b && bitOf (s.rd (Reg.TIME.TEV_CAPMASK.RINGS k)) r

/-- A time event's pulse on its TRIGO output (R216, R256). -/
def State.tevPulse (s : State) (k t : Nat) : State :=
  let o := s.rd (Reg.TIME.TEV_CTRL.TRIGO_SEL k)
  if s.tevHas k 0 && s.trigTakes o 1 then s.pulse o (t + max 1 (s.rd (Reg.TIME.TEV_CTRL.WIDTH k)) * s.schedTick) else s

/-- A converter-start event (R138): every running converter begins a conversion, so the NO_STEER elements of those back in LOOP mode steer again (R170). -/
def State.restartAll (s : State) : State :=
  (List.range 624).foldl (fun s n => if s.convRunning n then s.steerBack n else s) s.converterRestart

/-- The targets of the events that fire in one CLK_LOOP cycle, each with its firing instant (R256, R258): every internal target acts once; a ring that is both started and stopped ends stopped; the converters restart before the epoch begins. -/
def State.tevActs (s : State) (fs : List (Nat × Nat)) : State :=
  let ks := fs.map (·.1)
  let s := fs.foldl (fun s f => s.tevPulse f.1 f.2) s
  let s := match fs.find? fun f => s.tevHas f.1 1 with
    | some f => s.startByEvent f.2
    | none => s
  let s := if ks.any fun k => s.tevHas k 2 then s.restartAll.closeWindow else s
  let s := if ks.any fun k => s.tevHas k 3 then s.loopEpoch else s
  let stops := s.tevRings ks 5
  let s := (s.tevRings ks 4).foldl (fun s r => if stops.contains r then s else s.capRun r true) s
  let s := stops.foldl (fun s r => s.capRun r false) s
  if ks.any fun k => s.tevHas k 6 then s.windowOpen true else s

/-- TIME_EVENT_FIRE (R255 to R258): the armed events of the list whose time the counter has reached fire in one CLK_LOOP cycle. In OFF and BOOT none fires (R256). -/
def State.tevFire (s : State) (ks : List Nat) : State :=
  if s.dev = .off ∨ s.dev = .boot then s
  else
    let ps := (ks.eraseDups.filterMap s.tev).filter fun p => p.late || decide (p.at' ≤ s.now)
    let s := ps.foldl (fun s p => s.tevNote p p.late 1) s
    s.tevActs (ps.map fun p => (p.k, if p.late then s.now else p.at'))

/-- The firings a forward step has passed (R257): each event fires once, late, and the rest are missed. -/
def State.tevPassed (s : State) (old : Nat) : State :=
  if s.dev = .off ∨ s.dev = .boot then s
  else
    let ps := s.time.tevs.filter fun p => decide (old < p.at') && decide (p.at' ≤ s.now)
    let s := ps.foldl (fun s p =>
      let per := s.tevPeriod p.k
      s.tevNote p true (if per = 0 then 1 else (s.now - p.at') / per + 1)) s
    s.tevActs (ps.map fun p => (p.k, s.now))

/-- A step of the counter (R249, R257), in whole units of its fraction (R234). -/
def State.stepBy (s : State) (d : Int) : State :=
  let d := divRound d fu * fu
  let old := s.now
  let s := { s with now := (((old : Int) + d) % (timeWrap : Int)).toNat }
  let s := s.modTime fun t => { t with slew := 0 }
  let s := s.wr Reg.TIME.STEP_LAST.NS (unsgn 32 (clampI (-2147483648) 2147483647 (divRound d ns)))
  let s := s.countEvt Reg.TIME.CNT_STEP.COUNT timePg 20
  s.tevPassed old

/-- A step that the host asks for, refused while it is not permitted (R250). -/
def State.hostStep (s : State) (d : Int) : State :=
  if s.stepFree then s.stepBy d else (s.evt timePg 21).err timePg 0x64

/-- TIME_CMD.STEP (R250). -/
def State.cmdStep (s : State) : State := s.hostStep ((s.rdTime 0x8058 : Int) - s.now)

/-- TIME_CMD.OFFSET (R250). -/
def State.cmdOffset (s : State) : State :=
  let d : Int := sgn 32 (s.rd Reg.TIME.TIME_OFFSET.NS) * ns
  if s.flag Reg.TIME.OFFSET_CFG.METHOD then s.hostStep d else s.slewTo d

/-- |offset| against a limit in ns. -/
def beyond (off : Int) (lim : Nat) : Bool := decide (lim * ns < off.natAbs)

/-- The servo's correction of an offset, in time units, for an interval of 2^-l s (R245, R249, R251). In HOST mode it reports and applies nothing (R247). -/
def State.servoAct (s : State) (off : Int) (l : Nat) : State :=
  let host := s.servoMode == 1
  if beyond off (max 100 (s.rd Reg.TIME.STEP_LIMIT.NS)) then
    if s.stepFree then (if host then s else s.stepBy (-off))
    else
      let s := if s.flag Reg.TIME.TIME_STATUS.DIVERGED then s else
        ((s.put Reg.TIME.TIME_STATUS.DIVERGED true).countEvt Reg.TIME.CNT_DIVERGED.COUNT timePg 19).raise 23 (unsgn 32 (divRound off ns))
      if host then s else s.slewTo (-off)
  else
    let s := s.put Reg.TIME.TIME_STATUS.DIVERGED false
    if host then s
    else
      let s := s.setAdj (s.freqAdj - divRound (s.rd Reg.TIME.SERVO_GAIN.KI * off * nomInc * 2 ^ l) (65536 * sec))
      s.slewTo (divRound (- (s.rd Reg.TIME.SERVO_GAIN.KP * off)) 65536)

/-- An offset measured, in time units (R244 to R251): OFFSET_LAST, the state table of R246, the correction, and the record of FREQ_ADJ for R253. -/
def State.offsetSeen (s : State) (off : Int) (l : Nat) : State :=
  let s := s.wr Reg.TIME.OFFSET_LAST.PS (unsgn 32 (clampI (-2147483648) 2147483647 (divRound off ps)))
  let was := s.servo
  let s := if was = 0 ∨ was = 3 ∨ (was = 2 ∧ beyond off (s.rd Reg.TIME.UNLOCK_CFG.UNLOCK_NS) = true) then s.setServo 1 else s
  let small := decide (off.natAbs < s.rd Reg.TIME.LOCK_CFG.LOCK_NS * ns)
  let s := s.modTime fun t => { t with good := if small then t.good + 1 else 0 }
  let s := if was = 1 ∧ max 1 (s.rd Reg.TIME.LOCK_CFG.LOCK_COUNT) ≤ s.time.good then s.setServo 2 else s
  let s := s.servoAct off l
  s.modTime fun t => { t with hist := (s.freqAdj :: t.hist).take 1024 }

/-- The port a SRC_SEL names (R243): the port of the active path engine, or the port named. -/
def State.selPort (s : State) : Nat :=
  match s.rd Reg.TIME.TIME_CTRL.SRC_SEL with
  | 1 => 0
  | 2 => 1
  | _ => s.rd Reg.PATH.PATH_STATUS.ACTIVE

/-- The source port in force. -/
def State.srcPort (s : State) : Nat := s.rd Reg.TIME.TIME_STATUS.SRC_PORT

/-- A ring port's link is up (R318). -/
def State.linkUp (s : State) (p : Nat) : Bool := s.flag (Reg.RING.PORT_STATUS.LINK_UP p)

/-- The ports' portStates (R243). -/
def State.portStates (s : State) : State :=
  [0, 1].foldl (fun s p =>
    s.wr (Reg.TIME.PORT_STATE.STATE p)
      (if s.flag (Reg.TIME.PORT_CFG.ENABLE p) = false then 3
       else if s.linkUp p = false then 2
       else if s.time.gm.isNone then 4
       else if p = s.srcPort then 9 else 7)) s

/-- The source port changes; the new port's asymmetry and path delay are taken from now on (R243). -/
def State.setSource (s : State) (p : Nat) : State := (s.wr Reg.TIME.TIME_STATUS.SRC_PORT p).portStates

/-- The source switches (R243): SRC_SWITCH. -/
def State.switchSource (s : State) (p : Nat) : State :=
  if s.srcPort = p then s else (s.setSource p).countEvt Reg.TIME.CNT_SRC_SWITCH.COUNT timePg 22

/-- Under FOLLOW_PATH the source follows a path take-over (R243). -/
def State.followPath (s : State) : State :=
  let m := s.rd Reg.TIME.TIME_CTRL.SRC_SEL
  if m = 0 ∨ m = 3 then s.switchSource (s.rd Reg.PATH.PATH_STATUS.ACTIVE) else s

/-- PTP is enabled on a port over a transport (R239): 0 Ethernet, 1 UDP/IPv4, 2 UDP/IPv6. -/
def State.ptpOver (s : State) (port via : Nat) : Bool :=
  decide (port < 2) && s.flag (Reg.TIME.PORT_CFG.ENABLE port) && decide (via < 3) && bitOf (s.rd (Reg.TIME.PORT_CFG.TRANSPORTS port)) via

/-- Whether the ordinary clock takes a PTP message of a domain on a port over a transport (R239, R240, R261): the page runs, and PTP is enabled there. -/
def State.ptpTaken (s : State) (port via dom : Nat) : Bool :=
  s.pageRun timePg && s.ptpOver port via && dom == s.rd Reg.TIME.TIME_CTRL.DOMAIN

/-- A Sync of the grandmaster, or an edge on PPS_IN, noted by its arrival (R243, R246). -/
def State.hear (s : State) (port : Nat) (log : Int) : State :=
  s.modTime fun t => { t with heard := (port, s.up, log) :: t.heard.filter (·.1 != port) }

/-- Whether the interval of LOSS_INTERVALS Sync intervals has run since an arrival (R243, R246). -/
def State.overdue (s : State) (e : Nat × Nat × Int) : Bool :=
  decide (e.2.1 + max 2 (s.rd Reg.TIME.LOCK_CFG.LOSS_INTERVALS) * sec / 2 ^ (-e.2.2).toNat ≤ s.up)

/-- Whether a port still receives the grandmaster's Syncs (R243). -/
def State.hears (s : State) (port : Nat) : Bool :=
  match s.time.heard.find? (·.1 == port) with
  | some e => !s.overdue e
  | none => false

/-- Lost (R246, R248): no Sync of the grandmaster has arrived on either port, or no edge on PPS_IN, for LOSS_INTERVALS of the last interval. -/
def State.lost (s : State) : Bool :=
  match s.time.heard.find? fun e => if s.servoMode = 2 then e.1 == 2 else e.1 != 2 with
  | some e => s.overdue e
  | none => true

/-- A signed register of picoseconds, in time units. -/
def State.rdPs (s : State) (f : Fld) : Int := sgn 32 (s.rd f) * (ps : Int)

/-- A correctionField, in units of 2^-16 ns, as time units. -/
def corrUnits (c : Int) : Int := c * (2 ^ 24 * 1000)

/-- The mean path delay of a port in time units (R244): over up to 16 exchanges in E2E, LINK_DELAY in P2P. -/
def State.pathDelay (s : State) (p : Nat) : Int :=
  if s.flag Reg.TIME.TIME_CTRL.PROFILE then (s.rd (Reg.TIME.LINK_DELAY.PS p) : Int) * (ps : Int)
  else
    match alGet s.time.delays p with
    | some (a :: r) => divRound ((a :: r).sum) (a :: r).length
    | _ => 0

/-- A complete Sync with its origin timestamp (R244): remembered for its port, and from the source port in AUTO or HOST mode the servo acts on its offset. -/
def State.syncDone (s : State) (m : SyncMsg) : State :=
  let s := s.modTime fun t => { t with last := m :: t.last.filter (·.port != m.port) }
  if m.port ≠ s.srcPort ∨ 2 ≤ s.servoMode then s
  else
    let d := s.pathDelay m.port
    let s := s.wr Reg.TIME.PATH_DELAY.PS (clampI 0 4294967295 (divRound d ps)).toNat
    s.offsetSeen (((m.t2 : Int) - m.t1) * (ps : Int) - corrUnits m.corr - d - s.rdPs (Reg.TIME.PORT_ASYM.PS m.port)) (-m.log).toNat

/-- PTP_SYNC (R239, R240, R244): a Sync from a clockIdentity in a domain; a two-step one waits for its Follow_Up. PORT_LAT_RX corrects t2 (R241). -/
def State.ptpSync (s : State) (port via gm dom t1 t2 : Nat) (corr log : Int) (twoStep : Bool) : State :=
  if !s.ptpTaken port via dom || decide (log < -7) || decide (0 < log) then s
  else
    let s := s.inc (Reg.TIME.CNT_RX_SYNC.COUNT port)
    let m : SyncMsg := ⟨port, t1, ((t2 : Int) + sgn 32 (s.rd (Reg.TIME.PORT_LAT_RX.PS port))).toNat, corr, log⟩
    if s.time.gm ≠ some gm then s
    else
      let s := s.hear port log
      if twoStep then s.modTime fun t => { t with waiting := m :: t.waiting.filter (·.port != port) } else s.syncDone m

/-- PTP_FOLLOW_UP (R240, R244): the precise origin timestamp and correction of the port's waiting Sync. -/
def State.ptpFollowUp (s : State) (port via gm dom t1 : Nat) (corr : Int) : State :=
  match s.time.waiting.find? (·.port == port) with
  | some m =>
    if !s.ptpTaken port via dom || decide (s.time.gm ≠ some gm) then s
    else (s.modTime fun t => { t with waiting := t.waiting.filter (·.port != port) }).syncDone { m with t1 := t1, corr := m.corr + corr }
  | none => s

/-- PTP_DELAY_REQ_SEND (R240): in E2E a Delay_Req leaves on the source port, and t3 is taken at its egress. -/
def State.delayReq (s : State) (t3 : Nat) : State :=
  let p := s.srcPort
  if !(s.pageRun timePg && s.flag (Reg.TIME.PORT_CFG.ENABLE p)) || s.flag Reg.TIME.TIME_CTRL.PROFILE || decide (2 ≤ s.servoMode) then s
  else
    let t := ((t3 : Int) + sgn 32 (s.rd (Reg.TIME.PORT_LAT_TX.PS p))).toNat
    (s.modTime fun x => { x with asked := some (p, t) }).emit (.ptp p 1 0 false)

/-- PTP_DELAY_RESP (R240, R244): t4 for the Delay_Req sent; the exchange gives a mean path delay. In P2P it is dropped. -/
def State.delayResp (s : State) (port via dom t4 : Nat) (corr : Int) : State :=
  if !s.ptpOver port via then s
  else if s.flag Reg.TIME.TIME_CTRL.PROFILE then s.inc (Reg.TIME.CNT_PROFILE_DROP.COUNT port)
  else if !s.ptpTaken port via dom then s
  else
    match s.time.asked, s.time.last.find? (·.port == port) with
    | some (p, t3), some m =>
      if p ≠ port then s
      else
        let d := divRound ((((m.t2 : Int) - m.t1) + ((t4 : Int) - t3)) * (ps : Int) - corrUnits (m.corr + corr)) 2
        let s := s.modTime fun t => { t with asked := none, delays := alPut t.delays port ((d :: (alGet t.delays port).getD []).take 16) }
        if port = s.srcPort then s.wr Reg.TIME.PATH_DELAY.PS (clampI 0 4294967295 (divRound (s.pathDelay port) ps)).toNat else s
    | _, _ => s

/-- A message that the profile drops where it is taken locally (R240), counted. -/
def State.profileDrop (s : State) (port via : Nat) : State := if s.ptpOver port via then s.inc (Reg.TIME.CNT_PROFILE_DROP.COUNT port) else s

/-- PTP_PDELAY_REQ (R240): in P2P the port answers one-step, with its turn-around of so many ps, the port's latencies corrected (R241), added to the request's correctionField; in E2E it is dropped. -/
def State.pdelayReq (s : State) (port via : Nat) (corr : Int) (turn : Nat) : State :=
  if s.flag Reg.TIME.TIME_CTRL.PROFILE = false then s.profileDrop port via
  else if s.pageRun timePg && s.ptpOver port via then
    let lat := sgn 32 (s.rd (Reg.TIME.PORT_LAT_TX.PS port)) - sgn 32 (s.rd (Reg.TIME.PORT_LAT_RX.PS port))
    s.emit (.ptp port 3 (corr + divRound (((turn : Int) + lat) * 65536) 1000) false)
  else s

/-- PTP_PDELAY_EXCHANGE (R240): the port's own exchange gives a round trip and, from the answer, the peer's turn-around with its corrections, in ps; or no answer comes. -/
def State.pdelayDone (s : State) (port : Nat) (r : Option (Nat × Nat)) : State :=
  if decide (2 ≤ port) || !s.pageRun timePg || s.flag (Reg.TIME.PORT_CFG.ENABLE port) = false || s.flag Reg.TIME.TIME_CTRL.PROFILE = false then s
  else
    let s := s.emit (.ptp port 2 0 false)
    match r with
    | some (trip, turn) =>
      let lat := sgn 32 (s.rd (Reg.TIME.PORT_LAT_RX.PS port)) - sgn 32 (s.rd (Reg.TIME.PORT_LAT_TX.PS port))
      s.wr (Reg.TIME.LINK_DELAY.PS port) (clampI 0 4294967295 (divRound ((trip : Int) + lat - turn) 2)).toNat
    | none => s.inc (Reg.TIME.CNT_PDELAY_FAIL.COUNT port)

/-- The dataset comparison (R243): the lower dataset, and among equal ones the lower clockIdentity. -/
def lexLt : List Nat → List Nat → Bool
  | a :: r, b :: q => decide (a < b) || (a == b && lexLt r q)
  | _, _ => false

/-- The best of the masters heard. -/
def bestOf : List Master → Option Master
  | [] => none
  | m :: r =>
    match bestOf r with
    | some b => if lexLt (b.data ++ [b.id]) (m.data ++ [m.id]) then some b else some m
    | none => some m

/-- PTP_ANNOUNCE (R243, R246): the grandmaster is selected among the Announce messages of DOMAIN; a change of its clockIdentity raises GM_CHANGE and returns the servo to ACQUIRING. -/
def State.ptpAnnounce (s : State) (port via dom id : Nat) (data : List Nat) : State :=
  if !s.ptpTaken port via dom then s
  else
    let s := s.modTime fun t => { t with masters := ⟨port, id, data⟩ :: t.masters.filter fun m => m.port != port || m.id != id }
    match bestOf s.time.masters with
    | none => s
    | some b =>
      if s.time.gm = some b.id then s.portStates
      else
        let first := s.time.gm.isNone
        let s := s.modTime fun t => { t with gm := some b.id, waiting := [], asked := none }
        let s := (s.wr Reg.TIME.GM_ID_LO.ID b.id).wr Reg.TIME.GM_ID_HI.ID (b.id / 2 ^ 32)
        let s := s.portStates
        if first then s
        else
          let s := s.evt timePg 23
          if s.servoMode = 3 then s else s.setServo 1

/-- Entry to HOLDOVER (R253). -/
def State.holdover (s : State) : State :=
  let n := 2 ^ min 10 (s.rd Reg.TIME.UNLOCK_CFG.HOLDOVER_AVG)
  let l := s.time.hist.take n
  let s := if s.servoMode = 1 ∨ l = [] then s else s.setAdj (divRound l.sum l.length)
  let s := s.modTime fun t => { t with slew := 0, holdAt := s.up }
  let s := s.wr Reg.TIME.HOLDOVER_TIME.S 0
  ((s.setServo 3).evt timePg 18).raise 24 0

/-- SYNC_LOSS (R246): Lost. -/
def State.syncLoss (s : State) : State :=
  if s.lost = false then s
  else if s.servo = 2 ∨ (s.servo = 1 ∧ s.time.reached = true) then s.holdover
  else if s.servo = 1 then s.setServo 0
  else s

/-- The servo returns to FREE_RUN with FREQ_ADJ kept (R246). -/
def State.servoOff (s : State) : State := s.setServo 0

/-- A TIME_CTRL write (R243, R246, R262): a DOMAIN above 127 is ignored and counted, and a changed one forgets the masters heard; a changed SERVO_MODE frees the servo; the source port follows a changed SRC_SEL. -/
def State.timeCtrl (s : State) (w : Word) : State :=
  let mode := s.servoMode
  let sel := s.rd Reg.TIME.TIME_CTRL.SRC_SEL
  let dom := getBits w 16 8
  let s := (s.wr Reg.TIME.TIME_CTRL.SERVO_MODE (getBits w 0 2)).wr Reg.TIME.TIME_CTRL.PROFILE (getBits w 4 1)
  let s := (s.wr Reg.TIME.TIME_CTRL.SRC_SEL (getBits w 8 2)).wr Reg.TIME.TIME_CTRL.TC_EN (getBits w 24 1)
  let old := s.rd Reg.TIME.TIME_CTRL.DOMAIN
  let s := if dom ≤ 127 then s.wr Reg.TIME.TIME_CTRL.DOMAIN dom else s.err timePg 0x40
  let s := if s.rd Reg.TIME.TIME_CTRL.DOMAIN = old then s else s.modTime fun t => { t with masters := [], waiting := [], asked := none }
  let s := if s.servoMode = mode then s else s.servoOff
  if s.rd Reg.TIME.TIME_CTRL.SRC_SEL = sel then s else s.setSource s.selPort

/-- An input edge timestamped (R259): source and kind of edge as TS_CFG takes them, with 100 ps resolution. -/
def State.timestamp (s : State) (src t : Nat) (fall : Bool) : State :=
  let c := s.rd ⟨Reg.TIME.TS_CFG.EDGE_0.off, 2 * src, 2⟩
  if !(c == 3 || c == (if fall then 2 else 1)) then s
  else if 16 ≤ s.time.tsq.length then s.countEvt Reg.TIME.CNT_TS_OVERFLOW.COUNT timePg 25
  else
    let first := s.time.tsq.isEmpty
    let s := s.modTime fun x => { x with tsq := x.tsq ++ [⟨t / 100 * 100, src, fall⟩] }
    if first then s.evt timePg 24 else s

/-- PPS_IN_EDGE (R248, R259): timestamped; in PPS_IN mode a rising edge gives the offset to the nearest whole second. -/
def State.ppsIn (s : State) (t : Nat) (fall : Bool) : State :=
  let s := s.timestamp 4 t fall
  if fall || !s.pageRun timePg || s.servoMode != 2 then s
  else
    let s := s.hear 2 0
    let r : Nat := t % 10 ^ 12
    let off : Int := if 2 * r ≤ 10 ^ 12 then (r : Int) else (r : Int) - 10 ^ 12
    s.offsetSeen (off * (ps : Int)) 0

/-- A time event armed with its registers as they stand (R255, R257). -/
def State.tevArm (s : State) (k : Nat) : State :=
  let per := s.tevPeriod k
  let t := s.rdTime (0x8200 + 0x20 * k)
  if s.flag (Reg.TIME.TEV_CTRL.PERIODIC k) ∧ per < 100 * ns then (s.put (Reg.TIME.TEV_CTRL.ARM k) false).err timePg (0x210 + 0x20 * k)
  else
    let p : TevPlan :=
      if s.now < t then ⟨k, t, false⟩
      else if per = 0 then ⟨k, t, decide (t < s.now)⟩
      else if t = s.now then ⟨k, t, false⟩
      else ⟨k, t + ((s.now - t) / per + 1) * per, false⟩
    ((s.setTev k (some p)).put (Reg.TIME.TEV_CTRL.ARM k) true).put (Reg.TIME.TEV_STATUS.ARMED k) true

/-- The fields of TEV_CTRL beside ARM as a write gives them, WIDTH kept to 1,024 (R262, R490). -/
def tevFields (w : Word) : Nat × Nat × Nat × Nat := (getBits w 1 1, getBits w 8 7, getBits w 16 4, min 1024 (getBits w 20 11))

/-- A write of TEV_CTRL (R255, R257). -/
def State.tevWrite (s : State) (k : Nat) (w : Word) : State :=
  let f := tevFields w
  let off := 0x210 + 0x20 * k
  let arm := getBits w 0 1 == 1
  match s.tev k with
  | some _ =>
    let same := f == (s.rd (Reg.TIME.TEV_CTRL.PERIODIC k), s.rd (Reg.TIME.TEV_CTRL.TARGETS k), s.rd (Reg.TIME.TEV_CTRL.TRIGO_SEL k), s.rd (Reg.TIME.TEV_CTRL.WIDTH k))
    let s := if arm then s else s.tevDisarm k
    if same then s else s.err timePg off
  | none =>
    let s := (s.wr (Reg.TIME.TEV_CTRL.PERIODIC k) f.1).wr (Reg.TIME.TEV_CTRL.TARGETS k) f.2.1
    let s := (s.wr (Reg.TIME.TEV_CTRL.TRIGO_SEL k) f.2.2.1).wr (Reg.TIME.TEV_CTRL.WIDTH k) f.2.2.2
    let s := if getBits w 20 11 ≤ 1024 then s else s.err timePg off
    if arm then s.tevArm k else s

/-- The latch of a word on a path (R8, R432). -/
def latchKey (path : HostPath) (off : Nat) : Nat :=
  (match path with
    | .pcie => 0
    | .smbus => 1
    | _ => 2) * 2 ^ 24 + off

/-- A word latched for a path. -/
def State.latchPut (s : State) (path : HostPath) (off : Nat) (w : Word) : State :=
  { s with latch := tabPut s.latch 0 (latchKey path off) (w.toNat + 1) }

/-- TS_POP (R259): the oldest entry is taken, its lowest word answered, and the other three words latched; with none, VALID reads 0. -/
def State.tsPop (s : State) (path : HostPath) : State :=
  let (e, rest) := match s.time.tsq with
    | e :: r => (some e, r)
    | [] => (none, [])
  let s := s.modTime fun x => { x with tsq := rest }
  let (w0, w1, w2, w3) : Nat × Nat × Nat × Nat := match e with
    | some e => (e.t / 1000 % 10 ^ 9, e.t / 10 ^ 12 % 2 ^ 32, e.t / 10 ^ 12 / 2 ^ 32 % 2 ^ 16 + e.src * 2 ^ 16 + b2n e.fall * 2 ^ 19 + 2 ^ 31, e.t % 1000)
    | none => (0, 0, 0, 0)
  let s := (s.latchPut path 0x80D4 (BitVec.ofNat 32 w1)).latchPut path 0x80D8 (BitVec.ofNat 32 w2)
  (s.latchPut path 0x80DC (BitVec.ofNat 32 w3)).emit (.word path 0x80D0 (BitVec.ofNat 32 w0))

/-- The instant at which PPS_OUT asserts has been reached within the last tick (R260): a whole second of network time less PPS_COMP. -/
def State.ppsDue (s : State) : Bool :=
  let comp : Int := sgn 16 (s.rd Reg.TIME.PPS_COMP.PS) * (ps : Int)
  decide (((s.now : Int) + comp) % (sec : Int) < s.timeInc * fu)

/-- PPS_OUT_ASSERT (R260). -/
def State.ppsAssert (s : State) : State :=
  if s.clkRun && s.ppsFree && s.ppsDue then (s.modTime fun t => { t with ppsOn := true, ppsAt := s.up }).emit (.pin 2 false) else s

/-- PPS_OUT_END (R260): WIDTH_MS has run. -/
def State.ppsEnd (s : State) : State :=
  if s.up < s.time.ppsAt + clampN 1 999 (s.rd Reg.TIME.PPS_CFG.WIDTH_MS) * ms then s else s.modTime fun t => { t with ppsOn := false }

/-- The level driven on PPS_OUT: POLARITY applied (R260, R262). -/
def State.ppsLevel (s : State) : Bool := s.time.ppsOn != s.flag Reg.TIME.PPS_CFG.POLARITY

/-- Whole seconds in HOLDOVER (R253). -/
def State.holdCount (s : State) : State :=
  if s.servo = 3 then s.wr Reg.TIME.HOLDOVER_TIME.S (min ((s.up - s.time.holdAt) / sec) 4294967295) else s

end Sys2Proof.Machine
end

