-- ==== Sys2Proof/Machine/Ring.lean ====
section
/-! DEFINITION. The ring ports and the path engines (chapter 12): forwarding with its transparent-clock correction, the device's own frames, duplicate tables, take-over, path notices, links. -/
namespace Sys2Proof.Machine

/-- The page of a ring port (R340). -/
def ringPg (p : Nat) : Nat := 0x10000 + 0x1000 * p

/-- The PATH page (R342). -/
def pathPg : Nat := 0x12000

/-- The PARSER page (R364). -/
def parserPg : Nat := 0xF000

/-- The CMD page (R386). -/
def cmdPg : Nat := 0xE000

/-- A change of the path engines. -/
def State.modPath (s : State) (f : PathSt → PathSt) : State := { s with path := f s.path }

/-- An engine: 0 A, 1 B. -/
def State.engine (s : State) (e : Nat) : Engine := if e = 0 then s.path.engA else s.path.engB

/-- An engine set. -/
def State.setEngine (s : State) (e : Nat) (x : Engine) : State :=
  s.modPath fun p => if e = 0 then { p with engA := x } else { p with engB := x }

/-- The ENGINE_STATE field of an engine (R334). -/
def engFld (e : Nat) : Fld := if e = 0 then Reg.PATH.PATH_STATUS.ENGINE_STATE_A else Reg.PATH.PATH_STATUS.ENGINE_STATE_B

/-- The state of an engine (R334): 0 DOWN, 1 SYNCING, 2 STANDBY, 3 ACTIVE, 4 ABDICATED. -/
def State.engState (s : State) (e : Nat) : Nat := s.rd (engFld e)

/-- An engine enters a state; entering STANDBY restarts its healthy time and raises STANDBY_READY (R334, R343). -/
def State.setEng (s : State) (e n : Nat) : State :=
  let s := s.wr (engFld e) n
  if n = 2 then (s.setEngine e { s.engine e with since := s.up, age := 0 }).evt pathPg 5 else s

/-- The active engine (R332: never two). -/
def State.activeEng (s : State) : Option Nat := if s.engState 0 = 3 then some 0 else if s.engState 1 = 3 then some 1 else none

/-- DIAG_WINDOW in time units (R342). -/
def State.diagWindow (s : State) : Nat := s.rd Reg.PATH.DIAG_WINDOW.US * us

/-- An engine is healthy (R330): its link is up and no check has tripped during the last DIAG_WINDOW. -/
def State.healthy (s : State) (e : Nat) : Bool :=
  s.linkUp e && (match (s.engine e).trip with
    | some t => decide (t + s.diagWindow ≤ s.up)
    | none => true)

/-- HEALTHY_MS of an engine (R342). -/
def State.healthyMs (s : State) (e : Nat) : Nat :=
  if s.healthy e then min ((s.up - (s.engine e).since) / ms) (2 ^ 32 - 1) else 0

/-- A standby is current (R326): its last good copy or matching digest is at most two path cycles old. -/
def State.current (s : State) (e : Nat) : Bool := decide ((s.engine e).age ≤ 2)

/-- An engine is eligible (R330): STANDBY, healthy and current. -/
def State.eligible (s : State) (e : Nat) : Bool := s.engState e == 2 && s.healthy e && s.current e

/-- The STATION_ADDR of a port (R340). -/
def State.station (s : State) (p : Nat) : Nat :=
  s.rd (Reg.RING.STATION_HI.ADDR p) * 2 ^ 32 + s.rd (Reg.RING.STATION_LO.ADDR p)

/-- CONTROL_EPOCH (R328). -/
def State.epoch (s : State) : Nat := s.rd Reg.PATH.CONTROL_EPOCH.EPOCH

/-- The broadcast address. -/
def broadcast : Nat := 2 ^ 48 - 1

/-- An address is broadcast or a valid GROUP_ADDR entry of a port (R321). -/
def State.groupAddr (s : State) (p da : Nat) : Bool :=
  da == broadcast || (List.range 8).any fun k =>
    s.flag (Reg.RING.GROUP_HI.VALID p k) && (s.rd (Reg.RING.GROUP_HI.ADDR p k) * 2 ^ 32 + s.rd (Reg.RING.GROUP_LO.ADDR p k)) == da

/-- A frame leaves a ring port (R323). -/
def State.txFrame (s : State) (p : Nat) (d : List Byte) (stomped : Bool) : State :=
  (s.emit (.frame p d stomped)).inc (Reg.RING.CNT_TX_FRAMES.COUNT p)

/-- A frame of the device's own leaves a port whose link is up; one longer than LOCAL_MAX, FCS included, is refused (R323). Frames are padded to the 64 bytes of R316. -/
def State.txLocal (s : State) (p : Nat) (d : List Byte) : State :=
  if !s.linkUp p then s
  else if s.rd (Reg.RING.FRAME_CFG.LOCAL_MAX p) < d.length + 4 then s.inc (Reg.RING.CNT_LOCAL_OVERSIZE.COUNT p)
  else s.txFrame p (d ++ List.replicate (60 - d.length) 0) false

/-- The addresses and the ring tag of an own frame (R319, R320). -/
def State.ownTag (s : State) (p da flags : Nat) : List Byte :=
  beBytes 6 da ++ beBytes 6 (s.station p) ++ beBytes 2 (s.rd (Reg.RING.TAG_CFG.ETHERTYPE p)) ++ beBytes 1 (s.rd (Reg.RING.TAG_CFG.RING_ID p)) ++
    beBytes 1 (1 - p) ++ beBytes 1 0 ++ beBytes 2 s.path.rseq ++ beBytes 1 flags

/-- An own frame, or a pair of twins, on the listed ports whose links are up (R320): BOTH_WAYS where both go out, and one RSEQ for the pair. -/
def State.sendOwn (s : State) (ports : List Nat) (da flags : Nat) (payload : List Byte) : State :=
  let ps := ports.filter s.linkUp
  let flags := flags + b2n (decide (2 ≤ ps.length))
  let s := ps.foldl (fun s p => s.txLocal p (s.ownTag p da flags ++ payload)) s
  if ps.isEmpty then s else s.modPath fun p => { p with rseq := (p.rseq + 1) % 65536 }

/-- The ports on which responses go out (R326). -/
def State.answerPorts (s : State) : List Nat :=
  if s.path.copy then s.activeEng.toList else [0, 1]

/-- The path notice of a take-over (R338). -/
def State.pathNotice (s : State) (old new act reason t : Nat) : State :=
  let da := s.rd Reg.PATH.CONTROLLER_HI.ADDR * 2 ^ 32 + s.rd Reg.PATH.CONTROLLER_LO.ADDR
  s.sendOwn [0, 1] (if da = 0 then broadcast else da) 2
    (beBytes 2 0x88B5 ++ beBytes 2 old ++ beBytes 2 new ++ beBytes 1 act ++ beBytes 1 reason ++ stamp t)

/-- The key of a batch in reassembly (R377): its session and BATCH_ID. -/
def Batch.key (b : Batch) : Nat × Nat := (beAt b.head 2 1, beAt b.head 10 2)

/-- The state of one engine copied to the other (R326, R331): duplicate table, reassembly, dead list. -/
def State.copyEngine (s : State) (from' to' : Nat) : State :=
  let a := s.engine from'
  (s.setEngine to' { s.engine to' with dups := a.dups, reasm := a.reasm, dead := a.dead, age := 0 }).inc Reg.PATH.CNT_COPY.COUNT

/-- What the standby loses where no copy can be made (R331): a batch that its own state does not hold is dead. -/
def State.loseBatches (s : State) (old new : Nat) : State :=
  let held := (s.engine new).reasm.map Batch.key
  let lost := ((s.engine old).reasm.map Batch.key).filter fun k => !held.contains k
  let s := s.setEngine old { s.engine old with reasm := [] }
  s.setEngine new { s.engine new with dead := (s.engine new).dead ++ lost.map fun k => (k, s.up) }

/-- Control moves from an engine to the other (R331, R333). -/
def State.takeOver (s : State) (old : Nat) (planned parity : Bool) : State :=
  let new := 1 - old
  let e0 := s.epoch
  let e1 := if e0 = 65535 then 1 else e0 + 1
  let reason := if planned then 0x80 else s.rd (Reg.PATH.TRIP.CHECKS old)
  let s := if parity then s.loseBatches old new else s.copyEngine old new
  let s := if planned then s.setEng old 2 else s.setEng old (if s.linkUp old then 4 else 0)
  let s := s.setEng new 3
  let s := s.wr Reg.PATH.PATH_STATUS.ACTIVE new
  let s := s.put Reg.PATH.PATH_STATUS.DEGRADED false
  let s := s.wr Reg.PATH.CONTROL_EPOCH.EPOCH e1
  let s := s.wrTime 0x12078 s.now
  let s := s.wr Reg.PATH.LAST_REASON.REASON reason
  let s := s.inc Reg.PATH.CNT_TAKEOVER.COUNT
  let s := s.raise 36 e1
  let s := s.evt pathPg (if planned then 1 else 0)
  (s.pathNotice e0 e1 new reason s.now).followPath

/-- A take-over that a trip asked for happens once the standby is eligible, while the trip holds (R332). -/
def State.lateTakeOver (s : State) : State :=
  match s.activeEng with
  | some a => if s.flag Reg.PATH.PATH_STATUS.DEGRADED && !s.healthy a && s.eligible (1 - a) then s.takeOver a false (s.engine a).parity else s
  | none => s

/-- A planned take-over with an eligible standby (R333); the answer is whether it happened. -/
def State.planned (s : State) : State × Bool :=
  match s.activeEng with
  | some a => if s.eligible (1 - a) then (s.takeOver a true false, true) else (s, false)
  | none => (s, false)

/-- An engine that is DOWN with its port enabled, its link up and itself healthy rises (R334). -/
def State.engineRise (s : State) (e : Nat) : State :=
  if s.engState e = 0 ∧ s.flag (Reg.HDR.PG_CTRL.ENABLE (ringPg e)) = true ∧ s.healthy e = true then
    match s.activeEng with
    | some _ => s.setEng e 1
    | none => (((s.setEng e 3).wr Reg.PATH.PATH_STATUS.ACTIVE e).wr Reg.PATH.CONTROL_EPOCH.EPOCH 1).followPath
  else s

/-- Both VDD_SDS rails are in tolerance (R318, R424). -/
def State.sdsOk (s : State) : Bool := getBits (s.rdW 0x2040) 9 2 == 3

/-- A ring port may train (R318): self-test is complete, its page runs, the VDD_SDS rails are good. -/
def State.portReady (s : State) (p : Nat) : Bool :=
  decide (p < 2) && s.dev != .off && (s.dev != .boot || s.boot.self) && s.pageRun (ringPg p) && s.sdsOk

/-- A port's link comes up (R318, R340, R341) with the trained TX_FFE and RX_EQ words of its two lanes. -/
def State.portUp (s : State) (p : Nat) (train : List Nat) : State :=
  if !s.portReady p || s.linkUp p then s
  else
    let s := s.put (Reg.RING.PORT_STATUS.LINK_UP p) true
    let s := s.put (Reg.RING.PORT_STATUS.AN_DONE p) (s.flag (Reg.RING.PORT_CFG.AN_EN p))
    let s := s.put (Reg.RING.PORT_STATUS.LT_DONE p) (s.flag (Reg.RING.PORT_CFG.LT_EN p))
    let s := (s.put (Reg.RING.PORT_STATUS.FEC_LOCK p) true).wr (Reg.RING.PORT_STATUS.SIGNAL p) 3
    let s := [0, 1].foldl (fun s l =>
      (s.wrW (ringPg p + 0xA8 + 4 * l) (BitVec.ofNat 32 ((train.getD (2 + l) 0) % 2 ^ 16) &&& 0xFF1F)).modPath fun x => { x with ffe := tabPut x.ffe 0 (2 * p + l) (train.getD l 0 % 2 ^ 22) }) s
    let x := s.engine p
    let trip := x.trip.map fun _ => s.up
    let s := s.setEngine p { x with trip := trip, downAt := none, since := if trip.isSome then s.up + s.diagWindow else s.up }
    (s.evt (ringPg p) 0).portStates

/-- LINK_UP (R318, R334): the ports whose links come up in one cycle; where both engines then qualify, the engine of PRIMARY becomes active. -/
def State.linksUp (s : State) (l : List (Nat × List Nat)) : State :=
  let s := l.foldl (fun s e => s.portUp e.1 e.2) s
  let p := s.rd Reg.PATH.PATH_CFG.PRIMARY
  let ports := [p, 1 - p].filter fun q => l.any fun e => e.1 == q
  ports.foldl State.engineRise s

/-- A port's link goes down (R334, R341): its engine goes DOWN, but for an active one, which keeps control until its check trips. -/
def State.linkDown (s : State) (p : Nat) : State :=
  if decide (2 ≤ p) || !s.linkUp p then s
  else
    let s := (s.wr ⟨ringPg p + 0x44, 0, 6⟩ 0).setEngine p { s.engine p with downAt := some s.up }
    let s := (s.inc (Reg.RING.CNT_LINK_DOWN.COUNT p)).evt (ringPg p) 1
    let s := if s.engState p = 3 then s else s.setEng p 0
    s.portStates

/-- A window of the counted checks that is over is opened afresh (R330). -/
def State.diagOpen (s : State) (x : Engine) : Engine :=
  if x.win + s.diagWindow ≤ s.up then { x with win := s.up, fec := 0, fcs := 0, gap := 0 } else x

/-- Something that a check counts has happened on an engine's port (R330). -/
def State.diagCount (s : State) (e : Nat) (f : Engine → Engine) : State := s.setEngine e (f (s.diagOpen (s.engine e)))

/-- What a check looks for holds on an engine (R330): LINK for LINK_HOLD, the counted checks at their limits within one DIAG_WINDOW, PTP by R243. SELF_CHECK and PARITY are found by the engine's own hardware. -/
def State.checkHolds (s : State) (e check : Nat) : Bool :=
  let x := s.diagOpen (s.engine e)
  match check with
  | 0 => x.downAt.any fun t => decide (t + max 1 (s.rd Reg.PATH.DIAG_LIMITS.LINK_HOLD) * us ≤ s.up)
  | 1 => decide (s.rd Reg.PATH.DIAG_LIMITS.FEC_LIMIT ≤ x.fec)
  | 2 => decide (s.rd Reg.PATH.DIAG_LIMITS.FCS_LIMIT ≤ x.fcs)
  | 3 => decide (s.rd Reg.PATH.DIAG_LIMITS.GAP_LIMIT ≤ x.gap)
  | 4 => s.rd (Reg.TIME.PORT_STATE.STATE e) == 2 || (!s.hears e && s.hears (1 - e))
  | _ => decide (check < 7)

/-- DIAG_TRIP (R330 to R334): an enabled check (bit as DIAG_EN) trips on an engine. -/
def State.diagTrip (s : State) (e check : Nat) : State :=
  if decide (2 ≤ e) || !bitOf (s.rd Reg.PATH.DIAG_EN.CHECKS) check || !s.checkHolds e check then s
  else
    let s := s.put ⟨0x12060 + 4 * e, check, 1⟩ true
    let s := s.setEngine e { s.engine e with trip := some s.up, since := s.up + s.diagWindow, parity := check == 6 }
    let s := s.evt pathPg 3
    match s.engState e with
    | 2 => s.setEng e 0
    | 3 =>
      if s.eligible (1 - e) then s.takeOver e false (check == 6)
      else ((s.put Reg.PATH.PATH_STATUS.DEGRADED true).evt pathPg 2).raise 37 (s.rd (Reg.PATH.TRIP.CHECKS e))
    | _ => s

/-- PATH_CTRL.TAKEOVER (R333). -/
def State.pathTakeover (s : State) : State :=
  let r := s.planned
  if r.2 then r.1 else s.err pathPg 0x44

/-- REVERT (R335): in a LARGE ring the primary engine, standby and healthy for REVERT_HOLD, takes control back. -/
def State.revert (s : State) : State :=
  let p := s.rd Reg.PATH.PATH_CFG.PRIMARY
  if s.flag Reg.PATH.PATH_CFG.RING_CLASS && s.activeEng == some (1 - p) && decide (max 1 (s.rd Reg.PATH.REVERT_HOLD.MS) ≤ s.healthyMs p) then
    let r := s.planned
    if r.2 then r.1.inc Reg.PATH.CNT_REVERT.COUNT else s
  else s

/-- ABDICATED_RECOVERY (R334): an ABDICATED engine healthy for one DIAG_WINDOW goes to SYNCING; a DOWN one that is healthy rises. -/
def State.abdicatedBack (s : State) (e : Nat) : State :=
  if 2 ≤ e then s
  else if s.engState e = 4 then (if s.healthy e = true ∧ (s.engine e).since + s.diagWindow ≤ s.up then s.setEng e 1 else s)
  else s.engineRise e

/-- STATE_COPY_DONE (R334): the copy to a syncing engine is checked and complete, or fails its check. -/
def State.copyDone (s : State) (e : Nat) (ok : Bool) : State :=
  if decide (2 ≤ e) || s.engState e != 1 then s
  else if ok then ((match s.activeEng with | some a => s.copyEngine a e | none => s).setEng e 2).lateTakeOver
  else s.inc Reg.PATH.CNT_COPY_FAIL.COUNT

/-- PATH_CYCLE_END (R326, R332, R334): the path mode takes effect; the standby's state is compared or copied; a DOWN engine may rise. -/
def State.pathCycle (s : State) (same ok : Bool) : State :=
  let mode := s.flag Reg.PATH.PATH_CFG.MODE
  let change := mode != s.path.copy
  let s := s.modPath fun p => { p with copy := mode }
  let s := [0, 1].foldl (fun s e =>
    if s.engState e ≠ 2 then s
    else
      let s := s.setEngine e { s.engine e with age := (s.engine e).age + 1 }
      if change then s.setEng e 1
      else if mode then (if ok then s.copyEngine (1 - e) e else s.inc Reg.PATH.CNT_COPY_FAIL.COUNT)
      else if same then s.setEngine e { s.engine e with age := 0 }
      else (s.inc Reg.PATH.CNT_DIGEST_MISMATCH.COUNT).setEng e 1) s
  let s := [0, 1].foldl State.engineRise s
  let s := match s.activeEng with
    | some a => if s.healthy a then s.put Reg.PATH.PATH_STATUS.DEGRADED false else s
    | none => s
  s.lateTakeOver

/-- a is ahead of b by so many, modulo 65,536 (R320). -/
def rseqAhead (a b : Nat) : Nat := (a + 65536 - b) % 65536

/-- How an engine's duplicate table sees a frame (R325): 0 new, 1 a duplicate, 2 old, 3 from a 17th source. -/
def Engine.judgeDup (x : Engine) (t : Twin) : Nat :=
  match x.dups.find? (·.sa == t.sa) with
  | some d =>
    if d.seen.any (·.1 == t.rseq) then 1
    else if decide (rseqAhead t.rseq d.top < 32768) || decide (rseqAhead d.top t.rseq < 1024) then 0 else 2
  | none => if 16 ≤ x.dups.length then 3 else 0

/-- A committed frame marked in a duplicate table (R325): the window keeps the 1,024 most recent RSEQs. -/
def Engine.markDup (x : Engine) (t : Twin) (now : Nat) : Engine :=
  match x.dups.find? (·.sa == t.sa) with
  | some d =>
    let top := if rseqAhead t.rseq d.top < 32768 then t.rseq else d.top
    let d' : DupSrc := { d with top := top, seen := ((t.rseq, t.data) :: d.seen).filter fun e => decide (rseqAhead top e.1 < 1024), used := now }
    { x with dups := x.dups.map fun e => if e.sa = t.sa then d' else e }
  | none => if 16 ≤ x.dups.length then x else { x with dups := x.dups ++ [⟨t.sa, t.rseq, [(t.rseq, t.data)], t.rseq, now⟩] }

/-- A committed frame marked by both engines (R325). -/
def State.markTwin (s : State) (t : Twin) : State :=
  s.modPath fun p => { p with engA := p.engA.markDup t s.up, engB := p.engB.markDup t s.up }

/-- The bytes of the copy committed under a twin's SA and RSEQ. -/
def Engine.committed (x : Engine) (t : Twin) : Option (List Byte) :=
  (x.dups.find? (·.sa == t.sa)).bind fun d => alGet d.seen t.rseq

/-- A frame's standing by R325: whether it goes on, with the counts of a frame that does not. -/
def State.dupCheck (s : State) (e : Nat) (t : Twin) : State × Bool :=
  match (s.engine e).judgeDup t with
  | 0 => (s, true)
  | 1 =>
    let s := s.inc Reg.PATH.CNT_DUP_DISCARD.COUNT
    let differs := match (s.engine e).committed t with | some d => d != t.data | none => false
    (if differs then (s.inc Reg.PATH.CNT_MISMATCH.COUNT).evt pathPg 4 else s, false)
  | 2 => (s.inc Reg.PATH.CNT_OLD_SEQ.COUNT, false)
  | _ => (s.inc Reg.PATH.CNT_SRC_FULL.COUNT, false)

/-- DUP_SOURCE_RELEASE (R325): a source unused for 1 s. -/
def State.dupRelease (s : State) (e sa : Nat) : State :=
  if 2 ≤ e then s else s.setEngine e { s.engine e with dups := (s.engine e).dups.filter fun d => d.sa != sa || decide (s.up < d.used + sec) }

/-- A good frame of the ring received from a tracked source on a port (R325, R330): the source is in use, and RSEQs passed over are a gap. -/
def State.rseqSeen (s : State) (p sa rseq : Nat) : State :=
  match (s.engine p).dups.find? (·.sa == sa) with
  | none => s
  | some d =>
    let k := rseqAhead rseq d.last
    let d' : DupSrc := { d with last := if k < 32768 then rseq else d.last, used := s.up }
    let s := s.setEngine p { s.engine p with dups := (s.engine p).dups.map fun e => if e.sa = sa then d' else e }
    if 2 ≤ k ∧ k < 32768 then s.diagCount p fun x => { x with gap := x.gap + 1 } else s

/-- A PTP message found in a frame by fixed offsets (R239, R241): its transport (0 Ethernet, 1 UDP/IPv4, 2 UDP/IPv6), whether it came as an event message, the offset of its IP header where it has one, of its UDP header, and of the message. -/
structure PtpAt where
  via   : Nat
  event : Bool
  udp   : Nat
  msg   : Nat
deriving DecidableEq, Repr

/-- The PTP message behind an EtherType at an offset, past at most one IEEE 802.1Q tag, sent to one of the addresses of R239: its multicast addresses, or as unicast to the station. -/
def ptpFind (d : List Byte) (at' own : Nat) : Option PtpAt :=
  let a := if beAt d at' 2 = 0x8100 then at' + 4 else at'
  let port (u : Nat) : Nat := beAt d (u + 2) 2
  let mine := beAt d 0 6 == own
  match beAt d a 2 with
  | 0x88F7 =>
    if (mine = true ∨ beAt d 0 6 = 0x011B19000000 ∨ beAt d 0 6 = 0x0180C200000E) ∧ a + 2 + 34 ≤ d.length then
      some ⟨0, decide (beAt d (a + 2) 1 % 16 < 8), 0, a + 2⟩ else none
  | 0x0800 =>
    let u := a + 22
    let da := beAt d (a + 18) 4
    if (mine = true ∨ da = 0xE0000181 ∨ da = 0xE000006B) ∧ beAt d (a + 2) 1 = 0x45 ∧ beAt d (a + 11) 1 = 17 ∧ (port u = 319 ∨ port u = 320) ∧ u + 42 ≤ d.length then
      some ⟨1, port u == 319, u, u + 8⟩ else none
  | 0x86DD =>
    let u := a + 42
    let da := beAt d (a + 26) 16
    if (mine = true ∨ (da / 2 ^ 120 = 0xFF ∧ da / 2 ^ 116 % 16 = 0 ∧ da % 2 ^ 112 = 0x181) ∨ da = 0xFF02 * 2 ^ 112 + 0x6B) ∧
        beAt d (a + 8) 1 = 17 ∧ (port u = 319 ∨ port u = 320) ∧ u + 42 ≤ d.length then some ⟨2, port u == 319, u, u + 8⟩ else none
  | _ => none

/-- Bytes written over a list from a position. -/
def overlay (d : List Byte) (p : Nat) (x : List Byte) : List Byte := d.take p ++ x ++ d.drop (p + x.length)

/-- The one's-complement sum of a UDP segment's words, modulo 65,535 (R242). -/
def onesSum (l : List Byte) : Nat :=
  match l with
  | a :: b :: r => (256 * a.toNat + b.toNat + onesSum r) % 65535
  | [a] => 256 * a.toNat % 65535
  | [] => 0

/-- A frame with so many ps added to its PTP message's correctionField (R240, R241), in units of 2^-16 ns. -/
def addCorrection (d : List Byte) (m : PtpAt) (psec : Int) : List Byte :=
  let c := sgn 64 (beAt d (m.msg + 8) 8) + divRound (psec * 65536) 1000
  overlay d (m.msg + 8) (beBytes 8 (unsgn 64 c))

/-- The last two bytes of a UDP payload rewritten so that the checksum of the changed frame still holds (R242). -/
def mendUdp (old new : List Byte) (m : PtpAt) : List Byte :=
  let n := beAt old (m.udp + 4) 2
  let delta := (onesSum ((new.drop m.udp).take n) + 65535 - onesSum ((old.drop m.udp).take n)) % 65535
  let p := m.udp + n - 2
  let x := beAt new p 2
  let swap (v : Nat) : Nat := v % 256 * 256 + v / 256
  let y := if delta = 0 then x else if n % 2 = 0 then (x + 65535 - delta) % 65535 else swap ((swap x + 65535 - delta) % 65535)
  overlay new p (beBytes 2 y)

/-- A UDP event message can keep a valid checksum (R242): 1 its checksum is 0 over IPv4, 2 its payload holds two bytes more than the message, 0 neither. -/
def udpForm (d : List Byte) (m : PtpAt) : Nat :=
  if m.via = 1 ∧ beAt d (m.udp + 6) 2 = 0 then 1
  else if beAt d (m.msg + 2) 2 + 2 + 8 ≤ beAt d (m.udp + 4) 2 ∧ m.udp + beAt d (m.udp + 4) 2 ≤ d.length then 2 else 0

/-- How the profile treats a message type on its way through (R240): 0 forwarded, 1 a peer-delay message of P2P, never forwarded, 2 dropped. -/
def ptpFate (p2p : Bool) (t : Nat) : Nat :=
  if t = 2 ∨ t = 3 ∨ t = 10 then (if p2p then 1 else 2) else if p2p = true ∧ (t = 1 ∨ t = 9) then 2 else 0

/-- What is added to an event message's correctionField, in ps (R240, R241): the residence time between the message timestamp points, with the board's corrections of both ports; in P2P also the ingress port's link delay and asymmetry. -/
def State.residence (s : State) (p res : Nat) : Int :=
  (res : Int) + sgn 32 (s.rd (Reg.TIME.PORT_LAT_TX.PS (1 - p))) - sgn 32 (s.rd (Reg.TIME.PORT_LAT_RX.PS p)) +
    (if s.flag Reg.TIME.TIME_CTRL.PROFILE then (s.rd (Reg.TIME.LINK_DELAY.PS p) : Int) + sgn 32 (s.rd (Reg.TIME.PORT_ASYM.PS p)) else 0)

/-- What happens to a ring-tagged frame's PTP message on its way through (R239 to R242): the frame to forward, or none for one that the profile keeps back. -/
def State.tcFrame (s : State) (p : Nat) (d : List Byte) (res : Nat) : State × Option (List Byte) :=
  match ptpFind d 20 (s.station p) with
  | none => (s, some d)
  | some m =>
    let t := beAt d m.msg 1 % 16
    if !s.ptpOver p m.via then (s, some d)
    else if beAt d (m.msg + 1) 1 % 16 ≠ 2 then (s.inc (Reg.TIME.CNT_VERSION.COUNT p), some d)
    else
      match ptpFate (s.flag Reg.TIME.TIME_CTRL.PROFILE) t with
      | 1 => (s, none)
      | 2 => (s.inc (Reg.TIME.CNT_PROFILE_DROP.COUNT p), none)
      | _ =>
        if !(t == 0 || t == 1) || !s.flag Reg.TIME.TIME_CTRL.TC_EN then (s, some d)
        else
          let d' := addCorrection d m (s.residence p res)
          if m.via = 0 ∨ udpForm d m = 1 then (s.inc (Reg.TIME.CNT_TC_EVENT.COUNT p), some d')
          else if udpForm d m = 2 then (s.inc (Reg.TIME.CNT_TC_EVENT.COUNT p), some (mendUdp d d' m))
          else (s.inc (Reg.TIME.CNT_TC_NOCORR.COUNT p), some d)

/-- The input queue of a port (R344). -/
def State.inQueue (s : State) (p : Nat) : List RxFrame := if p = 0 then s.parser.inA else s.parser.inB

/-- The input queue of a port set. -/
def State.setInQueue (s : State) (p : Nat) (l : List RxFrame) : State :=
  { s with parser := if p = 0 then { s.parser with inA := l } else { s.parser with inB := l } }

/-- The fill of an input queue in units of 64 bytes (R364). -/
def fillOf (l : List RxFrame) : Nat := sumN (l.map fun f => divUp f.data.length 64)

/-- A local frame goes to the parser's input queue (R344, R363). -/
def State.localRx (s : State) (f : RxFrame) : State :=
  if !s.flag (Reg.HDR.PG_CTRL.ENABLE parserPg) then s.inc Reg.PARSER.CNT_DISABLED_DROP.COUNT
  else
    let q := s.inQueue f.port
    if 512 < fillOf q + divUp f.data.length 64 then s.countEvt Reg.PARSER.CNT_IN_DROP.COUNT parserPg 4
    else (s.setInQueue f.port (q ++ [f])).inc (if f.port = 0 then Reg.PARSER.CNT_LOCAL_A.COUNT else Reg.PARSER.CNT_LOCAL_B.COUNT)

/-- A frame goes on to the other port (R321 to R323), HOPS increased by 1. -/
def State.forward (s : State) (p : Nat) (d : List Byte) (stomped full : Bool) (res : Nat) : State :=
  let o := 1 - p
  if !s.linkUp o then s
  else if full then s.countEvt (Reg.RING.CNT_TRANSIT_DROP.COUNT o) (ringPg o) 5
  else
    let h := beAt d 16 1
    let r := s.tcFrame p (overlay d 16 (beBytes 1 (h / 128 * 128 + (h + 1) % 128))) res
    match r.2 with
    | some d =>
      let s := r.1.txFrame o d stomped
      if s.rd (Reg.RING.PASS_LAT.MAX_NS p) < res / 1000 then s.wr (Reg.RING.PASS_LAT.MAX_NS p) (min 65535 (res / 1000)) else s
    | none => r.1

/-- Whether the profile drops a tagged frame's PTP message (R240). -/
def State.profileDrops (s : State) (p : Nat) (d : List Byte) : Bool :=
  match ptpFind d 20 (s.station p) with
  | some m => s.ptpOver p m.via && beAt d (m.msg + 1) 1 % 16 == 2 && ptpFate (s.flag Reg.TIME.TIME_CTRL.PROFILE) (beAt d m.msg 1 % 16) == 2
  | none => false

/-- The rows of R321 for a tagged frame: whether it is forwarded, whether it is taken locally, and the counters. -/
def State.ringRow (s : State) (p : Nat) (d : List Byte) : Bool × Bool × List Fld :=
  let da := beAt d 0 6
  if beAt d 14 1 ≠ s.rd (Reg.RING.TAG_CFG.RING_ID p) then (true, false, [Reg.RING.CNT_FOREIGN_RING.COUNT p])
  else if max 2 (s.rd (Reg.RING.FRAME_CFG.HOP_LIMIT p)) ≤ beAt d 16 1 % 128 + 1 then (false, false, [Reg.RING.CNT_HOP_DROP.COUNT p])
  else if beAt d 6 6 = s.station p then (false, false, [Reg.RING.CNT_STRIPPED.COUNT p])
  else if da = s.station p then (false, true, [Reg.RING.CNT_LOCAL_RX.COUNT p])
  else if s.groupAddr p da then (true, true, [Reg.RING.CNT_LOCAL_RX.COUNT p, Reg.RING.CNT_PASSED.COUNT p])
  else (true, false, [Reg.RING.CNT_PASSED.COUNT p])

/-- RING_FRAME_RX (R316, R321 to R323): a frame of so many bytes before its FCS arrives on a port whose link is up; its FCS; whether an uncorrectable codeword cut it here; its residence time in ps; whether the transit buffer is full. -/
def State.ringRx (s : State) (p : Nat) (data : List Byte) (fcs : Fcs) (cut : Bool) (res : Nat) (full : Bool) : State :=
  if decide (2 ≤ p) || !s.linkUp p || decide (data.length < 20) then s
  else
    let s := s.inc (Reg.RING.CNT_RX_FRAMES.COUNT p)
    if beAt data 12 2 = 0x8808 then s.inc (Reg.RING.CNT_PAUSE_DROP.COUNT p)
    else
      let tooLong := decide (9212 < data.length)
      let d := data.take 9212
      let s :=
        if tooLong then s.inc (Reg.RING.CNT_OVERSIZE.COUNT p)
        else if cut then (s.countEvt (Reg.RING.CNT_FEC_UNCORR.COUNT p) (ringPg p) 2).diagCount p fun x => { x with fec := x.fec + 1 }
        else match fcs with
          | .ok => s
          | .bad => (s.countEvt (Reg.RING.CNT_FCS_ERR.COUNT p) (ringPg p) 3).diagCount p fun x => { x with fcs := x.fcs + 1 }
          | .stomped => s.inc (Reg.RING.CNT_STOMPED_RX.COUNT p)
      let good := !tooLong && !cut && fcs == .ok
      if beAt d 12 2 ≠ s.rd (Reg.RING.TAG_CFG.ETHERTYPE p) then
        let s := s.inc (Reg.RING.CNT_UNTAGGED.COUNT p)
        if good then s.localRx ⟨p, d, false, false, s.now⟩ else s
      else
        let row := s.ringRow p d
        let s := if good ∧ beAt d 14 1 = s.rd (Reg.RING.TAG_CFG.RING_ID p) then s.rseqSeen p (beAt d 6 6) (beAt d 17 2) else s
        let s := row.2.2.foldl State.inc s
        let s := if row.2.2 = [Reg.RING.CNT_HOP_DROP.COUNT p] then s.evt (ringPg p) 4 else s
        let drop := s.profileDrops p d
        let s := if row.1 then s.forward p d (!good) full res else s
        if row.2.1 && good && !(row.1 && drop) then
          let s := if bitOf (beAt d 19 1) 1 then s.inc Reg.PATH.CNT_NOTICE_RX.COUNT else s
          s.localRx ⟨p, d, true, row.1, s.now⟩
        else s

end Sys2Proof.Machine
end

