-- ==== Sys2Proof/Machine/Parser.lean ====
section
/-! DEFINITION. The frame parser and the classifier (chapter 13): the walk through the parse graph, the key and the rules, actions and port defaults, the punt queue, the reorder buffer and the dispatch to executors. -/
namespace Sys2Proof.Machine

/-- A change of the parser. -/
def State.modParser (s : State) (f : ParserSt → ParserSt) : State := { s with parser := f s.parser }

/-- A field of a live node or rule (R349, R357). -/
def State.lv (s : State) (f : Fld) : Nat := getBits (tabGet s.live (resetWord f.off) f.off) f.lo f.len

/-- The reasons of R350. -/
def whyNoMatch : Nat := 1
/-- R350. -/
def whyDepth : Nat := 2
/-- R350. -/
def whyWindow : Nat := 3
/-- R350. -/
def whyLength : Nat := 4
/-- R350. -/
def whyUnknown : Nat := 5
/-- R350. -/
def whyGen : Nat := 6
/-- R350. -/
def whyTruncated : Nat := 7
/-- R350. -/
def whyBadAction : Nat := 8

/-- A pass of the parser (R345): the reason it ended with, 0 for success, its last node, its visits, its position, END, and the key slots. -/
structure Walk where
  reason : Nat
  node   : Nat
  visits : Nat
  pos    : Nat
  stop   : Nat
  slots  : List Nat
deriving DecidableEq, Repr

/-- The reason for which a field of n bytes at a frame offset cannot be read (R347), 0 where it can. -/
def fieldFault (start len stop at' n : Nat) : Nat :=
  if start + 192 < at' + n then whyWindow else if len < at' + n then whyTruncated else if stop < at' + n then whyLength else 0

/-- The first reason other than 0. -/
def firstFault (l : List Nat) : Nat := (l.find? (· != 0)).getD 0

/-- The bits of a mask's lowest set bit (R346). -/
def maskShift (m : Nat) : Nat := (lowestOne 16 m).getD 0

/-- The words that an extract of bytes fills (R346): from bit 31 downward, the rest of the last word 0. -/
def extractWords : Nat → List Byte → List Nat
  | 0, _ => []
  | _, [] => []
  | f + 1, a :: r => beVal (bytesAt (a :: r) 0 4) :: extractWords f ((a :: r).drop 4)

/-- The key slots with words written from a slot on. -/
def putSlots (slots : List Nat) (k : Nat) (ws : List Nat) : List Nat :=
  (List.range 8).map fun i => if k ≤ i ∧ i < k + ws.length then ws.getD (i - k) 0 else slots.getD i 0

/-- The advance of a node (R346). -/
def State.advance (s : State) (d : List Byte) (n pos : Nat) : Nat :=
  if s.lv (Reg.NODE.ADV.MODE n) = 0 then s.lv (Reg.NODE.ADV.CONST n)
  else
    let w := s.lv (Reg.NODE.ADV_FIELD.WIDTH n) + 1
    let m := s.lv (Reg.NODE.ADV_FIELD.MASK n)
    (beAt d (pos + s.lv (Reg.NODE.ADV_FIELD.OFFSET n)) w &&& m) / 2 ^ maskShift m * s.lv (Reg.NODE.ADV.SCALE n) + s.lv (Reg.NODE.ADV.CONST n)

/-- The next node that a masked select value leads to (R346, R347). -/
def State.nextNode (s : State) (n v : Nat) : Nat :=
  match (List.range 8).find? fun k => s.lv (Reg.NODE.TRANS_NEXT.VALID n k) == 1 && s.lv (Reg.NODE.TRANS_VAL.VALUE n k) == v with
  | some k => s.lv (Reg.NODE.TRANS_NEXT.NEXT n k)
  | none => s.lv (Reg.NODE.DEFAULT.NEXT n)

/-- Visits of a pass (R347) from node n, at most fuel of them, over a frame d with its pass start. -/
def State.visit (s : State) (d : List Byte) (start : Nat) : Nat → Nat → Walk → Walk
  | 0, n, w => { w with reason := whyDepth, node := n }
  | fuel + 1, n, w =>
    if n = 62 then w
    else if 48 ≤ n then { w with reason := whyUnknown }
    else
      let w := { w with visits := w.visits + 1, node := n }
      let fail (r : Nat) : Walk := { w with reason := r }
      if 10 < w.visits then fail whyDepth
      else if s.lv (Reg.NODE.NODE_CTRL.VALID n) = 0 then fail whyUnknown
      else
        let lenOn := s.lv (Reg.NODE.LEN.EN n) == 1
        let extOn := s.lv (Reg.NODE.EXT.EN n) == 1
        let advOn := s.lv (Reg.NODE.ADV.MODE n) == 1
        let selW := s.lv (Reg.NODE.SEL.WIDTH n) + 1
        let selA := w.pos + s.lv (Reg.NODE.SEL.OFFSET n)
        let lenA := w.pos + s.lv (Reg.NODE.LEN.OFFSET n)
        let extA := w.pos + s.lv (Reg.NODE.EXT.OFFSET n)
        let extN := s.lv (Reg.NODE.EXT.LEN n)
        let chk := fieldFault start d.length w.stop
        let f := firstFault [chk selA selW, if lenOn then chk lenA 2 else 0, if extOn then chk extA extN else 0,
          if advOn then chk (w.pos + s.lv (Reg.NODE.ADV_FIELD.OFFSET n)) (s.lv (Reg.NODE.ADV_FIELD.WIDTH n) + 1) else 0]
        if f ≠ 0 then fail f
        else
          let dend := w.pos + (beAt d lenA 2 &&& s.lv (Reg.NODE.LEN_MASK.MASK n)) * s.lv (Reg.NODE.LEN.SCALE n) + s.lv (Reg.NODE.LEN.CONST n)
          if lenOn && (decide (w.stop < dend) || (s.lv (Reg.NODE.LEN.EXACT n) == 1 && dend != w.stop)) then fail whyLength
          else
            let stop := if lenOn then dend else w.stop
            let a := s.advance d n w.pos
            if a < s.lv (Reg.NODE.ADV.MIN n) ∨ stop < w.pos + a then { w with reason := whyLength, stop := stop }
            else
              let v := beAt d selA selW &&& s.lv (Reg.NODE.SEL_MASK.MASK n)
              let slots := if s.lv (Reg.NODE.SEL.SLOT n) < 8 then putSlots w.slots (s.lv (Reg.NODE.SEL.SLOT n)) [v] else w.slots
              let slots := if extOn then putSlots slots (s.lv (Reg.NODE.EXT.SLOT n)) (extractWords 4 (bytesAt d extA extN)) else slots
              s.visit d start fuel (s.nextNode n v) { w with pos := w.pos + a, stop := stop, slots := slots }

/-- A pass (R345) from a node with its pass start and its END; 48 to 63 name no node to begin at. -/
def State.pass (s : State) (d : List Byte) (node start stop : Nat) : Walk :=
  let w : Walk := ⟨0, node, 0, start, stop, List.replicate 8 0⟩
  if 48 ≤ node then { w with reason := whyUnknown } else s.visit d start 12 node w

/-- The 320-bit key (R353). -/
def State.keyOf (s : State) (f : RxFrame) (w : Walk) (second active : Bool) : Nat :=
  let da := beAt f.data 0 6
  let bit (b : Bool) (n : Nat) : Nat := b2n b * 2 ^ n
  let meta' := w.node + f.port * 2 ^ 6 + bit second 7 + bit f.tagged 8 + bit active 9 + bit (da == s.station f.port) 10 +
    bit (s.groupAddr f.port da) 11 + bit (f.tagged && bitOf (beAt f.data 19 1) 1) 12 +
    (if f.tagged then beAt f.data 14 1 else 0) * 2 ^ 16 + w.visits * 2 ^ 24 + f.data.length % 2 ^ 14 * 2 ^ 32
  w.slots.foldr (fun x acc => x + 2 ^ 32 * acc) 0 * 2 ^ 64 + meta'

/-- A live rule matches a key (R354). -/
def State.ruleHits (s : State) (key i : Nat) : Bool :=
  (List.range 10).all fun w => ((bitsOf key (32 * w) 32 ^^^ s.lv (Reg.RULE.VALUE.BITS i w)) &&& s.lv (Reg.RULE.MASK.BITS i w)) == 0

/-- The valid rules in rising order (R354). -/
def State.validRules (s : State) : List Nat :=
  s.live.filterMap fun e =>
    if 0x640000 ≤ e.1 ∧ e.1 < 0x660000 ∧ e.1 % 128 = 0x7C ∧ getBits e.2 0 1 = 1 then some ((e.1 - 0x640000) / 128) else none

/-- A lookup (R354): the lowest matching rule with its action word. -/
def State.lookup (s : State) (key : Nat) : Option (Nat × Nat) :=
  (s.validRules.find? (s.ruleHits key)).map fun i => (i, s.lv ⟨0x640050 + 0x80 * i, 0, 32⟩)

/-- A hit counted (R354). -/
def State.hit (s : State) (r : Nat × Nat) : State :=
  if bitOf r.2 4 then s.wr64 (0x640060 + 0x80 * r.1) (min (s.rd64 (0x640060 + 0x80 * r.1) + 1) (2 ^ 64 - 1)) else s

/-- KIND of an action word (R355). -/
def kindOf (w : Nat) : Nat := w % 8

/-- The reason of a lookup's outcome (R350, R355). -/
def ruleReason (second : Bool) : Option (Nat × Nat) → Nat
  | none => whyNoMatch
  | some r =>
    if kindOf r.2 = 7 ∨ (second = true ∧ (kindOf r.2 = 2 ∨ kindOf r.2 = 5)) then whyBadAction
    else if kindOf r.2 = 6 then whyNoMatch else 0

/-- The bytes of a punt entry (R384). -/
def puntEntry (port reason rule gen flags len stored t : Nat) : List Byte :=
  leBytes 1 port ++ leBytes 1 reason ++ leBytes 2 rule ++ leBytes 2 gen ++ leBytes 1 flags ++ leBytes 1 0 ++ leBytes 2 len ++ leBytes 2 stored ++
    leBytes 4 0 ++ stamp t ++ leBytes 6 0

/-- A frame enters the punt queue, or is counted where the queue is full, disabled or cannot be written (R360, R384). -/
def State.punt (s : State) (f : RxFrame) (reason rule gen : Nat) (mirror : Bool) (data : List Byte) : State :=
  let n := 2 ^ s.rd Reg.CMD.PQ_CFG.LOG2
  let tail := s.rd Reg.CMD.PQ_STATUS.TAIL
  let sd := s.flag Reg.CMD.PQ_CFG.LOCATION
  if !s.flag Reg.CMD.PQ_CFG.ENABLE || (tail + 1) % n == s.hq.pqHead % n || (sd && !s.sdOnline) || (!sd && s.pcie.d3) then
    s.countEvt Reg.PARSER.CNT_PUNT_FULL.COUNT parserPg 5
  else
    let size := 256 * s.rd Reg.CMD.PQ_CFG.BUF_SIZE
    let kept := data.take size
    let flags := b2n s.hq.pqPh + 2 * b2n mirror + 4 * b2n (decide (size < data.length))
    let s := s.qWrite sd (s.rd64 0xE328 + tail * size) kept
    let s := s.qWrite sd (s.rd64 0xE320 + 32 * tail) (puntEntry f.port reason rule gen flags data.length kept.length f.time)
    let s := s.wr Reg.CMD.PQ_STATUS.TAIL ((tail + 1) % n)
    let s := { s with hq := { s.hq with pqPh := if tail + 1 = n then !s.hq.pqPh else s.hq.pqPh } }
    s.msix (s.rd Reg.CMD.PQ_CFG.VECTOR)

/-- The bytes that an action on a looked-up frame carries (R358). -/
def Looked.bytes (l : Looked) : List Byte := if l.second then (l.frame.data.take l.stop).drop l.strip else l.frame.data

/-- The copy of MIRROR (R355), reason 0. -/
def State.mirrorCopy (s : State) (l : Looked) : State :=
  match l.rule with
  | some r =>
    if bitOf r.2 3 && kindOf r.2 != 4 && l.reason != whyBadAction && l.reason != whyGen then
      (s.inc Reg.PARSER.CNT_MIRROR.COUNT).punt l.frame 0 r.1 l.genNow true l.bytes
    else s
  | none => s

/-- A frame whose pass and lookup are over waits for its action, or for its second pass (R355, R358). -/
def State.looked (s : State) (l : Looked) : State :=
  match l.rule with
  | some r =>
    if l.reason = 0 ∧ kindOf r.2 = 5 then
      ((s.inc Reg.PARSER.CNT_RECIRC.COUNT).mirrorCopy l).modParser fun p => { p with again := p.again ++ [l] }
    else s.modParser fun p => { p with acts := p.acts ++ [l] }
  | none => s.modParser fun p => { p with acts := p.acts ++ [l] }

/-- PARSE_FIRST_PASS (R345, R347, R353 to R355): the head of a port's input queue, unless all 256 reorder entries are in flight (R361). -/
def State.firstPass (s : State) (port : Nat) : State :=
  if decide (2 ≤ port) || decide (256 ≤ s.parser.rob.length) then s
  else
    match s.inQueue port with
    | [] => s
    | f :: rest =>
      let s := s.setInQueue port rest
      let gen := s.rd Reg.PARSER.RULE_GEN.GEN
      let act := s.engState port == 3
      let w := s.pass f.data (s.rd Reg.PARSER.PARSE_CFG.START_NODE) 0 f.data.length
      if w.reason ≠ 0 then s.looked ⟨f, false, 0, w.stop, w.reason, none, gen, gen, act, w.node⟩
      else
        let r := s.lookup (s.keyOf f w false act)
        let s := match r with | some x => s.hit x | none => s
        s.looked ⟨f, false, w.pos, w.stop, ruleReason false r, r, gen, gen, act, w.node⟩

/-- PARSE_SECOND_PASS (R358, R359): the oldest recirculated frame from its strip point. -/
def State.secondPass (s : State) : State :=
  match s.parser.again with
  | [] => s
  | l :: rest =>
    let s := s.modParser fun p => { p with again := rest }
    let f := l.frame
    let gen := s.rd Reg.PARSER.RULE_GEN.GEN
    let act := s.engState f.port == 3
    let node := match l.rule with | some r => r.2 / 2 ^ 24 % 64 | none => 63
    let w := s.pass f.data node l.strip l.stop
    if w.reason ≠ 0 then s.looked ⟨f, true, l.strip, w.stop, w.reason, none, l.gen, gen, act, w.node⟩
    else if s.flag Reg.PARSER.PARSE_CFG.RECIRC_GEN_CHECK && gen != l.gen then
      s.looked ⟨f, true, l.strip, w.stop, whyGen, none, l.gen, gen, act, w.node⟩
    else
      let r := s.lookup (s.keyOf f w true act)
      let s := match r with | some x => s.hit x | none => s
      s.looked ⟨f, true, l.strip, w.stop, ruleReason true r, r, l.gen, gen, act, w.node⟩

/-- FORWARD (R356): a tagged frame not yet forwarded goes out of the other port with HOPS increased by 1. -/
def State.forwardOut (s : State) (f : RxFrame) : State :=
  if !f.tagged || f.fwd then s.inc Reg.PARSER.CNT_FORWARD_REFUSED.COUNT
  else
    let h := beAt f.data 16 1
    (s.inc Reg.PARSER.CNT_FORWARD.COUNT).txLocal (1 - f.port) (overlay f.data 16 (beBytes 1 (h / 128 * 128 + (h + 1) % 128)))

/-- The port default action (R351, R352). -/
def State.portDefault (s : State) (l : Looked) : State :=
  let s := s.inc Reg.PARSER.CNT_DEFAULT.COUNT
  let s := s.inc ⟨0xF140 + 4 * l.reason, 0, 32⟩
  let s := (s.wr Reg.PARSER.LAST_DEFAULT.REASON l.reason).wr Reg.PARSER.LAST_DEFAULT.PORT l.frame.port
  let s := (s.put Reg.PARSER.LAST_DEFAULT.PASS l.second).wr Reg.PARSER.LAST_DEFAULT.NODE l.node
  let s := s.evt parserPg (if l.reason = whyNoMatch then 1 else 0)
  let s := if l.reason = whyGen then s.evt parserPg 2 else s
  match s.rd (Reg.PARSER.PORT_DEFAULT.ACTION l.frame.port) with
  | 1 => s.punt l.frame l.reason 0xFFFF l.genNow false l.frame.data
  | 2 => s.forwardOut l.frame
  | _ => s

/-- A PTP timestamp field (6 bytes of seconds, 4 of nanoseconds) in ps. -/
def ptpTime (d : List Byte) (p : Nat) : Nat := (beAt d p 6 * 10 ^ 9 + beAt d (p + 6) 4) * 1000

/-- The PTP action (R240, R355): the message goes to the ordinary clock; Signaling and Management are copied to the punt queue. -/
def State.ptpAction (s : State) (f : RxFrame) (rule gen : Nat) : State :=
  match ptpFind f.data (if f.tagged then 20 else 12) (s.station f.port) with
  | none => s
  | some m =>
    let d := f.data.drop m.msg
    if !s.ptpOver f.port m.via || beAt d 1 1 % 16 != 2 then s
    else if ptpFate (s.flag Reg.TIME.TIME_CTRL.PROFILE) (beAt d 0 1 % 16) = 2 then s.profileDrop f.port m.via
    else
      let corr := sgn 64 (beAt d 8 8)
      let dom := beAt d 4 1
      match beAt d 0 1 % 16 with
      | 0 => s.ptpSync f.port m.via (beAt d 20 8) dom (ptpTime d 34) (f.time / ps) corr (sgn 8 (beAt d 33 1)) (bitOf (beAt d 6 1) 1)
      | 2 => s.pdelayReq f.port m.via corr ((s.now - f.time) / ps)
      | 8 => if s.time.gm = some (beAt d 20 8) then s.ptpFollowUp f.port m.via (beAt d 20 8) dom (ptpTime d 34) corr else s
      | 9 => if beAt d 44 8 = s.unit.unitId ∧ beAt d 52 2 = f.port + 1 then s.delayResp f.port m.via dom (ptpTime d 34) corr else s
      | 11 => s.ptpAnnounce f.port m.via dom (beAt d 53 8) [beAt d 47 1, beAt d 48 1, beAt d 49 1, beAt d 50 2, beAt d 52 1]
      | 12 => s.punt f 0 rule gen false f.data
      | 13 => s.punt f 0 rule gen false f.data
      | _ => s

/-- A CTL halt stops the executors (R272, R385). -/
def State.ctlHalt (s : State) : Bool := s.rd (Reg.HDR.PG_STATE.STATE cmdPg) == 5

/-- The entries whose work waits for an executor (R361). -/
def State.waitingWork (s : State) : List Entry := s.parser.rob.filter fun e => e.exec.isNone && !e.fin

/-- A reorder entry taken (R361). -/
def State.takeEntry (s : State) (w : Work) : State :=
  s.modParser fun p => { p with rob := p.rob ++ [⟨p.nextNo, w, none, false, none, 0⟩], nextNo := (p.nextNo + 1) % 256 }

/-- The EXEC action (R326, R337, R361, R385). -/
def State.execAction (s : State) (l : Looked) (auth : Bool) : State :=
  if s.path.copy && !l.active then s.inc Reg.PATH.CNT_STANDBY_IGNORED.COUNT
  else if s.ctlHalt then s.inc Reg.CMD.CNT_HALT_DROP.COUNT
  else if !s.flag (Reg.HDR.PG_CTRL.ENABLE pathPg) then s
  else (s.inc Reg.PARSER.CNT_EXEC.COUNT).takeEntry (.frame l.frame l.bytes auth)

/-- A looked-up frame's action (R351, R355). -/
def State.actOn (s : State) (l : Looked) : State :=
  let s := s.mirrorCopy l
  match l.rule with
  | some r =>
    if l.reason ≠ 0 then s.portDefault l
    else
      match kindOf r.2 with
      | 0 => s.inc Reg.PARSER.CNT_DROP.COUNT
      | 1 => s.execAction l (bitOf r.2 5)
      | 2 => (s.inc Reg.PARSER.CNT_PTP.COUNT).ptpAction l.frame r.1 l.genNow
      | 3 => s.forwardOut l.frame
      | 4 => (s.inc Reg.PARSER.CNT_PUNT.COUNT).punt l.frame (0x80 + r.2 / 2 ^ 16 % 128) r.1 l.genNow false l.bytes
      | _ => s
  | none => s.portDefault l

/-- FRAME_ACTION (R344, R355, R361): the oldest frame that waits for its action; an EXEC waits while 64 frames wait for an executor or every entry is in flight. -/
def State.frameAction (s : State) : State :=
  match s.parser.acts with
  | [] => s
  | l :: rest =>
    let isExec := l.reason == 0 && (match l.rule with | some r => kindOf r.2 == 1 | none => false)
    if isExec && (decide (64 ≤ s.waitingWork.length) || decide (256 ≤ s.parser.rob.length)) then s
    else (s.modParser fun p => { p with acts := rest }).actOn l

/-- The frames that executor x holds (R361): its work and its waiting one. -/
def State.heldBy (s : State) (x : Nat) : List Entry := s.parser.rob.filter fun e => e.exec == some x && !e.fin

/-- The executor that takes the next frame (R361): after the one last used, enabled, with a free place. -/
def State.nextExec (s : State) : Option Nat :=
  ((List.range 8).map fun k => (s.parser.lastX + 1 + k) % 8).find? fun x =>
    bitOf (s.rd Reg.PARSER.PARSE_CFG.EXEC_EN) x && decide ((s.heldBy x).length < 2)

/-- A reorder entry changed. -/
def State.modEntry (s : State) (no : Nat) (f : Entry → Entry) : State :=
  s.modParser fun p => { p with rob := p.rob.map fun e => if e.no = no then f e else e }

/-- The oldest waiting work goes to an executor (R361). -/
def State.dispatchOne (s : State) : State :=
  if s.ctlHalt then s
  else
    match s.waitingWork, s.nextExec with
    | e :: _, some x => (s.modEntry e.no fun e => { e with exec := some x, at' := s.up }).modParser fun p => { p with lastX := x }
    | _, _ => s

/-- EXEC_TIMEOUT (R362): the frame in work at an executor, unfinished 20 µs after its dispatch, is given up, and its entry commits as ERROR. -/
def State.execTimeout (s : State) (x : Nat) : State :=
  match s.heldBy x with
  | [] => s
  | e :: _ =>
    if s.up < e.at' + 20 * us then s
    else
      let s := s.modEntry e.no fun e => { e with fin := true, res := some (.given 0x0B) }
      let s := (s.wr Reg.PARSER.LAST_TIMEOUT.EXEC x).wr Reg.PARSER.LAST_TIMEOUT.ENTRY e.no
      (s.countEvt Reg.PARSER.CNT_EXEC_TIMEOUT.COUNT parserPg 3).raise 38 x

/-- The parser stopped with ABORT (R363): frames in queues and passes are discarded and counted, frames that wait for an executor commit as ABORTED. -/
def State.parserAbort (s : State) : State :=
  let p := s.parser
  let s := s.add Reg.PARSER.CNT_DISABLED_DROP.COUNT (p.inA.length + p.inB.length + p.again.length + p.acts.length)
  s.modParser fun p => { p with inA := [], inB := [], again := [], acts := [], rob := p.rob.map fun e =>
    match e.work with
    | .frame _ _ _ => if e.exec.isNone && !e.fin then { e with fin := true, res := some (.given 0x0C) } else e
    | .sq _ => e }

/-- The parser has nothing in flight but what executors hold (R363). -/
def State.parserIdle (s : State) : Bool :=
  let p := s.parser
  p.inA.isEmpty && p.inB.isEmpty && p.again.isEmpty && p.acts.isEmpty && p.rob.all fun e =>
    match e.work with
    | .frame _ _ _ => false
    | .sq _ => true

/-- Words of a window copied from the shadow into the live copy (R349, R357). -/
def State.commitWords (s : State) (base n : Nat) : State :=
  (List.range n).foldl (fun s k => { s with live := tabPut s.live (resetWord (base + 4 * k)) (base + 4 * k) (s.rdW (base + 4 * k)) }) s

/-- VALID of a node or rule, live and as read. -/
def State.setLiveValid (s : State) (off : Nat) (v : Bool) : State :=
  { s.put ⟨off, 0, 1⟩ v with live := tabPut s.live (resetWord off) off (BitVec.ofNat 32 (b2n v)) }

/-- NODE_COMMIT (R348, R349): a node whose extract runs past slot 7 is refused and not valid. -/
def State.nodeCommit (s : State) (n : Nat) (v : Bool) : State :=
  if 48 ≤ n then s
  else
    let off := 0x62007C + 0x80 * n
    if s.flag (Reg.NODE.EXT.EN n) && decide (8 < s.rd (Reg.NODE.EXT.SLOT n) + divUp (s.rd (Reg.NODE.EXT.LEN n)) 4) then
      (s.setLiveValid off false).err parserPg 0xFFF
    else (s.commitWords (0x620000 + 0x80 * n) 31).setLiveValid off v

/-- RULE_COMMIT (R357). -/
def State.ruleCommit (s : State) (i : Nat) (v : Bool) : State :=
  if 1024 ≤ i then s else (s.commitWords (0x640000 + 0x80 * i) 21).setLiveValid (0x64007C + 0x80 * i) v

/-- HITS_CLR (R354). -/
def State.hitsClear (s : State) (i : Nat) : State := if 1024 ≤ i then s else s.wr64 (0x640060 + 0x80 * i) 0

end Sys2Proof.Machine
end

