-- ==== Sys2Proof/Machine/View.lean ====
section
/-! DEFINITION. What a register read returns: the stored word, with the fields that the hardware works out from its state, the common header (R433, R412), and the words of a page or window whose domain is not ON (R413). -/
namespace Sys2Proof.Machine

/-- The code of a global state (R24). -/
def devCode : DevState → Nat
  | .off => 0 | .boot => 1 | .hold => 2 | .armed => 3 | .run => 4 | .safe => 5 | .halt => 6

/-- A word with fields replaced. -/
def patch (w : Word) (l : List (Fld × Nat)) : Word := l.foldl (fun w p => putBits w p.1.lo p.1.len p.2) w

/-- The base of page i of the page directory (R437). -/
def dirPages : List Nat := pageInfos.flatMap fun p => (List.range p.count).map fun i => p.base + 0x1000 * i

/-- The instance number of a page (R433, R438). -/
def pageInst (p : PageInfo) (pg : Nat) : Nat := (pg - p.base) / 0x1000

/-- An entry of the page directory (R437). -/
def dirEntry (i : Nat) : Word :=
  match dirPages[i]? with
  | none => 0
  | some pg =>
    match pageOf pg with
    | none => 0
    | some p => BitVec.ofNat 32 (pg / 0x1000 + p.type * 2 ^ 12 + pageInst p pg * 2 ^ 20 + 2 ^ 31)

/-- VDD_IO is in tolerance, so that READY and FAULT_N can be driven (R409). -/
def State.ioOn (s : State) : Bool := getBits (s.rdW 0x2040) 7 1 == 1

/-- READY is driven high (R422). -/
def State.ready (s : State) : Bool := s.dev == .run && s.ioOn

/-- FAULT_N is driven low (R402). -/
def State.faultN (s : State) : Bool := (s.dev == .safe || s.dev == .halt) && s.ioOn

/-- The present partitions of SDRAM_MAP (R448): base and end in MiB. -/
def State.present (s : State) : List (Nat × Nat) :=
  (List.range 6).filterMap fun p =>
    let b := s.rd (Reg.DEVICE.SDRAM_MAP_BASE.MB p)
    let n := s.rd (Reg.DEVICE.SDRAM_MAP_SIZE.MB p)
    if n = 0 then none else some (b, b + n)

/-- Whether two ranges of a list overlap. -/
def overlaps : List (Nat × Nat) → Bool
  | [] => false
  | a :: r => r.any (fun b => decide (a.1 < b.2) && decide (b.1 < a.2)) || overlaps r

/-- Two present partitions overlap (R448). -/
def State.mapOverlap (s : State) : Bool := overlaps s.present

/-- A present partition ends beyond 4 × CAP (R448). -/
def State.mapBeyond (s : State) : Bool := s.present.any fun a => decide (4 * s.sdCapGib * 1024 < a.2)

/-- MAP_STATUS (R450). -/
def State.mapStatus (s : State) : List (Fld × Nat) :=
  [(Reg.DEVICE.MAP_STATUS.VALID, b2n (!s.mapOverlap && !s.mapBeyond)), (Reg.DEVICE.MAP_STATUS.OVERLAP, b2n s.mapOverlap),
   (Reg.DEVICE.MAP_STATUS.BEYOND, b2n s.mapBeyond), (Reg.DEVICE.MAP_STATUS.TOTAL_GIB, 4 * s.sdCapGib)]

/-- A page has a PEND bit set (R435). -/
def State.pagePend (s : State) (pg : Nat) : Bool := s.pageOn pg && s.pend pg != 0

/-- INT_N is driven low (R439): with INTN_EN, while a page has an event pending, or, with INTN_SRC, while PG_EVT_RAW.FAULT of SUMP is set. -/
def State.intN (s : State) : Bool :=
  s.dev != .off && s.ioOn && s.flag Reg.PCIE.IRQ_CFG.INTN_EN &&
    (if s.flag Reg.PCIE.IRQ_CFG.INTN_SRC then bitOf (s.rdW 0x7010).toNat 3 else dirPages.any s.pagePend)

/-- PG_PWR of a page (R412). -/
def State.pwrWord (s : State) (pg : Nat) : Word :=
  match domOfPage pg with
  | none => BitVec.ofNat 32 (1 + 2 * 2 ^ 8 + 0xFF * 2 ^ 16)
  | some d =>
    let x := s.domain d
    BitVec.ofNat 32 (b2n x.on + x.pstate * 2 ^ 8 + b2n x.refused * 2 ^ 12 + d * 2 ^ 16)

/-- PG_ID of a page (R433). -/
def idWord (p : PageInfo) (pg : Nat) : Word := BitVec.ofNat 32 (p.type + pageInst p pg * 2 ^ 8 + 2 ^ 16)

/-- PG_CAPS of a page (R433). -/
def capsWord (p : PageInfo) : Word :=
  BitVec.ofNat 32 (b2n p.commit + 2 * b2n p.dom.isSome + 4 * b2n p.lock + 8 * b2n p.enActs + p.evtBits * 2 ^ 8)

/-- A word of the common header of a page whose domain is ON (R433). -/
def State.headerWord (s : State) (p : PageInfo) (pg rel : Nat) : Word :=
  match rel with
  | 0x00 => idWord p pg
  | 0x04 => capsWord p
  | 0x08 => s.rdW (pg + 8) &&& 3
  | 0x0C => if p.enActs then s.rdW (pg + 0x0C) else 2
  | 0x10 => s.rdW (pg + 0x10)
  | 0x14 => s.rdW (pg + 0x14)
  | 0x18 => s.pend pg
  | 0x20 => s.rdW (pg + 0x20) &&& 0x0FFFFFFF
  | 0x24 => if p.lock then s.rdW (pg + 0x24) &&& 0x10000 else 0
  | 0x2C => s.pwrWord pg
  | _ => 0

/-- The computed fields of the DEVICE page (R450). -/
def State.viewDevice (s : State) (rel : Nat) : List (Fld × Nat) :=
  if rel = 0x40 then [(Reg.DEVICE.PART.ES, s.unit.es), (Reg.DEVICE.PART.STEPPING, s.unit.stepping)]
  else if rel = 0x44 then [(⟨0x44, 0, 32⟩, s.unit.unitId % 2 ^ 32)]
  else if rel = 0x48 then [(⟨0x48, 0, 32⟩, s.unit.unitId / 2 ^ 32)]
  else if rel = 0x4C then
    [(Reg.DEVICE.STATUS.DEV_STATE, devCode s.dev), (Reg.DEVICE.STATUS.SDRAM_ONLINE, b2n s.sdOnline), (Reg.DEVICE.STATUS.PCIE_UP, b2n s.pcie.up),
     (Reg.DEVICE.STATUS.READY, b2n s.ready), (Reg.DEVICE.STATUS.FAULT, b2n s.faultN)]
  else if 0x60 ≤ rel ∧ rel < 0x80 then
    let i := (rel - 0x60) / 4
    [(⟨0, 0, 32⟩, ofOnes ((List.range 32).filter fun b => match dirPages[32 * i + b]? with | some pg => s.pagePend pg | none => false))]
  else if rel = 0xB0 then s.mapStatus
  else if 0x800 ≤ rel ∧ rel < 0xBB0 then [(⟨0, 0, 32⟩, (dirEntry ((rel - 0x800) / 4)).toNat)]
  else []

/-- The computed fields of the CLOCK page: the reference monitor measures inputs that no command gives, so it reads a free value (R451). -/
def State.viewClock (s : State) (rel : Nat) : List (Fld × Nat) :=
  if rel = 0x44 then
    let w := Config.freeWord s.freeCtr 0x1044
    [(Reg.CLOCK.REF_MON.PPM, getBits w 0 16), (Reg.CLOCK.REF_MON.VALID, getBits w 31 1)]
  else []

/-- The computed fields of the POWER page (R424). -/
def State.viewPower (s : State) (rel : Nat) : List (Fld × Nat) :=
  if 0x80 ≤ rel ∧ rel < 0x9C then
    [(⟨0, 0, 32⟩, ofOnes ((List.range 32).filter fun b => s.domOn (8 * (rel - 0x80) + b)))]
  else []

/-- The computed fields of THERMAL (R285). -/
def State.viewThermal (s : State) (rel : Nat) : List (Fld × Nat) :=
  if 0x800 ≤ rel ∧ rel < 0x800 + 4 * 120 then [(⟨0, 20, 1⟩, b2n (s.masked ((rel - 0x800) / 4)))] else []

/-- A power in mW, rounded down, in 16 bits. -/
def mwOf (p : Nat) : Nat := min 65535 (p / (100 * powUnit))

/-- A power in 0.1 mW, rounded down, in 16 bits. -/
def dmwOf (p : Nat) : Nat := min 65535 (p / (10 * powUnit))

/-- The computed fields of BUDGET (R287). -/
def State.viewBudget (s : State) (rel : Nat) : List (Fld × Nat) :=
  if rel = 0x40 then [(Reg.BUDGET.HTR_BUDGET.EFFECTIVE, s.effW10)]
  else if rel = 0x60 then [(Reg.BUDGET.HTR_TOTAL.ELEM_MW, mwOf s.elemTotal), (Reg.BUDGET.HTR_TOTAL.BALLAST_MW, mwOf s.ballastTotal)]
  else if rel = 0x64 then [(Reg.BUDGET.ACT_TOTAL.UNITS, min 65535 s.actTotal), (Reg.BUDGET.ACT_TOTAL.RESERVED_MW, mwOf s.reserved)]
  else if rel = 0x80 then
    [(Reg.BUDGET.JOB_STATUS.WAITING, s.gov.jobs.length), (Reg.BUDGET.JOB_STATUS.RUNNING, s.gov.runs.length),
     (Reg.BUDGET.JOB_STATUS.AGED, b2n (s.gov.agedAct.isSome || s.gov.agedHtr.isSome))]
  else if 0x800 ≤ rel ∧ rel < 0x900 then
    let z := (rel - 0x800) / 4
    [(Reg.BUDGET.ZONE_POWER.ELEM z, dmwOf (s.ezPow z)), (Reg.BUDGET.ZONE_POWER.BALLAST z, dmwOf (s.bzPow z))]
  else []

/-- The computed fields of SUMP (R403). -/
def State.viewSump (s : State) (rel : Nat) : List (Fld × Nat) :=
  if rel = 0x40 then [(Reg.SUMP.SUMP_STATUS.BLANKED, s.sump.blanked.length)] else []

/-- The computed fields of TIME (R262). -/
def State.viewTime (s : State) (rel : Nat) : List (Fld × Nat) :=
  let w (v : Nat) : List (Fld × Nat) := [(⟨0, 0, 32⟩, v)]
  match rel with
  | 0x44 => [(Reg.TIME.TIME_STATUS.SLEWING, b2n (divRound s.time.slew (2 ^ 40) != 0)), (Reg.TIME.TIME_STATUS.STEP_BLOCKED, b2n (!s.stepFree))]
  | 0x48 => w (nsOf s.now)
  | 0x4C => w (secOf s.now % 2 ^ 32)
  | 0x50 => w (secOf s.now / 2 ^ 32)
  | 0x54 => w (s.now % ns / 1000 / 256)
  | 0x74 => w (unsgn 48 s.timeInc % 2 ^ 32)
  | 0x78 => w (unsgn 48 s.timeInc / 2 ^ 32)
  | 0x84 => w (unsgn 32 (divRound s.time.slew (2 ^ 40)))
  | 0xCC => [(Reg.TIME.TS_STATUS.COUNT, s.time.tsq.length)]
  | _ => []

/-- The computed fields of GANTRY (R230). -/
def State.viewGantry (s : State) (rel : Nat) : List (Fld × Nat) :=
  match rel with
  | 0x6C => [(Reg.GANTRY.GRANULE_STATUS.TICK, s.granAcc / max 1 s.schedTick % 32)]
  | 0x70 => [(Reg.GANTRY.COMMIT_LEAD.IN_FORCE, s.leadG), (Reg.GANTRY.COMMIT_LEAD.MIN_BENCH, s.minBench)]
  | 0xA4 =>
    [(Reg.GANTRY.STREAM_STATUS.BUF_FILL, s.gan.sbuf.length), (Reg.GANTRY.STREAM_STATUS.BUF_SIZE, 8192 - s.gan.limit),
     (Reg.GANTRY.STREAM_STATUS.STALLED, b2n (s.gan.stall || s.bufStall))]
  | _ => []

/-- The computed fields of GANTRY_TRIG (R232): ASSERTED shows whether the output is active now. -/
def State.viewTrig (s : State) (rel : Nat) : List (Fld × Nat) :=
  if 0x40 ≤ rel ∧ rel < 0xC0 ∧ rel % 8 = 4 then
    [(Reg.GANTRY_TRIG.TRIGO_STAT.ASSERTED ((rel - 0x44) / 8), b2n (s.trigoActive ((rel - 0x44) / 8)))]
  else []

/-- The computed fields of SEAM (R73). -/
def State.viewSeam (s : State) (rel : Nat) : List (Fld × Nat) :=
  if rel = 0x60 then [(Reg.SEAM.PIN_COUNT.COUNT, popN 4352 s.pinMap)] else []

/-- The computed fields of CAPTURE (R153): THROTTLED shows the CTL zone at THROTTLE or above. -/
def State.viewCapture (s : State) (rel : Nat) : List (Fld × Nat) :=
  if rel = 0x44 then [(Reg.CAPTURE.CAP_STATUS.THROTTLED, b2n (decide (2 ≤ s.zoneLevel 3)))]
  else if rel = 0x48 then [(Reg.CAPTURE.RATE.BYTES_US, s.capRate)]
  else if 0x400 ≤ rel ∧ rel < 0x800 ∧ rel % 0x40 = 0x20 then
    let r := (rel - 0x400) / 0x40
    [(Reg.CAPTURE.RING_STATUS.RUNNING r, b2n (s.capRunning r))]
  else []

/-- The computed fields of CMD (R386). -/
def State.viewCmd (s : State) (rel : Nat) : List (Fld × Nat) :=
  if rel = 0x48 then [(Reg.CMD.REASM_STATUS.IN_USE_A, s.path.engA.reasm.length), (Reg.CMD.REASM_STATUS.IN_USE_B, s.path.engB.reasm.length)] else []

/-- The computed fields of PARSER (R364). -/
def State.viewParser (s : State) (rel : Nat) : List (Fld × Nat) :=
  if rel = 0x50 then [(Reg.PARSER.IN_STATUS.FILL_A, fillOf s.parser.inA), (Reg.PARSER.IN_STATUS.FILL_B, fillOf s.parser.inB)]
  else if rel = 0x54 then
    [(Reg.PARSER.EXEC_STATUS.IN_FLIGHT, s.parser.rob.length), (Reg.PARSER.EXEC_STATUS.WAITING, s.waitingWork.length),
     (Reg.PARSER.EXEC_STATUS.BUSY, ofOnes ((List.range 8).filter fun x => !(s.heldBy x).isEmpty))]
  else []

/-- The computed fields of a ring port (R340): TX_FFE reads the trained value where LT_EN is 1. -/
def State.viewRing (s : State) (p rel : Nat) : List (Fld × Nat) :=
  if (rel = 0xA0 ∨ rel = 0xA4) ∧ s.flag (Reg.RING.PORT_CFG.LT_EN p) = true then
    [(⟨0, 0, 32⟩, (BitVec.ofNat 32 (tabGet s.path.ffe 0 (2 * p + (rel - 0xA0) / 4)) &&& 0x3F3F3F).toNat)]
  else if rel = 0x44 ∧ s.linkUp p = true then
    [(Reg.RING.PORT_STATUS.TRANSIT_FILL p, (Config.freeWord s.freeCtr (0x10044 + p)).toNat % 1025)]
  else []

/-- The computed fields of PATH (R342). -/
def State.viewPath (s : State) (rel : Nat) : List (Fld × Nat) :=
  if rel = 0x48 then [(Reg.PATH.PATH_STATUS.ELIGIBLE, b2n (s.eligible 0) + 2 * b2n (s.eligible 1))]
  else if rel = 0x68 ∨ rel = 0x6C then [(⟨0, 0, 32⟩, s.healthyMs ((rel - 0x68) / 4))]
  else []

/-- The computed fields of PCIE (R452). -/
def State.viewPcie (s : State) (rel : Nat) : List (Fld × Nat) :=
  if rel = 0x40 then [(Reg.PCIE.LINK_STATUS.DL_UP, b2n s.pcie.up)] else []

/-- The computed fields of an SDRAM channel: the traffic of the last millisecond is a matter of timing, and reads a free value (R453). -/
def State.viewSdram (s : State) (c rel : Nat) : List (Fld × Nat) :=
  if rel = 0x70 then [(Reg.SDRAM.RATE.MB_MS c, getBits (Config.freeWord s.freeCtr (0x14070 + c)) 0 16)] else []

/-- The computed fields of a drive tile (R124, R115). -/
def State.viewDrive (s : State) (t rel : Nat) : List (Fld × Nat) :=
  if rel = 0x44 then
    [(Reg.DRIVE.TILE_STATUS.ELEMENTS_OFF t, b2n (s.tileAllOff t)), (Reg.DRIVE.TILE_STATUS.CIRCUITS t, b2n (s.tileCarries t)),
     (Reg.DRIVE.TILE_STATUS.RANGE_ACTIVE t, b2n (s.rangeCh t).isSome)]
  else if rel = 0x4C then [(Reg.DRIVE.RANGE_STATUS.BUSY t, b2n (s.rangeCh t).isSome)]
  else if rel = 0xB4 then [(Reg.DRIVE.RB_STATUS.HALF_RATE t, b2n (decide (2 ≤ s.zoneLevel (1 + t / 64))))]
  else if 0x804 ≤ rel ∧ rel < 0x804 + 8 * 76 ∧ rel % 8 = 4 then
    let k := (rel - 0x804) / 8
    [(Reg.DRIVE.FAST_CFG.SAFE_EN t k, b2n (safeEn t k))]
  else []

/-- The computed fields of a monitor tile (R150). -/
def State.viewMonitor (s : State) (m rel : Nat) : List (Fld × Nat) :=
  if rel = 0x144 then
    [(Reg.MONITOR.TILE_STATUS.CONV_RUNNING m, ofOnes ((List.range 8).filter fun u => s.convRunning (8 * m + u))),
     (Reg.MONITOR.TILE_STATUS.NOT_LOOP m, ofOnes ((List.range 8).filter fun u => !s.loopMode (8 * m + u)))]
  else if 0x40 ≤ rel ∧ rel < 0x140 ∧ rel % 0x20 = 0x0C then
    let u := (rel - 0x40) / 0x20
    [(Reg.MONITOR.CONV_STATUS.RUNNING m u, b2n (s.convRunning (8 * m + u)))]
  else []

/-- The FUSE page while a commit runs (R310, R312): which of its steps is at work, and how many bytes it has written or verified, follow from burn times the specification does not give; free values. -/
def State.viewFuse (s : State) (rel : Nat) : List (Fld × Nat) :=
  if !s.flag Reg.FUSE.FUSE_STATUS.COMMIT_BUSY then []
  else if rel = 0x4C then [(Reg.FUSE.COMMIT_STATUS.STEP, 1 + getBits (Config.freeWord s.freeCtr 0x404C) 0 2)]
  else if rel = 0x50 then [(Reg.FUSE.COMMIT_PROGRESS.BYTES, (Config.freeWord s.freeCtr 0x4050).toNat % (regionSize + 1))]
  else []

/-- The computed fields of a word of a page, by its block type (R438). -/
def State.viewPage (s : State) (p : PageInfo) (pg rel : Nat) : List (Fld × Nat) :=
  let i := pageInst p pg
  match p.type with
  | 0x01 => s.viewDevice rel
  | 0x02 => s.viewClock rel
  | 0x03 => s.viewPower rel
  | 0x05 => s.viewFuse rel
  | 0x06 => s.viewThermal rel
  | 0x07 => s.viewBudget rel
  | 0x08 => s.viewSump rel
  | 0x09 => s.viewTime rel
  | 0x0A => s.viewGantry rel
  | 0x0B => s.viewTrig rel
  | 0x0C => s.viewSeam rel
  | 0x0E => s.viewCapture rel
  | 0x0F => s.viewCmd rel
  | 0x10 => s.viewParser rel
  | 0x11 => s.viewRing i rel
  | 0x12 => s.viewPath rel
  | 0x13 => s.viewPcie rel
  | 0x14 => s.viewSdram i rel
  | 0x21 => s.viewDrive i rel
  | 0x22 => s.viewMonitor i rel
  | _ => []

/-- The page on which a window's ignored writes are counted (R432): for the element table, the page of the element's cluster. -/
def ownerOf (w : WindowInfo) (off : Nat) : Nat :=
  if w.base = 0x200000 then bramPg (clusterOf ((off - w.base) / 16)) else w.owner

/-- Whether a window's word can be reached: its owner's domain is ON; the working set and the pending bank are not switched (R411, R413). -/
def State.windowOn (s : State) (w : WindowInfo) (off : Nat) : Bool :=
  if w.base = 0x300000 ∨ w.base = 0x380000 then s.dev != .off else s.pageOn (ownerOf w off)

/-- A word of a generation region that has been revoked (R294). -/
def State.fuseHidden (s : State) (off : Nat) : Bool :=
  (List.range 4).any fun g => decide (0x800000 + regionOf g ≤ off) && decide (off < 0x800000 + regionOf g + regionSize) && s.genState g == 3

/-- What a word of a window reads as: write-only words of a node or rule read their live VALID (R349, R357), revoked fuses read 0 (R294), and an element's status shows whether its loop ramps (R189). -/
def State.windowWord (s : State) (w : WindowInfo) (off : Nat) : Word :=
  if w.base = 0x800000 ∧ s.fuseHidden off = true then 0
  else if w.base = 0x200000 ∧ off % 16 = 4 then
    let eid := (off - w.base) / 16
    patch (s.rdW off) [(Reg.ELEM.ELEM_STATUS.SH_RAMP eid, b2n (s.ramping eid))]
  else s.rdW off

/-- What a read of a word returns (R5, R7, R432), before the latching of R8. -/
def State.viewWord (s : State) (off : Nat) : Word :=
  if s.dev = .off then 0
  else
    match pageOf off with
    | some p =>
      let pg := pageBase off
      let rel := off - pg
      if !s.pageOn pg then (if rel = 0 then idWord p pg else if rel = 0x2C then s.pwrWord pg else 0)
      else if rel < 0x40 then s.headerWord p pg rel
      else patch (s.rdW off) (s.viewPage p pg rel)
    | none =>
      match windowOf off with
      | some w => if s.windowOn w off then s.windowWord w off else 0
      | none => 0

end Sys2Proof.Machine
end

