-- ==== Sys2Proof/Machine/Board.lean ====
section
/-! DEFINITION. The board-side functions of chapter 17: board SDRAM (training, BAR2 accesses, the patrol scrubber) and the PCI Express function (link, resets, power states). -/
namespace Sys2Proof.Machine

/-- The page of an SDRAM channel (R453). -/
def sdPg (c : Nat) : Nat := 0x14000 + 0x1000 * c

/-- The capacity of a channel in GiB by its ranks and the density of its devices (R443): two subchannels of four data devices a rank. -/
def capOf (ranks density : Nat) : Nat := ranks * (if density = 0 then 16 else if density = 1 then 24 else 32)

/-- What training finds on a channel (R447): ranks, density code, and the failing byte lane of a channel that fails. -/
def State.trainChan (s : State) (c : Nat) (r : Nat × Nat × Option Nat) (time : Nat) : State :=
  let s := (s.put (Reg.SDRAM.TRAIN_STATUS.BUSY c) false).wr (Reg.SDRAM.TRAIN_STATUS.TIME_MS c) time
  match r.2.2 with
  | some lane =>
    ((s.put (Reg.SDRAM.TRAIN_STATUS.FAILED c) true).wr (Reg.SDRAM.TRAIN_STATUS.LANE c) lane).evt (sdPg c) 3
  | none =>
    let s := (s.wr (Reg.SDRAM.GEOMETRY.RANKS c) r.1).wr (Reg.SDRAM.GEOMETRY.DENSITY c) r.2.1
    let s := s.wr (Reg.SDRAM.GEOMETRY.CAP_GIB c) (capOf r.1 r.2.1)
    (s.put (Reg.SDRAM.TRAIN_STATUS.TRAINED c) true).evt (sdPg c) 2

/-- Training of the four channels begins (R447): none is trained until it ends. -/
def State.trainStart (s : State) : State :=
  [0, 1, 2, 3].foldl (fun s c =>
    ((s.put (Reg.SDRAM.TRAIN_STATUS.BUSY c) true).put (Reg.SDRAM.TRAIN_STATUS.TRAINED c) false).put (Reg.SDRAM.TRAIN_STATUS.FAILED c) false) s

/-- TRAIN_CTRL.GO on the page of channel c (R447): in HOLD all four channels train; in other states it is ignored and counted. -/
def State.trainGo (s : State) (c : Nat) : State :=
  if s.dev != .hold then s.err (sdPg c) 0x44
  else if s.flag (Reg.SDRAM.TRAIN_STATUS.BUSY c) then s
  else s.trainStart

/-- The training of the four channels ends (R447), with what it finds on each. -/
def State.trainEnd (s : State) (res : List (Nat × Nat × Option Nat)) (time : Nat) : State :=
  let s := [0, 1, 2, 3].foldl (fun s c => s.trainChan c (res.getD c (1, 0, some 0)) time) s
  if res.all fun r => r.2.2.isNone then s.put Reg.BOOT.BOOT_STATUS.SDRAM_TRAINED true else s

/-- The host reaches the PCI Express apertures: the link is up, its domain is ON, and the function is in D0 (R429, R430). -/
def State.pcieOpen (s : State) : Bool := s.pcie.up && !s.pcie.d3 && s.domOn 216

/-- A BAR2 read of n bytes (R444, R445, R489). -/
def State.bar2Read (s : State) (a n : Nat) (ecc : Ecc) : State :=
  let ones := List.replicate n (255 : Byte)
  if !s.pcieOpen then s
  else if !s.sdOnline then s.emit (.bar2 ones false)
  else if s.sdSize < a + n then
    let k := s.sdSize - a
    ((s.emit (.bar2 (s.sdBytes a k ++ ones.drop k) false)).inc Reg.PCIE.CNT_BEYOND.COUNT).draw
  else
    let d := s.sdBytes a n
    ((s.sdEcc a ecc).emit (.bar2 d (ecc == .uncorrectable))).draw

/-- A BAR2 write (R444, R452): a poisoned request is counted and not applied; bytes beyond the capacity are discarded, and counted. -/
def State.bar2Write (s : State) (a : Nat) (data : List Byte) (poisoned : Bool) : State :=
  if !s.pcieOpen then s
  else if poisoned then s.inc Reg.PCIE.CNT_POISONED_RX.COUNT
  else if !s.sdOnline then s
  else if s.sdSize < a + data.length then (s.sdWrite a (data.take (s.sdSize - a))).inc Reg.PCIE.CNT_BEYOND.COUNT
  else s.sdWrite a data

/-- SCRUB_LINE (R445, R446): the scrubber of a channel reads a line; a corrected one is written back unless another write has reached it. -/
def State.scrubLine (s : State) (c a : Nat) (ecc : Ecc) (raced : Bool) : State :=
  if decide (4 ≤ c) || !s.sdOnline || !s.flag (Reg.SDRAM.SCRUB_CFG.ENABLE c) || decide (s.sdSize ≤ a) || sdChan a != c then s
  else
    let s := (s.sdEcc a ecc).wr (Reg.SDRAM.SCRUB_STATUS.PERMILLE c) (a * 1000 / s.sdSize)
    if ecc == .corrected && !raced then s.inc (Reg.SDRAM.CNT_SCRUB_FIX.COUNT c) else s

/-- SCRUB_PASS (R446). -/
def State.scrubPass (s : State) (c : Nat) : State :=
  if decide (4 ≤ c) || !s.sdOnline || !s.flag (Reg.SDRAM.SCRUB_CFG.ENABLE c) then s
  else ((s.incWrap (Reg.SDRAM.SCRUB_STATUS.PASSES c)).wr (Reg.SDRAM.SCRUB_STATUS.PERMILLE c) 0).evt (sdPg c) 4

/-- Every queue in host memory has its ENABLE cleared (R429). -/
def State.hostQueuesOff (s : State) : State :=
  let s := (List.range 8).foldl (fun s k => if s.flag (Reg.CMD.Q_CFG.LOCATION k) then s else s.put (Reg.CMD.Q_CFG.ENABLE k) false) s
  let s := if s.flag Reg.CMD.EQ_CFG.LOCATION then s else s.put Reg.CMD.EQ_CFG.ENABLE false
  if s.flag Reg.CMD.PQ_CFG.LOCATION then s else s.put Reg.CMD.PQ_CFG.ENABLE false

/-- A change of the PCI Express function. -/
def State.modPcie (s : State) (f : PcieSt → PcieSt) : State := { s with pcie := f s.pcie }

/-- The link's speed and width as trained, with SPEED_CHANGE where one changes (R452, R454). -/
def State.linkRate (s : State) (speed width : Nat) : State :=
  let changed := s.rd Reg.PCIE.LINK_STATUS.SPEED != speed || s.rd Reg.PCIE.LINK_STATUS.WIDTH != width
  let s := (s.wr Reg.PCIE.LINK_STATUS.SPEED speed).wr Reg.PCIE.LINK_STATUS.WIDTH width
  if changed then s.evt 0x13000 2 else s

/-- The data link comes up (R428, R454) with a speed, a width and a training state code. -/
def State.pcieUp (s : State) (speed width ltssm : Nat) : State :=
  if s.pcie.up || s.pcie.perst || !s.pageRun 0x13000 then s
  else
    let s := (s.modPcie fun p => { p with up := true }).wr Reg.PCIE.LINK_STATUS.LTSSM ltssm
    (s.linkRate speed width).evt 0x13000 0

/-- The data link goes down (R429): counted, reported, queues in host memory disabled; a hot reset or Disable returns configuration space, and with it the power state, to its reset value. -/
def State.pcieDown (s : State) (ltssm : Nat) (hot : Bool) : State :=
  if !s.pcie.up then s
  else
    let s := s.add Reg.PCIE.CNT_DMA_DISCARD.COUNT s.pcie.dmaWait.length
    let s := s.modPcie fun p => { p with up := false, d3 := p.d3 && !hot, msiWait := if hot then [] else p.msiWait, dmaWait := [] }
    let s := (s.wr Reg.PCIE.LINK_STATUS.LTSSM ltssm).inc Reg.PCIE.CNT_LINK_DOWN.COUNT
    (s.hostQueuesOff.evt 0x13000 1).raise 50 ltssm

/-- A Function Level Reset (R429). -/
def State.flr (s : State) : State :=
  if !s.pcie.up then s
  else
    let s := s.add Reg.PCIE.CNT_DMA_DISCARD.COUNT s.pcie.dmaWait.length
    ((s.modPcie fun p => { p with d3 := false, msiWait := [], dmaWait := [] }).hostQueuesOff).evt 0x13000 4

/-- D3hot is entered (R429). -/
def State.d3Enter (s : State) : State := if s.pcie.up then s.modPcie fun p => { p with d3 := true } else s

/-- The function returns to D0 (R429): messages and events that waited go out. -/
def State.d0Return (s : State) : State :=
  if !s.pcie.d3 then s
  else
    let l := s.pcie.msiWait
    let d := s.pcie.dmaWait
    let s := d.foldl (fun s e => s.qWrite false e.1 e.2) (s.modPcie fun p => { p with d3 := false, msiWait := [], dmaWait := [] })
    (l.foldl State.msix s).postWaiting

/-- PCIE_PERST_N (R477): low, the link resets; on its rise configuration space resets. -/
def State.perst (s : State) (low : Bool) (ltssm : Nat) : State :=
  if low then (s.pcieDown ltssm true).modPcie fun p => { p with perst := true }
  else if s.pcie.perst then s.modPcie fun p => { p with perst := false, d3 := false, msiWait := [] }
  else s

/-- LINK_CFG.RETRAIN (R452): the link retrains to a speed, no higher than MAX_SPEED, and a width. -/
def State.retrain (s : State) (speed width : Nat) : State :=
  if !s.pcie.up then s else s.linkRate (min speed (s.rd Reg.PCIE.LINK_CFG.MAX_SPEED)) width

/-- What follows from a command whatever its kind: SDRAM that has gone offline raises SDRAM_OFFLINE (R454); back online, the events kept for a queue in it are posted (R444). -/
def State.watchSdram (s : State) (was : Bool) : State :=
  if was && !s.sdOnline then s.evt 0 1 else if !was && s.sdOnline then s.postWaiting else s

end Sys2Proof.Machine
end

