-- ==== Sys2Proof/Machine/Tile.lean ====
section
/-! DEFINITION. The rest of a drive tile: short detection (R109), readback (R117 to R119), range changes (R120 to R122) and the release of the deglitcher and of paced updates (R112, R116). -/
namespace Sys2Proof.Machine

/-- The FAIL bit of a channel (R124). -/
def failFld (kind t k : Nat) : Fld := ⟨drivePg t + (if kind = 0 then 0x98 else 0xA4) + 4 * (k / 32), k % 32, 1⟩

/-- Whether a tile has a channel of a kind. -/
def isChan (kind t k : Nat) : Bool := decide (t < 128) && ((kind == 0 && decide (k < 76)) || (kind == 1 && decide (k < 77)))

/-- DRIVE_SHORT_DETECT (R109): a channel in LIMIT has drawn its limit for 200 ns. -/
def State.shortDetect (s : State) (t kind k : Nat) : State :=
  if !isChan kind t k || s.tileMode t != 1 || s.flag (shortFld kind t k) then s
  else ((s.put (shortFld kind t k) true).evt (drivePg t) 0).raise 17 (if k = 76 then 0x80000000 + t else 76 * t + k)

/-- The nominal value and the tolerance of a reference slot in mV (R117). -/
def rbNominal (j : Nat) : Int × Nat :=
  if j = 154 then (1250, 37) else if j = 155 then (1250, 37) else if j = 156 then (-1250, 37) else if j = 157 then (1650, 49) else (0, 10)

/-- Whether a channel's sample is skipped (R119). -/
def State.rbSkip (s : State) (kind t k : Nat) : Bool :=
  let key := chanKey kind t k
  let gap := if kind = 0 then 20 * ns else us
  (match alGet s.drv.chg key with | some c => decide (s.up < c + gap) | none => false) || (kind == 0 && s.playing t k) ||
    (alGet s.drv.degl key).isSome || (s.rangeCh t).isSome

/-- Whether a channel's sample differs from its live code by more than the tolerance (R117, R118). -/
def State.rbMiss (s : State) (kind t k : Nat) (v : Int) : Bool :=
  if kind = 0 then decide (s.rd (Reg.DRIVE.RB_CTRL.FAST_TOL t) * 2048 < (v - sgn 12 (s.rd (liveFld 0 t k))).natAbs * 1000)
  else decide (s.rd (Reg.DRIVE.RB_CTRL.HTR_TOL t) * 65536 < (v - (s.rd (liveFld 1 t k) : Int)).natAbs * 1000)

/-- A channel fails its readback (R118): a ballast heater is forced to 0 mA, any other is reported. -/
def State.rbFail (s : State) (kind t k : Nat) : State :=
  let s := (s.put (failFld kind t k) true).evt (drivePg t) 1
  if k = 76 then
    let s := (s.dropHeld t 76).setLive 1 t 76 0 true
    { s with bram := { s.bram with ramps := alDel s.bram.ramps t } }
  else s.raise 18 (76 * t + k)

/-- A channel's sample compared (R118): the failure is reported as the count reaches MISS_LIMIT, or is found at or above it where that was lowered. -/
def State.rbChannel (s : State) (t j kind k : Nat) (v : Int) : State :=
  if s.rbSkip kind t k then (s.inc (Reg.DRIVE.CNT_RB_SKIP.COUNT t)).put (Reg.DRIVE.RB_LAST.SKIPPED t j) true
  else
    let s := s.put (Reg.DRIVE.RB_LAST.SKIPPED t j) false
    if !s.flag (Reg.DRIVE.RB_CTRL.ENABLE t) then s
    else if s.rbMiss kind t k v then
      let lim := max 1 (s.rd (Reg.DRIVE.RB_CTRL.MISS_LIMIT t))
      let n := s.rd (Reg.DRIVE.RB_LAST.MISS t j) + 1
      let s := (s.inc (Reg.DRIVE.CNT_RB_MISMATCH.COUNT t)).wr (Reg.DRIVE.RB_LAST.MISS t j) (min 15 n)
      let was := s.flag (Reg.DRIVE.RB_LAST.FAIL t j)
      let s := s.put (Reg.DRIVE.RB_LAST.FAIL t j) (decide (lim ≤ n))
      if lim ≤ n ∧ was = false then s.rbFail kind t k else s
    else (s.wr (Reg.DRIVE.RB_LAST.MISS t j) 0).put (Reg.DRIVE.RB_LAST.FAIL t j) false

/-- A reference slot's sample (R117, R118), in mV. -/
def State.rbRef (s : State) (t j : Nat) (v : Int) : State :=
  let r := rbNominal j
  if !s.flag (Reg.DRIVE.RB_CTRL.ENABLE t) || decide ((v - r.1).natAbs ≤ r.2) then s
  else (s.evt (drivePg t) 2).raise 19 (256 * t + j)

/-- READBACK_SAMPLE (R117, R118): the sample of the present slot, a channel's in code units and a reference's in mV; the next slot follows. -/
def State.readback (s : State) (t : Nat) (v : Int) : State :=
  if decide (128 ≤ t) || s.tileMode t != 2 then s
  else
    let j := s.rd (Reg.DRIVE.RB_STATUS.SLOT t)
    let s := s.wr (Reg.DRIVE.RB_LAST.VALUE t j) (unsgn 16 v)
    let s := if j < 76 then s.rbChannel t j 0 j v else if j < 153 then s.rbChannel t j 1 (j - 76) v else s.rbRef t j v
    let s := s.wr (Reg.DRIVE.RB_STATUS.SLOT t) ((j + 1) % 160)
    if j = 159 then s.wr (Reg.DRIVE.RB_STATUS.CYCLE_US t) (if 2 ≤ s.zoneLevel (1 + t / 64) then 160 else 80) else s

/-- A code rescaled to the other range (R121): doubled into range 1, halved into range 0. -/
def rescale (kind toRange c : Nat) : Nat :=
  if kind = 0 then unsgn 12 (clampFast (if toRange = 1 then 2 * sgn 12 c else divRound (sgn 12 c) 2))
  else (clampHtr (if toRange = 1 then 2 * (c : Int) else divRound c 2)).toNat

/-- A kind's channels of a tile. -/
def kindChans (kind : Nat) : List Nat := List.range (if kind = 0 then 76 else 77)

/-- A kind's range changes: its register, and its shadows rescaled where the host has not written them (R121). -/
def State.rangeForce (s : State) (t kind range : Nat) : State :=
  let s := s.wr (if kind = 0 then Reg.DRIVE.RANGE.FAST_RANGE t else Reg.DRIVE.RANGE.HTR_RANGE t) range
  (kindChans kind).foldl (fun s k =>
    let s := if s.drv.hostWr.contains (chanKey kind t k) then s else s.wr (shadowFld kind t k) (rescale kind range (s.rd (liveFld kind t k)))
    let s := if kind = 0 then s.stopPlay t k else s.dropHeld t k
    s.setLive kind t k 0 true) s

/-- The other of a tile's two ranges of a kind. -/
def State.otherRange (s : State) (t kind : Nat) : Nat := 1 - s.rd (if kind = 0 then Reg.DRIVE.RANGE.FAST_RANGE t else Reg.DRIVE.RANGE.HTR_RANGE t)

/-- A range change starts (R121): the tile's elements go to HOLD with reason RANGE, the kinds that change take their new range, and their outputs are forced to zero. -/
def State.rangeStart (s : State) (t : Nat) : State :=
  match s.rangeCh t with
  | none => s
  | some r =>
    if r.forced then s
    else
      let s := (tileElems t).foldl (fun s eid =>
        if s.status eid = stOff ∨ s.status eid = stQuar then s else ((s.abortProbe eid).wrapDrop eid).elemHold eid whyRange) s
      let s := if r.fast then s.rangeForce t 0 (s.otherRange t 0) else s
      let s := if r.htr then s.rangeForce t 1 (s.otherRange t 1) else s
      { s with drv := { s.drv with range := s.drv.range.map fun x => if x.tile = t then { x with forced := true } else x } }

/-- The range changes accepted since the last CLK_LOOP cycle start (R121). -/
def State.rangeStarts (s : State) : State := (s.drv.range.map (·.tile)).foldl State.rangeStart s

/-- RANGE.GO (R120, R121): the change is accepted, to start within 50 ns, or is refused with RANGE_BUSY; with the present ranges requested there is no action. -/
def State.rangeGo (s : State) (t reqF reqH : Nat) (nearCommit : Bool) : State :=
  let s := (s.wr (Reg.DRIVE.RANGE.REQ_FAST t) reqF).wr (Reg.DRIVE.RANGE.REQ_HTR t) reqH
  let f := s.rd (Reg.DRIVE.RANGE.FAST_RANGE t) != reqF % 2
  let h := s.rd (Reg.DRIVE.RANGE.HTR_RANGE t) != reqH % 2
  if !f && !h then s
  else
    match s.rangeRefusal t nearCommit with
    | some r => ((s.wr (Reg.DRIVE.RANGE_STATUS.RESULT t) 2).wr (Reg.DRIVE.RANGE_STATUS.REASON t) r).evt (drivePg t) 4
    | none =>
      let s := (s.wr (Reg.DRIVE.RANGE_STATUS.RESULT t) 0).wr (Reg.DRIVE.RANGE_STATUS.REASON t) 0
      { s with drv := { s.drv with range := s.drv.range ++ [⟨t, f, h, false, false⟩] } }

/-- A kind's RANGE_SETTLE is over: the change goes on with the kinds that are left. -/
def State.rangeEnd (s : State) (t kind : Nat) : State :=
  { s with drv := { s.drv with range := s.drv.range.map fun x =>
      if x.tile = t then (if kind = 0 then { x with fast := false } else { x with htr := false }) else x } }

/-- A kind's RANGE_SETTLE ends (R121, R122): its shadows go live in the new range, SAFE_CODE on the shutters' channels where a safe strobe came. -/
def State.rangeLive (s : State) (t kind : Nat) (safed : Bool) : State :=
  let s := (s.rangeEnd t kind).loadSafe t
  (kindChans kind).foldl (fun s k =>
    if kind = 0 ∧ safed = true ∧ safeEn t k = true then s.safeChan t k
    else s.setLive kind t k (s.rd (shadowFld kind t k)) true) s

/-- Every changing kind of a tile has gone live (R121): its elements enter ACQUIRE with their histories cleared (R163). -/
def State.rangeDone (s : State) (t : Nat) : State :=
  let s := { s with drv := { s.drv with range := s.drv.range.filter (·.tile != t) } }
  let s := (tileElems t).foldl (fun s eid =>
    let s := s.clearHist eid
    if s.status eid = stHold ∧ s.reason eid = whyRange then (if s.mayRun eid then s.acquire eid else s.elemOff eid) else s) s
  (((s.wr (Reg.DRIVE.RANGE_STATUS.RESULT t) 1).evt (drivePg t) 3).recomputePow).checkHtrOver

/-- RANGE_SETTLE_END (R121) of a kind that changes: the last of them ends the change. -/
def State.rangeSettle (s : State) (t kind : Nat) : State :=
  let s := s.rangeStart t
  match s.rangeCh t with
  | none => s
  | some r =>
    if (kind = 0 ∧ r.fast = true) ∨ (kind = 1 ∧ r.htr = true) then
      let s := s.rangeLive t kind r.safed
      if (if kind = 0 then r.htr else r.fast) then s else s.rangeDone t
    else s

/-- DEGLITCH_RELEASE (R116): the 40 ns hold of a channel ends, and its output takes the live code. -/
def State.deglitch (s : State) (kind t k : Nat) : State := { s with drv := { s.drv with degl := alDel s.drv.degl (chanKey kind t k) } }

/-- PACED_UPDATE_RELEASE (R112): a held heater update goes live at the end of its 1 µs; a granted wrap that waited in it has been applied (R282). -/
def State.pacedRelease (s : State) (t k : Nat) : State :=
  match alGet s.drv.held (htrKey t k) with
  | none => s
  | some c =>
    let s := { s with drv := { s.drv with held := alDel s.drv.held (htrKey t k) } }
    (((s.put (Reg.DRIVE.HTR_CFG.HELD t k) false).directLive 1 t k c).jobDone (· == .wrap (76 * t + k))).checkHtrOver

/-- DIRECT_UPDATE (R112, R114): a direct update of a loop or of the governor reaches a tile; one that a strobe or a commit of codes meets in its cycle, whose transfer is discarded (R11), or whose tile bus is under test, where drive codes are held (R460), has no effect. -/
def State.directUpdate (s : State) (t kind k code : Nat) (beaten : Bool) (bus : Ecc) : State :=
  if !isChan kind t k || s.clusterTested (t / 32) then s
  else
    let s := s.busCheck (t / 32) t bus
    if bus = .uncorrectable ∨ beaten = true then s else (s.direct kind t k code).checkHtrOver

end Sys2Proof.Machine
end

