-- ==== Sys2Proof/Machine/SelfTest.lean ====
section
/-! DEFINITION. Production and field test (chapter 18): the tests of the TEST page, the link checkers, and the JTAG port. -/
namespace Sys2Proof.Machine

/-- The TEST page (R466). -/
def testPg : Nat := 0x18000

/-- A change of the test features. -/
def State.modTest (s : State) (f : BenchSt → BenchSt) : State := { s with test := f s.test }

/-- Whether the device permits a test on a target (R455). -/
def State.testPermits (s : State) (test target : Nat) : Bool :=
  match test with
  | 1 => decide (target < 2) && s.dev != .off && s.dev != .boot && !s.flag (Reg.HDR.PG_CTRL.ENABLE (ringPg target))
  | 2 => s.dev == .hold
  | 3 => s.dev == .hold && [0, 1, 2, 3].all fun c => s.flag (Reg.SDRAM.TRAIN_STATUS.TRAINED c)
  | 4 => s.dev == .hold && decide (target < 128) && s.tileMode target == 1
  | 5 => s.dev == .hold && decide (target < 78) && (List.range 8).all fun u => s.loopMode (8 * target + u)
  | 6 => s.dev == .armed && s.gstate == 0 && s.flag Reg.GANTRY.LIVE_SLOT.NONE
  | _ => false

/-- The bytes of an SDRAM test (R459): its first address and the one after its last. -/
def State.sdRange (s : State) : Nat × Nat :=
  (s.rd Reg.TEST.SD_START.MB * 2 ^ 20, (s.rd Reg.TEST.SD_START.MB + max 1 (s.rd Reg.TEST.SD_SIZE.MB)) * 2 ^ 20)

/-- Why a GO is refused (R455, R459): 1 locked, 2 busy, 3 state or range, 0 for none. -/
def State.testRefusal (s : State) (test target : Nat) : Nat :=
  if !s.unlocked testPg then 1
  else if s.test.run.isSome then 2
  else if !s.testPermits test target || !s.pageRun testPg then 3
  else if test = 3 ∧ s.sdSize < s.sdRange.2 then 3 else 0

/-- What a TCURRENT test takes over (R462): the range and AR_EN of the tile's monitors. -/
def State.tcSaved (s : State) (m : Nat) : List (Nat × Nat) :=
  (List.range 256).map fun j => (j, s.rd (Reg.MONITOR.MON_CFG.RANGE m j) + 4 * s.rd (Reg.MONITOR.MON_CFG.AR_EN m j))

/-- TARGET names a drive tile or a monitor tile that the device does not have (R16, R20). -/
def noTarget (test target : Nat) : Bool := (test == 4 && decide (128 ≤ target)) || (test == 5 && decide (78 ≤ target))

/-- GO (R455) on a target that exists. -/
def State.testRun (s : State) (test target : Nat) : State :=
  let s := (s.wr Reg.TEST.TEST_CTRL.TEST test).wr Reg.TEST.TEST_CTRL.TARGET target
  match s.testRefusal test target with
  | 0 =>
    let s := (s.put Reg.TEST.TEST_STATUS.BUSY true).wr Reg.TEST.TEST_STATUS.RESULT 0
    let s := s.wr Reg.TEST.TEST_STATUS.REASON 0
    s.modTest fun t => { t with run := some ⟨test, target, if test = 5 then s.tcSaved target else [], s.up, 0⟩ }
  | r => ((s.wr Reg.TEST.TEST_STATUS.RESULT 3).wr Reg.TEST.TEST_STATUS.REASON r).evt testPg 3

/-- A write of TEST_CTRL with GO alone (R455): of a target that does not exist, ignored and counted (R16, R20). -/
def State.testGo (s : State) (test target : Nat) : State :=
  if noTarget test target then s.err testPg 0x40 else s.testRun test target

/-- What a test took over returns to its state before (R456, R462); a link test's checkers lose their pattern (R457). -/
def State.testRestore (s : State) (t : TestSt) : State :=
  let s := t.saved.foldl (fun s e =>
    (s.wr (Reg.MONITOR.MON_CFG.RANGE t.target e.1) e.2).wr (Reg.MONITOR.MON_CFG.AR_EN t.target e.1) (e.2 / 4)) s
  s.wr Reg.TEST.LINK_PATTERN.LOCK 0

/-- A test ends with a result: 1 PASS, 2 FAIL, 4 STOPPED (R466, R467). -/
def State.testFinish (s : State) (t : TestSt) (result : Nat) : State :=
  let s := (s.testRestore t).modTest fun x => { x with run := none }
  let s := (s.put Reg.TEST.TEST_STATUS.BUSY false).wr Reg.TEST.TEST_STATUS.RESULT result
  s.evt testPg (if result = 1 then 0 else if result = 2 then 1 else 2)

/-- STOP, and everything that ends a test before its time (R456). -/
def State.testStop (s : State) : State :=
  match s.test.run with
  | none => s
  | some t => s.testFinish t 4

/-- A running test whose permitting condition has ended stops (R456). -/
def State.testCheck (s : State) : State :=
  match s.test.run with
  | none => s
  | some t => if s.testPermits t.test t.target then s else s.testFinish t 4

/-- A write of TEST_CTRL (R456, R466): STOP acts before GO, which is then refused; a write with a target that does not exist is ignored and counted (R16, R20). -/
def State.testCtrl (s : State) (w : Word) : State :=
  let test := getBits w 0 3
  let target := getBits w 8 8
  let stop := getBits w 30 1 == 1
  let go := getBits w 31 1 == 1
  let keep (s : State) : State := (s.wr Reg.TEST.TEST_CTRL.TEST test).wr Reg.TEST.TEST_CTRL.TARGET target
  let busy := s.test.run.isSome
  if noTarget test target then s.err testPg 0x40
  else
  let s := if stop then s.testStop else s
  if !go then keep s
  else if stop then
    let s := ((keep s).wr Reg.TEST.TEST_STATUS.REASON 2).evt testPg 3
    if busy then s else s.wr Reg.TEST.TEST_STATUS.RESULT 3
  else s.testRun test target

/-- TEST_END of a link test (R457), which with CHECK_EN ends once its checkers' locks have been unchanged for DURATION_MS: the symbol errors counted on each lane meanwhile; it passes when both lanes are locked and none was counted. -/
def State.ringTestEnd (s : State) (t : TestSt) (errs : List Nat) : State :=
  if !s.flag Reg.TEST.LINK_PATTERN.CHECK_EN || decide (s.up < t.since + s.rd Reg.TEST.LINK_PATTERN.DURATION_MS * ms) then s
  else
    let s := [0, 1].foldl (fun s l => s.add (Reg.TEST.LINK_ERR.COUNT l) (errs.getD l 0)) s
    let ok := s.rd Reg.TEST.LINK_PATTERN.LOCK == 3 && errs.getD 0 0 + errs.getD 1 0 + t.errs == 0
    s.testFinish t (if ok then 1 else 2)

/-- TEST_END of a tile-bus test (R460) after DURATION_US: the errors of each bus; those of the buses selected count. -/
def State.busTestEnd (s : State) (t : TestSt) (errs : List Nat) : State :=
  if s.up < t.since + s.rd Reg.TEST.TB_CFG.DURATION_US * us then s
  else
  let s := (onesOf 4 (s.rd Reg.TEST.TB_CFG.BUSES)).foldl (fun s b => s.add (Reg.TEST.TB_ERR.COUNT b) (errs.getD b 0)) s
  s.testFinish t (if (List.range 4).all fun b => s.rd (Reg.TEST.TB_ERR.COUNT b) == 0 then 1 else 2)

/-- TEST_END of an SDRAM test (R459): the failing words, each with its address and byte lane; what the range held is lost. -/
def State.sdTestEnd (s : State) (t : TestSt) (fails : List (Nat × Nat)) : State :=
  let r := s.sdRange
  let s := State.draw { s with sd := s.sd.filter fun c => !(decide (r.1 ≤ c.1) && decide (c.1 < r.2)) }
  let s := match fails with
    | [] => s
    | f :: _ =>
      let s := (s.wr Reg.TEST.SD_FAIL_ADDR_LO.ADDR f.1).wr Reg.TEST.SD_FAIL_ADDR_HI.ADDR (f.1 / 2 ^ 32)
      (s.wr Reg.TEST.SD_FAIL_INFO.LANE f.2).add Reg.TEST.SD_FAIL_INFO.COUNT fails.length
  s.testFinish t (if fails.isEmpty then 1 else 2)

/-- Whether a readback of a slot differs from its code by more than RB_CTRL's tolerance (R461, R117): slots 0 to 75 fast, 76 to 152 heater. -/
def State.dacBad (s : State) (tile : Nat) (e : Nat × Int) : Bool :=
  if e.1 < 76 then decide (s.rd (Reg.DRIVE.RB_CTRL.FAST_TOL tile) * 2048 < e.2.natAbs * 1000)
  else decide (s.rd (Reg.DRIVE.RB_CTRL.HTR_TOL tile) * 65536 < e.2.natAbs * 1000)

/-- TEST_END of a drive self-test (R461): for the samples taken, the slot and by how many codes each differs from the code stepped to. -/
def State.dacTestEnd (s : State) (t : TestSt) (samples : List (Nat × Int)) : State :=
  let bad := ((samples.filter (s.dacBad t.target)).map (·.1)).eraseDups
  let s := s.wr Reg.TEST.DAC_RESULT.FAILS (min 255 bad.length)
  let s := match bad with | [] => s | b :: _ => s.wr Reg.TEST.DAC_RESULT.FIRST b
  s.testFinish t (if bad.isEmpty then 1 else 2)

/-- Whether a pair of conversions of an amplifier fails (R462): the difference of the corrected values lies beyond TOL of 32,768. -/
def State.tcBad (s : State) (m : Nat) (e : Nat × Nat × Nat × Nat) : Bool :=
  let mid := 256 * m + e.1
  let d := s.corrected mid e.2.1 e.2.2.2 - s.corrected mid e.2.1 e.2.2.1
  bitOf (s.rd Reg.TEST.TC_CFG.RANGES) e.2.1 && decide (s.rd Reg.TEST.TC_CFG.TOL * 65536 < (d - 32768).natAbs * 1000)

/-- TEST_END of an amplifier test (R462): for each amplifier and range the 14-bit values without and with the test current. -/
def State.tcTestEnd (s : State) (t : TestSt) (pairs : List (Nat × Nat × Nat × Nat)) : State :=
  let bad := ((pairs.filter (s.tcBad t.target)).map (·.1)).eraseDups
  let s := s.wr Reg.TEST.TC_RESULT.FAILS bad.length
  let s := match bad with | [] => s | b :: _ => s.wr Reg.TEST.TC_RESULT.FIRST_MID (256 * t.target + b)
  s.testFinish t (if bad.isEmpty then 1 else 2)

/-- The first check that an optical test's readings fail (R463), in 1/256 dB: its kind, plane, stage and reading. The readings are the ingress tap in dBm, and for each plane the 17 stage taps, the drop photodiode and the egress tap, each referred to waveguide power. -/
def State.optFail (s : State) (ingress : Int) (planes : List (List Int × Int × Int)) : Option (Nat × Nat × Nat × Int) :=
  let loss := (s.rd Reg.TEST.OPT_CFG.LOSS_STAGE : Int) * 256
  let tol := (s.rd Reg.TEST.OPT_CFG.TOL : Int) * 2560
  if ingress < sgn 8 (s.rd Reg.TEST.OPT_MIN.DBM) * 256 then some (1, 0, 0, ingress)
  else
    let stages := planes.zipIdx.findSome? fun p =>
      let p0 := p.1.1.getD 0 0
      p.1.1.zipIdx.findSome? fun x =>
        if tol < ((x.1 - p0) * 100 + x.2 * loss).natAbs then some (2, p.2, x.2, x.1) else none
    match stages with
    | some f => some f
    | none => planes.zipIdx.findSome? fun p => if p.1.2.1 - 40 * 256 < p.1.2.2 then some (3, p.2, 16, p.1.2.2) else none

/-- TEST_END of an optical test (R463). -/
def State.optTestEnd (s : State) (t : TestSt) (ingress : Int) (planes : List (List Int × Int × Int)) : State :=
  match s.optFail ingress planes with
  | none => ((s.wr Reg.TEST.OPT_RESULT.KIND 0)).testFinish t 1
  | some f =>
    let s := (s.wr Reg.TEST.OPT_RESULT.KIND f.1).wr Reg.TEST.OPT_RESULT.PLANE f.2.1
    let s := (s.wr Reg.TEST.OPT_RESULT.STAGE f.2.2.1).wr Reg.TEST.OPT_RESULT.MEASURED (unsgn 16 f.2.2.2)
    s.testFinish t 2

/-- TEST_END (R457 to R463) with what the running test has measured; findings of another kind of test have no effect. -/
def State.testEnd (s : State) (f : Findings) : State :=
  match s.test.run with
  | none => s
  | some t =>
    match f with
    | .ring errs => if t.test = 1 then s.ringTestEnd t errs else s
    | .tileBus errs => if t.test = 2 then s.busTestEnd t errs else s
    | .sdram fails => if t.test = 3 then s.sdTestEnd t fails else s
    | .dac samples => if t.test = 4 then s.dacTestEnd t samples else s
    | .amplifier pairs => if t.test = 5 then s.tcTestEnd t pairs else s
    | .optical ingress planes => if t.test = 6 then s.optTestEnd t ingress planes else s

/-- A change of the running test. -/
def State.modTestRun (s : State) (f : TestSt → TestSt) : State := s.modTest fun b => { b with run := b.run.map f }

/-- A link test runs with its checkers on (R457). -/
def State.linkTest (s : State) : Bool :=
  (match s.test.run with | some t => t.test == 1 | none => false) && s.flag Reg.TEST.LINK_PATTERN.CHECK_EN

/-- CHECKER_LOCK (R457): a lane's checker locks. -/
def State.checkerLock (s : State) (l : Nat) : State :=
  let f : Fld := ⟨Reg.TEST.LINK_PATTERN.LOCK.off, 12 + l, 1⟩
  if s.linkTest && decide (l < 2) && !s.flag f then
    (s.wr f 1).modTestRun fun t => { t with since := s.up, errs := 0 }
  else s

/-- CHECKER_LOCK_LOST (R457, R467). -/
def State.checkerLost (s : State) (l : Nat) : State :=
  let f : Fld := ⟨Reg.TEST.LINK_PATTERN.LOCK.off, 12 + l, 1⟩
  if s.linkTest && decide (l < 2) && s.flag f then
    ((s.wr f 0).modTestRun fun t => { t with since := s.up }).evt testPg 4
  else s

/-- LINK_PATTERN.INJECT (R457): one symbol is inverted on each lane; the port's own checkers see it through the loopback where they are locked. -/
def State.linkInject (s : State) : State :=
  if s.linkTest && s.flag Reg.TEST.LINK_PATTERN.LOOPBACK then
    [0, 1].foldl (fun s l => if bitOf (s.rd Reg.TEST.LINK_PATTERN.LOCK) l then (s.inc (Reg.TEST.LINK_ERR.COUNT l)).modTestRun fun t => { t with errs := t.errs + 1 } else s) s
  else s

/-- The tile bus of a monitor tile is under test, so that its results are discarded (R460). -/
def State.busTested (s : State) (m : Nat) : Bool := s.clusterTested (monCluster m)

/-- Results of a monitor tile that a running test keeps from Bramble and capture: those of its bus under test (R460), those of the tile under test (R462). -/
def State.testHides (s : State) (m : Nat) : Bool :=
  s.busTested m || match s.test.run with
  | some t => t.test == 5 && t.target == m
  | none => false

/-- The level that the block itself drives on a ball, where the state tells it (R214, R260, R402, R422, R439): TRIGO and PPS_OUT; SYNC_OUT low between its pulses; READY high, or low for 100 ns; FAULT_N and INT_N low. Nothing is driven while VDD_IO is absent (R474). -/
def State.drives (s : State) (b : Ball) : Option Bool :=
  if !s.ioOn then none
  else match b with
  | .trigo k => some (s.trigoLevel k)
  | .ppsOut => some s.ppsLevel
  | .syncOut => some false
  | .ready => if s.ready then some true else if s.boot.readyLow then some false else none
  | .fault => if s.faultN then some false else none
  | .int => if s.intN then some false else none
  | _ => none

/-- The cells of a ball in the boundary register (R465). -/
def State.cellsOf (s : State) (b : Ball) : Cells := ((s.test.cells.find? fun e => e.1 == b).map (·.2)).getD ⟨false, false, false⟩

/-- The level driven on a ball (R464): while a test instruction has the pins, by HIGHZ none, and by the others the output cell where the control cell is 1; else the block's own. -/
def State.ballLevel (s : State) (b : Ball) : Option Bool :=
  if s.test.pins then
    (if s.test.jtag != 6 && (s.cellsOf b).ctl then some (s.cellsOf b).out else none)
  else s.drives b

/-- The cells of a ball replaced. -/
def State.setCells (s : State) (b : Ball) (c : Cells) : State :=
  s.modTest fun t => { t with cells := (b, c) :: t.cells.filter fun e => e.1 != b }

/-- The boundary register scanned (R465): the input cells of the balls looked at capture the levels on them and are shifted out, and then the control and output cells take what is shifted in. -/
def State.scan (s : State) (x : Scan) : State :=
  let caught := x.levels.map fun e => (e.1, (s.ballLevel e.1).getD e.2)
  let s := caught.foldl (fun s e => s.setCells e.1 { s.cellsOf e.1 with inp := e.2 }) s
  (x.load.foldl (fun s e => s.setCells e.1 { s.cellsOf e.1 with ctl := e.2.1, out := e.2.2 }) s).emit (.scan caught)

/-- The device lets JTAG take its pins (R464): in HOLD, in HALT and while PORESET_N is low. -/
def State.pinsFree (s : State) : Bool := s.dev == .hold || s.dev == .halt || s.dev == .off

/-- The JTAG instructions that take the pins (R464): EXTEST, EXTEST_PULSE, EXTEST_TRAIN, CLAMP, HIGHZ; they act so in HOLD, in HALT and while PORESET_N is low, and else as BYPASS, counted. -/
def State.jtagPins (s : State) (op : Nat) : State :=
  if s.pinsFree then s.modTest fun t => { t with jtag := op, pins := true }
  else (s.modTest fun t => { t with jtag := 0xFF }).inc Reg.TEST.CNT_JTAG_REFUSED.COUNT

/-- EXTEST, EXTEST_PULSE and EXTEST_TRAIN (R464): the boundary register drives the pins and is scanned; as BYPASS it is not reached. -/
def State.jtagExtest (s : State) (op : Nat) (x : Scan) : State :=
  let t := s.jtagPins op
  if s.pinsFree then t.scan x else t

/-- The JTAG instructions that leave the pins to the device (R464). -/
def State.jtagSelect (s : State) (op : Nat) : State := s.modTest fun t => { t with jtag := op }

/-- Test-Logic-Reset (R415, R464): IDCODE is selected and the pins go back to the device. -/
def State.jtagReset (s : State) : State := s.modTest fun t => { t with jtag := 1, pins := false }

end Sys2Proof.Machine
end

