-- ==== Sys2Proof/Machine/Pages.lean ====
section
/-! DEFINITION. The common page header (R433 to R436): PG_CTRL with its drain, abort and soft reset by block, events, the error count, the lock, and the counters that each page clears. -/
namespace Sys2Proof.Machine

/-- Registers of a page range at their reset values, but for some page-relative ranges. -/
def State.clearPage (s : State) (pg lo : Nat) (keep : List (Nat × Nat)) : State :=
  { s with regs := s.regs.filter fun e =>
      !(decide (pg + lo ≤ e.1) && decide (e.1 < pg + 0x1000)) || keep.any fun k => decide (pg + k.1 ≤ e.1) && decide (e.1 < pg + k.1 + k.2) }

/-- Submission-queue commands taken and not completed complete as ABORTED (R385). -/
def State.sqAbort (s : State) : State :=
  let wait := s.cmd.wait.map fun w => match w.dest with
    | .sq _ => { w with status := 0x0C, items := [], open' := [] }
    | .ring _ => w
  State.modParser { s with cmd := { s.cmd with wait := wait } } fun p => { p with rob := p.rob.map fun e =>
    match e.work with
    | .sq _ => if e.fin then e else { e with fin := true, res := some (.given 0x0C) }
    | .frame _ _ _ => e }

/-- Ring batches in the executors are discarded (R337). -/
def State.pathAbort (s : State) : State :=
  s.modParser fun p => { p with rob := p.rob.map fun e =>
    match e.work with
    | .frame _ _ _ => { e with fin := true, res := some .nothing }
    | .sq _ => e }

/-- No submission-queue command is in flight. -/
def State.sqIdle (s : State) : Bool :=
  (s.parser.rob.all fun e => match e.work with | .sq _ => false | .frame _ _ _ => true) &&
    s.cmd.wait.all fun w => match w.dest with | .sq _ => false | .ring _ => true

/-- No ring frame is in the executors. -/
def State.execIdle (s : State) : Bool :=
  s.parser.rob.all fun e => match e.work with | .sq _ => true | .frame _ _ _ => false

/-- What a block does with its work in flight as its ENABLE is cleared (R434): R261, R227, R72, R308, R148, R385, R363, R337, R456, R186. -/
def State.pageStop (s : State) (p : PageInfo) (pg : Nat) (abort : Bool) : State :=
  let i := pageInst p pg
  match p.type with
  | 0x09 => s.servoOff
  | 0x0A => if abort then s.gantryAbort else s.gantryStop
  | 0x0C => if abort then s.seamAbort else s
  | 0x0D => if abort then s.plumbAbort else s.plumbDrain
  | 0x0E => (List.range 16).foldl State.capFlush s.capTake
  | 0x0F => if abort then s.sqAbort else s
  | 0x10 => if abort then s.parserAbort else s
  | 0x11 => (s.linkDown i).setEng i 0
  | 0x12 => if abort then s.pathAbort else s
  | 0x15 => s.testStop
  | 0x20 => s.clusterStop i abort
  | _ => s

/-- A block's work in flight has settled (R434), so that the page may reach HALTED. -/
def State.pageDrained (s : State) (p : PageInfo) (i : Nat) : Bool :=
  match p.type with
  | 0x0A => s.gstate == 0 || s.gstate == 5
  | 0x0C => s.seam.queue.isEmpty && s.seam.lanes.isEmpty
  | 0x0D => s.plumb.run.isNone
  | 0x0E => s.mon.rings.all fun r => r.2.part.isEmpty && r.2.bursts.isEmpty
  | 0x0F => s.sqIdle
  | 0x10 => s.parserIdle
  | 0x12 => s.execIdle
  | 0x15 => s.test.run.isNone
  | 0x20 => s.clusterIdle i
  | 0x22 => (List.range 8).all fun u => !s.convRunning (8 * i + u)
  | _ => true

/-- What a block does as it reaches HALTED: the PCI Express link idles (R452). -/
def State.pageHalted (s : State) (p : PageInfo) : State := if p.type = 0x13 then s.pcieDown 0 false else s

/-- The converters of a monitor tile start (R130, R149), and the elements that waited for a converter to be steered leave BLIND (R170). -/
def State.tileStart (s : State) (m : Nat) : State :=
  (List.range 8).foldl (fun s u => ((s.put (Reg.MONITOR.CONV_STATUS.RUNNING m u) true).beginConv (8 * m + u)).steerBack (8 * m + u)) s

/-- What a block does as it becomes ready (R434): a monitor tile's converters start (R149), a cluster's stopped elements acquire (R186), and a ring that runs takes a sync record first (R141). -/
def State.pageReady (s : State) (p : PageInfo) (pg : Nat) : State :=
  let i := pageInst p pg
  match p.type with
  | 0x0E => s.syncAll
  | 0x20 => State.clusterStart { s with bram := { s.bram with softs := s.bram.softs.filter (· != i) } } i
  | 0x22 => s.tileStart i
  | _ => s

/-- PG_STATE set. -/
def State.setPage (s : State) (pg n : Nat) : State := s.wr (Reg.HDR.PG_STATE.STATE pg) n

/-- ENABLE written 0 in RUN (R434): DRAINING. A ring port whose engine is active hands control over first, or the write is refused (R333, R337). -/
def State.enableClear (s : State) (p : PageInfo) (pg : Nat) (abort : Bool) : State :=
  let go (s : State) : State :=
    (((s.put (Reg.HDR.PG_CTRL.ENABLE pg) false).put (Reg.HDR.PG_CTRL.STOP_MODE pg) abort).setPage pg 3).pageStop p pg abort
  if p.type = 0x11 ∧ s.activeEng = some (pageInst p pg) then
    let r := s.planned
    if r.2 then go r.1 else s.err pg 8
  else go s

/-- A block becomes ready (R434): STARTING to RUN, and on to DRAINING where ENABLE was cleared meanwhile. -/
def State.blockReady (s : State) (pg : Nat) : State :=
  match pageOf pg with
  | none => s
  | some p =>
    if pageBase pg != pg || !s.pageOn pg || !p.enActs || s.rd (Reg.HDR.PG_STATE.STATE pg) != 1 then s
    else
      let s := (s.setPage pg 2).pageReady p pg
      if s.flag (Reg.HDR.PG_CTRL.ENABLE pg) then s else s.enableClear p pg (s.flag (Reg.HDR.PG_CTRL.STOP_MODE pg))

/-- The work in flight settles (R434): DRAINING to HALTED; an ENABLE written meanwhile now acts. -/
def State.drainComplete (s : State) (pg : Nat) : State :=
  match pageOf pg with
  | none => s
  | some p =>
    if pageBase pg != pg || !s.pageOn pg || !p.enActs || s.rd (Reg.HDR.PG_STATE.STATE pg) != 3 || !s.pageDrained p (pageInst p pg) then s
    else
      let s := (s.setPage pg 4).pageHalted p
      if s.enHeld.contains pg then
        State.setPage ({ s with enHeld := s.enHeld.filter (· != pg) }.put (Reg.HDR.PG_CTRL.ENABLE pg) true) pg 1
      else s

/-- The ranges of a page that SOFT_RESET keeps: the block's chapter names them, or they show what the hardware still does (R227, R261, R337, R363, R453). -/
def State.softKeep (s : State) (p : PageInfo) : List (Nat × Nat) :=
  match p.type with
  | 0x09 => (0x70, 4) :: s.time.tevs.map fun e => (0x200 + 0x20 * e.k, 0x18)
  | 0x0A => [(0x6C, 4), (0x88, 4), (0x98, 12), (0xA8, 0x3C), (0x408, 0x1C), (0x42C, 0xC), (0x480, 0x40)]
  | 0x10 => [(0x44, 4)]
  | 0x12 => [(0x48, 8), (0x78, 0x10)]
  | 0x13 => [(0x40, 4)]
  | 0x14 => [(0x40, 4), (0x48, 4)]
  | _ => []

/-- The monitors of a tile at rest: no conversion begun, no SETTLING window, no excursion noted. -/
def State.freshMon (s : State) (m : Nat) : State :=
  { s with mon := { s.mon with
      convs := s.mon.convs.filter fun e => !(e.1 / 8 == m)
      settle := s.mon.settle.filter fun e => !(e.1 / 256 == m)
      overOne := s.mon.overOne.filter fun e => !(e / 256 == m)
      overRun := s.mon.overRun.filter fun e => !(e / 256 == m) } }

/-- Capture at rest. -/
def State.freshCapture (s : State) : State := { s with mon := { s.mon with rings := [], batch := [], capAt := 0, capN := 0, recent := [] } }

/-- The queues and the sessions at rest: no key is loaded (R375). -/
def State.freshCmd (s : State) : State :=
  { s with hq := ⟨List.replicate 8 ⟨0, 0, true⟩, 0, 0, true, 0, false, [], 0, true⟩, cmd := ⟨[], [], [], [], s.cmd.next⟩ }

/-- STATION_ADDR of a port as the fuses give it (R290, R340). -/
def State.loadStation (s : State) (p : Nat) : State :=
  let a := s.unit.station.getD p 0
  (s.wr (Reg.RING.STATION_LO.ADDR p) (a % 2 ^ 32)).wr (Reg.RING.STATION_HI.ADDR p) (a / 2 ^ 32)

/-- The trigger block at rest (R232). -/
def State.freshTrig (s : State) : State := { s with gan := { s.gan with syncTrig := false, trigEnd := [], trigEarly := [], trigNext := [], echo := none } }

/-- A cluster noted as starting after a SOFT_RESET (R189). -/
def State.noteSoft (s : State) (i : Nat) : State := { s with bram := { s.bram with softs := i :: s.bram.softs.filter (· != i) } }

/-- What a SOFT_RESET does before the registers return to reset (R434). -/
def State.softStop (s : State) (p : PageInfo) (pg : Nat) : State :=
  let i := pageInst p pg
  match p.type with
  | 0x09 => s.servoOff.modTime fun t => { t with hist := [], slew := 0, good := 0, reached := false, gm := none, masters := [], waiting := [], last := [], asked := none, delays := [], tsq := [], heard := [] }
  | 0x0A => s.gantryAbort
  | 0x0B => s.freshTrig
  | 0x0C => s.seamAbort
  | 0x0D => s.plumbAbort.bankAbandon
  | 0x0E => s.freshCapture
  | 0x0F => s.sqAbort.freshCmd
  | 0x10 => s.parserAbort
  | 0x11 => (s.linkDown i).setEng i 0
  | 0x12 => s.pathAbort
  | 0x15 => s.testStop
  | 0x20 => (s.clusterStop i true).noteSoft i
  | 0x22 => s.freshMon i
  | _ => s

/-- What a SOFT_RESET does after the registers are at reset. -/
def State.softAfter (s : State) (p : PageInfo) (pg : Nat) : State :=
  let i := pageInst p pg
  match p.type with
  | 0x09 =>
    let s := s.time.tevs.foldl (fun s e => s.put (Reg.TIME.TEV_STATUS.ARMED e.k) true) s
    (s.setSource s.selPort).ppsCheck
  | 0x0A => s.periodWrite 50000
  | 0x0C => s.seamRegs
  | 0x11 => s.loadStation i
  | _ => s

/-- The registers of a page back at reset, the header's among them (R434): PG_LOCK locked. -/
def State.softRegs (s : State) (p : PageInfo) (pg : Nat) : State := s.clearPage pg 8 ((0x0C, 4) :: s.softKeep p)

/-- SOFT_RESET (R434, R108): a drive tile goes to LIMIT afresh; an active ring port hands control over first, or the write is refused (R337); in FAULT it is ignored and counted. -/
def State.softReset (s : State) (p : PageInfo) (pg : Nat) : State :=
  if p.type = 0x21 then
    let t := pageInst p pg
    ((s.tileFresh t).clearPage pg 8 [(0x0C, 4)]).recomputePow
  else if p.enActs ∧ s.rd (Reg.HDR.PG_STATE.STATE pg) = 5 then s.err pg 8
  else
    let go (s : State) : State :=
      let s := ((s.softStop p pg).softRegs p pg).softAfter p pg
      let s := { s with enHeld := s.enHeld.filter (· != pg) }
      if p.enActs then s.setPage pg (if p.enReset = 1 then 1 else 4) else s
    if p.type = 0x11 ∧ s.activeEng = some (pageInst p pg) then
      let r := s.planned
      if r.2 then go r.1 else s.err pg 8
    else go s

/-- Whether PG_CTRL writes on a page are ignored and counted (R450, R424, R426, R272, R287, R403). -/
def ctrlCounted (type : Nat) : Bool := type == 0x01 || type == 0x03 || type == 0x04 || type == 0x06 || type == 0x07 || type == 0x08

/-- Whether PG_CTRL has no function on a page and writes to it are not counted: CLOCK, FUSE, SMBUS. -/
def ctrlIdle (type : Nat) : Bool := type == 0x02 || type == 0x05 || type == 0x16

/-- A write of PG_CTRL (R434): SOFT_RESET acts alone; ENABLE cleared in RUN drains; ENABLE set in HALTED starts, and in DRAINING is held. A write over PCI Express that clears PCIE's ENABLE is ignored and counted (R452). -/
def State.pgCtrl (s : State) (path : HostPath) (pg : Nat) (w : Word) : State :=
  match pageOf pg with
  | none => s
  | some p =>
    let en := getBits w 0 1 == 1
    let abort := getBits w 1 1 == 1
    let was := s.flag (Reg.HDR.PG_CTRL.ENABLE pg)
    let st := s.rd (Reg.HDR.PG_STATE.STATE pg)
    if ctrlCounted p.type then s.err pg 8
    else if ctrlIdle p.type then s
    else if getBits w 2 1 = 1 then s.softReset p pg
    else if !p.enActs then s
    else if p.type = 0x13 ∧ en = false ∧ was = true ∧ (path = .pcie ∨ path = .opPcie) then s.err pg 8
    else if was && !en && st == 2 then s.enableClear p pg abort
    else if st = 3 then
      let s := s.put (Reg.HDR.PG_CTRL.STOP_MODE pg) abort
      { s with enHeld := if en then (if s.enHeld.contains pg then s.enHeld else s.enHeld ++ [pg]) else s.enHeld.filter (· != pg) }
    else
      let s := (s.put (Reg.HDR.PG_CTRL.ENABLE pg) en).put (Reg.HDR.PG_CTRL.STOP_MODE pg) abort
      if en && !was && st == 4 then s.setPage pg 1 else s

/-- PG_EVT_RAW written (R7, R435): each 1 clears its bit. -/
def State.evtClear (s : State) (pg : Nat) (w : Word) : State := s.wrW (pg + 0x10) (s.rdW (pg + 0x10) &&& ~~~ w)

/-- The event bits that a page has (R433); the others are reserved (R6). -/
def evtMask (pg : Nat) : Word := BitVec.ofNat 32 (2 ^ (match pageOf pg with | some p => p.evtBits | none => 0) - 1)

/-- PG_EVT_EN written (R435): newly pending bits are posted. -/
def State.evtEnable (s : State) (pg : Nat) (w : Word) : State := (s.wrW (pg + 0x14) (w &&& evtMask pg)).postNew pg (s.pend pg)

/-- PG_EVT_SET written (R435): bits set as by hardware; with FAULT_EN each setting of FAULT of SUMP fires its vector (R439). -/
def State.evtSet (s : State) (pg : Nat) (w : Word) : State :=
  let w := w &&& evtMask pg
  let before := s.pend pg
  let fault := pg == 0x7000 && getBits w 3 1 == 1
  let s := (s.wrW (pg + 0x10) (s.rdW (pg + 0x10) ||| w)).postNew pg before
  if fault && s.flag Reg.PCIE.IRQ_CFG.FAULT_EN then s.msix (s.rd Reg.PCIE.IRQ_CFG.FAULT_VECTOR) else s

/-- PG_ERRCNT.CLEAR (R433). -/
def State.errClear (s : State) (pg : Nat) : State := s.wrW (pg + 0x20) 0

/-- A key written to PG_LOCK (R436). -/
def State.lockKey (s : State) (pg key : Nat) : State :=
  match pageOf pg with
  | none => s
  | some p =>
    if !p.lock then s.err pg 0x24
    else if key = 0x4F5A then s.put (Reg.HDR.PG_LOCK.LOCKED pg) false
    else if key = 0 then s.put (Reg.HDR.PG_LOCK.LOCKED pg) true
    else (s.err pg 0x24).raise 55 (pg / 0x1000)

/-- The page-relative ranges that a page's CNT_CLEAR at an offset zeroes, with the offset; none elsewhere. -/
def clearRanges (type rel : Nat) : Option (List (Nat × Nat)) :=
  match type, rel with
  | 0x02, 0x60 => some [(0x50, 16)]
  | 0x03, 0xAC => some [(0xA0, 12)]
  | 0x04, 0x68 => some [(0x64, 4)]
  | 0x06, 0xB4 => some [(0xA0, 0x14)]
  | 0x07, 0xE0 => some [(0x84, 0x18), (0xD4, 12)]
  | 0x08, 0x84 => some [(0x6C, 0x18)]
  | 0x09, 0xBC => some ([(0xAC, 16), (0x118, 0x18), (0x158, 0x18)] ++ (List.range 16).map fun k => (0x21C + 0x20 * k, 4))
  | 0x0A, 0x128 => some [(0x100, 0x28)]
  | 0x0A, 0x44C => some [(0x428, 4), (0x438, 0x14)]
  | 0x0B, 0xE8 => some [(0xD4, 0x14)]
  | 0x0C, 0x70 => some [(0x6C, 4), (0x80, 0x3C)]
  | 0x0D, 0xA4 => some [(0x90, 0x14)]
  | 0x0E, 0x64 => some ((0x4C, 0x14) :: (List.range 16).map fun r => (0x424 + 0x40 * r, 16))
  | 0x0F, 0x42C => some [(0x400, 0x2C)]
  | 0x10, 0x164 => some [(0x100, 0x64)]
  | 0x11, 0x144 => some [(0x58, 4), (0x100, 0x44)]
  | 0x12, 0x130 => some [(0x100, 0x30)]
  | 0x13, 0x64 => some [(0x4C, 0x18)]
  | 0x14, 0x74 => some [(0x54, 12)]
  | 0x15, 0xD4 => some [(0x4C, 8), (0x6C, 12), (0x84, 16), (0xA4, 4), (0xB4, 4), (0xC8, 4), (0xD0, 4)]
  | 0x16, 0x50 => some [(0x44, 12)]
  | 0x20, 0xC0 => some [(0x94, 0x2C)]
  | 0x21, 0xE0 => some [(0xC0, 0x20)]
  | 0x22, 0x164 => some ((0x148, 0x1C) :: (List.range 8).map fun u => (0x54 + 0x20 * u, 8))
  | _, _ => none

/-- What a CNT_CLEAR zeroes beside its page's words: the rules' hits (R364), the sources' totals (R404), a cluster's ages (R188), the zones' maxima (R285), a test's result (R466). -/
def State.clearExtra (s : State) (p : PageInfo) (pg : Nat) : State :=
  match p.type with
  | 0x06 => (List.range 4).foldl (fun s k => s.wr (Reg.THERMAL.ZONE_MAX.VALUE k) 0) s
  | 0x08 => { s with regs := s.regs.filter fun e => !(decide (0x680000 ≤ e.1) && decide (e.1 < 0x681000) && e.1 % 16 == 12) }
  | 0x10 => { s with regs := s.regs.filter fun e => !(decide (0x640000 ≤ e.1) && decide (e.1 < 0x660000) && (e.1 % 128 == 0x60 || e.1 % 128 == 0x64)) }
  | 0x15 => (s.wr Reg.TEST.TEST_STATUS.RESULT 0).wr Reg.TEST.TEST_STATUS.REASON 0
  | 0x20 => { s with bram := { s.bram with ages := tabPut s.bram.ages 0 (pageInst p pg) 0 } }
  | _ => s

/-- CNT_CLEAR of a page at an offset (R73 and the like). -/
def State.cntClear (s : State) (pg rel : Nat) : State :=
  match pageOf pg with
  | none => s
  | some p =>
    match clearRanges p.type rel with
    | none => s
    | some l =>
      let s := l.foldl (fun s r => s.clearRange (pg + r.1) r.2) s
      if p.type = 0x0A ∨ (p.type = 0x12) then s else s.clearExtra p pg

end Sys2Proof.Machine
end

