-- ==== Sys2Proof/Machine/Power.lean ====
section
/-! DEFINITION. Rails (R406 to R410), power domains (R411 to R414), the resets (R415), the zones' halt (R272), and BOOT (R416, R417). -/
namespace Sys2Proof.Machine

/-- A rail is in tolerance (R410, R424). -/
def State.railOk (s : State) (r : Nat) : Bool := getBits (s.rdW 0x2040) r 1 == 1

/-- The pages of a switched domain (R411). -/
def domPages (d : Nat) : List (PageInfo × Nat) :=
  pageInfos.filterMap fun p =>
    match p.dom with
    | none => none
    | some b => if b ≤ d ∧ d < b + p.count then some (p, p.base + 0x1000 * (d - b)) else none

/-- Every page that is always powered or lies in a domain that BOOT does not have to bring up. -/
def bootOn : List Nat := [216, 220, 222, 223]

/-- The pages that follow their domain's power: PG_STATE as it becomes ON (R434). -/
def State.pageOnState (s : State) (p : PageInfo) (pg : Nat) : State :=
  if p.enActs then s.setPage pg (if p.enReset = 1 then 1 else 4) else s

/-- The words of the windows that a domain holds, at their reset values, with the live copies of the parser. -/
def State.clearWindows (s : State) (d : Nat) : State :=
  if 206 ≤ d ∧ d < 210 then s.clearRange (0x200000 + 16 * 2432 * (d - 206)) (16 * 2432)
  else if d = 216 then s.clearRange 0x7F0000 0x1010
  else if d = 218 then (s.clearRange 0x400000 0x100000).clearRange 0x580000 0x40000
  else if d = 219 then { (s.clearRange 0x620000 0x1800).clearRange 0x640000 0x20000 with live := [] }
  else if d = 221 then s.clearRange 0x600000 0x10000
  else s

/-- What a domain holds beside its registers is lost with its power. -/
def State.forgetDomain (s : State) (d : Nat) : State :=
  if d < 128 then (s.tileFresh d).recomputePow
  else if d < 206 then s.freshMon (d - 128)
  else if d < 210 then
    let k := d - 206
    { s with bram := { s.bram with
        elems := s.bram.elems.filter fun e => !(e.1 / 2432 == k)
        ages := tabPut s.bram.ages 0 k 0
        ramps := s.bram.ramps.filter fun e => !(e.1 / 32 == k) } }
  else if d = 214 ∨ d = 215 then (s.linkDown (d - 214)).setEng (d - 214) 0
  else if d = 216 then s.pcieDown 0 false
  else if d = 217 then { s with seam := State.reset.seam }
  else if d = 218 then
    let s := s.discardMarks
    { s with gan := State.reset.gan, img := { s.img with prefetch := [], next := none, staged := none, checking := none, release := [] } }
  else if d = 219 then ({ s with parser := State.reset.parser }).freshCmd
  else if d = 221 then s.freshCapture
  else if d = 223 then { s with plumb := State.reset.plumb }
  else s

/-- The page-relative ranges that outlive their domain's power: BOOTMODE is a strap (R426), and FUSE_STATUS and GEN_STATUS describe the fuses and the working set, which is not switched (R411). -/
def keptOff (d : Nat) : List (Nat × Nat) := if d = 222 then [(0x40, 4)] else if d = 223 then [(0x40, 8)] else []

/-- The registers of a domain's pages and windows at their reset values (R412). -/
def State.clearDomain (s : State) (d : Nat) : State :=
  ((domPages d).foldl (fun s p => s.clearPage p.2 0 (if p.1.type = 0x0D then [] else keptOff d)) s).clearWindows d

/-- What a page shows as its block comes up: a ring port's STATION_ADDR (R340), the fuses (R312), the period (R195). -/
def State.pageLoad (s : State) (p : PageInfo) (pg : Nat) : State :=
  match p.type with
  | 0x05 => s.fuseRegs
  | 0x0A => s.periodWrite 50000
  | 0x11 => s.loadStation (pageInst p pg)
  | _ => s

/-- A domain reaches ON (R412, R434): every register of its pages at its reset value, but for an SDRAM channel's training values, which were cleared as it went OFF, or which a system reset kept (R415). -/
def State.domainOn (s : State) (d : Nat) : State :=
  let s := if 210 ≤ d ∧ d < 214 then s else s.clearDomain d
  let s := s.setDomain d Dom.onIdle
  let s := if d < 128 then (s.tileFresh d).recomputePow else s
  let s := (domPages d).foldl (fun s p => (s.pageOnState p.1 p.2).pageLoad p.1 p.2) s
  s.evt 0x2000 3

/-- The domains that are powering up. -/
def State.poweringUp (s : State) : Nat := s.dom.countP fun e => e.2.pstate == 1

/-- Power-ups that wait start in index order, while fewer than 16 are under way (R412). -/
def State.startWaiting (s : State) : State :=
  (List.range 224).foldl (fun s d =>
    let x := s.domain d
    if x.pstate == 0 && x.wait == 1 && decide (s.poweringUp < 16) then s.setDomain d { x with pstate := 1, wait := 0 } else s) s

/-- PG_STATE of a page is HALTED. -/
def State.pageHalt (s : State) (pg : Nat) : Bool := s.pageOn pg && s.rd (Reg.HDR.PG_STATE.STATE pg) == 4

/-- The drive tiles of a cluster (R15). -/
def clusterTiles (k : Nat) : List Nat := (List.range 32).map fun i => 32 * k + i

/-- R411: a power-down of a domain is permitted. -/
def State.powerPermits (s : State) (d : Nat) (viaPcie : Bool) : Bool :=
  if d < 128 then s.tileAllOff d || s.dev == .safe || s.dev == .halt
  else if d < 206 then
    let m := d - 128
    let ks := if m < 76 then [monCluster m] else [0, 1, 2, 3]
    s.pageHalt (monPg m) && (s.dev == .hold || s.dev == .halt || ks.all fun k => s.pageHalt (bramPg k))
  else if d < 210 then s.pageHalt (bramPg (d - 206)) && (clusterTiles (d - 206)).all fun t => (s.domain t).pstate == 0
  else if d < 214 then s.pageHalt (sdPg (d - 210))
  else if d < 216 then !s.flag (Reg.HDR.PG_CTRL.ENABLE (ringPg (d - 214)))
  else if d = 216 then s.pageHalt 0x13000 && !viaPcie
  else if d = 217 then s.pageHalt seamPg
  else if d = 218 then s.pageHalt gantryPg
  else if d = 219 then s.pageHalt parserPg && s.pageHalt cmdPg
  else if d = 221 then s.pageHalt 0xD000
  else if d = 222 then s.dev != .boot && s.boot.check.isNone && !s.flag Reg.FUSE.FUSE_STATUS.COMMIT_BUSY && !s.flag Reg.PLUMB.BANK_STATUS.COPYING
  else if d = 223 then s.pageHalt plumbPg && !s.flag Reg.FUSE.FUSE_STATUS.COMMIT_BUSY
  else false

/-- A granted power-down (R412): the domain's outputs are quiesced and it is on its way to OFF. -/
def State.domainQuiesce (s : State) (d : Nat) : State :=
  let s := if d < 128 then s.tileQuiesce d else s
  s.setDomain d ⟨3, false, false, 0, false⟩

/-- A power-down request of a domain that is ON judged (R411, R412). -/
def State.judgeDown (s : State) (d : Nat) (viaPcie : Bool) : State :=
  if s.powerPermits d viaPcie then s.domainQuiesce d
  else
    let s := (s.setDomain d ⟨2, true, true, 0, false⟩).inc Reg.POWER.CNT_PWR_REFUSED.COUNT
    let s := s.evt 0x2000 1
    if d < 128 then s.evt (drivePg d) 7 else s

/-- PG_PWR.ON written 0 on a page (R412, R414). -/
def State.powerDown (s : State) (path : HostPath) (pg : Nat) : State :=
  match domOfPage pg with
  | none => s.err pg 0x2C
  | some d =>
    let x := s.domain d
    let viaPcie := path == .pcie || path == .opPcie
    if s.dev = .off then s
    else if x.pstate = 2 then s.judgeDown d viaPcie
    else if x.pstate = 1 then s.setDomain d { x with on := false, refused := false, wait := 2, viaPcie := viaPcie }
    else s.setDomain d { x with on := false, refused := false, wait := 0 }

/-- PG_PWR.ON written 1 on a page (R412, R414). -/
def State.powerUp (s : State) (pg : Nat) : State :=
  match domOfPage pg with
  | none => s.err pg 0x2C
  | some d =>
    let x := s.domain d
    if s.dev = .off then s
    else if x.pstate = 0 ∨ x.pstate = 3 then (s.setDomain d { x with on := true, refused := false, wait := 1 }).startWaiting
    else s.setDomain d { x with on := true, refused := false, wait := 0 }

/-- DOMAIN_POWERED_DOWN (R412 to R414): a domain on its way to OFF is OFF. -/
def State.domainDown (s : State) (d : Nat) : State :=
  let x := s.domain d
  if 224 ≤ d ∨ x.pstate ≠ 3 then s
  else
    let s := ((s.forgetDomain d).clearDomain d).setDomain d { x with pstate := 0 }
    (s.evt 0x2000 2).startWaiting

/-- DOMAIN_POWERED_UP (R412, R414): a domain that powers up is ON; a power-down asked for meanwhile is judged. -/
def State.domainUp (s : State) (d : Nat) : State :=
  let x := s.domain d
  if 224 ≤ d ∨ x.pstate ≠ 1 then s
  else
    let s := s.domainOn d
    let s := if x.wait = 2 then s.judgeDown d x.viaPcie else s
    s.startWaiting

/-- A page's block is halted (R434): FAULT. -/
def State.pageFault (s : State) (pg : Nat) : State := if s.pageOn pg then s.setPage pg 5 else s

/-- A Bramble cluster halted (R272, R434). -/
def State.haltCluster (s : State) (k : Nat) : State := (s.clusterStop k true).pageFault (bramPg k)

/-- A tile's domain powered down by a zone's halt (R272). -/
def State.haltDomain (s : State) (d : Nat) : State :=
  let x := s.domain d
  if x.pstate = 1 ∨ x.pstate = 2 then s.domainQuiesce d else s.setDomain d { x with on := false, wait := 0 }

/-- The consumers of a protection zone halted (R272). -/
def State.haltZone (s : State) (k : Nat) : State :=
  match k with
  | 0 =>
    let s := (List.range 128).foldl (fun s t => (List.range 77).foldl (fun s c => (s.dropHeld t c).setLive 1 t c 0 true) s) s
    [0, 1, 2, 3].foldl State.haltCluster { s with bram := { s.bram with ramps := [] } }
  | 1 =>
    let s := [0, 1].foldl State.haltCluster s
    ((List.range 64) ++ (List.range 38).map (128 + ·) ++ [204]).foldl State.haltDomain s
  | 2 =>
    let s := [2, 3].foldl State.haltCluster s
    ((List.range 64).map (64 + ·) ++ (List.range 38).map (166 + ·) ++ [205]).foldl State.haltDomain s
  | 3 =>
    let s := (s.seamAbort).pageFault seamPg
    let s := [0, 1, 2, 3].foldl State.haltCluster s
    let s := (s.plumbAbort).pageFault plumbPg
    let s := ((List.range 16).foldl State.capFlush s).pageFault 0xD000
    s.pageFault cmdPg
  | _ => s

/-- The commissioning check that runs is dropped: an event of higher order has taken the device elsewhere (R26, R420); PHASE is that of HOLD again. -/
def State.checkDrop (s : State) : State :=
  let s := if s.boot.check.isSome then s.wr Reg.BOOT.BOOT_STATUS.PHASE 6 else s
  { s.put Reg.BOOT.CHECK_STATUS.BUSY false with boot := { s.boot with check := none } }

/-- The device enters HALT (R25, R272): Gantry FROZEN, the consumers of the zones named halted. -/
def State.enterHalt (s : State) (zones : List Nat) : State :=
  let s := ((s.goto .halt).gantryFreeze).closeWindow
  zones.foldl State.haltZone s.checkDrop

/-- A zone has been at SHUTDOWN for HALT_DELAY (R272), by the rounds since its level last changed. -/
def State.haltDue (s : State) (k : Nat) : Bool :=
  s.zoneLevel k == 3 && decide (max 1 (s.rd Reg.THERMAL.HALT_DELAY.MS) * ms ≤ (s.therm.zones.getD k ⟨[], 0, none⟩).since * (50 * us))

/-- SHUTDOWN_PERSIST (R272): a zone is still at SHUTDOWN HALT_DELAY after it entered it. From HOLD, as from ARMED and RUN, this is a HALT reaction with the zone as its scope, and fires the safe strobe; from SAFE and BOOT the device enters HALT; in HALT the consumers of this zone are halted too. Its source opens or merges into a record (R395). -/
def State.shutdownPersist (s : State) (k : Nat) : State :=
  if 4 ≤ k ∨ s.haltDue k = false then s
  else
    match s.dev with
    | .safe => (s.enterHalt [k]).raiseDirect 27 k
    | .boot => ((s.enterHalt [k]).wr Reg.BOOT.BOOT_STATUS.PHASE 9).raiseDirect 27 k
    | .hold | .armed | .run =>
      let s := (s.fireSafe).enterHalt [k]
      ((s.inc Reg.SUMP.CNT_HALT.COUNT).evt 0x7000 5).raiseDirect 27 k
    | .halt => s.haltZone k
    | .off => s

/-- The power state of the domains as BOOT begins (R414, R417): those that BOOT needs at once are ON, the others power up in index order. -/
def bootDomains : Tab Dom :=
  ((List.range 224).filter fun d => !bootOn.contains d).map fun d => (d, if d < 16 then ⟨1, true, false, 0, false⟩ else ⟨0, true, false, 1, false⟩)

/-- What a commit that a reset or a loss of power stops has burnt (R311): bytes of the target region of its image, or of a marker. -/
def State.interruptCommit (s : State) (burnt : List (Nat × Byte)) : State :=
  if s.plumb.commit.isSome then burnt.foldl (fun s e => s.burn e.1 [e.2]) s else s

/-- Registers within some ranges. -/
def State.keepRegs (s : State) (l : List (Nat × Nat)) : Tab Word :=
  s.regs.filter fun e => l.any fun k => decide (k.1 ≤ e.1) && decide (e.1 < k.1 + k.2)

/-- Power-on reset (R415): everything, the contents of SDRAM included; the unit's identity, the fuses, the rails and the pins stand as they are. -/
def State.powerOnReset (s : State) (burnt : List (Nat × Byte)) : State :=
  let s := s.interruptCommit burnt
  { State.reset with
    pending := s.pending, out := s.out, freeCtr := s.freeCtr, unit := s.unit
    regs := s.keepRegs [(0x2040, 4), (0x800000, 0x200000)]
    drv := { State.reset.drv with clamp := s.drv.clamp }
    pcie := { State.reset.pcie with perst := s.pcie.perst } }

/-- What a system reset keeps of the registers (R415): the always-on domain with RESET_CAUSE, BOOTMODE as sampled, the working set with its status, SDRAM training values, the fuses. -/
def sysKept : List (Nat × Nat) :=
  [(0x2040, 12), (0x4040, 8), (0x7C80, 0x80), (0x19000, 0x1000), (0x300000, 0x70000), (0x800000, 0x200000),
   (0x14040, 4), (0x14048, 4), (0x15040, 4), (0x15048, 4), (0x16040, 4), (0x16048, 4), (0x17040, 4), (0x17048, 4)]

/-- The pages that are ON as BOOT begins take the state that their ENABLE gives (R434). -/
def State.bootPages (s : State) : State :=
  dirPages.foldl (fun s pg =>
    match pageOf pg with
    | some p => if s.pageOn pg then (s.pageOnState p pg).pageLoad p pg else s
    | none => s) s

/-- System reset (R415, R417): BOOT is entered again; the time counter returns to 0 and keeps running (R236). -/
def State.sysReset (s : State) (burnt : List (Nat × Byte)) : State :=
  if s.dev = .off then s
  else
    let s := s.interruptCommit burnt
    let mode := s.rd Reg.BOOT.BOOT_STATUS.BOOTMODE
    let trained := s.flag Reg.BOOT.BOOT_STATUS.SDRAM_TRAINED
    let n : State := { State.reset with
      pending := s.pending, out := s.out, freeCtr := s.freeCtr, unit := s.unit
      dev := s.dev, regs := s.keepRegs sysKept, clkRun := s.clkRun, sd := s.sd, dom := bootDomains
      drv := { State.reset.drv with clamp := s.drv.clamp }
      pcie := { State.reset.pcie with perst := s.pcie.perst }
      test := { State.reset.test with jtag := s.test.jtag, cells := s.test.cells }
      smb := s.smb
      boot := { State.reset.boot with cold := false } }
    let n := (n.wr Reg.BOOT.BOOT_STATUS.BOOTMODE mode).put Reg.BOOT.BOOT_STATUS.SDRAM_TRAINED trained
    let n := (n.put Reg.FUSE.FUSE_STATUS.COMMIT_BUSY false).zero ([0, 1, 2, 3].map fun c => Reg.SDRAM.TRAIN_STATUS.BUSY c)
    let n := if s.dev = .boot then n else n.goto .boot
    n.bootPages

/-- PORESET_N rises with VDD_AON in tolerance (R25, R416): BOOT, with BOOTMODE as sampled. -/
def State.poresetRise (s : State) (mode : Nat) : State :=
  if s.dev != .off || !s.railOk 0 then s
  else
    let s := State.goto { s with dom := bootDomains } .boot
    (s.wr Reg.BOOT.BOOT_STATUS.BOOTMODE mode).bootPages

/-- The rails of the three steps of R407: a rail that comes up needs these. -/
def railNeeds (r : Nat) : List Nat := if r = 0 then [] else if r = 3 ∨ r = 4 ∨ r = 5 then [0, 1, 2, 6, 7, 8, 9, 10] else [0]

/-- The clamp bit of a drive supply (R110): VDD_DRVP, VDD_DRVN, VDD_HTR. -/
def clampBit (r : Nat) : Nat := if r = 3 then 1 else if r = 4 then 2 else if r = 5 then 4 else 0

/-- Clamps set or ended with a drive supply (R110, R410). -/
def State.clampWith (s : State) (r : Nat) (on : Bool) : State :=
  let b := clampBit r
  { s with drv := { s.drv with clamp := if on then s.drv.clamp ||| b else s.drv.clamp - (s.drv.clamp &&& b) } }

/-- RAIL_EXCURSION (R410): a rail stays out of tolerance for 1 µs; burnt is what a fuse commit in progress had burnt where VDD_AON is lost. -/
def State.railLost (s : State) (r : Nat) (burnt : List (Nat × Byte)) : State :=
  if 11 ≤ r ∨ s.railOk r = false then s
  else if r = 0 then
    let s := s.powerOnReset burnt
    s.wrW 0x2040 (putBits (s.rdW 0x2040) 0 1 0)
  else
    let s := s.wrW 0x2040 (putBits (s.rdW 0x2040) r 1 0)
    let s := (s.wrW 0x2044 (putBits (s.rdW 0x2044) r 1 1)).clampWith r true
    if s.dev = .off then s
    else
      let s := (s.inc Reg.POWER.CNT_RAIL.COUNT).evt 0x2000 0
      if r = 9 ∨ r = 10 then (s.linkDown 0).linkDown 1 else s

/-- RAIL_BACK_IN_TOLERANCE (R410): its bit is set and its clamp ends. While the device is OFF the order of R407 is judged: SEQ_STATUS keeps the first rail that came up out of order (R409). -/
def State.railBack (s : State) (r : Nat) : State :=
  if 11 ≤ r ∨ s.railOk r = true then s
  else
    let wrong := (railNeeds r).any fun q => !s.railOk q
    let s := (s.wrW 0x2040 (putBits (s.rdW 0x2040) r 1 1)).clampWith r false
    if s.dev != .off then s
    else if r = 0 then (s.put Reg.POWER.SEQ_STATUS.ORDER_OK true).wr Reg.POWER.SEQ_STATUS.FIRST_WRONG 0
    else if wrong && s.flag Reg.POWER.SEQ_STATUS.ORDER_OK then
      (s.put Reg.POWER.SEQ_STATUS.ORDER_OK false).wr Reg.POWER.SEQ_STATUS.FIRST_WRONG r
    else s

/-- A boot phase is done: PHASE (R417, R426). -/
def State.phaseDone (s : State) (n : Nat) (f : BootSt → BootSt) : State :=
  State.wr { s with boot := f s.boot } Reg.BOOT.BOOT_STATUS.PHASE n

/-- Training is part of this BOOT (R416, R417). -/
def State.bootTrains (s : State) : Bool := s.boot.cold && s.rd Reg.BOOT.BOOT_STATUS.BOOTMODE % 2 == 1

/-- HOLD is entered once every phase of BOOT is done and it does not wait (R25, R416, R417). -/
def State.holdCheck (s : State) : State :=
  let b := s.boot
  if s.dev == .boot && b.pll && b.fuse && b.self && b.doms && (!s.bootTrains || b.trained) && !s.flag Reg.BOOT.BOOT_STATUS.WAIT then
    let s := (s.phaseDone 6 id).wr Reg.BOOT.BOOT_TIME.US (min (b.lockUs + s.up / us) (2 ^ 32 - 1))
    (s.goto .hold).evt 0x3000 0
  else s

/-- ROOT_PLL_LOCK (R22, R236, R417): so many µs after the rise of PORESET_N. -/
def State.pllLock (s : State) (t : Nat) : State :=
  if s.dev != .boot || s.boot.pll then s
  else
    let s := (s.phaseDone 1 fun b => { b with pll := true, lockUs := t }).wr Reg.CLOCK.PLL_STATUS.LOCK (s.rd Reg.CLOCK.PLL_STATUS.LOCK ||| 9)
    State.holdCheck { s with clkRun := true }

/-- BOOT_FUSE_LOAD (R294, R417): after a system reset nothing new is built. -/
def State.bootFuse (s : State) : State :=
  if s.dev != .boot || s.boot.fuse || !s.boot.pll then s
  else
    let s := if s.boot.cold then s.fuseLoad else s
    (s.phaseDone 2 fun b => { b with fuse := true }).holdCheck

/-- SELF_TEST_COMPLETE (R25, R395, R417) with the failing blocks. -/
def State.selfTest (s : State) (failing : List Nat) : State :=
  if s.dev != .boot || s.boot.self || !s.boot.fuse then s
  else
    let bad := (List.range 10).filter fun b => failing.contains b
    match bad with
    | [] =>
      let s := s.phaseDone 3 fun b => { b with self := true }
      let s := s.put Reg.BOOT.BOOT_STATUS.WAIT (decide (2 ≤ s.rd Reg.BOOT.BOOT_STATUS.BOOTMODE))
      (s.avsSend .readVout).holdCheck
    | b :: _ =>
      let s := (s.wr Reg.BOOT.SELFTEST_FAIL.BLOCKS (ofOnes bad)).evt 0x3000 3
      ((s.phaseDone 9 id).goto .halt).raiseDirect 49 b

/-- BOOT_DOMAINS_ON (R417): every domain that is not ON yet is; training begins where BOOTMODE0 asks for it. -/
def State.bootDomainsOn (s : State) : State :=
  if s.dev != .boot || s.boot.doms || !s.boot.self then s
  else
    let s := ((List.range 224).filter fun d => !s.domOn d).foldl State.domainOn s
    let s := s.phaseDone 4 fun b => { b with doms := true }
    let s := if s.bootTrains then s.trainStart else s
    s.holdCheck

/-- SDRAM_TRAINING_DONE (R417, R447). -/
def State.trainingDone (s : State) (res : List (Nat × Nat × Option Nat)) (time : Nat) : State :=
  if !([0, 1, 2, 3].any fun c => s.flag (Reg.SDRAM.TRAIN_STATUS.BUSY c)) then s
  else
    let s := s.trainEnd res time
    if s.dev = .boot then (s.phaseDone 5 fun b => { b with trained := true }).holdCheck else s

/-- CONTINUE (R416): WAIT ends. -/
def State.bootContinue (s : State) : State :=
  if s.dev = .boot then (s.put Reg.BOOT.BOOT_STATUS.WAIT false).holdCheck else s

/-- READY_RELEASE (R422): READY, driven low for 100 ns, is driven no more. -/
def State.readyRelease (s : State) : State :=
  if s.up < s.boot.readyAt + 100 * ns then s else { s with boot := { s.boot with readyLow := false } }

end Sys2Proof.Machine
end

