-- ==== Sys2Proof/Machine/Commission.lean ====
section
/-! DEFINITION. The commissioning record and its check (R418 to R421), and the entry to ARMED (R177, R392). -/
namespace Sys2Proof.Machine

/-- The commissioning record (R418), 1,024 bytes. -/
def State.recordBytes (s : State) : List Byte := s.winList 0x3800 1024

/-- Check 1 (R418, R419): the lowest offset of a bad field, of a reserved byte that is not 0, or of an unused slot entry that is not 0. -/
def badRecord (b : List Byte) : Option Nat :=
  let len := leAt b 4 2
  let n := leAt b 6 2
  let k := leAt b 0x14 1
  let zero (l : List Nat) : Option Nat := l.find? fun i => leAt b i 1 != 0
  if leAt b 0 2 ≠ 0x434D then some 0
  else if leAt b 2 1 ≠ 1 then some 2
  else if len % 4 ≠ 0 ∨ len < 64 ∨ 1024 < len ∨ len < 64 + 12 * n then some 4
  else if 80 < n then some 6
  else if 16 < k then some 0x14
  else zero ([0x15, 0x16, 0x17] ++ (List.range (32 - 2 * k)).map (0x18 + 2 * k + ·) ++ [0x3C, 0x3D, 0x3E, 0x3F])

/-- The page, as base / 0x1000, that an offset is charged to: a window's is its owner's. -/
def pageNo (off : Nat) : Nat :=
  match windowOf off with
  | some w => ownerOf w off / 0x1000
  | none => off / 0x1000

/-- A node or rule whose shadow differs from its live copy (R349, R357). -/
def State.shadowDiffers (s : State) : Bool :=
  let same (off : Nat) : Bool := s.rdW off == tabGet s.live (resetWord off) off
  let words (base : Nat) (n : Nat) : Bool := (List.range n).all fun k => same (base + 4 * k)
  !((List.range 48).all fun n => words (0x620000 + 0x80 * n) 31) || !((List.range 1024).all fun i => words (0x640000 + 0x80 * i) 21)

/-- Check 4 (R419): the lowest page that is half written. -/
def State.halfWritten (s : State) : Option Nat :=
  let held := s.heldW.map fun e => pageNo (e.1 % 2 ^ 24)
  let dirty := ((List.range 128).filter fun t => tileChans.any fun c => s.flag (dirtyFld c.1 t c.2)).map fun t => drivePg t / 0x1000
  let rules := if s.shadowDiffers then [0xF] else []
  match held ++ rules ++ dirty with
  | [] => none
  | a :: r => some (r.foldl min a)

/-- Check 5 (R419): the first check entry that does not hold. An address that is not aligned names no register, and its entry fails. -/
def State.regMismatch (s : State) (b : List Byte) : Option Nat :=
  (List.range (leAt b 6 2)).find? fun j =>
    let a := leAt b (0x40 + 12 * j) 4
    let m := leAt b (0x44 + 12 * j) 4
    a % 4 != 0 || (s.viewWord a).toNat &&& m != leAt b (0x48 + 12 * j) 4 &&& m

/-- Check 8 (R419): a slot that must be VALID and is not. -/
def State.slotMissing (s : State) (b : List Byte) : Option Nat :=
  let l := (List.range (leAt b 0x14 1)).map fun i => leAt b (0x18 + 2 * i) 2
  let l := if s.rd Reg.GANTRY.UNDERFLOW_POLICY.POLICY = 1 then l ++ [s.rd Reg.GANTRY.SAFE_IMAGE.SLOT] else l
  l.find? fun n => decide (512 ≤ n) || !s.slotValid n

/-- Check 9 (R419). -/
def State.gantryMismatch (s : State) (b : List Byte) : Bool :=
  let lim := leAt b 0x38 2
  let idx := leAt b 0x3A 2
  let i := s.rd Reg.GANTRY.START_CFG.INDEX
  (lim != 0xFFFF && lim != s.gan.limit) || (idx != 0xFFFF && idx != i) || decide (s.gan.limit ≤ i) || s.flag Reg.GANTRY.LOCK_STATUS.BUSY ||
  (s.flag Reg.GANTRY.START_CFG.FROM_STREAM && !s.flag Reg.GANTRY.STREAM_CFG.ENABLE)

/-- Check 11 (R419): the first channel that is not trained, 4 for the map. -/
def State.sdramMissing (s : State) : Option Nat :=
  match [0, 1, 2, 3].find? fun c => !s.flag (Reg.SDRAM.TRAIN_STATUS.TRAINED c) with
  | some c => some c
  | none => if s.mapOverlap || s.mapBeyond then some 4 else none

/-- Check 12 (R419): the lowest domain that must be ON and is not: drive and monitor tiles, Bramble clusters, Gantry, the time unit. -/
def State.domainMissing (s : State) : Option Nat := ((List.range 210) ++ [218, 220]).find? fun d => !s.domOn d

/-- Check 14 (R419): its detail. -/
def State.startConflict (s : State) : Option Nat :=
  let mode := s.rd Reg.GANTRY.START_CFG.MODE
  if s.rd Reg.GANTRY_TRIG.SYNC_CFG.ROLE = 2 ∧ mode ≠ 2 then some 1
  else if mode = 3 ∧ (s.time.tevs.any fun e => s.tevHas e.k 1) = false then some 2
  else none

/-- The identity of the open record, or of the next one (R394). -/
def State.recordId (s : State) : Nat :=
  if s.flag Reg.SUMP.SUMP_STATUS.OPEN then (s.rdW 0x7800).toNat else s.rd Reg.SUMP.NEXT_RECORD.ID

/-- The failing checks of R419, lowest first, each with its detail. -/
def State.commitCheck (s : State) (crc : Nat) : List (Nat × Nat) :=
  let b := s.recordBytes
  match badRecord b with
  | some o => [(1, o)]
  | none =>
    if crc32c (b.take (leAt b 4 2)) ≠ crc then [(2, 0)]
    else
      let flags := leAt b 3 1
      let uid := leAt b 8 8
      let opt (r : Nat) (o : Option Nat) : List (Nat × Nat) := (o.map fun d => (r, d)).toList
      let if' (r : Nat) (c : Bool) (d : Nat) : List (Nat × Nat) := if c then [(r, d)] else []
      let rules := s.validRules.length
      let count := leAt b 0x12 2
      if' 3 (uid != 0 && uid != s.unit.unitId) 0
      ++ opt 4 s.halfWritten
      ++ opt 5 (s.regMismatch b)
      ++ if' 6 (!s.wsInForce) 0
      ++ if' 7 (s.servo != 2 && (bitOf flags 0 || s.rd Reg.GANTRY.START_CFG.MODE == 1)) s.servo
      ++ opt 8 (s.slotMissing b)
      ++ if' 9 (s.gantryMismatch b) 0
      ++ if' 10 (leAt b 0x10 2 != s.rd Reg.PARSER.RULE_GEN.GEN || (count != 0xFFFF && count != rules)) rules
      ++ (if bitOf flags 1 then opt 11 s.sdramMissing else [])
      ++ opt 12 s.domainMissing
      ++ if' 13 (s.flag Reg.SUMP.SUMP_STATUS.OPEN) (s.recordId % 65536)
      ++ opt 14 s.startConflict

/-- A commit accepted in HOLD (R419, R420): the device is judged as it stands. -/
def State.commitStart (s : State) (crc : Nat) : State :=
  let rs := s.commitCheck crc
  let s := (s.phaseDone 7 fun b => { b with check := some rs }).put Reg.BOOT.CHECK_STATUS.BUSY true
  s.inc Reg.BOOT.ARMED_INFO.COMMITS

/-- BOOT.COMMIT.GO (R419, R420): in HOLD with no check running; at other times ignored and counted. -/
def State.commissionGo (s : State) : State :=
  if s.dev != .hold || s.boot.check.isSome then s.err 0x3000 0x54 else s.commitStart (s.rd Reg.BOOT.COMMIT_CRC.CRC)

/-- The pending-quarantine list (R392). -/
def State.quarList (s : State) : List Nat :=
  ((List.range 64).filter fun i => s.flag (Reg.SUMP.QUAR_LIST.VALID i)).map fun i => s.rd (Reg.SUMP.QUAR_LIST.EID i)

/-- The codes of R177 put on an element by direct update. -/
def State.armedCodes (s : State) (eid : Nat) : State :=
  let t := tileOf eid
  let c := if isCell eid then clampFast (s.cellCode eid false) else sgn 12 (s.rd (Reg.DRIVE.FAST_CFG.SAFE_CODE t (chanOf eid)))
  (s.directFast eid c).directHtr eid (clampHtr (s.htrOfI t (s.iQ eid))).toNat

/-- An element that is OFF as the device enters ARMED (R177, R178, R392): where it may run it takes its codes and enters ACQUIRE, or QUARANTINED where it is listed. -/
def State.armElem (s : State) (listed : List Nat) (eid : Nat) : State :=
  if s.status eid = stOff ∧ s.mayRun eid = true then
    let s := (s.armedCodes eid).elemStart eid
    if listed.contains eid then (s.inc Reg.SUMP.CNT_QUAR.COUNT).quarantine eid else s
  else s

/-- A tile in LIMIT as the device enters ARMED (R108): SERVICE, with its SAFE_CODE loaded. -/
def State.armTile (s : State) (t : Nat) : State :=
  if s.domOn t ∧ s.tileMode t = 1 then ((s.wr (Reg.DRIVE.TILE_STATUS.MODE t) 2).wr (Reg.DRIVE.RB_STATUS.SLOT t) 0).loadSafe t else s

/-- The entry to ARMED (R25, R108, R177, R392): the tiles enter SERVICE, elements that are OFF start, and the pending-quarantine list is cleared. -/
def State.armedEntry (s : State) : State :=
  let s := s.goto .armed
  let listed := s.quarList
  let s := (List.range 128).foldl State.armTile s
  let s := allElems.foldl (fun s eid => s.armElem listed eid) s
  ((s.clearRange 0x7700 0x100).wr Reg.SUMP.SUMP_STATUS.QUAR_PENDING 0).seamPins.checkHtrOver

/-- The outcome of a check (R419, R421), refused with its failing checks. -/
def State.checkRefuse (s : State) (rs : List (Nat × Nat)) : State :=
  let first := rs.headD (0, 0)
  let s := ((s.checkDrop).phaseDone 6 id).wr Reg.BOOT.CHECK_STATUS.RESULT 2
  let s := (s.wr Reg.BOOT.CHECK_STATUS.FIRST_REASON first.1).wr Reg.BOOT.CHECK_STATUS.DETAIL first.2
  let s := s.wr Reg.BOOT.CHECK_REASONS.REASONS (ofOnes (rs.map (·.1)))
  (s.inc Reg.BOOT.CNT_REFUSED.COUNT).evt 0x3000 2

/-- The outcome of a check that passes (R421): ARMED. -/
def State.checkPass (s : State) : State :=
  let s := ((s.checkDrop).phaseDone 8 id).wr Reg.BOOT.CHECK_STATUS.RESULT 1
  let s := ((s.wr Reg.BOOT.CHECK_STATUS.FIRST_REASON 0).wr Reg.BOOT.CHECK_STATUS.DETAIL 0).wr Reg.BOOT.CHECK_REASONS.REASONS 0
  let s := s.put Reg.BOOT.ARMED_INFO.HOST_CAL (s.rd Reg.FUSE.FUSE_STATUS.WS_SOURCE == 1)
  (s.evt 0x3000 1).armedEntry

/-- COMMISSION_CHECK_DONE (R25, R421): in HOLD, where a check runs. -/
def State.checkDone (s : State) : State :=
  if s.dev = .hold then
    match s.boot.check with
    | none => s
    | some [] => s.checkPass
    | some rs => s.checkRefuse rs
  else s

end Sys2Proof.Machine
end

