-- ==== Sys2Proof/Machine/Sump.lean ====
section
/-! DEFINITION. Sump: classification (R389), reactions (R391, R392), the record (R393 to R398), and the exit from SAFE (R401). -/
namespace Sys2Proof.Machine

/-- Bytes written over a range of registers, whole words. -/
def State.wrBytes (s : State) (off : Nat) (l : List Byte) : State :=
  ((wordsOf l).zip (List.range (l.length / 4))).foldl (fun s p => s.wrW (off + 4 * p.2) p.1) s

/-- The open record (R394), 128 bytes. -/
def State.openRecord (s : State) : List Byte := s.winList 0x7800 128

/-- A record is open (R393). -/
def State.recordOpen (s : State) : Bool := s.flag Reg.SUMP.SUMP_STATUS.OPEN

/-- The sources whose first data is an EID (R392). -/
def eidSource (src : Nat) : Bool := src == 17 || src == 18 || src == 20 || src == 11 || decide (240 ≤ src)

/-- The EID that a fault names (R392). -/
def eidNamed (src data : Nat) : Option Nat := if eidSource src && decide (data < numElem) then some data else none

/-- The egress ports that BLANK_PORTS blanks for a fault (R392). -/
def State.portsNamed (s : State) (src data : Nat) : List Nat :=
  if src = 22 then (if data < 512 ∧ s.img.live.isSome then (List.range 512).filter fun e => ingressOf s.img.liveCells e == data else [])
  else
    match eidNamed src data with
    | none => []
    | some eid => if isCell eid then (if s.img.live.isSome then egressAt s.img.liveCells (placeOf eid) else []) else [placeOf eid]

/-- QUARANTINE_ELEMENT on an element (R168, R392): at once, or through the pending list where it is OFF. -/
def State.sumpQuarantine (s : State) (eid : Nat) : State :=
  if s.status eid ≠ stOff then (if s.status eid = stQuar then s else ((s.inc Reg.SUMP.CNT_QUAR.COUNT).quarantineNow eid).seamPins)
  else if s.quarList.contains eid then s
  else
    let n := s.quarList.length
    if n < 64 then
      let s := (s.wr (Reg.SUMP.QUAR_LIST.EID n) eid).put (Reg.SUMP.QUAR_LIST.VALID n) true
      s.wr Reg.SUMP.SUMP_STATUS.QUAR_PENDING (n + 1)
    else s.raise 53 eid

/-- The FAULT event of SUMP with its vector (R405, R439). -/
def State.faultEvent (s : State) : State :=
  let s := s.evt 0x7000 3
  if s.flag Reg.PCIE.IRQ_CFG.FAULT_EN then s.msix (s.rd Reg.PCIE.IRQ_CFG.FAULT_VECTOR) else s

/-- The most severe reaction of the open record and of the faults that wait for their update (R393). -/
def State.reactionNow (s : State) : Nat :=
  s.recQ.foldl (fun m r => max m r.reaction) (if s.recordOpen then s.rd Reg.SUMP.SUMP_STATUS.REACTION else 0)

/-- A record's bytes with n bytes set at an offset. -/
def recSet (b : List Byte) (p n v : Nat) : List Byte := overlay b p (leBytes n v)

/-- The record that a fault opens (R393, R394). -/
def recordNew (id : Nat) (r : RecReq) : List Byte :=
  let flags := b2n r.severe + 16 * b2n r.injected + 32 * b2n r.direct
  let b := leBytes 4 id ++ leBytes 1 r.src ++ leBytes 1 flags ++ leBytes 1 r.reaction ++ leBytes 1 r.devAt ++ stamp r.time
    ++ leBytes 1 r.cnt ++ leBytes 1 r.src ++ leBytes 4 r.data ++ leBytes 4 r.data ++ leBytes 2 0 ++ leBytes 2 0 ++ stamp r.time
  b ++ List.replicate (128 - b.length) 0

/-- n faults merged into a record (R393): the last of them as a request gives it. -/
def recordMerge (b : List Byte) (r : RecReq) (n : Nat) : List Byte :=
  let m := min (leAt b 0x1C 2 + n) 65535
  let flags := leAt b 5 1
  let flags := if m = 65535 then flags ||| 8 else flags
  let flags := if r.direct then flags ||| 32 else flags
  let b := recSet (recSet (recSet b 0x1C 2 m) 5 1 flags) 0x13 1 r.src
  recSet (overlay (recSet b 0x18 4 r.last) 0x20 (stamp r.lastAt)) 6 1 (max (leAt b 6 1) r.reaction)

/-- A source's bit of ALSO set. -/
def recordAlso (b : List Byte) (src : Nat) : List Byte := recSet b (0x40 + src / 8) 1 (leAt b (0x40 + src / 8) 1 ||| 2 ^ (src % 8))

/-- The fault whose update Sump takes next (R396): of those classed first, the lowest source. -/
def nextUpdate : List RecReq → Option RecReq
  | [] => none
  | a :: l => some (l.foldl (fun m r => if r.time < m.time ∨ (r.time = m.time ∧ r.src < m.src) then r else m) a)

/-- A record as the page shows it (R403). -/
def State.showRecord (s : State) (b : List Byte) : State :=
  ((s.wrBytes 0x7800 b).put Reg.SUMP.SUMP_STATUS.OPEN true).wr Reg.SUMP.SUMP_STATUS.REACTION (leAt b 6 1)

/-- RECORD_UPDATE (R393, R396): the next fault opens the record or merges into it. -/
def State.recordUpdate (s : State) : State :=
  match nextUpdate s.recQ with
  | none => s
  | some r =>
    let s := { s with recQ := s.recQ.filter fun e => e.src != r.src }
    let merged (s : State) (b : List Byte) (n : Nat) : State :=
      let s := s.showRecord (recordAlso (if n = 0 then b else recordMerge b r n) r.src)
      if n = 0 then s else (s.add Reg.SUMP.CNT_MERGES.COUNT n).evt 0x7000 1
    if s.recordOpen then merged s s.openRecord (1 + r.coal)
    else
      let id := s.rd Reg.SUMP.NEXT_RECORD.ID
      let s := (s.wr Reg.SUMP.NEXT_RECORD.ID (if id = 2 ^ 32 - 1 then 1 else id + 1)).inc Reg.SUMP.CNT_RECORDS.COUNT
      merged (s.evt 0x7000 0) (recordNew id r) r.coal

/-- A fault put among those that wait for their update; one of a source that waits already is coalesced (R396). -/
def State.recordPut (s : State) (r : RecReq) : State :=
  match s.recQ.find? fun e => e.src == r.src with
  | none => { s with recQ := s.recQ ++ [r] }
  | some o =>
    let n := { o with coal := o.coal + 1, last := r.data, lastAt := r.time, reaction := max o.reaction r.reaction, direct := o.direct || r.direct }
    let s := { s with recQ := s.recQ.map fun e => if e.src == r.src then n else e }
    if r.src = 52 then s else s.raise 52 r.src

/-- Ports blanked for a fault (R392), noted with its request. -/
def State.sumpBlank (s : State) (src : Nat) (ports : List Nat) : State :=
  let s := ports.foldl State.blankPort s
  { s with recQ := s.recQ.map fun e => if e.src == src then { e with ports := e.ports ++ ports } else e }

/-- A running commissioning check that a reaction of SAFE_STATE or above ends (R420). -/
def State.checkBroken (s : State) : State := if s.boot.check.isSome then s.checkRefuse [(13, s.recordId % 65536)] else s

/-- Every waiting update taken, at most n (R391, RESET). -/
def State.updateAll (s : State) : Nat → State
  | 0 => s
  | n + 1 => if s.recQ.isEmpty then s else s.recordUpdate.updateAll n

/-- The RESET reaction (R391, R398): safe strobe, record, RESET_CAUSE, system reset. -/
def State.resetReaction (s : State) (burnt : List (Nat × Byte)) : State :=
  let s := (if s.dev = .boot ∨ s.dev = .off then s else s.fireSafe).updateAll 256
  let b := s.openRecord
  (s.wrBytes 0x7C80 (recSet b 5 1 (leAt b 5 1 ||| 4))).sysReset burnt

/-- The reaction that acts in the present global state (R391, R393): SAFE_STATE and HALT are INTERRUPT in BOOT, everything but RESET is in HALT, and SAFE_STATE, HALT and RESET act only where they raise the record's reaction. -/
def State.effective (s : State) (r prior : Nat) : Nat :=
  let e := if s.dev = .halt ∧ r ≠ 7 then min r 2 else if s.dev = .boot ∧ (r = 5 ∨ r = 6) then 2 else r
  if 5 ≤ e ∧ e ≤ prior then 2 else e

/-- A reaction acts (R391, R392); one of SAFE_STATE or above ends a running test (R456). -/
def State.react (s : State) (src data r prior : Nat) (burnt : List (Nat × Byte)) : State :=
  if r < 2 then s
  else
    let s := s.faultEvent
    match s.effective r prior with
    | 3 =>
      match eidNamed src data with
      | some eid => s.sumpQuarantine eid
      | none => s
    | 4 => s.sumpBlank src (s.portsNamed src data)
    | 5 =>
      let s := s.checkBroken.testStop
      if s.dev = .safe then s.fireSafe else s.enterSafe src
    | 6 =>
      let zones := onesOf 4 (s.rd (Reg.SRC.SRC_CFG.HALT_SCOPE src))
      ((s.testStop.fireSafe.enterHalt zones).inc Reg.SUMP.CNT_HALT.COUNT).evt 0x7000 5
    | 7 => s.resetReaction burnt
    | _ => s

/-- The class of an event of a source at the present time, its window and its counts (R389): whether it is SEVERE. -/
def State.classify (s : State) (src : Nat) : State × Bool :=
  let start := tabGet s.sump.winAt 0 src
  let w := max 1 (s.rd (Reg.SRC.SRC_WINDOW.US src)) * us
  let cnt := s.rd (Reg.SRC.SRC_STATE.CNT src)
  let opens := cnt == 0 || start == 0 || decide (start - 1 + w ≤ s.now)
  let s := if opens then { s with sump := { s.sump with winAt := tabPut s.sump.winAt 0 src (s.now + 1) } } else s
  let cnt := min ((if opens then 0 else cnt) + 1) 255
  let severe := decide (max 1 (s.rd (Reg.SRC.SRC_CFG.N src)) ≤ cnt)
  let s := (s.wr (Reg.SRC.SRC_STATE.CNT src) cnt).put (Reg.SRC.SRC_STATE.SEVERE src) severe
  let s := s.inc (Reg.SRC.SRC_TOTAL.COUNT src)
  (if severe then s.evt 0x7000 2 else s, severe)

/-- An uncorrectable error that the check bits of an on-chip memory show (R296, R388): WS_ECC or SRAM_UE. -/
def State.memFault (s : State) : MemErr → State
  | .workingSet off => s.raise 33 off
  | .sram m w => s.raise 48 (m * 2 ^ 24 + w)

/-- The event at a place of those raised reaches Sump, is classed, and its reaction acts (R389 to R395); burnt is what a fuse commit that a RESET stops had burnt. -/
def State.classifyAt (s : State) (i : Nat) (burnt : List (Nat × Byte)) : State :=
  match s.inbox[i]? with
  | none => s
  | some f =>
    let s := { s with inbox := s.inbox.eraseIdx i }
    if s.dev = .off then s
    else
      let c := s.classify f.src
      let s := c.1
      let r := if s.flag (Reg.SRC.SRC_CFG.MASK f.src) then 0
        else if c.2 then s.rd (Reg.SRC.SRC_CFG.SEVERE f.src) else s.rd (Reg.SRC.SRC_CFG.MINOR f.src)
      let rec' := if f.direct then max 1 r else r
      let prior := s.reactionNow
      let cnt := s.rd (Reg.SRC.SRC_STATE.CNT f.src)
      let req : RecReq := ⟨f.src, f.data, f.injected, f.direct, c.2, rec', cnt, s.now, 0, f.data, s.now, devCode s.dev, []⟩
      let s := if rec' = 0 then s else s.recordPut req
      s.react f.src f.data r prior burnt

/-- FAULT_CLASSIFY (R389): the event at a place of those raised, or one that a memory's check bits have just raised. -/
def State.faultClassify (s : State) (i : Nat) (burnt : List (Nat × Byte)) (mem : Option MemErr) : State :=
  match mem with
  | none => s.classifyAt i burnt
  | some e =>
    let t := s.memFault e
    t.classifyAt (t.inbox.length - 1) burnt

/-- The open record acknowledged (R397): it moves to HISTORY and to the LOG ring, and the ports its faults blanked are released; their shutter loops soft-start (R392). -/
def State.ackRecord (s : State) : State :=
  let b := s.openRecord
  let b := overlay (recSet b 5 1 (leAt b 5 1 ||| 2)) 0x30 (stamp s.now)
  let hist := s.winList 0x7880 (7 * 128)
  let s := (s.wrBytes 0x7880 (b ++ hist)).clearRange 0x7800 128
  let s := (s.put Reg.SUMP.SUMP_STATUS.OPEN false).wr Reg.SUMP.SUMP_STATUS.REACTION 0
  let stay := s.recQ.flatMap (·.ports)
  let free := s.sump.blanked.filter fun e => !stay.contains e
  let log := s.flag Reg.SUMP.LOG_CFG.ENABLE
  let s := { s with sump := { s.sump with blanked := s.sump.blanked.filter stay.contains, logQ := if log then s.sump.logQ ++ [b] else s.sump.logQ } }
  let s := free.foldl (fun s e => (s.softStart (shutEid 0 e)).softStart (shutEid 1 e)) s
  s.evt 0x7000 6

/-- The open record bears an identity (R397). -/
def State.ackMatches (s : State) (id : Nat) : Bool := s.recordOpen && s.recordId == id

/-- A write of ACK (R397). -/
def State.ackWrite (s : State) (id : Nat) : State := if s.ackMatches id then s.ackRecord else (s.err 0x7000 0x48).evt 0x7000 7

/-- The LOG ring lies in the LOG partition (R398, R403). -/
def State.logFits (s : State) (l : Nat) : Bool := decide (12 ≤ l) && decide (l ≤ 30) && s.inPartition 4 (s.rd64 0x7058) (2 ^ l)

/-- LOG_RECORD_WRITE (R398): the oldest acknowledged record is written into the ring; a write that cannot be made raises LOG_WRITE. -/
def State.logWrite (s : State) : State :=
  match s.sump.logQ with
  | [] => s
  | b :: r =>
    let s := { s with sump := { s.sump with logQ := r } }
    let l := s.rd Reg.SUMP.LOG_CFG.SIZE_LOG2
    let p := s.rd Reg.SUMP.LOG_WR_PTR.PTR
    if s.sdOnline && s.flag Reg.SUMP.LOG_CFG.ENABLE && s.logFits l then
      (s.sdWrite (s.rd64 0x7058 + p % 2 ^ l) b).wr Reg.SUMP.LOG_WR_PTR.PTR ((p + 128) % 2 ^ (l + 1))
    else s.raise 54 (leAt b 0 4)

/-- SAFE is left (R25, R401): ARMED, with Gantry STOPPED. -/
def State.safeExit (s : State) : State :=
  if s.dev = .safe then (if s.gstate = 5 then (s.gantryStopped).armedEntry else s.armedEntry) else s

/-- SAFE may be left (R401). -/
def State.mayExit (s : State) : Bool := s.dev == .safe && !s.recordOpen

/-- SAFE_CTRL.EXIT (R401). -/
def State.safeCtrl (s : State) : State := if s.mayExit then s.safeExit else s.err 0x7000 0x4C

/-- INJECT.GO (R403). -/
def State.inject (s : State) (src : Nat) : State :=
  let src := src % 256
  if decide (240 ≤ src) || (decide (src < 56) && s.unlocked 0x7000) then
    { s with inbox := s.inbox ++ [⟨src, s.rd Reg.SUMP.INJECT_DATA.DATA, true, false⟩] }
  else s.err 0x7000 0x54

/-- A write of LOG_CFG (R398, R403): a size outside 12 to 30 takes the nearest end and is counted (R490); the write is ignored and counted unless the ring lies in LOG. -/
def State.logCfg (s : State) (w : Word) : State :=
  let l := clampN 12 30 (getBits w 8 5)
  let s := if s.logFits l ∧ l ≠ getBits w 8 5 then s.err 0x7000 0x60 else s
  if s.logFits l then (s.put Reg.SUMP.LOG_CFG.ENABLE (getBits w 0 1 == 1)).wr Reg.SUMP.LOG_CFG.SIZE_LOG2 l else s.err 0x7000 0x60

end Sys2Proof.Machine
end

