-- ==== Sys2Proof/Machine/Bus.lean ====
section
/-! DEFINITION. The register bus: what a write of every register does (R5 to R8, R432, R490), what a read returns, and the writes to converters and queues. -/
namespace Sys2Proof.Machine

/-- An ignored write counted (R432), with BAD_ACCESS where the count is DEVICE's (R454). -/
def State.errAt (s : State) (pg rel : Nat) : State := if pg = 0 then (s.err pg rel).evt 0 2 else s.err pg rel

/-- An access to a page whose domain is not ON, counted (R413). -/
def State.offAccess (s : State) : State := s.inc Reg.POWER.CNT_OFF_ACCESS.COUNT

/-- A value kept to a field's range (R490). -/
def keptTo (range : Option (Nat × Nat)) (v : Nat) : Nat :=
  match range with
  | none => v
  | some (a, b) => clampN a b v

/-- Whether a written word holds a value outside a field's range (R490). -/
def FRow.outside (r : FRow) (w : Word) (locked : Bool) : Bool :=
  let v := getBits w r.fld.lo r.fld.len
  match r.acc with
  | .ro | .wo | .w1c => false
  | .rwl => !locked && keptTo r.range v != v
  | .rw | .rws => keptTo r.range v != v

/-- A field written as its access code says (R7), kept to its range (R490). -/
def State.writeField (s : State) (off : Nat) (w : Word) (locked : Bool) (r : FRow) : State :=
  let f : Fld := ⟨off, r.fld.lo, r.fld.len⟩
  let v := getBits w f.lo f.len
  match r.acc with
  | .ro | .wo => s
  | .w1c => s.wr f (s.rd f - (s.rd f &&& v))
  | .rwl => if locked then s else s.wr f (keptTo r.range v)
  | .rw | .rws => s.wr f (keptTo r.range v)

/-- A word written field by field (R7); a reserved word is ignored and counted (R432), and so is a locked one (R7); a write of a value outside its range is counted once (R490). -/
def State.plain (s : State) (pg rel off : Nat) (w : Word) : State :=
  let rows := fieldsAt off
  if rows.isEmpty then s.errAt pg rel
  else
    let locked := (rows.any fun r => r.1.acc == .rwl) && !s.unlocked pg
    let s := rows.foldl (fun s r => s.writeField off w locked r.1) s
    if locked || rows.any fun r => r.1.outside w locked then s.errAt pg rel else s

/-- A bit of a written word. -/
def wbit (w : Word) (b : Nat) : Bool := getBits w b 1 == 1

/-- A CHSEL write (R131, R132): Bramble's in LOOP mode, the host's in the others, except where the mode refuses it. -/
def State.chselWrite (s : State) (n : Nat) (byBramble : Bool) (sel : Nat) : State :=
  let m := n / 8
  let u := n % 8
  if 624 ≤ n then s
  else if byBramble then
    if s.loopMode n then (if (s.attend n).isSome then (s.convNote n true).steer n else s)
    else s.inc (Reg.MONITOR.CNT_LOOP_DISCARD.COUNT m)
  else if s.loopMode n then (s.inc (Reg.MONITOR.CNT_REFUSED.COUNT m)).err (monPg m) (0x44 + 0x20 * u)
  else (s.convNote n true).wr (Reg.MONITOR.CHSEL.SEL m u) sel

/-- A CONV_CTRL.MODE write (R132, R169, R301). -/
def State.convMode (s : State) (n mode : Nat) : State :=
  if 624 ≤ n then s
  else
    let s := (s.convNote n false).wr (Reg.MONITOR.CONV_CTRL.MODE (n / 8) (n % 8)) mode
    (s.steerLost n).darkMode

/-- A SCAN_MASK write (R131, R132). -/
def State.scanMask (s : State) (n : Nat) (w : Word) : State :=
  if 624 ≤ n then s else (s.convNote n false).wr (Reg.MONITOR.SCAN_MASK.MASK (n / 8) (n % 8)) w.toNat

/-- The next commit point falls before a range change begun now would complete (R120, R121). -/
def State.commitNear (s : State) (heater : Bool) : Bool :=
  s.gantryRunning &&
  match s.gan.nextT with
  | some t => decide (t < s.now + (if heater then 5 else 2) * us + 100 * ns + s.leadG * s.gran)
  | none => false

/-- RANGE written with GO (R121). -/
def State.rangeWrite (s : State) (t : Nat) (w : Word) : State :=
  if wbit w 31 then s.rangeGo t (getBits w 8 1) (getBits w 9 1) (s.commitNear (s.rd (Reg.DRIVE.RANGE.HTR_RANGE t) != getBits w 9 1))
  else (s.wr (Reg.DRIVE.RANGE.REQ_FAST t) (getBits w 8 1)).wr (Reg.DRIVE.RANGE.REQ_HTR t) (getBits w 9 1)

/-- GCTL written (R230): each bit's request, in order of the bits. -/
def State.gctl (s : State) (w : Word) : State :=
  let s := if wbit w 0 then s.gctlStart else s
  let s := if wbit w 1 then s.gantryStop else s
  let s := if wbit w 2 then s.gantryJump (s.rd Reg.GANTRY.JUMP_CFG.LABEL) else s
  let s := if wbit w 3 then
      s.gantryResync (s.rdTime 0x9054) (if s.flag Reg.GANTRY.RESYNC_CFG.USE_LABEL then some (s.rd Reg.GANTRY.RESYNC_CFG.LABEL) else none) else s
  if wbit w 4 then s.gantryCancel else s

/-- LOCK_LIMIT written (R199, R230): only while Gantry is STOPPED; values above 8,192 take 8,192. -/
def State.lockLimit (s : State) (w : Word) : State :=
  if s.gstate ≠ 0 then s.err gantryPg 0x80 else s.plain gantryPg 0x80 0x9080 w

/-- TRIGO_CFG of output k written (R216, R232): an output that is disabled ends its pulse. -/
def State.trigoCfg (s : State) (k : Nat) (w : Word) : State :=
  let s := s.plain trigPg (0x40 + 8 * k) (0xA040 + 8 * k) w
  if s.flag (Reg.GANTRY_TRIG.TRIGO_CFG.ENABLE k) then s
  else State.put { s with gan := { s.gan with trigEnd := tabPut s.gan.trigEnd 0 k 0 } } (Reg.GANTRY_TRIG.TRIGO_STAT.ASSERTED k) false

/-- SYNC_CFG written (R220, R232): a change of ROLE ends the validity of TURN. -/
def State.syncCfg (s : State) (w : Word) : State :=
  let was := s.rd Reg.GANTRY_TRIG.SYNC_CFG.ROLE
  let s := s.plain trigPg 0x100 0xA100 w
  if s.rd Reg.GANTRY_TRIG.SYNC_CFG.ROLE = was then s else s.put Reg.GANTRY_TRIG.TURN.VALID false

/-- STREAM_CFG written (R203). -/
def State.streamCfg (s : State) (w : Word) : State :=
  let s := s.plain gantryPg 0x8C 0x908C (putBits w 0 1 (s.rd Reg.GANTRY.STREAM_CFG.ENABLE))
  if !wbit w 0 then s.put Reg.GANTRY.STREAM_CFG.ENABLE false
  else if s.flag Reg.GANTRY.STREAM_CFG.ENABLE then s else s.streamEnable

/-- ATLAS_CTRL written (R309). -/
def State.atlasCtrl (s : State) (w : Word) : State :=
  let s := if wbit w 0 then (if s.flag Reg.PLUMB.ATLAS_CTRL.ENABLE then s else s.atlasEnable) else s.put Reg.PLUMB.ATLAS_CTRL.ENABLE false
  let was := s.flag Reg.PLUMB.ATLAS_CTRL.FREEZE
  if wbit w 1 && !was then s.atlasFreeze else if !wbit w 1 && was then s.atlasThaw else s

/-- A write of RING_CTRL (R142, R148): the settings, then ENABLE, then RUN. While ENABLE is 1, POLICY, DECIM and SIZE_LOG2 keep their values, and a write that would change one is counted. -/
def State.capCtrl (s : State) (r : Nat) (w : Word) : State :=
  let was := s.flag (Reg.CAPTURE.RING_CTRL.ENABLE r)
  let fixed : List (Fld × Nat) :=
    [(Reg.CAPTURE.RING_CTRL.POLICY r, getBits w 2 1), (Reg.CAPTURE.RING_CTRL.DECIM r, getBits w 8 12), (Reg.CAPTURE.RING_CTRL.SIZE_LOG2 r, getBits w 24 6)]
  let s := s.wr (Reg.CAPTURE.RING_CTRL.SKIP_UNSETTLED r) (getBits w 3 1)
  let s := if !was then fixed.foldl (fun s f => s.wr f.1 f.2) s
    else if fixed.any fun f => s.rd f.1 != f.2 then s.err 0xD000 (0x400 + 0x40 * r) else s
  let s := if wbit w 0 && !was then s.capEnable r else if !wbit w 0 && was then s.capDisable r else s
  s.capRun r (wbit w 1)

/-- BASE of a ring written (R142): while its ENABLE is 1, ignored and counted. -/
def State.capBase (s : State) (r rel : Nat) (w : Word) : State :=
  if s.flag (Reg.CAPTURE.RING_CTRL.ENABLE r) then s.err 0xD000 rel else s.plain 0xD000 rel (0xD000 + rel) w

/-- A queue with LOCATION 1 lies in the QUEUE partition (R381, R448). -/
def State.queueFits (s : State) (inSd : Bool) (a n : Nat) : Bool := !inSd || s.inPartition 5 a n

/-- Q_CFG of queue pair k written (R381, R386): where it is enabled, both rings must lie in their partition, and their pointers begin at 0. -/
def State.qCfg (s : State) (k : Nat) (w : Word) : State :=
  let off := 0xE210 + 0x20 * k
  let was := s.flag (Reg.CMD.Q_CFG.ENABLE k)
  let s := s.plain cmdPg (off - 0xE000) off w
  if !wbit w 0 || was then s
  else
    let sd := s.flag (Reg.CMD.Q_CFG.LOCATION k)
    let ok := s.queueFits sd (s.rd64 (0xE200 + 0x20 * k)) (64 * 2 ^ s.rd (Reg.CMD.Q_CFG.SQ_LOG2 k)) &&
      s.queueFits sd (s.rd64 (0xE208 + 0x20 * k)) (64 * 2 ^ s.rd (Reg.CMD.Q_CFG.CQ_LOG2 k))
    if ok then { (s.wrW (off + 4) 0) with hq := { s.hq with sq := s.hq.sq.set k ⟨0, 0, true⟩ } }
    else (s.put (Reg.CMD.Q_CFG.ENABLE k) false).err cmdPg (off - 0xE000)

/-- EQ_CFG written (R383, R386). -/
def State.eqCfg (s : State) (w : Word) : State :=
  let was := s.flag Reg.CMD.EQ_CFG.ENABLE
  let s := s.plain cmdPg 0x308 0xE308 w
  if !wbit w 0 || was then s
  else if s.queueFits (s.flag Reg.CMD.EQ_CFG.LOCATION) (s.rd64 0xE300) (32 * 2 ^ s.rd Reg.CMD.EQ_CFG.LOG2) then
    State.wr { s with hq := { s.hq with eqHead := 0, eqPh := true } } Reg.CMD.EQ_STATUS.TAIL 0
  else (s.put Reg.CMD.EQ_CFG.ENABLE false).err cmdPg 0x308

/-- PQ_CFG written (R384, R386). -/
def State.pqCfg (s : State) (w : Word) : State :=
  let was := s.flag Reg.CMD.PQ_CFG.ENABLE
  let s := s.plain cmdPg 0x330 0xE330 w
  if !wbit w 0 || was then s
  else
    let sd := s.flag Reg.CMD.PQ_CFG.LOCATION
    let n := 2 ^ s.rd Reg.CMD.PQ_CFG.LOG2
    if s.queueFits sd (s.rd64 0xE320) (32 * n) && s.queueFits sd (s.rd64 0xE328) (256 * s.rd Reg.CMD.PQ_CFG.BUF_SIZE * n) then
      State.wr { s with hq := { s.hq with pqHead := 0, pqPh := true } } Reg.CMD.PQ_STATUS.TAIL 0
    else (s.put Reg.CMD.PQ_CFG.ENABLE false).err cmdPg 0x330

/-- LINK_CFG written (R452): RETRAIN trains the link again, at its present rate where MAX_SPEED allows it. -/
def State.linkCfg (s : State) (w : Word) : State :=
  let s := s.plain 0x13000 0x44 0x13044 w
  if wbit w 8 && s.pcie.up then s.retrain (s.rd Reg.PCIE.LINK_STATUS.SPEED) (s.rd Reg.PCIE.LINK_STATUS.WIDTH) else s

/-- A writable TIME page register that belongs to an armed time event (R257, R262): TEV_TIME, TEV_PERIOD, TEV_CAPMASK. -/
def State.tevArmed (s : State) (rel : Nat) : Bool :=
  decide (0x200 ≤ rel) && decide (rel < 0x400) && decide (rel % 0x20 < 0x10 ∨ rel % 0x20 = 0x14) && (s.tev ((rel - 0x200) / 0x20)).isSome

/-- PORT_CFG of the time page written (R239, R243): PDELAY_LOG is signed, -4 to 4 (R490). -/
def State.portCfg (s : State) (p : Nat) (w : Word) : State :=
  let v := getBits w 8 8
  let v' := unsgn 8 (clampI (-4) 4 (sgn 8 v))
  let s := (s.plain timePg (0x100 + 0x40 * p) (0x8100 + 0x40 * p) (putBits w 8 8 v')).portStates
  if v' = v then s else s.err timePg (0x100 + 0x40 * p)

/-- ZONE_THR written (R285): WARN < THROTTLE < SHUTDOWN, or ignored and counted. -/
def State.zoneThr (s : State) (k : Nat) (w : Word) : State :=
  if getBits w 0 8 < getBits w 8 8 ∧ getBits w 8 8 < getBits w 16 8 then s.plain thermPg (0x40 + 4 * k) (0x5040 + 4 * k) w
  else s.err thermPg (0x40 + 4 * k)

/-- PARSE_CFG written (R364): an EXEC_EN of 0 is ignored. -/
def State.parseCfg (s : State) (w : Word) : State :=
  let w' := if getBits w 16 8 = 0 then putBits w 16 8 (s.rd Reg.PARSER.PARSE_CFG.EXEC_EN) else w
  let s := s.plain parserPg 0x40 0xF040 w'
  if getBits w 16 8 = 0 then s.err parserPg 0x40 else s

/-- SWEEP_SLOTS written (R314): a SWEEP ends at once while EN is 0. -/
def State.sweepSlots (s : State) (w : Word) : State :=
  let s := s.plain plumbPg 0x58 0xC058 w
  if wbit w 31 ∨ s.rd Reg.PLUMB.RUN_STATUS.PHASE ≠ 3 then s else (s.closeWindow).runNext

/-- BALLAST_CTRL written (R175, R276): as MODE becomes CONSTANT, every ballast heater ramps from its present power. -/
def State.ballastCtrl (s : State) (w : Word) : State :=
  let was := s.rd Reg.BUDGET.BALLAST_CTRL.MODE
  let s := s.plain budgetPg 0x4C (budgetPg + 0x4C) w
  if was = 0 ∧ s.rd Reg.BUDGET.BALLAST_CTRL.MODE ≠ 0 then s.ballastLive true else s

/-- A word of a drive tile's page that holds a channel's GROUP (R125). -/
def groupWord (rel : Nat) : Bool :=
  (decide (0x804 ≤ rel) && decide (rel < 0x804 + 8 * 76) && rel % 8 == 4) || (decide (0xA64 ≤ rel) && decide (rel < 0xA64 + 8 * 77) && rel % 8 == 4)

/-- A write of a word of a page, by the block's chapter: none where the word is written field by field. -/
def State.special (s : State) (path : HostPath) (p : PageInfo) (pg rel : Nat) (w : Word) : Option State :=
  let i := pageInst p pg
  match clearRanges p.type rel with
  | some _ => some (if wbit w 0 then s.cntClear pg rel else s)
  | none =>
  match p.type with
  | 0x01 => if 0x80 ≤ rel ∧ rel < 0xB0 then (if s.dev = .hold then none else some (s.errAt pg rel))
      else if 0x800 ≤ rel ∧ rel < 0xBB0 then some s else none
  | 0x04 => if rel = 0x4C then some (if wbit w 0 then s.bootContinue else s)
      else if rel = 0x54 then some (if wbit w 0 then s.commissionGo else s)
      else if 0x800 ≤ rel ∧ rel < 0xC00 then some (if s.dev = .hold then s.wrW (pg + rel) w else s.err pg rel) else none
  | 0x05 => if rel = 0x48 then
        let s := if wbit w 0 then (s.fuseCommit (getBits w 16 16) (path != .opRing)).1 else s
        some (if wbit w 1 then s.finishRevoke (getBits w 16 16) else s)
      else none
  | 0x06 => if 0x40 ≤ rel ∧ rel < 0x50 then some (s.zoneThr ((rel - 0x40) / 4) w)
      else if rel = 0x8C then some (s.plain pg rel (pg + rel) (w &&& 0xFFFFFF)) else none
  | 0x08 => if rel = 0x48 then some (s.ackWrite w.toNat)
      else if rel = 0x4C then some (if wbit w 0 then s.safeCtrl else s)
      else if rel = 0x54 then some (if wbit w 31 then s.inject (getBits w 0 8) else s)
      else if rel = 0x60 then some (s.logCfg w) else none
  | 0x09 => if rel = 0x40 then some (s.timeCtrl w)
      else if rel = 0x64 then
        let s := if wbit w 0 then s.cmdStep else s
        some (if wbit w 1 then s.cmdOffset else s)
      else if rel = 0x70 then some (if s.servoMode = 1 then s.setAdj (sgn 32 w.toNat) else s.err pg rel)
      else if rel = 0xC0 then some ((s.plain pg rel (pg + rel) w).ppsCheck)
      else if rel = 0x100 then some (s.portCfg 0 w)
      else if rel = 0x140 then some (s.portCfg 1 w)
      else if 0x200 ≤ rel ∧ rel < 0x400 ∧ rel % 0x20 = 0x10 then some (s.tevWrite ((rel - 0x200) / 0x20) w)
      else if s.tevArmed rel then some (s.err pg rel) else none
  | 0x0A => if rel = 0x40 then some (s.gctl w)
      else if rel = 0x68 then some (s.periodWrite (getBits w 0 18))
      else if rel = 0x70 then some (s.wr Reg.GANTRY.COMMIT_LEAD.G (clampN 16 23 (getBits w 0 5)))
      else if rel = 0x80 then some (s.lockLimit w)
      else if rel = 0x84 then some (if wbit w 0 then s.lockApply else s)
      else if rel = 0x8C then some (s.streamCfg w)
      else if rel = 0x98 then some (s.streamWr (getBits w 0 31))
      else if rel = 0xA0 then some (s.streamExpect (getBits w 0 16))
      else if rel = 0x404 then some (if wbit w 31 then s.slotCheck (getBits w 0 9) else s) else none
  | 0x0B => if rel = 0x108 then some (if wbit w 0 then s.echoGo else s)
      else if 0x40 ≤ rel ∧ rel < 0xC0 ∧ rel % 8 = 0 then some (s.trigoCfg ((rel - 0x40) / 8) w)
      else if rel = 0x100 then some (s.syncCfg w) else none
  | 0x0C => if rel = 0x58 then some (if wbit w 0 then s.seamDoorbell else s) else none
  | 0x0D => if rel = 0x40 then some (if wbit w 31 then (s.runRequest (getBits w 0 3)).1 else s)
      else if rel = 0x58 then some (s.sweepSlots w)
      else if rel = 0x6C then
        let s := if wbit w 0 then s.hostSwap else s
        some (if wbit w 1 then s.bankAbandon else s)
      else if rel = 0x84 then some (s.atlasCtrl w) else none
  | 0x0E => if 0x400 ≤ rel ∧ rel < 0x800 ∧ rel % 0x40 = 0 then some (s.capCtrl ((rel - 0x400) / 0x40) w)
      else if 0x400 ≤ rel ∧ rel < 0x800 ∧ (rel % 0x40 = 4 ∨ rel % 0x40 = 8) then some (s.capBase ((rel - 0x400) / 0x40) rel w) else none
  | 0x0F => if 0x200 ≤ rel ∧ rel < 0x300 ∧ rel % 0x20 = 0x10 then some (s.qCfg ((rel - 0x200) / 0x20) w)
      else if rel = 0x308 then some (s.eqCfg w)
      else if rel = 0x330 then some (s.pqCfg w) else none
  | 0x10 => if rel = 0x40 then some (s.parseCfg w) else none
  | 0x12 => if rel = 0x44 then some (if wbit w 0 then s.pathTakeover else s) else none
  | 0x13 => if rel = 0x44 then some (s.linkCfg w) else none
  | 0x14 => if rel = 0x44 then some (if wbit w 0 then s.trainGo i else s) else none
  | 0x15 => if rel = 0x40 then some (s.testCtrl w)
      else if rel = 0x48 then
        let s := s.plain pg rel (pg + rel) w
        some (if wbit w 10 then s.linkInject else s)
      else none
  | 0x07 => if rel = 0x4C then some (s.ballastCtrl w) else none
  | 0x21 => if rel = 0x40 then some (s.modeReq i (getBits w 0 2))
      else if s.gantryRunning && groupWord rel then some (s.err pg rel)
      else if rel = 0x48 then some (s.rangeWrite i w)
      else if rel = 0x50 then some (s.hostDirect i (getBits w 0 7) (getBits w 7 1) (getBits w 16 16)).checkHtrOver
      else if rel = 0x64 then some (s.shapeWrite i (getBits w 0 16))
      else if 0x800 ≤ rel ∧ rel < 0xA60 ∧ rel % 8 = 0 then some (s.hostShadow 0 i ((rel - 0x800) / 8) (getBits w 0 12))
      else if 0xA60 ≤ rel ∧ rel < 0xCC8 ∧ (rel - 0xA60) % 8 = 0 then some (s.hostShadow 1 i ((rel - 0xA60) / 8) (getBits w 0 16)) else none
  | 0x22 =>
      let n := 8 * i + (rel - 0x40) / 0x20
      if 0x40 ≤ rel ∧ rel < 0x140 ∧ rel % 0x20 = 0 then some (s.convMode n (getBits w 0 2))
      else if 0x40 ≤ rel ∧ rel < 0x140 ∧ rel % 0x20 = 4 then some (s.chselWrite n false (getBits w 0 5))
      else if 0x40 ≤ rel ∧ rel < 0x140 ∧ rel % 0x20 = 8 then some (s.scanMask n w)
      else if 0x800 ≤ rel ∧ rel < 0xC00 then
        let j := (rel - 0x800) / 4
        some ((s.put (Reg.MONITOR.MON_CFG.AR_EN i j) (wbit w 2)).hostRange (256 * i + j) (getBits w 0 2)) else none
  | _ => none

/-- A write of a word of the common header (R433 to R436, R412). -/
def State.headerWrite (s : State) (path : HostPath) (p : PageInfo) (pg rel : Nat) (w : Word) : State :=
  match rel with
  | 0x00 | 0x04 | 0x0C | 0x18 => s
  | 0x08 => s.pgCtrl path pg w
  | 0x10 => s.evtClear pg w
  | 0x14 => s.evtEnable pg w
  | 0x1C => s.evtSet pg w
  | 0x20 => if wbit w 31 then s.errClear pg else s
  | 0x24 => s.lockKey pg (getBits w 0 16)
  | 0x28 =>
    if p.type = 0x21 then
      let s := if wbit w 0 then (s.commitCodes (pageInst p pg)).checkHtrOver else s
      if wbit w 1 then s.commitShapes (pageInst p pg) else s
    else s.errAt pg rel
  | 0x2C => if wbit w 0 then s.powerUp pg else s.powerDown path pg
  | _ => s.errAt pg rel

/-- A write of an element's word (R168, R178, R189): while its cluster starts after a SOFT_RESET, ignored and counted. QUAR_SET goes before QUAR_CLR, and acts on the status that the element had. -/
def State.elemWrite (s : State) (off : Nat) (w : Word) : State :=
  let eid := (off - 0x200000) / 16
  let k := clusterOf eid
  if off % 16 ≠ 0 then s
  else if s.bram.softs.contains k then s.err (bramPg k) 0xFFF
  else
    let off' := s.status eid == stOff
    let s := s.put (Reg.ELEM.ELEM_CTRL.NO_WRAP eid) (wbit w 3)
    let s := if wbit w 0 = s.flag (Reg.ELEM.ELEM_CTRL.EN eid) then s else s.elemEn eid (wbit w 0)
    let s := if wbit w 1 then (if off' then s else s.quarantineNow eid) else if wbit w 2 then s.quarClear eid else s
    s.seamPins

/-- A write of a word of the pending bank (R296): only while no run is in progress and no swap is armed; it clears PENDING_READY. -/
def State.bankWrite (s : State) (off : Nat) (w : Word) : State :=
  if s.runBusy || s.flag Reg.PLUMB.BANK_STATUS.SWAP_ARMED then s.err plumbPg 0xFFF
  else (s.wrW off w).put Reg.PLUMB.BANK_STATUS.PENDING_READY false

/-- A write of a word of an MSI-X table entry (R431): an entry unmasked sends the message that waits for it. -/
def State.msixWrite (s : State) (off : Nat) (w : Word) : State :=
  let v := (off - 0x7F0000) / 16
  let was := getBits (s.rdW (0x7F0000 + 16 * v + 12)) 0 1
  let s := s.plain 0x13000 0xFFF off w
  let f : Fld := ⟨0x7F1000 + 4 * (v / 32), v % 32, 1⟩
  if off % 16 = 12 ∧ was = 1 ∧ getBits w 0 1 = 0 ∧ s.flag f = true then (s.put f false).msix v else s

/-- A write of a word of the capture masks (R154): the channel masks, then the converter masks, whose last word holds two bytes; the rest of a ring's 4 KiB is reserved. -/
def State.capMaskWrite (s : State) (off : Nat) (w : Word) : State :=
  let rel := off % 0x1000
  if rel < 0x9C0 ∨ (0xA00 ≤ rel ∧ rel < 0xA4C) then s.wrW off w
  else if rel = 0xA4C then s.wrW off (w &&& 0xFFFF)
  else s.err 0xD000 0xFFF

/-- A write of a word of a window (R432). -/
def State.windowWrite (s : State) (wi : WindowInfo) (off : Nat) (w : Word) : State :=
  let own := ownerOf wi off
  if !s.windowOn wi off then s.offAccess
  else if wi.base = 0x200000 then s.elemWrite off w
  else if wi.base = 0x380000 then s.bankWrite off w
  else if wi.base = 0x400000 then s.slotWord ((off - 0x400000) / 0x800) ((off - 0x400000) % 0x800 / 4) w
  else if wi.base = 0x600000 then s.capMaskWrite off w
  else if wi.base = 0x620000 then (if off % 0x80 = 0x7C then s.nodeCommit ((off - 0x620000) / 0x80) (wbit w 0) else s.plain own 0xFFF off w)
  else if wi.base = 0x640000 then
    let i := (off - 0x640000) / 0x80
    if off % 0x80 = 0x7C then s.ruleCommit i (wbit w 0) else if off % 0x80 = 0x68 then (if wbit w 0 then s.hitsClear i else s)
    else s.plain own 0xFFF off w
  else if wi.base = 0x680000 then
    let src := (off - 0x680000) / 16
    if 56 ≤ src ∧ src < 240 then s.err own 0xFFF else s.plain own 0xFFF off w
  else if wi.base = 0x7F0000 then s.msixWrite off w
  else if wi.base = 0x7F1000 then s
  else s.err own 0xFFF

/-- The multi-word quantity that a word belongs to (R8): a register's, or a descriptor of bench memory (R200). -/
def quantAt (off : Nat) : Option (Nat × Nat × Nat) :=
  if 0x580000 ≤ off ∧ off < 0x5C0000 then some (off - off % 32, 8, off % 32 / 4) else multiAt off

/-- A single word written (R7, R432). -/
def State.wordWrite (s : State) (path : HostPath) (off : Nat) (w : Word) : State :=
  match pageOf off with
  | some p =>
    let pg := pageBase off
    let rel := off - pg
    if rel < 0x40 then s.headerWrite path p pg rel w
    else
      match s.special path p pg rel w with
      | some s => s
      | none => s.plain pg rel off w
  | none =>
    match windowOf off with
    | some wi => s.windowWrite wi off w
    | none => (s.err 0 0xFFF).evt 0 2

/-- The word held for a path (R8). -/
def State.heldWord (s : State) (path : HostPath) (off : Nat) : Option Word :=
  let v := tabGet s.heldW 0 (latchKey path off)
  if v = 0 then none else some (BitVec.ofNat 32 (v - 1))

/-- A word held for a path, or no more. -/
def State.hold (s : State) (path : HostPath) (off : Nat) (v : Nat) : State := { s with heldW := tabPut s.heldW 0 (latchKey path off) v }

/-- A multi-word quantity can be written: a word of it is more than read-only. -/
def quantWritable (lowest : Nat) : Bool :=
  (decide (0x580000 ≤ lowest) && decide (lowest < 0x5C0000)) || (fieldsAt lowest).any fun r => r.1.acc != .ro

/-- The highest word of a quantity written (R8): the words held for the path and it take effect together. -/
def State.quantWrite (s : State) (path : HostPath) (lowest n off : Nat) (w : Word) : State :=
  let held := (List.range (n - 1)).map fun j => (lowest + 4 * j, s.heldWord path (lowest + 4 * j))
  let s := held.foldl (fun s e => s.hold path e.1 0) s
  if 0x580000 ≤ lowest ∧ lowest < 0x5C0000 then
    s.benchWrite ((lowest - 0x580000) / 32) (held.map (fun e => e.2.getD (s.rdW e.1)) ++ [w])
  else if 0xD400 ≤ lowest ∧ lowest < 0xD800 ∧ lowest % 0x40 = 0x14 then
    s.capRdWrite ((lowest - 0xD400) / 0x40) (((held.head?.bind (·.2)).getD (s.rdW lowest)).toNat + 2 ^ 32 * getBits w 0 3)
  else if 0x8000 ≤ lowest ∧ lowest < 0x9000 ∧ s.tevArmed (lowest - 0x8000) = true then s.err timePg (off - 0x8000)
  else
    let s := held.foldl (fun s e => match e.2 with | some v => s.wordWrite path e.1 v | none => s) s
    s.wordWrite path off w

/-- A page's or a window's registers can be reached (R413). -/
def State.reachable (s : State) (off : Nat) : Bool :=
  match pageOf off with
  | some _ => s.pageOn (pageBase off)
  | none => match windowOf off with | some wi => s.windowOn wi off | none => true

/-- A register write that is not held by a check (R7, R8, R413). -/
def State.writeNow (s : State) (path : HostPath) (off : Nat) (w : Word) : State :=
  if !s.reachable off then (if (pageOf off).isSome && off - pageBase off == 0x2C then s.wordWrite path off w else s.offAccess)
  else
    match quantAt off with
    | some (lowest, n, j) =>
      if !quantWritable lowest then s
      else if j + 1 = n then s.quantWrite path lowest n off w
      else s.hold path off (w.toNat + 1)
    | none => s.wordWrite path off w

/-- A register write over a path (R5, R7, R8, R413, R420, R432): whole words at aligned offsets of BAR0. While a commissioning check runs, writes to pages other than BOOT are held. -/
def State.busWrite (s : State) (path : HostPath) (off : Nat) (w : Word) : State :=
  if s.dev = .off ∨ 0x1000000 ≤ off ∨ off % 4 ≠ 0 then s
  else if s.boot.check.isSome ∧ pageBase off ≠ 0x3000 then { s with boot := { s.boot with held := s.boot.held ++ [(path, off, w)] } }
  else s.writeNow path off w

/-- A write whose byte enables do not cover the whole word is ignored and counted (R432). -/
def State.partWrite (s : State) (off : Nat) : State :=
  if s.dev = .off ∨ 0x1000000 ≤ off then s
  else
    match pageOf off with
    | some _ => s.errAt (pageBase off) (off - pageBase off)
    | none => match windowOf off with | some wi => s.err (ownerOf wi off) 0xFFF | none => (s.err 0 0xFFF).evt 0 2

/-- Writes held during a commissioning check are applied once it has ended (R420), at most n of them. -/
def State.applyHeld (s : State) : Nat → State
  | 0 => s
  | n + 1 =>
    match s.boot.held with
    | [] => s
    | (path, off, w) :: r =>
      if s.boot.check.isSome then s
      else (State.writeNow { s with boot := { s.boot with held := r } } path off w).applyHeld n

/-- The held writes of an ended check. -/
def State.flushHeld (s : State) : State := s.applyHeld s.boot.held.length

/-- A register read over a path (R7, R8, R125, R259, R432): the lowest word of a quantity latches the higher ones, which are read from the latch from then on. -/
def State.busRead (s : State) (path : HostPath) (off : Nat) : State × Word :=
  if s.dev = .off ∨ 0x1000000 ≤ off ∨ off % 4 ≠ 0 then (s, 0)
  else if off = 0x80D0 ∧ s.pageOn timePg then
    let t := s.tsPop path
    let w := match t.out.getLast? with | some (.word _ _ w) => w | _ => 0
    ({ t with out := t.out.dropLast }, w)
  else
    let w := s.viewWord off
    match quantAt off with
    | some (lowest, n, 0) =>
      ((List.range (n - 1)).foldl (fun t j => t.latchPut path (lowest + 4 * (j + 1)) (s.viewWord (lowest + 4 * (j + 1)))) s, w)
    | some _ =>
      let v := tabGet s.latch 0 (latchKey path off)
      (s, if v = 0 then w else BitVec.ofNat 32 (v - 1))
    | none =>
      match pageOf off with
      | some p =>
        let pg := pageBase off
        if p.type = 0x21 ∧ off - pg = 0x64 ∧ s.pageOn pg then
          let t := pageInst p pg
          let a := s.shapeAddr t
          (s.shapeNext t, BitVec.ofNat 32 (tabGet s.drv.shapes 0x4000 a))
        else (s, w)
      | none => (s, w)

/-- A register read answered on its path. -/
def State.readOut (s : State) (path : HostPath) (off : Nat) : State :=
  let r := s.busRead path off
  r.1.emit (.word path off r.2)

end Sys2Proof.Machine
end

