-- ==== Sys2Proof/Machine/Smbus.lean ====
section
/-! DEFINITION. The SMBus slave (R440 to R442). -/
namespace Sys2Proof.Machine

/-- A command of the SMBus master (R440), with the packet error check that came with it, if any, and whether it was right: without one where it is required, or with a wrong one, it is not acknowledged. No command is answered while PORESET_N is low. -/
def State.smbCmd (s : State) (pec : Option Bool) (f : State → State) : State :=
  if s.dev = .off then s.emit .smbNack
  else if pec = some false ∨ (pec = none ∧ s.flag Reg.SMBUS.CFG.PEC_REQ = true) then (s.inc Reg.SMBUS.CNT_PEC_FAIL.COUNT).emit .smbNack
  else f (s.inc Reg.SMBUS.CNT_CMDS.COUNT)

/-- The unit's fuses have been read (R290): in BOOT they are not known before the fuse phase (R441). -/
def State.unitKnown (s : State) : Bool := !(s.dev == .boot && s.boot.cold && !s.boot.fuse)

/-- IDENT (R441). -/
def State.smbIdent (s : State) : State :=
  let part := if s.unitKnown then (s.viewWord 0x40).toNat else 0x5122
  s.emit (.smb (leBytes 4 part ++ leBytes 8 (if s.unitKnown then s.unit.unitId else 0) ++ leBytes 4 (s.viewWord 0x3044).toNat))

/-- Byte 0x03 of the STATUS_GET block (R374): the levels of the protection zones. -/
def State.zoneByte (s : State) : Nat := s.zoneLevel 0 + 4 * s.zoneLevel 1 + 16 * s.zoneLevel 2 + 64 * s.zoneLevel 3

/-- GSTATE as a summary shows it: 0 while Gantry's domain is not ON. -/
def State.gstateSeen (s : State) : Nat := if s.pageOn gantryPg then s.gstate else 0

/-- STATUS (R441). -/
def State.smbStatus (s : State) : State :=
  let flags := b2n s.ready + 2 * b2n s.faultN + 4 * b2n s.recordOpen + 8 * b2n (s.pageOn fusePg && s.flag Reg.FUSE.FUSE_STATUS.CAL_ABSENT)
    + 16 * b2n s.pcie.up + 32 * b2n s.sdOnline
  s.emit (.smb ([devCode s.dev, s.gstateSeen, s.zoneByte, flags].map (BitVec.ofNat 8) ++ leBytes 2 s.epoch
    ++ leBytes 2 (s.rdW 0x2040).toNat ++ leBytes 4 (s.rd Reg.SUMP.NEXT_RECORD.ID)))

/-- ZONES (R441). -/
def State.smbZones (s : State) : State := s.emit (.smb ((List.range 4).flatMap fun k => leBytes 2 (s.rd (Reg.THERMAL.ZONE_STATUS.VALUE k))))

/-- SENSOR_SEL (R441). -/
def State.smbSelect (s : State) (n : Nat) : State := if n < 120 then { s with smb := { s.smb with sensor := n } } else s

/-- SENSOR (R441). -/
def State.smbSensor (s : State) : State := s.emit (.smb (leBytes 2 (s.rd (Reg.THERMAL.SENSOR.TEMP s.smb.sensor))))

/-- RESET_CAUSE (R398, R441). -/
def State.smbCause (s : State) : State := s.emit (.smb (s.winList 0x7C80 32))

/-- REG_ADDR (R441). -/
def State.smbAddr (s : State) (off : Nat) : State := { s with smb := { s.smb with addr := off } }

/-- REG_READ (R441). -/
def State.smbRead (s : State) : State :=
  let r := s.busRead .smbus s.smb.addr
  r.1.emit (.smb (leBytes 4 r.2.toNat))

/-- SMB_TIMEOUT (R440): the transaction of a command is abandoned. -/
def State.smbTimeout (s : State) (code : Nat) : State := if s.dev = .off then s else (s.inc Reg.SMBUS.CNT_TIMEOUT.COUNT).raise 51 code

/-- SMB_ARP (R440): the slave takes an address. -/
def State.smbArp (s : State) (addr : Nat) : State :=
  if s.dev = .off ∨ s.flag Reg.SMBUS.CFG.ARP_EN = false then s else s.wr Reg.SMBUS.CFG.ADDR addr

end Sys2Proof.Machine
end

