-- ==== Sys2Proof/Machine/Cmd.lean ====
section
/-! DEFINITION. Commands and host queues (R366 to R387): finding a command in a frame, fragments and batches, the checks and the ops of a batch, responses, and the submission queues. -/
namespace Sys2Proof.Machine

/-- A host access to a page's block: where the page's domain is not ON it has no effect and is counted (R413). -/
def State.host (s : State) (pg : Nat) (f : State → State) : State := if s.dev = .off then s else if s.pageOn pg then f s else s.offAccess

/-- A change of the command state. -/
def State.modCmd (s : State) (f : CmdSt → CmdSt) : State := { s with cmd := f s.cmd }

/-- A command found in a frame (R366): where it begins, its bytes, the IEEE 802.1Q tag before it, and over UDP the addresses and the source port. -/
structure Found where
  body : List Byte
  vlan : List Byte
  src  : List Byte
  dst  : List Byte
  udp  : Nat
deriving DecidableEq, Repr

/-- The command behind the EtherType at an offset (R366): after CMD_CFG.ETHERTYPE, or in UDP over IPv4 or IPv6 to CMD_CFG.UDP_PORT. -/
def State.findAt (s : State) (d vlan : List Byte) (p : Nat) : Option Found :=
  let et := beAt d p 2
  let q := p + 2
  let udpAt (u : Nat) (src dst : List Byte) : Option Found :=
    if beAt d (u + 2) 2 = s.rd Reg.CMD.CMD_CFG.UDP_PORT then
      some ⟨(d.drop (u + 8)).take (beAt d (u + 4) 2 - 8), vlan, src, dst, beAt d u 2⟩
    else none
  if d.length < q then none
  else if et = s.rd Reg.CMD.CMD_CFG.ETHERTYPE then some ⟨d.drop q, vlan, [], [], 0⟩
  else if et = 0x0800 ∧ beAt d (q + 9) 1 = 17 then udpAt (q + 4 * (beAt d q 1 % 16)) (bytesAt d (q + 12) 4) (bytesAt d (q + 16) 4)
  else if et = 0x86DD ∧ beAt d (q + 6) 1 = 17 then udpAt (q + 40) (bytesAt d (q + 8) 16) (bytesAt d (q + 24) 16)
  else none

/-- The command that an EXEC frame carries, past at most one IEEE 802.1Q tag. A frame whose second pass stripped it begins at its EtherType. -/
def State.findCmd (s : State) (f : RxFrame) (data : List Byte) : Option Found :=
  let p := if data != f.data then 0 else if f.tagged then 20 else 12
  if beAt data p 2 = 0x8100 then s.findAt data (bytesAt data p 4) (p + 4) else s.findAt data [] p

/-- The carrier of a found command (R366). -/
def carrierOf (f : RxFrame) (c : Found) : Carrier := ⟨f.port, beAt f.data 6 6, c.vlan, c.src, c.dst, c.udp⟩

/-- The ops of a list of bytes, at most n of them (R370): type and value; none where the bytes end too early. What stays after them comes back. -/
def splitOps : Nat → List Byte → Option (List (Nat × List Byte) × List Byte)
  | 0, l => some ([], l)
  | n + 1, l =>
    let len := beAt l 2 2
    let full := 4 + (len + 3) / 4 * 4
    if l.length < full then none
    else (splitOps n (l.drop full)).map fun r => ((beAt l 0 1, bytesAt l 4 len) :: r.1, r.2)

/-- The session that a header names (R368). -/
def headSession (h : List Byte) : Nat := beAt h 2 1

/-- BAD_HEADER of a fragment's header (R368, R372): its version, RESPONSE, its session but over PCI Express, and its fragment numbers. -/
def headBad (h : List Byte) (ring : Bool) : Bool :=
  beAt h 0 1 != 1 || bitOf (beAt h 1 1) 1 || (ring && decide (16 ≤ headSession h)) || beAt h 13 1 == 0 || decide (16 < beAt h 13 1) ||
    decide (beAt h 13 1 ≤ beAt h 12 1) || (!ring && beAt h 13 1 != 1)

/-- The header of a fragment of a batch (R368). -/
def fragHead (h : List Byte) (idx ops : Nat) : List Byte := h.take 12 ++ beBytes 1 idx ++ bytesAt h 13 1 ++ beBytes 2 ops

/-- The ops of a batch in order (R370). -/
def Batch.ops (b : Batch) : List (Nat × List Byte) :=
  let n := beAt b.head 13 1
  (List.range n).flatMap fun i =>
    match b.frags.find? (·.1 == i) with
    | some f => ((splitOps f.2.1 f.2.2).getD ([], [])).1
    | none => []

/-- Whether a batch holds all its fragments (R377). -/
def Batch.whole (b : Batch) : Bool := decide (beAt b.head 13 1 ≤ b.frags.length)

/-- The bytes of a batch's fragments, headers and ops (R377, R380), in FRAG_INDEX order. -/
def Batch.bytes (b : Batch) : List Byte :=
  (List.range (beAt b.head 13 1)).flatMap fun i =>
    match b.frags.find? (·.1 == i) with
    | some f => fragHead b.head f.1 f.2.1 ++ f.2.2
    | none => []

/-- The IV of a tag (R380): session, direction, epoch, sequence, BATCH_ID, and RESP_COUNT in a response. -/
def tagIv (session dir epoch seq id count : Nat) : List Byte :=
  beBytes 1 session ++ beBytes 1 dir ++ beBytes 2 epoch ++ beBytes 4 seq ++ beBytes 2 id ++ beBytes 2 count

/-- The key of a session, while it holds one (R375). -/
def State.keyFor (s : State) (n : Nat) : Option (List Byte) := if s.flag (Reg.CMD.SESSION.KEYED n) && decide (n < 16) then alGet s.cmd.keys n else none

/-! ### Responses -/

/-- The bytes of a result item (R373). -/
def Item.bytes (i : Item) : List Byte :=
  beBytes 1 (i.code + 0x80) ++ beBytes 1 i.status ++ beBytes 1 i.detail ++ beBytes 1 0 ++ beBytes 2 i.data.length ++ beBytes 2 0 ++ pad4 i.data

/-- The bytes of all items. -/
def itemBytes (l : List Item) : List Byte := l.flatMap Item.bytes

/-- The response to a command's header (R369), with its tag where the session holds a key (R380), and RESP_COUNT counted. -/
def State.response (s : State) (head : List Byte) (status : Nat) (items : List Item) : State × List Byte :=
  let ses := headSession head
  let key := s.keyFor ses
  let n := if ses < 16 then tabGet s.cmd.resp 0 ses else 0
  let s := if ses < 16 then s.modCmd fun c => { c with resp := tabPut c.resp 0 ses ((n + 1) % 65536) } else s
  let c := beAt head 1 1
  let flags := c / 4 * 4 + 2 + b2n key.isSome
  let msg := beBytes 1 1 ++ beBytes 1 flags ++ bytesAt head 2 1 ++ beBytes 1 status ++ bytesAt head 4 4 ++ beBytes 2 s.epoch ++ bytesAt head 10 2 ++
    beBytes 2 n ++ beBytes 2 items.length ++ itemBytes items
  match key with
  | some k => (s, msg ++ gmac k (tagIv ses 1 s.epoch (beAt head 4 4) (beAt head 10 2) n) msg)
  | none => (s, msg)

/-- The checksum of words already summed, in one's complement. -/
def onesCheck (l : List Byte) : Nat := 65535 - onesSum l

/-- A UDP segment from UDP_PORT to a port (R366) between two addresses; a checksum of 0 is sent as all ones. -/
def udpSegment (src dst : List Byte) (sport dport : Nat) (l : List Byte) : List Byte :=
  let n := l.length + 8
  let pseudo := src ++ dst ++ (if src.length = 4 then beBytes 2 17 ++ beBytes 2 n else beBytes 4 n ++ beBytes 4 17)
  let head := beBytes 2 sport ++ beBytes 2 dport ++ beBytes 2 n
  let c := onesCheck (pseudo ++ head ++ beBytes 2 0 ++ l ++ List.replicate (l.length % 2) 0)
  head ++ beBytes 2 (if c = 0 then 65535 else c) ++ l

/-- The payload of a response frame after its ring tag (R366): the command's IEEE 802.1Q tag, and CMD_CFG.ETHERTYPE, or IP and UDP back to the source. What the specification leaves open of the IP header is a free value. -/
def State.responsePayload (s : State) (c : Carrier) (l : List Byte) : State × List Byte :=
  if c.src.isEmpty then (s, c.vlan ++ beBytes 2 (s.rd Reg.CMD.CMD_CFG.ETHERTYPE) ++ l)
  else
    let s := s.draw
    let free (k n : Nat) : Nat := (Config.freeWord s.freeCtr k).toNat % n
    let seg := udpSegment c.dst c.src (s.rd Reg.CMD.CMD_CFG.UDP_PORT) c.udp l
    if c.src.length = 4 then
      let head (sum : Nat) : List Byte := beBytes 1 0x45 ++ beBytes 1 (free 0 256) ++ beBytes 2 (20 + seg.length) ++ beBytes 2 (free 1 65536) ++
        beBytes 2 0 ++ beBytes 1 (free 2 255 + 1) ++ beBytes 1 17 ++ beBytes 2 sum ++ c.dst ++ c.src
      (s, c.vlan ++ beBytes 2 0x0800 ++ head (onesCheck (head 0)) ++ seg)
    else
      (s, c.vlan ++ beBytes 2 0x86DD ++ beBytes 4 (0x60000000 + free 0 (2 ^ 28)) ++ beBytes 2 seg.length ++ beBytes 1 17 ++
        beBytes 1 (free 2 255 + 1) ++ c.dst ++ c.src ++ seg)

/-- Whether a submission queue stalls (R444): it lies in board SDRAM that is offline. -/
def State.queueStalls (s : State) (k : Nat) : Bool := s.flag (Reg.CMD.Q_CFG.LOCATION k) && !s.sdOnline

/-- The bytes of a completion entry (R382). -/
def completion (c : SqCmd) (phase truncated : Bool) (status at' n t : Nat) (items : List Byte) : List Byte :=
  leBytes 4 c.tag ++ leBytes 2 c.head ++ leBytes 1 (b2n phase + 2 * b2n truncated) ++ leBytes 1 status ++ leBytes 2 at' ++ leBytes 2 n ++ stamp t ++
    List.replicate 10 0 ++ bytesAt items 0 32

/-- A write for a submission queue's command. One whose queue has been disabled since has nowhere to go (R429): in host memory it is counted as discarded. -/
def State.sqWrite (s : State) (c : SqCmd) (inSd : Bool) (a : Nat) (l : List Byte) : State :=
  if s.flag (Reg.CMD.Q_CFG.ENABLE c.q) then s.qWrite inSd a l else if inSd then s else s.inc Reg.PCIE.CNT_DMA_DISCARD.COUNT

/-- A completion entry written at the tail of its queue with the present phase, which inverts at each wrap (R382); the vector fires where the descriptor asks (R381). -/
def State.cqPut (s : State) (c : SqCmd) (entry : Bool → List Byte) : State :=
  let n := 2 ^ s.rd (Reg.CMD.Q_CFG.CQ_LOG2 c.q)
  let q := s.hq.sq.getD c.q ⟨0, 0, true⟩
  let tail := s.rd (Reg.CMD.Q_STATUS.CQ_TAIL c.q)
  let s := s.sqWrite c (s.flag (Reg.CMD.Q_CFG.LOCATION c.q)) (s.rd64 (0xE208 + 0x20 * c.q) + 64 * tail) (entry q.phase)
  let tail' := (tail + 1) % n
  let s := s.wr (Reg.CMD.Q_STATUS.CQ_TAIL c.q) tail'
  let s := if tail' = 0 then { s with hq := { s.hq with sq := s.hq.sq.set c.q { q with phase := !q.phase } } } else s
  if c.irq then s.msix (s.rd (Reg.CMD.Q_CFG.VECTOR c.q)) else s

/-- The response buffer's bytes (R381): truncated at RESP_LEN; a buffer in board SDRAM lies in the QUEUE partition, or nothing is written (R448). -/
def State.respWrite (s : State) (c : SqCmd) (l : List Byte) : State × Nat :=
  let d := l.take c.rLen
  if d.isEmpty then (s, 0)
  else if c.rSd && !(s.sdOnline && s.inPartition 5 c.rAddr d.length) then (s, 0)
  else (s.sqWrite c c.rSd c.rAddr d, d.length)

/-- A batch is answered (R366, R369, R372, R382). A QUIET batch that is OK has no response; a submission queue's command still completes. -/
def State.respond (s : State) (dest : ReplyTo) (head : List Byte) (status at' : Nat) (items : List Item) : State :=
  let silent := status == 0 && bitOf (beAt head 1 1) 2
  match dest with
  | .ring c =>
    if silent then s
    else
      let r := s.response head status items
      let p := r.1.responsePayload c r.2
      p.1.sendOwn p.1.answerPorts c.mac 0 p.2
  | .sq c =>
    let r := if silent then (s, []) else s.response head status items
    let w := r.1.respWrite c r.2
    w.1.cqPut c fun phase => completion c phase (decide (w.2 < r.2.length)) status at' w.2 w.1.now (itemBytes items)

/-- An answer put among those that wait. -/
def State.answer (s : State) (no : Nat) (dest : ReplyTo) (head : List Byte) (status at' : Nat) (items : List Item) (places : List Nat) : State :=
  s.modCmd fun c => { c with wait := c.wait ++ [⟨no, head, dest, status, at', items, places⟩] }

/-- An answer whose batch is complete and whose queue does not stall. -/
def State.canAnswer (s : State) (w : Waiting) : Bool :=
  w.open'.isEmpty && (match w.dest with
    | .ring _ => true
    | .sq c => !s.queueStalls c.q)

/-- The records of a batch's solves taken into its items (R373): DETAIL is the record's CODE. -/
def Waiting.take (w : Waiting) (done : List (Nat × Nat × List Byte)) : Waiting :=
  (done.filter fun d => d.1 == w.no && w.open'.contains d.2.1).foldl (fun w d =>
    { w with items := w.items.set d.2.1 ⟨4, 0, beAt d.2.2 4 1, d.2.2⟩, open' := w.open'.filter (· != d.2.1) }) w

/-- The answers that can go out do (R373, R444). -/
def State.answersOut (s : State) : State :=
  if s.cmd.wait.isEmpty && s.seam.done.isEmpty then s
  else
    let wait := s.cmd.wait.map fun w => w.take s.seam.done
    let s := (s.modSeam fun q => { q with done := [] }).modCmd fun c => { c with wait := wait.filter fun w => !s.canAnswer w }
    (wait.filter s.canAnswer).foldl (fun s w => s.respond w.dest w.head w.status w.at' w.items) s

/-! ### Ops -/

/-- The count of words of a REG_WRITE or REG_READ op is one that its LENGTH fits (R370). -/
def regCount (v : List Byte) (words : Bool) : Bool :=
  let n := beAt v 4 2
  decide (8 ≤ v.length) && decide (1 ≤ n) && decide (n ≤ 256) && v.length == (if words then 8 + 4 * n else 8)

/-- BAD_ADDR (R370): a word outside BAR0, or unaligned. -/
def badAddr (v : List Byte) : Bool := decide (beAt v 0 4 % 4 ≠ 0) || decide (0x1000000 < beAt v 0 4 + 4 * beAt v 4 2)

/-- What a ring batch must not write (R371): the FUSE and CMD pages, PG_LOCK of any page, and the fuse, working-set and pending-bank windows. -/
def notLocal (off : Nat) : Bool :=
  off / 0x1000 == 4 || off / 0x1000 == 0xE || ((pageOf off).isSome && off % 0x1000 == 0x24) || (decide (0x300000 ≤ off) && decide (off < 0x370000)) ||
    (decide (0x380000 ≤ off) && decide (off < 0x3F0000)) || (match windowOf off with
      | some w => w.owner == 0x4000
      | none => false)

/-- The room of the stream ring in descriptors (R203). -/
def State.streamRoom (s : State) : Nat :=
  let size := 2 ^ s.rd Reg.GANTRY.STREAM_CFG.SIZE_LOG2
  (size - (s.rd Reg.GANTRY.STREAM_WR_PTR.PTR + 2 * size - s.rd Reg.GANTRY.STREAM_RD_PTR.PTR) % (2 * size)) / 32

/-- Why an op is refused (R370, R371, R373): its status and detail; none where it may be applied. -/
def State.opCheck (s : State) (ring : Bool) (code : Nat) (v : List Byte) : Option (Nat × Nat) :=
  let bad : Option (Nat × Nat) := some (0x10, 0)
  let isLen (n : Nat) : Bool := v.length == n
  match code with
  | 0x01 =>
    if !regCount v true then bad
    else if badAddr v then some (0x11, 0)
    else if ring && (List.range (beAt v 4 2)).any (fun k => notLocal (beAt v 0 4 + 4 * k)) then some (0x12, 0)
    else none
  | 0x02 => if !regCount v false then bad else if badAddr v then some (0x11, 0) else none
  | 0x03 =>
    if !isLen 2052 || decide (511 < beAt v 0 2) then bad
    else if s.slotInUse (beAt v 0 2) then some (0x14, 0)
    else if imageCheck (v.drop 4) ≠ 0 then some (0x15, imageCheck (v.drop 4))
    else none
  | 0x04 => if isLen 1088 then none else bad
  | 0x05 =>
    let n := beAt v 0 2
    if !(decide (1 ≤ n) && decide (n ≤ 255) && isLen (4 + 32 * n)) then bad
    else if !s.flag Reg.GANTRY.STREAM_CFG.ENABLE then some (0x13, 0)
    else if s.streamRoom < n then some (0x16, 0)
    else none
  | 0x06 => if !isLen 18 || decide (4 < beAt v 0 1) then bad else none
  | 0x07 => if !isLen 28 || decide (15 < beAt v 0 1) then bad else none
  | 0x08 => if isLen 0 then none else bad
  | 0x09 =>
    if !isLen 4 then bad
    else if (onesOf 16 (beAt v 0 2)).any (fun r => !s.flag (Reg.CAPTURE.RING_CTRL.ENABLE r)) then some (0x13, 0)
    else none
  | 0x0A => if isLen 4 then none else bad
  | 0x0B => if !isLen 4 then bad else if s.ackMatches (beAt v 0 4) then none else some (0x17, 0)
  | 0x0C => if !isLen 0 then bad else if s.dev != .safe then some (0x13, 0) else if s.mayExit then none else some (0x18, 0)
  | 0x0D =>
    if !isLen 4 then bad
    else if s.dev != .hold || s.boot.check.isSome then some (0x13, 0)
    else match s.commitCheck (beAt v 0 4) with
      | [] => none
      | r :: _ => some (0x19, r.1)
  | 0x0E => if !isLen 4 then bad else if ring then some (0x12, 0) else none
  | 0x0F => if !isLen 40 then bad else if ring then some (0x12, 0) else if 15 < beAt v 0 1 then bad else none
  | _ => bad

/-- The first refused op of a batch (R372): its place, code, status and detail. -/
def State.firstRefused (s : State) (ring : Bool) (ops : List (Nat × List Byte)) : Option (Nat × Nat × Nat × Nat) :=
  ((List.range ops.length).zip ops).findSome? fun p => (s.opCheck ring p.2.1 p.2.2).map fun r => (p.1, p.2.1, r.1, r.2)

/-- The length of an op's result data (R376). -/
def resultLen (code : Nat) (v : List Byte) : Nat :=
  match code with
  | 0x02 => 4 * beAt v 4 2
  | 0x04 => 64
  | 0x08 => 64
  | _ => 0

/-- The bytes of the OK response to a list of ops. -/
def responseLen (ops : List (Nat × List Byte)) : Nat := 16 + sumN (ops.map fun o => 8 + resultLen o.1 o.2)

/-- The limit of a response (R376). -/
def State.responseLimit (s : State) (dest : ReplyTo) : Nat :=
  match dest with
  | .sq _ => 8192
  | .ring c =>
    let up := s.answerPorts.filter s.linkUp
    let ports := if up.isEmpty then s.answerPorts else up
    let room := ports.foldl (fun m p => min m (s.rd (Reg.RING.FRAME_CFG.LOCAL_MAX p))) 16383
    min 8192 (room - (20 + c.vlan.length + 2 + (if c.src.isEmpty then 0 else if c.src.length = 4 then 28 else 48) + 16 + 4))

/-- A time in an op's value, as R238 lays it out. -/
def opTime (v : List Byte) (p : Nat) : Nat := timeOf (leAt v p 6) (leAt v (p + 6) 4)

/-- The status block (R374) for a session. -/
def State.statusBlock (s : State) (session : Nat) : List Byte :=
  let zones := s.zoneLevel 0 + 4 * s.zoneLevel 1 + 16 * s.zoneLevel 2 + 64 * s.zoneLevel 3
  let path := (s.activeEng.getD 0) + 2 * s.rd Reg.PATH.PATH_STATUS.DEGRADED + 4 * s.rd Reg.PATH.PATH_CFG.RING_CLASS
  beBytes 1 (devCode s.dev) ++ beBytes 1 s.gstate ++ beBytes 1 s.servo ++ beBytes 1 zones ++ beBytes 2 s.epoch ++ beBytes 1 path ++
    beBytes 1 (b2n s.recordOpen) ++ stamp s.now ++ beBytes 2 0 ++ beBytes 4 (s.rd Reg.GANTRY.LIVE_IMAGE_ID.ID) ++ beBytes 4 (s.rd Reg.GANTRY.BENCH_NUM.COUNT) ++
    beBytes 4 (s.rd Reg.GANTRY.SLIP.G + 2 ^ 31 * s.rd Reg.GANTRY.SLIP.LATE) ++
    beBytes 4 (if session < 16 then s.rd (Reg.CMD.SESSION_SEQ.H session) else 0) ++ beBytes 2 (s.rd Reg.GANTRY.LIVE_SLOT.SLOT) ++ List.replicate 26 0

/-- REG_WRITE (R370): word k to ADDR + 4k, under R7 and R8. -/
def State.opRegWrite (s : State) (path : HostPath) (v : List Byte) : State :=
  (List.range (beAt v 4 2)).foldl (fun s k => s.busWrite path (beAt v 0 4 + 4 * k) (BitVec.ofNat 32 (beAt v (8 + 4 * k) 4))) s

/-- REG_READ (R370): COUNT words in order. -/
def State.opRegRead (s : State) (path : HostPath) (v : List Byte) : State × List Byte :=
  (List.range (beAt v 4 2)).foldl (fun r k =>
    let x := r.1.busRead path (beAt v 0 4 + 4 * k)
    (x.1, r.2 ++ beBytes 4 x.2.toNat)) (s, [])

/-- BENCH_APPEND (R370): the descriptors go to STREAM_WR_PTR of the ring, which is advanced once after the last. -/
def State.opAppend (s : State) (v : List Byte) : State :=
  let n := beAt v 0 2
  let size := 2 ^ s.rd Reg.GANTRY.STREAM_CFG.SIZE_LOG2
  let w := s.rd Reg.GANTRY.STREAM_WR_PTR.PTR
  let put (s : State) (j : Nat) : State := if s.sdOnline then s.sdWrite (s.rd64 0x9090 + (w + 32 * j) % size) (bytesAt v (4 + 32 * j) 32) else s
  ((List.range n).foldl put s).wr Reg.GANTRY.STREAM_WR_PTR.PTR ((w + 32 * n) % (2 * size))

/-- GANTRY_CTL (R370): the form acts, and its reason is the detail. -/
def State.opGantry (s : State) (v : List Byte) : State × Nat :=
  let flags := beAt v 5 1
  match beAt v 0 1 with
  | 0 =>
    let s := s.gantryStart (beAt v 4 1 % 4) (opTime v 8) (bitOf flags 0) (beAt v 6 2)
    (s, s.rd Reg.GANTRY.START_RESULT.REASON)
  | 1 => (s.gantryStop, 0)
  | 2 =>
    let s := s.gantryJump (beAt v 2 2)
    (s, s.rd Reg.GANTRY.JUMP_RESULT.REASON)
  | 3 =>
    let s := s.gantryResync (opTime v 8) (if bitOf flags 1 then some (beAt v 2 2) else none)
    (s, s.rd Reg.GANTRY.RESYNC_RESULT.REASON)
  | _ => (s.gantryCancel, 0)

/-- TIME_EVENT_SET (R370): the event is disarmed, written, and armed where CTRL.ARM is 1. -/
def State.opTimeEvent (s : State) (v : List Byte) : State :=
  let k := beAt v 0 1
  let s := s.tevDisarm k
  let s := (s.wrTime (0x8200 + 0x20 * k) (opTime v 4)).wr (Reg.TIME.TEV_PERIOD.NS k) (beAt v 16 4)
  let s := s.wr (Reg.TIME.TEV_CAPMASK.RINGS k) (beAt v 24 4)
  s.tevWrite k (BitVec.ofNat 32 (beAt v 20 4))

/-- KEY_LOAD (R375): the session's key, REQUIRE_TAG, H and map, and its batches in reassembly discarded; or the session disabled and its key erased. -/
def State.opKey (s : State) (v : List Byte) : State :=
  let n := beAt v 0 1
  let flags := beAt v 1 1
  let s := s.evt cmdPg 6
  if bitOf flags 1 then (s.put (Reg.CMD.SESSION.KEYED n) false).modCmd fun c => { c with keys := alDel c.keys n }
  else
    let s := ((s.put (Reg.CMD.SESSION.KEYED n) true).put (Reg.CMD.SESSION.REQUIRE_TAG n) (bitOf flags 0)).wr (Reg.CMD.SESSION_SEQ.H n) (beAt v 4 4)
    let s := s.modCmd fun c => { c with keys := alPut c.keys n (bytesAt v 8 32), maps := tabPut c.maps 0 n 0 }
    let drop (e : Engine) : Engine := { e with reasm := e.reasm.filter fun b => b.key.1 != n }
    s.modPath fun p => { p with engA := drop p.engA, engB := drop p.engB }

/-- An op applied (R370): its result item; a solve's waits. -/
def State.opApply (s : State) (path : HostPath) (session no place code : Nat) (v : List Byte) : State × Item :=
  let item (d : Nat) (data : List Byte) : Item := ⟨code, 0, d, data⟩
  match code with
  | 0x01 => (s.opRegWrite path v, item 0 [])
  | 0x02 => let r := s.opRegRead path v; (r.1, item 0 r.2)
  | 0x03 => (s.host gantryPg fun s => s.writeSlot (beAt v 0 2) (v.drop 4) true, item 0 [])
  | 0x04 => (s.seamSubmit (some v) (.op no place), item 0 [])
  | 0x05 => (s.opAppend v, item 0 [])
  | 0x06 => if s.pageOn gantryPg then let r := s.opGantry v; (r.1, item r.2 []) else (s.offAccess, item 0 [])
  | 0x07 => (s.host timePg fun s => s.opTimeEvent v, item 0 [])
  | 0x08 => (s, item 0 (s.statusBlock session))
  | 0x09 => ((onesOf 16 (beAt v 0 2)).foldl (fun s r => s.capRun r (bitOf (beAt v 2 1) 0)) s, item 0 [])
  | 0x0A => if s.pageOn plumbPg then let r := s.runRequest (beAt v 0 1); (r.1, item r.2 []) else (s.offAccess, item 0 [])
  | 0x0B => (s.ackRecord, item 0 [])
  | 0x0C => (s.safeExit, item 0 [])
  | 0x0D => (s.commitStart (beAt v 0 4), item 0 [])
  | 0x0E => if s.pageOn fusePg then let r := s.fuseCommit (beAt v 0 2) true; (r.1, item r.2 []) else (s.offAccess, item 0 [])
  | _ => (s.opKey v, item 0 [])

/-! ### Committing a batch -/

/-- The path of a batch's register accesses (R432). -/
def ReplyTo.path : ReplyTo → HostPath
  | .ring _ => .opRing
  | .sq _ => .opPcie

/-- How a sequence stands to a session's window (R375): 0 committed, 3 ALREADY_COMMITTED, 4 SEQ_OLD, 5 SEQ_AHEAD. -/
def State.seqJudge (s : State) (session seq : Nat) : Nat :=
  let h := s.rd (Reg.CMD.SESSION_SEQ.H session)
  let d := (seq + 2 ^ 32 - h) % 2 ^ 32
  if d = 0 ∨ 2 ^ 31 ≤ d then
    let back := (2 ^ 32 - d) % 2 ^ 32
    if 64 ≤ back then 4 else if bitOf (tabGet s.cmd.maps 0 session) back then 3 else 0
  else if d ≤ 64 then 0 else 5

/-- A committed sequence marked in its session's map, which shifts as H rises (R375). -/
def State.seqMark (s : State) (session seq : Nat) : State :=
  let h := s.rd (Reg.CMD.SESSION_SEQ.H session)
  let d := (seq + 2 ^ 32 - h) % 2 ^ 32
  let m := tabGet s.cmd.maps 0 session
  if d = 0 ∨ 2 ^ 31 ≤ d then
    let back := (2 ^ 32 - d) % 2 ^ 32
    s.modCmd fun c => { c with maps := tabPut c.maps 0 session (m ||| 2 ^ back) }
  else
    (s.wr (Reg.CMD.SESSION_SEQ.H session) seq).modCmd fun c => { c with maps := tabPut c.maps 0 session ((m * 2 ^ d + 1) % 2 ^ 64) }

/-- The ops of a batch applied as one step (R376), and its answer, which waits for its solves (R373). -/
def State.applyBatch (s : State) (dest : ReplyTo) (head : List Byte) (ops : List (Nat × List Byte)) : State :=
  let no := s.cmd.next
  let s := (s.inc Reg.CMD.CNT_BATCHES.COUNT).modCmd fun c => { c with next := c.next + 1 }
  let r := ((List.range ops.length).zip ops).foldl (fun r p =>
    let x := r.1.opApply dest.path (headSession head) no p.1 p.2.1 p.2.2
    (x.1, r.2 ++ [x.2])) (s, [])
  let places := (List.range ops.length).filter fun i => (ops.getD i (0, [])).1 == 4
  (r.1.answer no dest head 0 0xFFFF r.2 places).answersOut

/-- An answer with nothing but a status. -/
def State.refuse (s : State) (dest : ReplyTo) (head : List Byte) (status : Nat) : State :=
  (s.answer s.cmd.next dest head status 0xFFFF [] []).answersOut

/-- A refused batch's commissioning check is still made, so that the BOOT page holds its reasons (R370). -/
def State.refusedCheck (s : State) (r : Nat × Nat × Nat × Nat) (ops : List (Nat × List Byte)) : State :=
  if r.2.2.1 = 0x19 then s.commitStart (beAt (ops.getD r.1 (0, [])).2 0 4) else s

/-- The checks of R376 from the sequence on, for a batch that is no duplicate. -/
def State.commitBatch (s : State) (b : Batch) (dest : ReplyTo) : State :=
  let ring := match dest with
    | .ring _ => true
    | .sq _ => false
  let ses := headSession b.head
  let seq := beAt b.head 4 4
  let ops := b.ops
  let j := if ring then s.seqJudge ses seq else 0
  if ring && (s.keyFor ses).isNone then s.refuse dest b.head 0x0A
  else if j = 3 then (s.inc Reg.CMD.CNT_ALREADY.COUNT).refuse dest b.head 3
  else if j ≠ 0 then (s.inc Reg.CMD.CNT_SEQ.COUNT).refuse dest b.head j
  else if ring && beAt b.head 8 2 != s.epoch && !ops.all (fun o => o.1 == 8) then
    (s.inc Reg.PATH.CNT_STALE_EPOCH.COUNT).refuse dest b.head 2
  else
    match s.firstRefused ring ops with
    | some r =>
      let s := ((s.countEvt Reg.CMD.CNT_REFUSED.COUNT cmdPg 3).refusedCheck r ops)
      (s.answer s.cmd.next dest b.head 1 r.1 [⟨r.2.1, r.2.2.1, r.2.2.2, []⟩] []).answersOut
    | none =>
      if s.responseLimit dest < responseLen ops then s.refuse dest b.head 9
      else (if ring then s.seqMark ses seq else s).applyBatch dest b.head ops

/-- The twin of a ring-tagged frame (R320, R325). -/
def twinOf (f : RxFrame) : Twin := ⟨beAt f.data 6 6, beAt f.data 17 2, f.data.drop 20⟩

/-- A reorder entry of a frame commits (R362, R376): nothing from an engine that has abdicated (R331), and nothing of a duplicate (R325). -/
def State.commitFrame (s : State) (f : RxFrame) (data : List Byte) (r : Result') : State :=
  if r = .nothing ∨ s.engState f.port = 4 then s
  else
    let (s, fresh) := if f.tagged then s.dupCheck f.port (twinOf f) else (s, true)
    if !fresh then s
    else
      match r with
      | .nothing => s
      | .batch b _ => (b.twins.foldl State.markTwin s).commitBatch b (.ring b.src)
      | .answer st head src => s.refuse (.ring src) head st
      | .given st =>
        match s.findCmd f data with
        | some c => if c.body.length < 16 then s else s.refuse (.ring (carrierOf f c)) (c.body.take 16) st
        | none => s

/-- A reorder entry of a submission queue's command commits (R362, R382). -/
def State.commitSq (s : State) (c : SqCmd) (r : Result') : State :=
  match r with
  | .batch b _ => s.commitBatch b (.sq c)
  | .answer st head _ => s.refuse (.sq c) head st
  | .given st => s.refuse (.sq c) (bytesAt c.data 0 16) st
  | .nothing => s

/-- Commands run from HOLD on (R385). -/
def State.cmdRuns (s : State) : Bool := s.dev != .off && s.dev != .boot

/-- ENTRY_COMMIT (R362): the oldest reorder entry, once its executor has finished. A CTL halt stops the executors (R272). -/
def State.entryCommit (s : State) : State :=
  match s.parser.rob with
  | [] => s
  | e :: rest =>
    if !e.fin || s.ctlHalt || !s.cmdRuns then s
    else
      let s := s.modParser fun p => { p with rob := rest }
      match e.work with
      | .frame f data _ => s.commitFrame f data (e.res.getD .nothing)
      | .sq c => s.commitSq c (e.res.getD .nothing)

/-! ### Fragments -/

/-- A completed batch validates (R377, R380): its tag is checked where it must be authenticated. A session without a key has none to check against, and is refused at commit. -/
def State.validate (s : State) (b : Batch) (last : Twin) : State × Result' :=
  let h := b.head
  let ses := headSession h
  match s.keyFor ses with
  | none => (s, .batch b last)
  | some k =>
    let must := bitOf (beAt h 1 1) 0 || s.flag (Reg.CMD.SESSION.REQUIRE_TAG ses) || b.auth
    if must && b.tag != gmac k (tagIv ses 0 (beAt h 8 2) (beAt h 4 4) (beAt h 10 2) 0) b.bytes then
      ((s.countEvt Reg.CMD.CNT_AUTH_FAIL.COUNT cmdPg 0).raise 39 ses, .nothing)
    else (s, .batch b last)

/-- An engine's batches in reassembly, shown in REASM_STATUS by the page's view. -/
def State.setReasm (s : State) (e : Nat) (l : List Batch) : State := s.setEngine e { s.engine e with reasm := l }

/-- A fragment reaches its engine's reassembly (R377, R378). -/
def State.fragment (s : State) (f : RxFrame) (c : Found) (auth : Bool) (head rest : List Byte) (ops : List Byte) : State × Result' :=
  let e := f.port
  let src := carrierOf f c
  let idx := beAt head 12 1
  let tag := if idx + 1 = beAt head 13 1 ∧ bitOf (beAt head 1 1) 0 = true then rest.take 16 else []
  let key := (headSession head, beAt head 10 2)
  let frag := (idx, beAt head 14 2, ops)
  let all := (s.engine e).reasm
  let others := all.filter fun b => b.key != key
  let go (b : Batch) : State × Result' :=
    if 65536 < b.bytes.length then (s.setReasm e others, .answer 9 b.head b.src)
    else if b.whole then (s.setReasm e others).validate b (twinOf f)
    else (s.setReasm e (others ++ [b]), .nothing)
  if (s.engine e).dead.any (·.1 == key) then (s.countEvt Reg.CMD.CNT_LATE_FRAG.COUNT cmdPg 2, .nothing)
  else
    match all.find? (fun b => b.key == key) with
    | some b =>
      if (b.head.take 12 != head.take 12) || beAt b.head 13 1 != beAt head 13 1 then (s.setReasm e others, .answer 6 b.head b.src)
      else if b.frags.any (fun x => x.1 == idx) then (s.inc Reg.CMD.CNT_DUP_FRAG.COUNT, .nothing)
      else go { b with frags := b.frags ++ [frag], tag := b.tag ++ tag, twins := b.twins ++ (if f.tagged then [twinOf f] else []), auth := b.auth || auth }
    | none =>
      if 16 ≤ all.length then (s.countEvt Reg.CMD.CNT_REASM_FULL.COUNT cmdPg 4, .answer 8 head src)
      else go ⟨head, [frag], tag, if f.tagged then [twinOf f] else [], auth, src, s.up⟩

/-- A frame at an executor (R362, R366, R377): its command is found, its header checked, and its fragment taken. -/
def State.frameWork (s : State) (f : RxFrame) (data : List Byte) (auth : Bool) : State × Result' :=
  match s.findCmd f data with
  | none => (s, .nothing)
  | some c =>
    let head := c.body.take 16
    if c.body.length < 16 ∨ s.engState f.port = 4 then (s, .nothing)
    else if headBad head true then (s, .answer 6 head (carrierOf f c))
    else
      let l := c.body.drop 16
      match splitOps (beAt head 14 2) l with
      | none => (s, .answer 6 head (carrierOf f c))
      | some r => s.fragment f c auth head r.2 (l.take (l.length - r.2.length))

/-- No carrier: the command came over PCI Express. -/
def noCarrier : Carrier := ⟨0, 0, [], [], [], 0⟩

/-- A submission queue's command at an executor (R368, R381): it has one fragment and no tag. -/
def sqWork (c : SqCmd) : Result' :=
  let head := bytesAt c.data 0 16
  if c.bad || headBad head false then .answer 6 head noCarrier
  else
    let l := c.data.drop 16
    match splitOps (beAt head 14 2) l with
    | none => .answer 6 head noCarrier
    | some r => .batch ⟨head, [(0, beAt head 14 2, l.take (l.length - r.2.length))], [], [], false, noCarrier, 0⟩ ⟨0, 0, []⟩

/-- FRAGMENT_ARRIVAL (R377): the executor checks the fragment in work and stores its ops, once. -/
def State.fragmentArrival (s : State) (x : Nat) : State :=
  match s.heldBy x with
  | [] => s
  | e :: _ =>
    if e.res.isSome then s
    else
      let r := match e.work with
        | .frame f data auth => s.frameWork f data auth
        | .sq c => (s, sqWork c)
      r.1.modEntry e.no fun e => { e with res := some r.2 }

/-- EXEC_COMPLETE (R362): an executor finishes its work. -/
def State.execComplete (s : State) (x : Nat) : State :=
  match s.heldBy x with
  | [] => s
  | e :: _ => (s.fragmentArrival x).modEntry e.no fun e => { e with fin := true }

/-- BATCH_TIMEOUT in time units (R378, R386): smaller values act as 10 µs. -/
def State.batchTime (s : State) : Nat := max 10 (s.rd Reg.CMD.BATCH_TIMEOUT.US) * us

/-- BATCH_TIMEOUT (R378): a batch in an engine's reassembly whose time is over is discarded, answered, and dead. -/
def State.batchTimeout (s : State) (e : Nat) : State :=
  match (s.engine e).reasm.find? fun b => decide (b.born + s.batchTime ≤ s.up) with
  | none => s
  | some b =>
    if 2 ≤ e then s
    else
      let s := s.setEngine e { s.engine e with reasm := (s.engine e).reasm.filter fun c => c.key != b.key, dead := (s.engine e).dead ++ [(b.key, s.up)] }
      (s.countEvt Reg.CMD.CNT_BATCH_TIMEOUT.COUNT cmdPg 1).refuse (.ring b.src) b.head 7

/-- DEAD_LIST_EXPIRY (R378): the BATCH_IDs put on an engine's dead list 16 × BATCH_TIMEOUT ago leave it. -/
def State.deadExpiry (s : State) (e : Nat) : State :=
  if 2 ≤ e then s else s.setEngine e { s.engine e with dead := (s.engine e).dead.filter fun d => decide (s.up < d.2 + 16 * s.batchTime) }

/-! ### Submission queues -/

/-- Host memory as a command's operand gives it; a byte it does not give is a free value. -/
def hostFetch (mem : HostMem) (k a n : Nat) : List Byte :=
  (List.range n).map fun i =>
    match mem.find? (fun b => decide (b.1 ≤ a + i) && decide (a + i < b.1 + b.2.length)) with
    | some b => b.2.getD (a + i - b.1) 0
    | none => Config.hostByte k (a + i)

/-- Bytes fetched from host memory or from the QUEUE partition (R381, R448); none where they cannot be read. -/
def State.queueFetch (s : State) (inSd : Bool) (mem : HostMem) (a n : Nat) : State × Option (List Byte) :=
  if inSd then
    if s.sdOnline && s.inPartition 5 a n then (s.draw, some (s.draw.sdBytes a n)) else (s, none)
  else if s.pcie.up && !s.pcie.d3 then (s.draw, some (hostFetch mem s.draw.freeCtr a n))
  else (s, none)

/-- The work of a submission queue that has not completed (R381, R382). -/
def State.sqOpen (s : State) (k : Nat) : Nat :=
  (s.parser.rob.filter fun e => match e.work with
    | .sq c => c.q == k
    | .frame _ _ _ => false).length + (s.cmd.wait.filter fun w => match w.dest with
    | .sq c => c.q == k
    | .ring _ => false).length

/-- Whether a completion queue has room for one more (R382). -/
def State.cqRoom (s : State) (k : Nat) : Bool :=
  let n := 2 ^ s.rd (Reg.CMD.Q_CFG.CQ_LOG2 k)
  let used := (s.rd (Reg.CMD.Q_STATUS.CQ_TAIL k) + n - (s.hq.sq.getD k ⟨0, 0, true⟩).cqHead % n) % n
  decide (used + s.sqOpen k + 1 < n)

/-- The head of a submission queue can be fetched (R381, R382, R429, R444): it is enabled and not empty, its completion queue has room, and neither D3hot nor offline board SDRAM holds it. -/
def State.sqReady (s : State) (k : Nat) : Bool :=
  let n := 2 ^ s.rd (Reg.CMD.Q_CFG.SQ_LOG2 k)
  s.flag (Reg.CMD.Q_CFG.ENABLE k) && decide (s.rd (Reg.CMD.Q_STATUS.SQ_HEAD k) ≠ (s.hq.sq.getD k ⟨0, 0, true⟩).sqTail % n) && s.cqRoom k &&
    !s.queueStalls k && (s.flag (Reg.CMD.Q_CFG.LOCATION k) || (s.pcie.up && !s.pcie.d3))

/-- The command of a submission descriptor (R381), its buffer fetched. A descriptor read with an uncorrectable error completes BAD_HEADER, and what it said is unknown (R445). -/
def State.sqCmd (s : State) (k head : Nat) (mem : HostMem) (d : List Byte) (poisoned : Bool) : State × SqCmd :=
  if poisoned then
    let s := s.draw
    let w (i : Nat) : Nat := (Config.freeWord s.freeCtr i).toNat
    (s, ⟨k, w 0, head, 0, 0, false, bitOf (w 1) 0, true, []⟩)
  else
    let flags := leAt d 4 2
    let len := leAt d 0x10 4
    let ok := decide (16 ≤ len) && decide (len ≤ 65536)
    let r := if ok then s.queueFetch (bitOf flags 2) mem (leAt d 8 8 / 64 * 64) len else (s, none)
    (r.1, ⟨k, leAt d 0 4, head, min 8192 (leAt d 0x14 4), leAt d 0x18 8, bitOf flags 3, bitOf flags 0, r.2.isNone, r.2.getD []⟩)

/-- The head of a queue taken into the reorder buffer (R381), unless FENCE holds it or, in D3hot, its buffers lie in host memory; the answer is whether it was. -/
def State.sqTake (s : State) (k : Nat) (mem : HostMem) (ecc : Ecc) : State × Bool :=
  let n := 2 ^ s.rd (Reg.CMD.Q_CFG.SQ_LOG2 k)
  let h := s.rd (Reg.CMD.Q_STATUS.SQ_HEAD k)
  let sd := s.flag (Reg.CMD.Q_CFG.LOCATION k)
  let a := s.rd64 (0xE200 + 0x20 * k) + 64 * h
  match s.queueFetch sd mem a 64 with
  | (_, none) => (s, false)
  | (s', some d) =>
    let poisoned := sd && ecc == .uncorrectable
    let flags := leAt d 4 2
    let fenced := !poisoned && bitOf flags 1 && decide (0 < s.sqOpen k)
    let waits := !poisoned && s.pcie.d3 && (!bitOf flags 2 || !bitOf flags 3)
    if fenced || waits then (s, false)
    else
      let s := if sd then s'.sdEcc a ecc else s'
      let s := s.wr (Reg.CMD.Q_STATUS.SQ_HEAD k) ((h + 1) % n)
      let r := s.sqCmd k ((h + 1) % n) mem d poisoned
      (State.takeEntry { r.1 with hq := { r.1.hq with turn := (k + 1) % 8 } } (.sq r.2), true)

/-- Queue service is open (R385): from HOLD on, the CMD page runs, no CTL halt, and a reorder entry is free with fewer than 64 works waiting (R361). -/
def State.sqServes (s : State) : Bool :=
  s.cmdRuns && s.pageOn cmdPg && s.pageRun cmdPg && !s.ctlHalt && decide (s.waitingWork.length < 64) && decide (s.parser.rob.length < 256)

/-- Service of the queues round robin, one command a turn, for at most so many commands (R381). -/
def State.sqServe (mem : HostMem) : Nat → Ecc → State → State
  | 0, _, s => s
  | n + 1, ecc, s =>
    if !s.sqServes then s
    else
      let order := (List.range 8).map fun i => (s.hq.turn + i) % 8
      match order.findSome? (fun k => if s.sqReady k then let r := s.sqTake k mem ecc; if r.2 then some r.1 else none else none) with
      | some s' => State.sqServe mem n .ok s'
      | none => s

/-- SQ_DOORBELL (R381): a tail written, and the queues served. Doorbells made before HOLD are kept. -/
def State.sqDoorbell (s : State) (k tail : Nat) (mem : HostMem) (ecc : Ecc) : State :=
  if 8 ≤ k then s
  else
    let q := s.hq.sq.getD k ⟨0, 0, true⟩
    State.sqServe mem 256 ecc { s with hq := { s.hq with sq := s.hq.sq.set k { q with sqTail := tail } } }

/-- CQ_HEAD_DOORBELL (R382): a head written, and the queues served. -/
def State.cqDoorbell (s : State) (k head : Nat) (mem : HostMem) (ecc : Ecc) : State :=
  if 8 ≤ k then s
  else
    let q := s.hq.sq.getD k ⟨0, 0, true⟩
    State.sqServe mem 256 ecc { s with hq := { s.hq with sq := s.hq.sq.set k { q with cqHead := head } } }

/-- EXEC_DISPATCH (R361, R381): the queues are served, and the oldest waiting work goes to an executor. -/
def State.execDispatch (s : State) (mem : HostMem) (ecc : Ecc) : State := (State.sqServe mem 256 ecc s).dispatchOne

/-- EQ_HEAD_DOORBELL (R383). -/
def State.eqDoorbell (s : State) (head : Nat) : State := { s with hq := { s.hq with eqHead := head } }

/-- PQ_HEAD_DOORBELL (R384). -/
def State.pqDoorbell (s : State) (head : Nat) : State := { s with hq := { s.hq with pqHead := head } }

end Sys2Proof.Machine
end

