-- ==== Sys2Proof/Machine/Act.lean ====
section
/-! DEFINITION. What the meanings of the commands share: their answers, register writes that have a row of their own, and what follows from a command whatever its kind. -/
namespace Sys2Proof.Machine

/-- The answer of a meaning. -/
abbrev Answer := Host.Outcome State Fault Refusal

/-- What follows from a command whatever its kind: an ended check lets its held writes through (R420); lanes see changed pins (R61, R67); a test whose condition has ended stops (R456); a closed window may end a run (R308); Plumb sees its probe solve (R303); SDRAM that went offline or came back (R444, R454); answers of batches go out (R373). -/
def State.settle (s : State) (was : Bool) : State :=
  let s := s.flushHeld.seamPins.testCheck.drainCheck
  let s := if s.seam.probe.isSome then s.probeSolved else s
  (s.watchSdram was).answersOut

/-- A state with the queue of waiting commands and the unit's identity of another: no command changes either. -/
def State.kept (t s : State) : State := { t with pending := s.pending, unit := s.unit }

/-- A meaning that has only its own effect. -/
def State.only (s : State) (f : State → State) : Answer := .next ((f s.start).kept s)

/-- A meaning from which more may follow. -/
def State.whole (s : State) (f : State → State) : Answer := .next (((f s.start).settle s.sdOnline).kept s)

/-- An effect only where a condition holds: what a command names exists (R20). -/
def State.where' (s : State) (c : Bool) (f : State → State) : State := if c then f s else s

/-- Host writes of words of one page or window that act by f (R7, R413, R420): held while a commissioning check runs, and without effect but counted where the block has no power. In OFF no register can be reached. -/
def State.regActs (s : State) (path : HostPath) (l : List (Nat × Word)) (f : State → State) : State :=
  let off := (l.headD (0, 0)).1
  if s.dev = .off then s
  else if s.boot.check.isSome ∧ pageBase off ≠ 0x3000 then
    { s with boot := { s.boot with held := s.boot.held ++ l.map fun e => (path, e.1, e.2) } }
  else if !s.reachable off then s.offAccess
  else f s

/-- A host write of one word that acts by f. -/
def State.regAct (s : State) (path : HostPath) (off w : Nat) (f : State → State) : State := s.regActs path [(off, BitVec.ofNat 32 w)] f

/-- An offset is the base of a page. -/
def isPage (pg : Nat) : Bool := (pageOf pg).isSome && pg % 0x1000 == 0

/-- A host write of one word of a page's header that acts by f. -/
def State.pageAct (s : State) (path : HostPath) (pg rel w : Nat) (f : State → State) : State :=
  if isPage pg then s.regAct path (pg + rel) w f else s

/-- The hardware of a page sets event bits (R435), where the page can be reached. -/
def State.hardSet (s : State) (pg : Nat) (set : Word) : State := if isPage pg && s.pageOn pg then s.evtSet pg set else s

/-- A host write of PG_PWR (R412), which a page without power takes too. -/
def State.powerAct (s : State) (path : HostPath) (pg w : Nat) (f : State → State) : State :=
  if !isPage pg then s
  else if (domOfPage pg).isSome && !s.pageOn pg && s.boot.check.isNone then (if s.dev = .off then s else f s)
  else s.regAct path (pg + 0x2C) w f

/-- A PLL loses lock (R23, R454): 0 root, 1 ring, 2 PCI Express, 3 SDRAM. -/
def State.pllLoss (s : State) (k : Nat) : State :=
  if 4 ≤ k ∨ bitOf (s.rd Reg.CLOCK.PLL_STATUS.LOCK) k = false then s
  else
    let s := (s.wr ⟨Reg.CLOCK.PLL_STATUS.LOCK.off, k, 1⟩ 0).inc (Reg.CLOCK.CNT_LOL.COUNT k)
    (s.evt 0x1000 k).raise k 0

/-- A ring SerDes, PCI Express or SDRAM PLL regains lock (R454). -/
def State.pllRelock (s : State) (k : Nat) : State :=
  if s.dev = .off ∨ k = 0 ∨ 4 ≤ k ∨ bitOf (s.rd Reg.CLOCK.PLL_STATUS.LOCK) k = true then s
  else (s.wr ⟨Reg.CLOCK.PLL_STATUS.LOCK.off, k, 1⟩ 1).evt 0x1000 (4 + k)

/-- Staging starts (R90, R298): that of a swap's boundary uses the codes of the bank to come. -/
def State.stageBoundary (s : State) (errs corrs : List Nat) : State :=
  if s.plumb.swapFix then (s.swapBanks.stagingStart errs corrs).swapBanks else s.stagingStart errs corrs

/-- A bench boundary occurs (R99, R208): a live image that changes is seen by Seam's lanes (R67), and a fixed swap takes place at it (R297). -/
def State.benchBoundary (s : State) : State :=
  let t := s.gan.nextT
  let swap := s.plumb.swapFix && t.isSome && s.gan.fixed.isSome && (s.gstate == 2 || s.gstate == 4)
  let n := s.boundary
  let n := if n.img.live = s.img.live then n else n.seamLive
  if swap then n.bankSwap (t.getD 0) else n

/-- A delivered result at its owners (R43, R137, R143, R301): Bramble, a DARK run and capture, unless a test keeps it from them; the overpower check sees every one. The first after a restart closes the waits on the conversions abandoned (R138). -/
def State.resultOut (s : State) (n raw14 : Nat) (r : Result) (lost : List Nat) : State :=
  let s := s.recordResult n r
  let s := lost.foldl (fun s i => s.resultTimeout (32 * n + i)) s
  if s.testHides (n / 8) then s
  else
    let s := s.deliver n r
    let s := if s.repeated n (s.conv n).period then s else s.darkTake r raw14
    (List.range 16).foldl (fun s k => s.capResult k r) s

/-- The converter's next conversion begins, or in DRAINING it stops (R130, R149). -/
def State.nextConv (s : State) (n : Nat) : State :=
  if s.rd (Reg.HDR.PG_STATE.STATE (monPg (n / 8))) = 3 then s.put (Reg.MONITOR.CONV_STATUS.RUNNING (n / 8) (n % 8)) false
  else (s.beginConv n).steerBack n

/-- A conversion ends on a converter (R130, R134 to R137, R143): corrected, flagged and delivered, unless its transfer is discarded (R11) or its bus is under test (R460); auto-range, which acts in the tile; and the next conversion begins. -/
def State.conversionEnd (s : State) (n raw14 : Nat) (bus : Ecc) : State :=
  if 624 ≤ n ∨ s.convRunning n = false then s
  else
    let m := n / 8
    let r := s.resultOf n (raw14 % 2 ^ 14)
    let s := s.busCheck (monCluster m) (256 + m) bus
    let s := if bus = .uncorrectable then (if r.ovr then s.openSettle r.mid (600 * ns) else s)
      else
        let s := s.resultOut n (raw14 % 2 ^ 14) r (s.conv n).lost
        if s.busTested m then s else s.overpower r
    (s.autoRange r.mid r.value r.ovr r.settl).nextConv n

/-- An edge on a trigger input (R212, R259): its timestamp, the input's level, and where the new level held long enough, Gantry. -/
def State.trigIn (s : State) (i t : Nat) (fall held : Bool) : State :=
  if 4 ≤ i then s
  else
    let s := (s.timestamp i t fall).wr ⟨Reg.GANTRY_TRIG.TRIGIN_STATUS.LEVEL.off, 8 + i, 1⟩ (b2n !fall)
    if held && s.flag (Reg.GANTRY_TRIG.TRIGIN_CFG.EDGE i) == fall then s.trigEdge i else s

/-- A frame arrives on a ring port with so many corrected codewords (R321). -/
def State.frameIn (s : State) (p : Nat) (data : List Byte) (fcs : Fcs) (cut : Bool) (corr res : Nat) (full : Bool) : State :=
  if 2 ≤ p ∨ s.linkUp p = false then s else (s.add (Reg.RING.CNT_FEC_CORR.COUNT p) corr).ringRx p data fcs cut res full

/-- The source port gets no Sync for LOSS_INTERVALS while the other port does (R243): the source switches to it. -/
def State.sourceLost (s : State) : State :=
  let p := 1 - s.srcPort
  if s.pageRun timePg && s.linkUp p && s.flag (Reg.TIME.PORT_CFG.ENABLE p) && s.hears p && !s.hears s.srcPort then s.switchSource p else s

/-- Polling.Compliance, Loopback or Lane Margining (R458): the data link is down. -/
def State.compliance (s : State) (ltssm : Nat) : State := s.pcieDown ltssm false

/-- One CLK_LOOP tick while the counter runs (R195, R234, R235): capture takes the results that have come in (R145), network time and the granule accumulator advance by TIME_INC, and accepted range changes start (R121); every fourth tick is a CLK_SVC tick, at which shapes play; every 32nd begins a conversion period. -/
def State.tick (s : State) : State :=
  if !s.clkRun then s
  else
    let s := s.start.capTake
    let inc := (s.timeInc * fu).toNat
    let left := s.time.slew - s.slewTerm
    let s := { s with now := (s.now + inc) % timeWrap, granAcc := (s.granAcc + inc) % max 1 s.gran, phase := (s.phase + 1) % 4 }
    let s := s.modTime fun t => { t with slew := left }
    let s := State.rangeStarts { s with mon := { s.mon with clock := s.mon.clock + 1 } }
    let s := s.holdCount
    let s := if s.phase = 0 then s.playTick else s
    if s.mon.sub = 31 then { s with mon := { s.mon with sub := 0, period := (s.mon.period + 1) % 2 ^ 48 } }
    else { s with mon := { s.mon with sub := s.mon.sub + 1 } }

/-- The present CLK_LOOP cycle is that of a granule edge (R195): the accumulator has just run over. -/
def State.granuleEdge (s : State) : Bool := decide (s.granAcc < max 1 (s.timeInc * fu).toNat)

/-- SLEW_COMPLETE (R249): the tick whose slew term is all that is left, so that SLEW_REMAIN reaches 0 with it. -/
def State.slewDone (s : State) : State := if s.time.slew ≠ 0 ∧ s.slewTerm = s.time.slew then s.tick else s

/-- The word that the identification register shifts out (R464). -/
def State.idWord (s : State) : Word := BitVec.ofNat 32 (s.unit.stepping % 16 * 2 ^ 28 + 0x51229AB)

end Sys2Proof.Machine
end

