-- ==== Sys2Proof/Machine/ExecCommand.lean ====
section
/-! DEFINITION. The meanings of the commands of the command executors and host queues (chapter 14). -/
namespace Sys2Proof.Machine

/-- EXEC_DISPATCH (R361). -/
def execExecDispatch (mem : HostMem) (ecc : Ecc) (s : State) : Answer := s.only fun s => s.execDispatch mem ecc

/-- EXEC_COMPLETE (R362). -/
def execExecComplete (x : Nat) (s : State) : Answer := s.only fun s => s.execComplete x

/-- ENTRY_COMMIT (R362). -/
def execEntryCommit (s : State) : Answer := s.whole fun s => s.entryCommit

/-- EXEC_TIMEOUT (R362). -/
def execExecTimeout (x : Nat) (s : State) : Answer := s.only fun s => s.execTimeout x

/-- FRAGMENT_ARRIVAL (R377). -/
def execFragmentArrival (x : Nat) (s : State) : Answer := s.only fun s => s.fragmentArrival x

/-- BATCH_TIMEOUT (R378). -/
def execBatchTimeout (e : Nat) (s : State) : Answer := s.only fun s => s.batchTimeout e

/-- DEAD_LIST_EXPIRY (R378). -/
def execDeadListExpiry (e : Nat) (s : State) : Answer := s.only fun s => s.deadExpiry e

/-- SQ_DOORBELL (R381). -/
def execSqDoorbell (k : Nat) (tail : Nat) (mem : HostMem) (ecc : Ecc) (s : State) : Answer :=
  s.only fun s =>
    s.host cmdPg fun s => s.sqDoorbell k tail mem ecc

/-- CQ_HEAD_DOORBELL (R382). -/
def execCqHeadDoorbell (k : Nat) (head : Nat) (mem : HostMem) (ecc : Ecc) (s : State) : Answer :=
  s.only fun s =>
    s.host cmdPg fun s => s.cqDoorbell k head mem ecc

/-- EQ_HEAD_DOORBELL (R383). -/
def execEqHeadDoorbell (head : Nat) (s : State) : Answer := s.only fun s => s.host cmdPg fun s => s.eqDoorbell head

/-- PQ_HEAD_DOORBELL (R384). -/
def execPqHeadDoorbell (head : Nat) (s : State) : Answer := s.only fun s => s.host cmdPg fun s => s.pqDoorbell head

end Sys2Proof.Machine
end

