-- ==== Sys2Proof/Machine/ExecDrive.lean ====
section
/-! DEFINITION. The meanings of the commands of the drive tiles (chapter 05). -/
namespace Sys2Proof.Machine

/-- TILE_MODE_REQ (R108). -/
def execTileModeReq (path : HostPath) (t : Nat) (req : Nat) (s : State) : Answer :=
  s.whole fun s =>
    s.where' (decide (t < 128)) fun s => s.regAct path (drivePg t + 0x40) (req % 4) fun s => s.modeReq t (req % 4)

/-- DRIVE_SHORT_DETECT (R109). -/
def execDriveShortDetect (t : Nat) (kind : Nat) (k : Nat) (s : State) : Answer := s.only fun s => s.shortDetect t kind k

/-- HOST_SHADOW_WRITE (R113). -/
def execHostShadowWrite (path : HostPath) (t : Nat) (kind : Nat) (k : Nat) (code : Nat) (s : State) : Answer :=
  s.only fun s =>
    s.where' (isChan kind t k) fun s => s.regAct path (shadowFld kind t k).off code fun s => s.hostShadow kind t k (code % 2 ^ (shadowFld kind t k).len)

/-- HOST_DIRECT_WRITE (R113). -/
def execHostDirectWrite (path : HostPath) (t : Nat) (chan : Nat) (kind : Nat) (code : Nat) (s : State) : Answer :=
  s.only fun s =>
    s.where' (decide (t < 128)) fun s => s.regAct path (drivePg t + 0x50) (chan % 128 + kind % 2 * 2 ^ 7 + code % 2 ^ 16 * 2 ^ 16) fun s => (s.hostDirect t (chan % 128) (kind % 2) (code % 2 ^ 16)).checkHtrOver

/-- COMMIT_CODES (R113). -/
def execCommitCodes (path : HostPath) (t : Nat) (s : State) : Answer :=
  s.only fun s =>
    s.where' (decide (t < 128)) fun s => s.regAct path (drivePg t + 0x28) 1 fun s => (s.commitCodes t).checkHtrOver

/-- COMMIT_SHAPES (R125). -/
def execCommitShapes (path : HostPath) (t : Nat) (s : State) : Answer :=
  s.only fun s =>
    s.where' (decide (t < 128)) fun s => s.regAct path (drivePg t + 0x28) 2 fun s => s.commitShapes t

/-- SHAPE_DATA_ACCESS (R125). -/
def execShapeDataAccess (path : HostPath) (t : Nat) (v : Option Nat) (s : State) : Answer :=
  s.only fun s =>
    s.where' (decide (t < 128)) fun s => (match v with
    | some v => s.regAct path (drivePg t + 0x64) (v % 2 ^ 16) fun s => s.shapeWrite t (v % 2 ^ 16)
    | none => s.readOut path (drivePg t + 0x64))

/-- DIRECT_UPDATE (R112). -/
def execDirectUpdate (t : Nat) (kind : Nat) (k : Nat) (code : Nat) (beaten : Bool) (bus : Ecc) (s : State) : Answer :=
  s.only fun s =>
    s.directUpdate t kind k code beaten bus

/-- PACED_UPDATE_RELEASE (R112). -/
def execPacedUpdateRelease (t : Nat) (k : Nat) (s : State) : Answer := s.only fun s => s.pacedRelease t k

/-- DEGLITCH_RELEASE (R116). -/
def execDeglitchRelease (t : Nat) (kind : Nat) (k : Nat) (s : State) : Answer := s.only fun s => s.deglitch kind t k

/-- READBACK_SAMPLE (R118). -/
def execReadbackSample (t : Nat) (v : Int) (s : State) : Answer := s.only fun s => s.readback t v

/-- RANGE_CHANGE_GO (R121). -/
def execRangeChangeGo (path : HostPath) (t : Nat) (fast : Bool) (htr : Bool) (s : State) : Answer :=
  s.only fun s =>
    s.where' (decide (t < 128)) fun s => s.regAct path (drivePg t + 0x48) (b2n fast * 2 ^ 8 + b2n htr * 2 ^ 9 + 2 ^ 31) fun s =>
      s.rangeGo t (b2n fast) (b2n htr) (s.commitNear (s.rd (Reg.DRIVE.RANGE.HTR_RANGE t) != b2n htr))

/-- RANGE_SETTLE_END (R121). -/
def execRangeSettleEnd (t : Nat) (kind : Nat) (s : State) : Answer := s.only fun s => s.rangeSettle t kind

end Sys2Proof.Machine
end

