-- ==== Sys2Proof/Machine/ExecGantry.lean ====
section
/-! DEFINITION. The meanings of the commands of Gantry schedules and triggers (chapter 08). -/
namespace Sys2Proof.Machine

/-- GCTL_START (R217). -/
def execGctlStart (path : HostPath) (s : State) : Answer := s.whole fun s => s.regAct path 0x9040 1 State.gctlStart

/-- GCTL_STOP (R227). -/
def execGctlStop (path : HostPath) (s : State) : Answer := s.whole fun s => s.regAct path 0x9040 2 State.gantryStop

/-- GCTL_JUMP (R210). -/
def execGctlJump (path : HostPath) (s : State) : Answer :=
  s.whole fun s =>
    s.regAct path 0x9040 4 fun s => s.gantryJump (s.rd Reg.GANTRY.JUMP_CFG.LABEL)

/-- GCTL_RESYNC (R226). -/
def execGctlResync (path : HostPath) (s : State) : Answer :=
  s.whole fun s =>
    s.regAct path 0x9040 8 fun s =>
    s.gantryResync (s.rdTime 0x9054) (if s.flag Reg.GANTRY.RESYNC_CFG.USE_LABEL then some (s.rd Reg.GANTRY.RESYNC_CFG.LABEL) else none)

/-- GCTL_CANCEL (R230). -/
def execGctlCancel (path : HostPath) (s : State) : Answer := s.whole fun s => s.regAct path 0x9040 16 State.gantryCancel

/-- GRANULE_PERIOD_WRITE (R196). -/
def execGranulePeriodWrite (path : HostPath) (v : Nat) (s : State) : Answer :=
  s.only fun s =>
    s.regAct path 0x9068 (v % 2 ^ 18) fun s => s.periodWrite (v % 2 ^ 18)

/-- LOCK_APPLY (R199). -/
def execLockApply (path : HostPath) (s : State) : Answer := s.only fun s => s.regAct path 0x9084 1 State.lockApply

/-- LOCK_DONE (R199). -/
def execLockDone (s : State) : Answer := s.only fun s => s.lockDone

/-- BENCH_MEMORY_WRITE (R200). -/
def execBenchMemoryWrite (path : HostPath) (i : Nat) (ws : List Word) (s : State) : Answer :=
  s.only fun s =>
    s.where' (decide (i < 8192) && ws.length == 8) fun s => s.regActs path ((List.range 8).map fun j => (0x580000 + 32 * i + 4 * j, ws.getD j 0)) fun s => s.benchWrite i ws

/-- STREAM_ENABLE (R203). -/
def execStreamEnable (path : HostPath) (s : State) : Answer := s.only fun s => s.regAct path 0x908C ((s.rdW 0x908C).toNat ||| 1) State.streamEnable

/-- STREAM_WR_PTR_WRITE (R203). -/
def execStreamWrPtrWrite (path : HostPath) (v : Nat) (s : State) : Answer :=
  s.only fun s =>
    s.regAct path 0x9098 (v % 2 ^ 31) fun s => s.streamWr (v % 2 ^ 31)

/-- STREAM_FETCH (R205). -/
def execStreamFetch (ecc : Ecc) (s : State) : Answer := s.only fun s => s.streamFetch ecc

/-- STREAM_SEQ_EXPECT_WRITE (R205). -/
def execStreamSeqExpectWrite (path : HostPath) (v : Nat) (s : State) : Answer :=
  s.only fun s =>
    s.regAct path 0x90A0 (v % 2 ^ 16) fun s => s.streamExpect (v % 2 ^ 16)

/-- UNDERFLOW_RETRY (R224). -/
def execUnderflowRetry (s : State) : Answer := s.whole fun s => s.underflowRetry

/-- UNDERFLOW_LIMIT (R224). -/
def execUnderflowLimit (s : State) : Answer := s.whole fun s => s.underflowLimit

/-- TRIGGER_WAIT_COMMIT (R213). -/
def execTriggerWaitCommit (s : State) : Answer := s.whole fun s => s.triggerCommit

/-- TRIGIN_EDGE (R212). -/
def execTriginEdge (i : Nat) (t : Nat) (fall : Bool) (held : Bool) (s : State) : Answer := s.only fun s => s.trigIn i t fall held

/-- TRIGO_ASSERT (R214). -/
def execTrigoAssert (k : Nat) (s : State) : Answer := s.only fun s => s.where' (decide (k < 16)) fun s => s.trigoAssert k

/-- TRIGO_RELEASE (R216). -/
def execTrigoRelease (k : Nat) (s : State) : Answer := s.only fun s => s.where' (decide (k < 16)) fun s => s.trigoRelease k

/-- SYNC_OUT_PULSE (R220). -/
def execSyncOutPulse (wide : Bool) (s : State) : Answer := s.only fun s => s.syncOut wide

/-- SYNC_IN_PULSE (R221). -/
def execSyncInPulse (tin : Nat) (wide : Bool) (turn : Nat) (s : State) : Answer := s.whole fun s => s.syncIn tin wide turn

/-- SYNC_PULSE_GO (R222). -/
def execSyncPulseGo (path : HostPath) (s : State) : Answer := s.only fun s => s.regAct path 0xA108 1 State.echoGo

/-- ECHO_DONE (R222). -/
def execEchoDone (mean : Nat) (all : Bool) (s : State) : Answer := s.only fun s => s.echoDone mean all

end Sys2Proof.Machine
end

