-- ==== Sys2Proof/Machine/ExecHost.lean ====
section
/-! DEFINITION. The meanings of the commands of PCI Express, board SDRAM and SMBus (chapter 17). -/
namespace Sys2Proof.Machine

/-- PCIE_LINK_UP (R428). -/
def execPcieLinkUp (speed : Nat) (width : Nat) (ltssm : Nat) (s : State) : Answer := s.only fun s => s.pcieUp speed width ltssm

/-- PCIE_LINK_DOWN (R429). -/
def execPcieLinkDown (ltssm : Nat) (hot : Bool) (s : State) : Answer := s.only fun s => s.pcieDown ltssm hot

/-- FUNCTION_LEVEL_RESET (R429). -/
def execFunctionLevelReset (s : State) : Answer := s.only fun s => s.flr

/-- D3HOT_ENTRY (R429). -/
def execD3hotEntry (s : State) : Answer := s.only fun s => s.d3Enter

/-- D0_RETURN (R429). -/
def execD0Return (s : State) : Answer := s.only fun s => s.d0Return

/-- PCIE_PERST (R477). -/
def execPciePerst (low : Bool) (ltssm : Nat) (s : State) : Answer := s.only fun s => s.perst low ltssm

/-- PCIE_RETRAIN (R452). -/
def execPcieRetrain (speed : Nat) (width : Nat) (s : State) : Answer := s.only fun s => s.retrain speed width

/-- PCIE_COMPLIANCE (R458). -/
def execPcieCompliance (ltssm : Nat) (s : State) : Answer := s.only fun s => s.compliance ltssm

/-- BAR2_ACCESS (R444). -/
def execBar2Access (a : Nat) (n : Nat) (data : Option (List Byte)) (ecc : Ecc) (poisoned : Bool) (s : State) : Answer :=
  s.only fun s =>
    match data with
    | some d => s.bar2Write a d poisoned
    | none => s.bar2Read a n ecc

/-- SCRUB_LINE (R446). -/
def execScrubLine (c : Nat) (a : Nat) (ecc : Ecc) (raced : Bool) (s : State) : Answer := s.only fun s => s.scrubLine c a ecc raced

/-- SCRUB_PASS (R446). -/
def execScrubPass (c : Nat) (s : State) : Answer := s.only fun s => s.scrubPass c

/-- TRAIN_GO (R447). -/
def execTrainGo (path : HostPath) (c : Nat) (s : State) : Answer :=
  s.whole fun s =>
    s.where' (decide (c < 4)) fun s => s.regAct path (0x14044 + 0x1000 * c) 1 fun s => s.trainGo c

/-- SMB_IDENT (R441). -/
def execSmbIdent (pec : Option Bool) (s : State) : Answer := s.only fun s => s.smbCmd pec State.smbIdent

/-- SMB_STATUS (R441). -/
def execSmbStatus (pec : Option Bool) (s : State) : Answer := s.only fun s => s.smbCmd pec State.smbStatus

/-- SMB_ZONES (R441). -/
def execSmbZones (pec : Option Bool) (s : State) : Answer := s.only fun s => s.smbCmd pec State.smbZones

/-- SMB_SENSOR_SEL (R441). -/
def execSmbSensorSel (n : Nat) (pec : Option Bool) (s : State) : Answer := s.only fun s => s.smbCmd pec fun s => s.smbSelect n

/-- SMB_SENSOR (R441). -/
def execSmbSensor (pec : Option Bool) (s : State) : Answer := s.only fun s => s.smbCmd pec State.smbSensor

/-- SMB_RESET_CAUSE (R441). -/
def execSmbResetCause (pec : Option Bool) (s : State) : Answer := s.only fun s => s.smbCmd pec State.smbCause

/-- SMB_REG_ADDR (R441). -/
def execSmbRegAddr (off : Nat) (pec : Option Bool) (s : State) : Answer := s.only fun s => s.smbCmd pec fun s => s.smbAddr off

/-- SMB_REG_READ (R441). -/
def execSmbRegRead (pec : Option Bool) (s : State) : Answer := s.only fun s => s.smbCmd pec State.smbRead

/-- SMB_REG_WRITE (R441). -/
def execSmbRegWrite (w : Word) (pec : Option Bool) (s : State) : Answer := s.whole fun s => s.smbCmd pec fun s => s.busWrite .smbus s.smb.addr w

/-- SMB_TIMEOUT (R440). -/
def execSmbTimeout (code : Nat) (s : State) : Answer := s.only fun s => s.smbTimeout code

/-- SMB_ARP (R440). -/
def execSmbArp (addr : Nat) (s : State) : Answer := s.only fun s => s.smbArp addr

end Sys2Proof.Machine
end

