-- ==== Sys2Proof/Machine/ExecImage.lean ====
section
/-! DEFINITION. The meanings of the commands of images and transitions (chapter 04). -/
namespace Sys2Proof.Machine

/-- SLOT_WINDOW_WRITE (R84). -/
def execSlotWindowWrite (path : HostPath) (n : Nat) (i : Nat) (w : Word) (s : State) : Answer :=
  s.only fun s =>
    s.where' (decide (n < 512) && decide (i < 512)) fun s => s.regAct path (0x400000 + 0x800 * n + 4 * i) w.toNat fun s => s.slotWord n i w

/-- SLOT_CHECK (R83). -/
def execSlotCheck (path : HostPath) (n : Nat) (s : State) : Answer :=
  s.only fun s =>
    s.regAct path 0x9404 (0x80000000 + n % 512) fun s => s.slotCheck (n % 512)

/-- SLOT_CHECK_DONE (R83). -/
def execSlotCheckDone (s : State) : Answer := s.only fun s => s.slotCheckDone

/-- STORE_FETCH_ARRIVAL (R85). -/
def execStoreFetchArrival (addr : Nat) (ecc : Ecc) (s : State) : Answer := s.only fun s => s.fetchArrival addr ecc

/-- COMMIT_POINT (R207). -/
def execCommitPoint (s : State) : Answer := s.whole fun s => s.commitPoint

/-- STAGING_START (R90). -/
def execStagingStart (errs corrs : List Nat) (s : State) : Answer := s.only fun s => s.stageBoundary errs corrs

/-- STAGING_COMPLETE (R90). -/
def execStagingComplete (s : State) : Answer := s.only fun s => s.stagingComplete

/-- ARMING_DEADLINE (R91). -/
def execArmingDeadline (s : State) : Answer := s.only fun s => s.armingDeadline

/-- BENCH_BOUNDARY (R99). -/
def execBenchBoundary (s : State) : Answer := s.whole fun s => s.benchBoundary

/-- GROUP_STROBE (R93). -/
def execGroupStrobe (g : Nat) (s : State) : Answer := s.only fun s => s.groupStrobe g

/-- SHAPE_END (R95). -/
def execShapeEnd (t : Nat) (k : Nat) (s : State) : Answer := s.only fun s => s.shapeEnd t k

/-- HOLDOFF_END (R100). -/
def execHoldoffEnd (eid : Nat) (s : State) : Answer := s.only fun s => s.where' (decide (eid < numElem)) fun s => s.holdoffEnd eid

/-- BLANK_RELEASE (R98). -/
def execBlankRelease (s : State) : Answer := s.only fun s => s.blankRelease

end Sys2Proof.Machine
end

