-- ==== Sys2Proof/Machine/ExecLoop.lean ====
section
/-! DEFINITION. The meanings of the commands of the Bramble loops (chapter 07). -/
namespace Sys2Proof.Machine

/-- PROBE_PAIR_STEP (R156). -/
def execProbePairStep (eid : Nat) (act : Nat) (s : State) : Answer :=
  s.only fun s =>
    s.where' (decide (eid < numElem)) fun s => (match act with
    | 0 => s.probePlus eid
    | 1 => s.probeMinus eid
    | _ => s.probeRemove eid)

/-- ESTIMATE (R162). -/
def execEstimate (eid : Nat) (s : State) : Answer := s.only fun s => s.where' (decide (eid < numElem)) fun s => s.estimate eid

/-- WRAP_SETTLE_END (R166). -/
def execWrapSettleEnd (eid : Nat) (s : State) : Answer := s.only fun s => s.where' (decide (eid < numElem)) fun s => s.wrapSettled eid

/-- LOOP_SATURATED (R167). -/
def execLoopSaturated (eid : Nat) (s : State) : Answer := s.only fun s => s.where' (decide (eid < numElem)) fun s => s.loopSaturated eid

/-- QUAR_SET (R168). -/
def execQuarSet (path : HostPath) (eid : Nat) (s : State) : Answer :=
  s.whole fun s =>
    s.where' (decide (eid < numElem)) fun s => let w := s.rdW (0x200000 + 16 * eid) ||| 2
    s.regAct path (0x200000 + 16 * eid) w.toNat fun s => s.elemWrite (0x200000 + 16 * eid) w

/-- QUAR_CLR (R168). -/
def execQuarClr (path : HostPath) (eid : Nat) (s : State) : Answer :=
  s.whole fun s =>
    s.where' (decide (eid < numElem)) fun s => let w := s.rdW (0x200000 + 16 * eid) ||| 4
    s.regAct path (0x200000 + 16 * eid) w.toNat fun s => s.elemWrite (0x200000 + 16 * eid) w

/-- ELEM_EN_WRITE (R178). -/
def execElemEnWrite (path : HostPath) (eid : Nat) (on : Bool) (s : State) : Answer :=
  s.whole fun s =>
    s.where' (decide (eid < numElem)) fun s => let w := putBits (s.rdW (0x200000 + 16 * eid)) 0 1 (b2n on)
    s.regAct path (0x200000 + 16 * eid) w.toNat fun s => s.elemWrite (0x200000 + 16 * eid) w

/-- SHUTTER_MEASUREMENT (R172). -/
def execShutterMeasurement (eid : Nat) (s : State) : Answer :=
  s.only fun s =>
    s.where' (decide (eid < numElem) && !isCell eid) fun s => s.measure eid

/-- BALLAST_RAMP_STEP (R175). -/
def execBallastRampStep (b : Nat) (s : State) : Answer := s.only fun s => s.where' (decide (b < 128)) fun s => s.ballastStep b

/-- GUARD_REQUEST (R181). -/
def execGuardRequest (mid : Nat) (s : State) : Answer := s.only fun s => s.where' (decide (mid < 19968)) fun s => s.guardRequest mid

/-- LOOP_STARVE (R181). -/
def execLoopStarve (mid : Nat) (s : State) : Answer := s.only fun s => s.where' (decide (mid < 19968)) fun s => s.starve mid

/-- RESULT_TIMEOUT (R182). -/
def execResultTimeout (mid : Nat) (s : State) : Answer := s.only fun s => s.where' (decide (mid < 19968)) fun s => s.resultTimeout mid

/-- LOOP_EPOCH (R183). -/
def execLoopEpoch (s : State) : Answer := s.only fun s => s.loopEpoch

end Sys2Proof.Machine
end

