-- ==== Sys2Proof/Machine/ExecMonitor.lean ====
section
/-! DEFINITION. The meanings of the commands of the monitor converters and capture (chapter 06). -/
namespace Sys2Proof.Machine

/-- CHSEL_WRITE (R131). -/
def execChselWrite (n : Nat) (byBramble : Bool) (sel : Nat) (s : State) : Answer :=
  s.only fun s =>
    s.where' (decide (n < 624)) fun s => (if byBramble then s.chselWrite n true 0 else
    s.regAct .pcie (monPg (n / 8) + 0x44 + 0x20 * (n % 8)) (sel % 32) fun s => s.chselWrite n false (sel % 32))

/-- CONV_MODE_WRITE (R132). -/
def execConvModeWrite (path : HostPath) (n : Nat) (mode : Nat) (s : State) : Answer :=
  s.whole fun s =>
    s.where' (decide (n < 624)) fun s => s.regAct path (monPg (n / 8) + 0x40 + 0x20 * (n % 8)) (mode % 4) fun s => s.convMode n (mode % 4)

/-- MON_RANGE_WRITE (R129). -/
def execMonRangeWrite (path : HostPath) (mid : Nat) (r : Nat) (s : State) : Answer :=
  s.only fun s =>
    s.where' (decide (mid < 19968)) fun s => s.regAct path (monPg (mid / 256) + 0x800 + 4 * (mid % 256)) (r % 4 + 4 * s.rd (Reg.MONITOR.MON_CFG.AR_EN (mid / 256) (mid % 256))) fun s => s.hostRange mid (r % 4)

/-- CONVERSION_END (R130). -/
def execConversionEnd (n : Nat) (raw : Nat) (bus : Ecc) (s : State) : Answer := s.only fun s => s.conversionEnd n raw bus

/-- TAG_WRAP (R141). -/
def execTagWrap (s : State) : Answer := s.only fun s => s.tagWrap

/-- CAPTURE_RING_ENABLE (R142). -/
def execCaptureRingEnable (path : HostPath) (r : Nat) (s : State) : Answer :=
  s.only fun s =>
    s.where' (decide (r < 16)) fun s => s.regAct path (0xD400 + 0x40 * r) ((s.rdW (0xD400 + 0x40 * r)).toNat ||| 1) fun s => s.where' (!s.flag (Reg.CAPTURE.RING_CTRL.ENABLE r)) fun s => s.capEnable r

/-- CAPTURE_RUN_WRITE (R148). -/
def execCaptureRunWrite (path : HostPath) (r : Nat) (on : Bool) (s : State) : Answer :=
  s.only fun s =>
    s.where' (decide (r < 16)) fun s => s.regAct path (0xD400 + 0x40 * r) ((putBits (s.rdW (0xD400 + 0x40 * r)) 1 1 (b2n on)).toNat) fun s => s.capRun r on

/-- CAPTURE_FLUSH (R145). -/
def execCaptureFlush (r : Nat) (s : State) : Answer := s.only fun s => s.where' (decide (r < 16)) fun s => s.capFlush r

/-- CAPTURE_BURST_WRITTEN (R146). -/
def execCaptureBurstWritten (r : Nat) (s : State) : Answer := s.only fun s => s.where' (decide (r < 16)) fun s => s.burstDone r

/-- CAPTURE_RD_PTR_WRITE (R146). -/
def execCaptureRdPtrWrite (path : HostPath) (r : Nat) (v : Nat) (s : State) : Answer :=
  s.only fun s =>
    s.where' (decide (r < 16)) fun s => s.regActs path [(0xD414 + 0x40 * r, BitVec.ofNat 32 v), (0xD418 + 0x40 * r, BitVec.ofNat 32 (v / 2 ^ 32))] fun s => s.capRdWrite r (v % 2 ^ 35)

end Sys2Proof.Machine
end

