-- ==== Sys2Proof/Machine/ExecPage.lean ====
section
/-! DEFINITION. The meanings of the commands of the common page header and register access (chapters 00 and 17). -/
namespace Sys2Proof.Machine

/-- PG_ENABLE_CLEAR (R434). -/
def execPgEnableClear (path : HostPath) (pg : Nat) (abort : Bool) (s : State) : Answer :=
  s.whole fun s =>
    s.pageAct path pg 8 (2 * b2n abort) fun s => s.pgCtrl path pg (BitVec.ofNat 32 (2 * b2n abort))

/-- PG_ENABLE_SET (R434). -/
def execPgEnableSet (path : HostPath) (pg : Nat) (s : State) : Answer := s.whole fun s => s.pageAct path pg 8 1 fun s => s.pgCtrl path pg 1

/-- PG_SOFT_RESET (R434). -/
def execPgSoftReset (path : HostPath) (pg : Nat) (s : State) : Answer := s.whole fun s => s.pageAct path pg 8 4 fun s => s.pgCtrl path pg 4

/-- PG_DRAIN_COMPLETE (R434). -/
def execPgDrainComplete (pg : Nat) (s : State) : Answer := s.whole fun s => s.drainComplete pg

/-- PG_BLOCK_READY (R434). -/
def execPgBlockReady (pg : Nat) (s : State) : Answer := s.whole fun s => s.blockReady pg

/-- PG_EVT_RAW_CLEAR (R9, R435): the bits that the hardware sets in the same cycle remain set, whatever becomes of the host's write. -/
def execPgEvtRawClear (path : HostPath) (pg : Nat) (w : Word) (set : Word) (s : State) : Answer :=
  s.only fun s =>
    (s.pageAct path pg 0x10 w.toNat fun s => s.evtClear pg (w &&& ~~~ set)).hardSet pg set

/-- PG_EVT_EN_WRITE (R435). -/
def execPgEvtEnWrite (path : HostPath) (pg : Nat) (w : Word) (s : State) : Answer :=
  s.only fun s =>
    s.pageAct path pg 0x14 w.toNat fun s => s.evtEnable pg w

/-- PG_EVT_SET (R435). -/
def execPgEvtSet (path : HostPath) (pg : Nat) (w : Word) (s : State) : Answer :=
  s.only fun s =>
    s.pageAct path pg 0x1C w.toNat fun s => s.evtSet pg w

/-- PG_ERRCNT_CLEAR (R433). -/
def execPgErrcntClear (path : HostPath) (pg : Nat) (s : State) : Answer := s.only fun s => s.pageAct path pg 0x20 0x80000000 fun s => s.errClear pg

/-- PG_LOCK_KEY (R436). -/
def execPgLockKey (path : HostPath) (pg : Nat) (key : Nat) (s : State) : Answer :=
  s.whole fun s =>
    s.pageAct path pg 0x24 key fun s => s.lockKey pg (key % 2 ^ 16)

/-- CNT_CLEAR (R73). -/
def execCntClear (path : HostPath) (pg : Nat) (rel : Nat) (s : State) : Answer :=
  s.only fun s =>
    s.pageAct path pg rel 1 fun s => s.where' ((pageOf pg).any fun p => (clearRanges p.type rel).isSome) fun s => s.cntClear pg rel

/-- MULTIWORD_LOW_READ (R8). -/
def execMultiwordLowRead (path : HostPath) (off : Nat) (s : State) : Answer :=
  s.only fun s =>
    s.where' ((quantAt off).any fun q => q.2.2 == 0) fun s => s.readOut path off

/-- MULTIWORD_HIGH_WRITE (R8). -/
def execMultiwordHighWrite (path : HostPath) (off : Nat) (w : Word) (s : State) : Answer :=
  s.whole fun s =>
    s.where' ((quantAt off).any fun q => q.2.2 + 1 == q.2.1) fun s => s.busWrite path off w

/-- REGISTER_WRITE (R7). -/
def execRegisterWrite (path : HostPath) (off : Nat) (w : Word) (all : Bool) (s : State) : Answer :=
  s.whole fun s =>
    if all then s.busWrite path off w else s.partWrite off

end Sys2Proof.Machine
end

