-- ==== Sys2Proof/Machine/ExecParser.lean ====
section
/-! DEFINITION. The meanings of the commands of the frame parser and classifier (chapter 13). -/
namespace Sys2Proof.Machine

/-- PARSE_FIRST_PASS (R347). -/
def execParseFirstPass (port : Nat) (s : State) : Answer := s.only fun s => s.where' (decide (port < 2)) fun s => s.firstPass port

/-- PARSE_SECOND_PASS (R358). -/
def execParseSecondPass (s : State) : Answer := s.only fun s => s.secondPass

/-- FRAME_ACTION (R355). -/
def execFrameAction (s : State) : Answer := s.only fun s => s.frameAction

/-- NODE_COMMIT (R349). -/
def execNodeCommit (path : HostPath) (n : Nat) (valid : Bool) (s : State) : Answer :=
  s.only fun s =>
    s.where' (decide (n < 48)) fun s => s.regAct path (0x62007C + 0x80 * n) (b2n valid) fun s => s.nodeCommit n valid

/-- RULE_COMMIT (R357). -/
def execRuleCommit (path : HostPath) (i : Nat) (valid : Bool) (s : State) : Answer :=
  s.only fun s =>
    s.where' (decide (i < 1024)) fun s => s.regAct path (0x64007C + 0x80 * i) (b2n valid) fun s => s.ruleCommit i valid

/-- HITS_CLR (R354). -/
def execHitsClr (path : HostPath) (i : Nat) (s : State) : Answer :=
  s.only fun s =>
    s.where' (decide (i < 1024)) fun s => s.regAct path (0x640068 + 0x80 * i) 1 fun s => s.hitsClear i

end Sys2Proof.Machine
end

