-- ==== Sys2Proof/Machine/ExecPlumb.lean ====
section
/-! DEFINITION. The meanings of the commands of Plumb and the fuses (chapter 11). -/
namespace Sys2Proof.Machine

/-- HOST_SWAP (R296). -/
def execHostSwap (path : HostPath) (s : State) : Answer := s.only fun s => s.regAct path 0xC06C 1 State.hostSwap

/-- HOST_SWAP_CHECK_DONE (R296). -/
def execHostSwapCheckDone (s : State) : Answer := s.only fun s => s.hostSwapChecked

/-- BANK_ABANDON (R314). -/
def execBankAbandon (path : HostPath) (s : State) : Answer := s.only fun s => s.regAct path 0xC06C 2 State.bankAbandon

/-- PENDING_COPY_DONE (R297). -/
def execPendingCopyDone (s : State) : Answer := s.only fun s => s.pendingCopied

/-- RUN_REQ_GO (R306). -/
def execRunReqGo (path : HostPath) (kinds : Nat) (s : State) : Answer :=
  s.whole fun s =>
    s.regAct path 0xC040 (kinds % 8 + 2 ^ 31) fun s => (s.runRequest (kinds % 8)).1

/-- PLUMB_INTERVAL_TRIGGER (R306). -/
def execPlumbIntervalTrigger (s : State) : Answer := s.whole fun s => s.intervalTrigger

/-- DARK_MONITOR_STEP (R301). -/
def execDarkMonitorStep (s : State) : Answer := s.only fun s => s.darkStep

/-- RECENTRE (R302). -/
def execRecentre (errs corrs : List Nat) (s : State) : Answer := s.whole fun s => s.recentre errs corrs

/-- SWEEP_VISIT_SUBMIT (R303). -/
def execSweepVisitSubmit (s : State) : Answer := s.whole fun s => s.sweepSubmit

/-- PLUMB_WINDOW_OPEN (R304). -/
def execPlumbWindowOpen (s : State) : Answer := s.whole fun s => s.windowOpen false

/-- SWEEP_POINT (R304). -/
def execSweepPoint (samples : List (Nat × Int × Int)) (s : State) : Answer := s.whole fun s => s.sweepPoint samples

/-- PLUMB_RUN_END (R307). -/
def execPlumbRunEnd (s : State) : Answer := s.whole fun s => s.plumbRunEnd

/-- ATLAS_FREEZE (R309). -/
def execAtlasFreeze (path : HostPath) (s : State) : Answer :=
  s.only fun s =>
    let w := s.rdW 0xC084 ||| 2
    s.regAct path 0xC084 w.toNat fun s => s.atlasCtrl w

/-- ATLAS_FREEZE_DONE (R309). -/
def execAtlasFreezeDone (s : State) : Answer := s.only fun s => s.atlasFrozen

/-- ATLAS_ENABLE (R309). -/
def execAtlasEnable (path : HostPath) (s : State) : Answer :=
  s.only fun s =>
    let w := s.rdW 0xC084 ||| 1
    s.regAct path 0xC084 w.toNat fun s => s.atlasCtrl w

/-- FUSE_CMD_COMMIT (R310). -/
def execFuseCmdCommit (path : HostPath) (confirm : Nat) (s : State) : Answer :=
  s.only fun s =>
    s.regAct path 0x4048 (1 + confirm % 2 ^ 16 * 2 ^ 16) fun s => (s.fuseCommit (confirm % 2 ^ 16) (path != .opRing)).1

/-- FINISH_REVOKE (R311). -/
def execFinishRevoke (path : HostPath) (confirm : Nat) (s : State) : Answer :=
  s.only fun s =>
    s.regAct path 0x4048 (2 + confirm % 2 ^ 16 * 2 ^ 16) fun s => s.finishRevoke (confirm % 2 ^ 16)

/-- FUSE_COMMIT_END (R310). -/
def execFuseCommitEnd (e : FuseEnd) (s : State) : Answer := s.only fun s => s.fuseEnd e

/-- SWAP_INSTANT (R297). -/
def execSwapInstant (s : State) : Answer := s.only fun s => if s.granuleEdge then s.swapInstant else s

/-- WINDOW_G_END (R304). -/
def execWindowGEnd (s : State) : Answer := s.whole fun s => s.windowEnd

end Sys2Proof.Machine
end

