-- ==== Sys2Proof/Machine/ExecReset.lean ====
section
/-! DEFINITION. The meanings of the commands of reset, boot, PLLs, rails and power domains (chapters 01 and 16). -/
namespace Sys2Proof.Machine

/-- PORESET_N_RISE (R25). -/
def execPoresetNRise (mode : Nat) (s : State) : Answer := s.whole fun s => s.poresetRise mode

/-- POWER_ON_RESET (R415). -/
def execPowerOnReset (burnt : List (Nat × Byte)) (s : State) : Answer := s.only fun s => s.powerOnReset burnt

/-- SYSRESET_N (R415). -/
def execSysresetN (burnt : List (Nat × Byte)) (s : State) : Answer := s.whole fun s => s.sysReset burnt

/-- JTAG_TRST (R415). -/
def execJtagTrst (s : State) : Answer := s.only fun s => s.jtagReset

/-- ROOT_PLL_LOCK (R22). -/
def execRootPllLock (us : Nat) (s : State) : Answer := s.whole fun s => s.pllLock us

/-- PLL_LOSS_OF_LOCK (R23). -/
def execPllLossOfLock (k : Nat) (s : State) : Answer := s.only fun s => s.pllLoss k

/-- BOOT_FUSE_LOAD (R294). -/
def execBootFuseLoad (s : State) : Answer := s.whole fun s => s.bootFuse

/-- SELF_TEST_COMPLETE (R417). -/
def execSelfTestComplete (failing : List Nat) (s : State) : Answer := s.whole fun s => s.selfTest failing

/-- BOOT_DOMAINS_ON (R417). -/
def execBootDomainsOn (s : State) : Answer := s.whole fun s => s.bootDomainsOn

/-- SDRAM_TRAINING_DONE (R447). -/
def execSdramTrainingDone (res : List (Nat × Nat × Option Nat)) (time : Nat) (s : State) : Answer := s.whole fun s => s.trainingDone res time

/-- BOOT_CTRL_CONTINUE (R416). -/
def execBootCtrlContinue (path : HostPath) (s : State) : Answer := s.whole fun s => s.regAct path 0x304C 1 State.bootContinue

/-- SMB_CONTINUE (R441). -/
def execSmbContinue (v : Nat) (pec : Option Bool) (s : State) : Answer :=
  s.whole fun s =>
    s.smbCmd pec fun s => s.where' (v == 0xC0) State.bootContinue

/-- JTAG_BOOT_CONTINUE (R464). -/
def execJtagBootContinue (bit : Bool) (s : State) : Answer := s.whole fun s => (s.jtagSelect 0x10).where' bit State.bootContinue

/-- RAIL_EXCURSION (R410). -/
def execRailExcursion (rail : Nat) (burnt : List (Nat × Byte)) (s : State) : Answer := s.whole fun s => s.railLost rail burnt

/-- POWER_DOWN_REQUEST (R412). -/
def execPowerDownRequest (path : HostPath) (pg : Nat) (s : State) : Answer := s.whole fun s => s.powerAct path pg 0 fun s => s.powerDown path pg

/-- POWER_UP_REQUEST (R412). -/
def execPowerUpRequest (path : HostPath) (pg : Nat) (s : State) : Answer := s.whole fun s => s.powerAct path pg 1 fun s => s.powerUp pg

/-- DOMAIN_POWERED_DOWN (R412). -/
def execDomainPoweredDown (d : Nat) (s : State) : Answer := s.whole fun s => s.domainDown d

/-- DOMAIN_POWERED_UP (R412). -/
def execDomainPoweredUp (d : Nat) (s : State) : Answer := s.whole fun s => s.domainUp d

/-- COMMISSION_GO (R419). -/
def execCommissionGo (path : HostPath) (s : State) : Answer := s.whole fun s => s.regAct path 0x3054 1 State.commissionGo

/-- COMMISSION_CHECK_DONE (R421). -/
def execCommissionCheckDone (s : State) : Answer := s.whole fun s => s.checkDone

/-- READY_RELEASE (R422). -/
def execReadyRelease (s : State) : Answer := s.only fun s => s.readyRelease

/-- PLL_RELOCK (R454). -/
def execPllRelock (k : Nat) (s : State) : Answer := s.only fun s => s.pllRelock k

/-- RAIL_BACK_IN_TOLERANCE (R410). -/
def execRailBackInTolerance (rail : Nat) (s : State) : Answer := s.whole fun s => s.railBack rail

end Sys2Proof.Machine
end

