-- ==== Sys2Proof/Machine/ExecRing.lean ====
section
/-! DEFINITION. The meanings of the commands of the control ring and the path engines (chapter 12). -/
namespace Sys2Proof.Machine

/-- LINK_UP (R318). -/
def execLinkUp (l : List (Nat × List Nat)) (s : State) : Answer := s.only fun s => s.linksUp l

/-- LINK_DOWN (R334). -/
def execLinkDown (p : Nat) (s : State) : Answer := s.only fun s => s.where' (decide (p < 2)) fun s => s.linkDown p

/-- RING_FRAME_RX (R321). -/
def execRingFrameRx (p : Nat) (data : List Byte) (fcs : Fcs) (cut : Bool) (corr : Nat) (res : Nat) (full : Bool) (s : State) : Answer :=
  s.only fun s =>
    s.frameIn p data fcs cut corr res full

/-- DUP_SOURCE_RELEASE (R325). -/
def execDupSourceRelease (e : Nat) (sa : Nat) (s : State) : Answer := s.only fun s => s.dupRelease e sa

/-- PATH_CYCLE_END (R326). -/
def execPathCycleEnd (same : Bool) (ok : Bool) (s : State) : Answer := s.only fun s => s.pathCycle same ok

/-- STATE_COPY_DONE (R334). -/
def execStateCopyDone (e : Nat) (ok : Bool) (s : State) : Answer := s.only fun s => s.copyDone e ok

/-- DIAG_TRIP (R330). -/
def execDiagTrip (e : Nat) (check : Nat) (s : State) : Answer := s.only fun s => s.diagTrip e check

/-- PATH_CTRL_TAKEOVER (R333). -/
def execPathCtrlTakeover (path : HostPath) (s : State) : Answer := s.only fun s => s.regAct path 0x12044 1 State.pathTakeover

/-- REVERT (R335). -/
def execRevert (s : State) : Answer := s.only fun s => s.revert

/-- ABDICATED_RECOVERY (R334). -/
def execAbdicatedRecovery (e : Nat) (s : State) : Answer := s.only fun s => s.abdicatedBack e

end Sys2Proof.Machine
end

