-- ==== Sys2Proof/Machine/ExecSeam.lean ====
section
/-! DEFINITION. The meanings of the commands of the Seam route solver (chapter 03). -/
namespace Sys2Proof.Machine

/-- SEAM_DOORBELL (R52). -/
def execSeamDoorbell (path : HostPath) (s : State) : Answer := s.only fun s => s.regAct path 0xB058 1 State.seamDoorbell

/-- SEAM_REQUEST_ACCEPT (R51). -/
def execSeamRequestAccept (ecc : Ecc) (s : State) : Answer := s.whole fun s => s.seamFetched ecc

/-- SEAM_SOLVE_COMPLETE (R62). -/
def execSeamSolveComplete (lane : Nat) (s : State) : Answer := s.whole fun s => s.laneComplete lane

/-- SEAM_TIMEOUT (R71). -/
def execSeamTimeout (lane : Nat) (s : State) : Answer := s.whole fun s => s.laneTimeout lane

end Sys2Proof.Machine
end

