-- ==== Sys2Proof/Machine/ExecSump.lean ====
section
/-! DEFINITION. The meanings of the commands of Sump (chapter 15). -/
namespace Sys2Proof.Machine

/-- FAULT_CLASSIFY (R389). -/
def execFaultClassify (i : Nat) (burnt : List (Nat × Byte)) (mem : Option MemErr) (s : State) : Answer := s.whole fun s => s.faultClassify i burnt mem

/-- RECORD_UPDATE (R396). -/
def execRecordUpdate (s : State) : Answer := s.whole fun s => s.recordUpdate

/-- SUMP_ACK (R397). -/
def execSumpAck (path : HostPath) (id : Nat) (s : State) : Answer :=
  s.whole fun s =>
    s.regAct path 0x7048 (id % 2 ^ 32) fun s => s.ackWrite (id % 2 ^ 32)

/-- LOG_RECORD_WRITE (R398). -/
def execLogRecordWrite (s : State) : Answer := s.only fun s => s.logWrite

/-- SAFE_CTRL_EXIT (R401). -/
def execSafeCtrlExit (path : HostPath) (s : State) : Answer := s.whole fun s => s.regAct path 0x704C 1 State.safeCtrl

/-- INJECT (R403). -/
def execInject (path : HostPath) (src : Nat) (s : State) : Answer :=
  s.only fun s =>
    s.regAct path 0x7054 (src % 256 + 2 ^ 31) fun s => s.inject (src % 256)

end Sys2Proof.Machine
end

