-- ==== Sys2Proof/Machine/ExecTest.lean ====
section
/-! DEFINITION. The meanings of the commands of production and field test (chapter 18). -/
namespace Sys2Proof.Machine

/-- RING_TEST (R457). -/
def execRingTest (path : HostPath) (target : Nat) (s : State) : Answer :=
  s.only fun s =>
    s.regAct path 0x18040 (1 + target % 256 * 2 ^ 8 + 2 ^ 31) fun s => s.testGo 1 (target % 256)

/-- TILEBUS_TEST (R460). -/
def execTilebusTest (path : HostPath) (target : Nat) (s : State) : Answer :=
  s.only fun s =>
    s.regAct path 0x18040 (2 + target % 256 * 2 ^ 8 + 2 ^ 31) fun s => s.testGo 2 (target % 256)

/-- SDRAM_TEST (R459). -/
def execSdramTest (path : HostPath) (target : Nat) (s : State) : Answer :=
  s.only fun s =>
    s.regAct path 0x18040 (3 + target % 256 * 2 ^ 8 + 2 ^ 31) fun s => s.testGo 3 (target % 256)

/-- DAC_TEST (R461). -/
def execDacTest (path : HostPath) (target : Nat) (s : State) : Answer :=
  s.only fun s =>
    s.regAct path 0x18040 (4 + target % 256 * 2 ^ 8 + 2 ^ 31) fun s => s.testGo 4 (target % 256)

/-- TCURRENT_TEST (R462). -/
def execTcurrentTest (path : HostPath) (target : Nat) (s : State) : Answer :=
  s.only fun s =>
    s.regAct path 0x18040 (5 + target % 256 * 2 ^ 8 + 2 ^ 31) fun s => s.testGo 5 (target % 256)

/-- OPTICAL_TEST (R463). -/
def execOpticalTest (path : HostPath) (target : Nat) (s : State) : Answer :=
  s.only fun s =>
    s.regAct path 0x18040 (6 + target % 256 * 2 ^ 8 + 2 ^ 31) fun s => s.testGo 6 (target % 256)

/-- TEST_STOP (R456). -/
def execTestStop (path : HostPath) (s : State) : Answer := s.only fun s => s.regAct path 0x18040 (2 ^ 30) State.testStop

/-- TEST_END (R457). -/
def execTestEnd (f : Findings) (s : State) : Answer := s.only fun s => s.testEnd f

/-- LINK_ERROR_INJECT (R457). -/
def execLinkErrorInject (path : HostPath) (s : State) : Answer :=
  s.only fun s =>
    s.regAct path 0x18048 ((s.rdW 0x18048).toNat ||| 1024) State.linkInject

/-- JTAG_EXTEST (R464). -/
def execJtagExtest (x : Scan) (s : State) : Answer := s.only fun s => s.jtagExtest 0x00 x

/-- JTAG_EXTEST_PULSE (R464). -/
def execJtagExtestPulse (x : Scan) (s : State) : Answer := s.only fun s => s.jtagExtest 0x03 x

/-- JTAG_EXTEST_TRAIN (R464). -/
def execJtagExtestTrain (x : Scan) (s : State) : Answer := s.only fun s => s.jtagExtest 0x04 x

/-- JTAG_CLAMP (R464). -/
def execJtagClamp (s : State) : Answer := s.only fun s => s.jtagPins 0x05

/-- JTAG_HIGHZ (R464). -/
def execJtagHighz (s : State) : Answer := s.only fun s => s.jtagPins 0x06

/-- JTAG_IDCODE (R464). -/
def execJtagIdcode (s : State) : Answer := s.only fun s => (s.jtagSelect 0x01).emit (.idcode s.idWord)

/-- JTAG_SAMPLE_PRELOAD (R464). -/
def execJtagSamplePreload (x : Scan) (s : State) : Answer := s.only fun s => (s.jtagSelect 0x02).scan x

/-- JTAG_BYPASS (R464). -/
def execJtagBypass (s : State) : Answer := s.only fun s => s.jtagSelect 0xFF

/-- CHECKER_LOCK (R457). -/
def execCheckerLock (lane : Nat) (s : State) : Answer := s.only fun s => s.where' (decide (lane < 2)) fun s => s.checkerLock lane

/-- CHECKER_LOCK_LOST (R467). -/
def execCheckerLockLost (lane : Nat) (s : State) : Answer := s.only fun s => s.where' (decide (lane < 2)) fun s => s.checkerLost lane

end Sys2Proof.Machine
end

