-- ==== Sys2Proof/Machine/ExecThermal.lean ====
section
/-! DEFINITION. The meanings of the commands of thermal protection and the budget governor (chapter 10). -/
namespace Sys2Proof.Machine

/-- SENSOR_ROUND (R265). -/
def execSensorRound (xs : List Sample) (s : State) : Answer := s.whole fun s => s.sensorRound xs

/-- PIC_STAGE2_ENTRY (R271). -/
def execPicStage2Entry (s : State) : Answer := s.only fun s => s.picStage2

/-- SHUTDOWN_PERSIST (R272). -/
def execShutdownPersist (k : Nat) (s : State) : Answer := s.whole fun s => s.where' (decide (k < 4)) fun s => s.shutdownPersist k

/-- JOB_OFFER (R281). -/
def execJobOffer (k : JobKind) (s : State) : Answer := s.only fun s => s.jobOffer k

/-- JOB_GRANT (R282). -/
def execJobGrant (s : State) : Answer := s.whole fun s => s.jobGrant

/-- JOB_END (R282). -/
def execJobEnd (s : State) : Answer := s.only fun s => s.jobEnd

/-- JOB_AGED (R282). -/
def execJobAged (heater : Bool) (s : State) : Answer := s.only fun s => s.jobAged heater

/-- AVS_PERIOD (R284). -/
def execAvsPeriod (margin : Nat) (mon : Nat) (s : State) : Answer := s.only fun s => s.avsPeriod margin mon

/-- MARGIN_CRIT (R284). -/
def execMarginCrit (margin : Nat) (s : State) : Answer := s.only fun s => s.marginCrit margin

/-- AVS_RESPONSE (R283). -/
def execAvsResponse (mv : Nat) (s : State) : Answer := s.only fun s => s.avsAnswer mv

/-- AVS_FAULT (R284). -/
def execAvsFault (status : Nat) (s : State) : Answer := s.only fun s => s.avsFail status

end Sys2Proof.Machine
end

