-- ==== Sys2Proof/Machine/ExecTime.lean ====
section
/-! DEFINITION. The meanings of the commands of network time (chapter 09). -/
namespace Sys2Proof.Machine

/-- PTP_SYNC (R244). -/
def execPtpSync (port : Nat) (via : Nat) (gm : Nat) (dom : Nat) (t1 : Nat) (t2 : Nat) (corr : Int) (log : Int) (twoStep : Bool) (s : State) : Answer :=
  s.only fun s =>
    s.ptpSync port via gm dom t1 t2 corr log twoStep

/-- PTP_FOLLOW_UP (R240). -/
def execPtpFollowUp (port : Nat) (via : Nat) (gm : Nat) (dom : Nat) (t1 : Nat) (corr : Int) (s : State) : Answer :=
  s.only fun s =>
    s.ptpFollowUp port via gm dom t1 corr

/-- PTP_DELAY_REQ_SEND (R240). -/
def execPtpDelayReqSend (t3 : Nat) (s : State) : Answer := s.only fun s => s.delayReq t3

/-- PTP_DELAY_RESP (R244). -/
def execPtpDelayResp (port : Nat) (via : Nat) (dom : Nat) (t4 : Nat) (corr : Int) (s : State) : Answer := s.only fun s => s.delayResp port via dom t4 corr

/-- PTP_PDELAY_REQ (R240). -/
def execPtpPdelayReq (port : Nat) (via : Nat) (corr : Int) (turn : Nat) (s : State) : Answer :=
  s.only fun s =>
    s.where' (decide (port < 2)) fun s => s.pdelayReq port via corr turn

/-- PTP_PDELAY_EXCHANGE (R240). -/
def execPtpPdelayExchange (port : Nat) (trip : Option (Nat × Nat)) (s : State) : Answer :=
  s.only fun s =>
    s.where' (decide (port < 2)) fun s => s.pdelayDone port trip

/-- PTP_ANNOUNCE (R243). -/
def execPtpAnnounce (port : Nat) (via : Nat) (dom : Nat) (id : Nat) (data : List Nat) (s : State) : Answer := s.only fun s => s.ptpAnnounce port via dom id data

/-- SYNC_LOSS (R246). -/
def execSyncLoss (s : State) : Answer := s.only fun s => s.syncLoss

/-- SOURCE_SWITCH (R243). -/
def execSourceSwitch (s : State) : Answer := s.only fun s => s.sourceLost

/-- TIME_CTRL_WRITE (R246). -/
def execTimeCtrlWrite (path : HostPath) (w : Word) (s : State) : Answer := s.only fun s => s.regAct path 0x8040 w.toNat fun s => s.timeCtrl w

/-- TIME_CMD_STEP (R250). -/
def execTimeCmdStep (path : HostPath) (s : State) : Answer := s.whole fun s => s.regAct path 0x8064 1 State.cmdStep

/-- TIME_CMD_OFFSET (R250). -/
def execTimeCmdOffset (path : HostPath) (s : State) : Answer := s.whole fun s => s.regAct path 0x8064 2 State.cmdOffset

/-- SLEW_COMPLETE (R249). -/
def execSlewComplete (s : State) : Answer := s.only fun s => s.slewDone

/-- PPS_IN_EDGE (R248). -/
def execPpsInEdge (t : Nat) (fall : Bool) (s : State) : Answer := s.only fun s => s.ppsIn t fall

/-- TIME_EVENT_ARM (R257). -/
def execTimeEventArm (path : HostPath) (k : Nat) (w : Word) (s : State) : Answer :=
  s.only fun s =>
    s.where' (decide (k < 16)) fun s => s.regAct path (0x8210 + 0x20 * k) w.toNat fun s => s.tevWrite k w

/-- TIME_EVENT_FIRE (R255). -/
def execTimeEventFire (ks : List Nat) (s : State) : Answer := s.whole fun s => s.tevFire ks

/-- TS_POP (R259). -/
def execTsPop (path : HostPath) (s : State) : Answer :=
  s.only fun s =>
    if s.dev != .off && s.pageOn timePg then s.tsPop path else s.readOut path 0x80D0

/-- PPS_OUT_ASSERT (R260). -/
def execPpsOutAssert (s : State) : Answer := s.only fun s => s.ppsAssert

/-- PPS_OUT_END (R260). -/
def execPpsOutEnd (s : State) : Answer := s.only fun s => s.ppsEnd

end Sys2Proof.Machine
end

