-- ==== Sys2Proof/Machine/Dispatch.lean ====
section
/-! DEFINITION. The meaning of each command: one arm for each constructor. -/
namespace Sys2Proof.Machine

/-- The effect of a command on everything but the queue. -/
def exec (i : Instr) (s : State) : Host.Outcome State Fault Refusal :=
  match i with
  | .poresetNRise mode => Sys2Proof.Machine.execPoresetNRise mode s
  | .powerOnReset burnt => Sys2Proof.Machine.execPowerOnReset burnt s
  | .sysresetN burnt => Sys2Proof.Machine.execSysresetN burnt s
  | .jtagTrst => Sys2Proof.Machine.execJtagTrst s
  | .rootPllLock us => Sys2Proof.Machine.execRootPllLock us s
  | .pllLossOfLock k => Sys2Proof.Machine.execPllLossOfLock k s
  | .bootFuseLoad => Sys2Proof.Machine.execBootFuseLoad s
  | .selfTestComplete failing => Sys2Proof.Machine.execSelfTestComplete failing s
  | .bootDomainsOn => Sys2Proof.Machine.execBootDomainsOn s
  | .sdramTrainingDone res time => Sys2Proof.Machine.execSdramTrainingDone res time s
  | .bootCtrlContinue path => Sys2Proof.Machine.execBootCtrlContinue path s
  | .smbContinue v pec => Sys2Proof.Machine.execSmbContinue v pec s
  | .jtagBootContinue bit => Sys2Proof.Machine.execJtagBootContinue bit s
  | .railExcursion rail burnt => Sys2Proof.Machine.execRailExcursion rail burnt s
  | .powerDownRequest path pg => Sys2Proof.Machine.execPowerDownRequest path pg s
  | .powerUpRequest path pg => Sys2Proof.Machine.execPowerUpRequest path pg s
  | .domainPoweredDown d => Sys2Proof.Machine.execDomainPoweredDown d s
  | .domainPoweredUp d => Sys2Proof.Machine.execDomainPoweredUp d s
  | .commissionGo path => Sys2Proof.Machine.execCommissionGo path s
  | .commissionCheckDone => Sys2Proof.Machine.execCommissionCheckDone s
  | .readyRelease => Sys2Proof.Machine.execReadyRelease s
  | .pgEnableClear path pg abort => Sys2Proof.Machine.execPgEnableClear path pg abort s
  | .pgEnableSet path pg => Sys2Proof.Machine.execPgEnableSet path pg s
  | .pgSoftReset path pg => Sys2Proof.Machine.execPgSoftReset path pg s
  | .pgDrainComplete pg => Sys2Proof.Machine.execPgDrainComplete pg s
  | .pgBlockReady pg => Sys2Proof.Machine.execPgBlockReady pg s
  | .pgEvtRawClear path pg w set => Sys2Proof.Machine.execPgEvtRawClear path pg w set s
  | .pgEvtEnWrite path pg w => Sys2Proof.Machine.execPgEvtEnWrite path pg w s
  | .pgEvtSet path pg w => Sys2Proof.Machine.execPgEvtSet path pg w s
  | .pgErrcntClear path pg => Sys2Proof.Machine.execPgErrcntClear path pg s
  | .pgLockKey path pg key => Sys2Proof.Machine.execPgLockKey path pg key s
  | .cntClear path pg rel => Sys2Proof.Machine.execCntClear path pg rel s
  | .multiwordLowRead path off => Sys2Proof.Machine.execMultiwordLowRead path off s
  | .multiwordHighWrite path off w => Sys2Proof.Machine.execMultiwordHighWrite path off w s
  | .registerWrite path off w all => Sys2Proof.Machine.execRegisterWrite path off w all s
  | .seamDoorbell path => Sys2Proof.Machine.execSeamDoorbell path s
  | .seamRequestAccept ecc => Sys2Proof.Machine.execSeamRequestAccept ecc s
  | .seamSolveComplete lane => Sys2Proof.Machine.execSeamSolveComplete lane s
  | .seamTimeout lane => Sys2Proof.Machine.execSeamTimeout lane s
  | .slotWindowWrite path n ix w => Sys2Proof.Machine.execSlotWindowWrite path n ix w s
  | .slotCheck path n => Sys2Proof.Machine.execSlotCheck path n s
  | .slotCheckDone => Sys2Proof.Machine.execSlotCheckDone s
  | .storeFetchArrival addr ecc => Sys2Proof.Machine.execStoreFetchArrival addr ecc s
  | .commitPoint => Sys2Proof.Machine.execCommitPoint s
  | .stagingStart errs corrs => Sys2Proof.Machine.execStagingStart errs corrs s
  | .stagingComplete => Sys2Proof.Machine.execStagingComplete s
  | .armingDeadline => Sys2Proof.Machine.execArmingDeadline s
  | .benchBoundary => Sys2Proof.Machine.execBenchBoundary s
  | .groupStrobe g => Sys2Proof.Machine.execGroupStrobe g s
  | .shapeEnd t k => Sys2Proof.Machine.execShapeEnd t k s
  | .holdoffEnd eid => Sys2Proof.Machine.execHoldoffEnd eid s
  | .blankRelease => Sys2Proof.Machine.execBlankRelease s
  | .tileModeReq path t req => Sys2Proof.Machine.execTileModeReq path t req s
  | .driveShortDetect t kind k => Sys2Proof.Machine.execDriveShortDetect t kind k s
  | .hostShadowWrite path t kind k code => Sys2Proof.Machine.execHostShadowWrite path t kind k code s
  | .hostDirectWrite path t chan kind code => Sys2Proof.Machine.execHostDirectWrite path t chan kind code s
  | .commitCodes path t => Sys2Proof.Machine.execCommitCodes path t s
  | .commitShapes path t => Sys2Proof.Machine.execCommitShapes path t s
  | .shapeDataAccess path t v => Sys2Proof.Machine.execShapeDataAccess path t v s
  | .directUpdate t kind k code beaten bus => Sys2Proof.Machine.execDirectUpdate t kind k code beaten bus s
  | .pacedUpdateRelease t k => Sys2Proof.Machine.execPacedUpdateRelease t k s
  | .deglitchRelease t kind k => Sys2Proof.Machine.execDeglitchRelease t kind k s
  | .readbackSample t v => Sys2Proof.Machine.execReadbackSample t v s
  | .rangeChangeGo path t fast htr => Sys2Proof.Machine.execRangeChangeGo path t fast htr s
  | .rangeSettleEnd t kind => Sys2Proof.Machine.execRangeSettleEnd t kind s
  | .chselWrite n byBramble sel => Sys2Proof.Machine.execChselWrite n byBramble sel s
  | .convModeWrite path n mode => Sys2Proof.Machine.execConvModeWrite path n mode s
  | .monRangeWrite path mid r => Sys2Proof.Machine.execMonRangeWrite path mid r s
  | .conversionEnd n raw bus => Sys2Proof.Machine.execConversionEnd n raw bus s
  | .tagWrap => Sys2Proof.Machine.execTagWrap s
  | .captureRingEnable path r => Sys2Proof.Machine.execCaptureRingEnable path r s
  | .captureRunWrite path r on => Sys2Proof.Machine.execCaptureRunWrite path r on s
  | .captureFlush r => Sys2Proof.Machine.execCaptureFlush r s
  | .captureBurstWritten r => Sys2Proof.Machine.execCaptureBurstWritten r s
  | .captureRdPtrWrite path r v => Sys2Proof.Machine.execCaptureRdPtrWrite path r v s
  | .probePairStep eid act => Sys2Proof.Machine.execProbePairStep eid act s
  | .estimate eid => Sys2Proof.Machine.execEstimate eid s
  | .wrapSettleEnd eid => Sys2Proof.Machine.execWrapSettleEnd eid s
  | .loopSaturated eid => Sys2Proof.Machine.execLoopSaturated eid s
  | .quarSet path eid => Sys2Proof.Machine.execQuarSet path eid s
  | .quarClr path eid => Sys2Proof.Machine.execQuarClr path eid s
  | .elemEnWrite path eid on => Sys2Proof.Machine.execElemEnWrite path eid on s
  | .shutterMeasurement eid => Sys2Proof.Machine.execShutterMeasurement eid s
  | .ballastRampStep b => Sys2Proof.Machine.execBallastRampStep b s
  | .guardRequest mid => Sys2Proof.Machine.execGuardRequest mid s
  | .loopStarve mid => Sys2Proof.Machine.execLoopStarve mid s
  | .resultTimeout mid => Sys2Proof.Machine.execResultTimeout mid s
  | .loopEpoch => Sys2Proof.Machine.execLoopEpoch s
  | .gctlStart path => Sys2Proof.Machine.execGctlStart path s
  | .gctlStop path => Sys2Proof.Machine.execGctlStop path s
  | .gctlJump path => Sys2Proof.Machine.execGctlJump path s
  | .gctlResync path => Sys2Proof.Machine.execGctlResync path s
  | .gctlCancel path => Sys2Proof.Machine.execGctlCancel path s
  | .granulePeriodWrite path v => Sys2Proof.Machine.execGranulePeriodWrite path v s
  | .lockApply path => Sys2Proof.Machine.execLockApply path s
  | .lockDone => Sys2Proof.Machine.execLockDone s
  | .benchMemoryWrite path ix ws => Sys2Proof.Machine.execBenchMemoryWrite path ix ws s
  | .streamEnable path => Sys2Proof.Machine.execStreamEnable path s
  | .streamWrPtrWrite path v => Sys2Proof.Machine.execStreamWrPtrWrite path v s
  | .streamFetch ecc => Sys2Proof.Machine.execStreamFetch ecc s
  | .streamSeqExpectWrite path v => Sys2Proof.Machine.execStreamSeqExpectWrite path v s
  | .underflowRetry => Sys2Proof.Machine.execUnderflowRetry s
  | .underflowLimit => Sys2Proof.Machine.execUnderflowLimit s
  | .triggerWaitCommit => Sys2Proof.Machine.execTriggerWaitCommit s
  | .triginEdge ix t fall held => Sys2Proof.Machine.execTriginEdge ix t fall held s
  | .trigoAssert k => Sys2Proof.Machine.execTrigoAssert k s
  | .trigoRelease k => Sys2Proof.Machine.execTrigoRelease k s
  | .syncOutPulse wide => Sys2Proof.Machine.execSyncOutPulse wide s
  | .syncInPulse tin wide turn => Sys2Proof.Machine.execSyncInPulse tin wide turn s
  | .syncPulseGo path => Sys2Proof.Machine.execSyncPulseGo path s
  | .echoDone mean all => Sys2Proof.Machine.execEchoDone mean all s
  | .ptpSync port via gm dom t1 t2 corr log twoStep => Sys2Proof.Machine.execPtpSync port via gm dom t1 t2 corr log twoStep s
  | .ptpFollowUp port via gm dom t1 corr => Sys2Proof.Machine.execPtpFollowUp port via gm dom t1 corr s
  | .ptpDelayReqSend t3 => Sys2Proof.Machine.execPtpDelayReqSend t3 s
  | .ptpDelayResp port via dom t4 corr => Sys2Proof.Machine.execPtpDelayResp port via dom t4 corr s
  | .ptpPdelayReq port via corr turn => Sys2Proof.Machine.execPtpPdelayReq port via corr turn s
  | .ptpPdelayExchange port trip => Sys2Proof.Machine.execPtpPdelayExchange port trip s
  | .ptpAnnounce port via dom id data => Sys2Proof.Machine.execPtpAnnounce port via dom id data s
  | .syncLoss => Sys2Proof.Machine.execSyncLoss s
  | .sourceSwitch => Sys2Proof.Machine.execSourceSwitch s
  | .timeCtrlWrite path w => Sys2Proof.Machine.execTimeCtrlWrite path w s
  | .timeCmdStep path => Sys2Proof.Machine.execTimeCmdStep path s
  | .timeCmdOffset path => Sys2Proof.Machine.execTimeCmdOffset path s
  | .slewComplete => Sys2Proof.Machine.execSlewComplete s
  | .ppsInEdge t fall => Sys2Proof.Machine.execPpsInEdge t fall s
  | .timeEventArm path k w => Sys2Proof.Machine.execTimeEventArm path k w s
  | .timeEventFire ks => Sys2Proof.Machine.execTimeEventFire ks s
  | .tsPop path => Sys2Proof.Machine.execTsPop path s
  | .ppsOutAssert => Sys2Proof.Machine.execPpsOutAssert s
  | .ppsOutEnd => Sys2Proof.Machine.execPpsOutEnd s
  | .sensorRound xs => Sys2Proof.Machine.execSensorRound xs s
  | .picStage2Entry => Sys2Proof.Machine.execPicStage2Entry s
  | .shutdownPersist k => Sys2Proof.Machine.execShutdownPersist k s
  | .jobOffer k => Sys2Proof.Machine.execJobOffer k s
  | .jobGrant => Sys2Proof.Machine.execJobGrant s
  | .jobEnd => Sys2Proof.Machine.execJobEnd s
  | .jobAged heater => Sys2Proof.Machine.execJobAged heater s
  | .avsPeriod margin mon => Sys2Proof.Machine.execAvsPeriod margin mon s
  | .marginCrit margin => Sys2Proof.Machine.execMarginCrit margin s
  | .avsResponse mv => Sys2Proof.Machine.execAvsResponse mv s
  | .avsFault status => Sys2Proof.Machine.execAvsFault status s
  | .hostSwap path => Sys2Proof.Machine.execHostSwap path s
  | .hostSwapCheckDone => Sys2Proof.Machine.execHostSwapCheckDone s
  | .bankAbandon path => Sys2Proof.Machine.execBankAbandon path s
  | .pendingCopyDone => Sys2Proof.Machine.execPendingCopyDone s
  | .runReqGo path kinds => Sys2Proof.Machine.execRunReqGo path kinds s
  | .plumbIntervalTrigger => Sys2Proof.Machine.execPlumbIntervalTrigger s
  | .darkMonitorStep => Sys2Proof.Machine.execDarkMonitorStep s
  | .recentre errs corrs => Sys2Proof.Machine.execRecentre errs corrs s
  | .sweepVisitSubmit => Sys2Proof.Machine.execSweepVisitSubmit s
  | .plumbWindowOpen => Sys2Proof.Machine.execPlumbWindowOpen s
  | .sweepPoint samples => Sys2Proof.Machine.execSweepPoint samples s
  | .plumbRunEnd => Sys2Proof.Machine.execPlumbRunEnd s
  | .atlasFreeze path => Sys2Proof.Machine.execAtlasFreeze path s
  | .atlasFreezeDone => Sys2Proof.Machine.execAtlasFreezeDone s
  | .atlasEnable path => Sys2Proof.Machine.execAtlasEnable path s
  | .fuseCmdCommit path confirm => Sys2Proof.Machine.execFuseCmdCommit path confirm s
  | .finishRevoke path confirm => Sys2Proof.Machine.execFinishRevoke path confirm s
  | .fuseCommitEnd e => Sys2Proof.Machine.execFuseCommitEnd e s
  | .linkUp l => Sys2Proof.Machine.execLinkUp l s
  | .linkDown p => Sys2Proof.Machine.execLinkDown p s
  | .ringFrameRx p data fcs cut corr res full => Sys2Proof.Machine.execRingFrameRx p data fcs cut corr res full s
  | .dupSourceRelease e sa => Sys2Proof.Machine.execDupSourceRelease e sa s
  | .pathCycleEnd same ok => Sys2Proof.Machine.execPathCycleEnd same ok s
  | .stateCopyDone e ok => Sys2Proof.Machine.execStateCopyDone e ok s
  | .diagTrip e check => Sys2Proof.Machine.execDiagTrip e check s
  | .pathCtrlTakeover path => Sys2Proof.Machine.execPathCtrlTakeover path s
  | .revert => Sys2Proof.Machine.execRevert s
  | .abdicatedRecovery e => Sys2Proof.Machine.execAbdicatedRecovery e s
  | .parseFirstPass port => Sys2Proof.Machine.execParseFirstPass port s
  | .parseSecondPass => Sys2Proof.Machine.execParseSecondPass s
  | .frameAction => Sys2Proof.Machine.execFrameAction s
  | .nodeCommit path n valid => Sys2Proof.Machine.execNodeCommit path n valid s
  | .ruleCommit path ix valid => Sys2Proof.Machine.execRuleCommit path ix valid s
  | .hitsClr path ix => Sys2Proof.Machine.execHitsClr path ix s
  | .execDispatch mem ecc => Sys2Proof.Machine.execExecDispatch mem ecc s
  | .execComplete x => Sys2Proof.Machine.execExecComplete x s
  | .entryCommit => Sys2Proof.Machine.execEntryCommit s
  | .execTimeout x => Sys2Proof.Machine.execExecTimeout x s
  | .fragmentArrival x => Sys2Proof.Machine.execFragmentArrival x s
  | .batchTimeout e => Sys2Proof.Machine.execBatchTimeout e s
  | .deadListExpiry e => Sys2Proof.Machine.execDeadListExpiry e s
  | .sqDoorbell k tail mem ecc => Sys2Proof.Machine.execSqDoorbell k tail mem ecc s
  | .cqHeadDoorbell k head mem ecc => Sys2Proof.Machine.execCqHeadDoorbell k head mem ecc s
  | .eqHeadDoorbell head => Sys2Proof.Machine.execEqHeadDoorbell head s
  | .pqHeadDoorbell head => Sys2Proof.Machine.execPqHeadDoorbell head s
  | .faultClassify ix burnt mem => Sys2Proof.Machine.execFaultClassify ix burnt mem s
  | .recordUpdate => Sys2Proof.Machine.execRecordUpdate s
  | .sumpAck path id => Sys2Proof.Machine.execSumpAck path id s
  | .logRecordWrite => Sys2Proof.Machine.execLogRecordWrite s
  | .safeCtrlExit path => Sys2Proof.Machine.execSafeCtrlExit path s
  | .inject path src => Sys2Proof.Machine.execInject path src s
  | .pcieLinkUp speed width ltssm => Sys2Proof.Machine.execPcieLinkUp speed width ltssm s
  | .pcieLinkDown ltssm hot => Sys2Proof.Machine.execPcieLinkDown ltssm hot s
  | .functionLevelReset => Sys2Proof.Machine.execFunctionLevelReset s
  | .d3hotEntry => Sys2Proof.Machine.execD3hotEntry s
  | .d0Return => Sys2Proof.Machine.execD0Return s
  | .pciePerst low ltssm => Sys2Proof.Machine.execPciePerst low ltssm s
  | .pcieRetrain speed width => Sys2Proof.Machine.execPcieRetrain speed width s
  | .pcieCompliance ltssm => Sys2Proof.Machine.execPcieCompliance ltssm s
  | .bar2Access a n data ecc poisoned => Sys2Proof.Machine.execBar2Access a n data ecc poisoned s
  | .scrubLine c a ecc raced => Sys2Proof.Machine.execScrubLine c a ecc raced s
  | .scrubPass c => Sys2Proof.Machine.execScrubPass c s
  | .trainGo path c => Sys2Proof.Machine.execTrainGo path c s
  | .smbIdent pec => Sys2Proof.Machine.execSmbIdent pec s
  | .smbStatus pec => Sys2Proof.Machine.execSmbStatus pec s
  | .smbZones pec => Sys2Proof.Machine.execSmbZones pec s
  | .smbSensorSel n pec => Sys2Proof.Machine.execSmbSensorSel n pec s
  | .smbSensor pec => Sys2Proof.Machine.execSmbSensor pec s
  | .smbResetCause pec => Sys2Proof.Machine.execSmbResetCause pec s
  | .smbRegAddr off pec => Sys2Proof.Machine.execSmbRegAddr off pec s
  | .smbRegRead pec => Sys2Proof.Machine.execSmbRegRead pec s
  | .smbRegWrite w pec => Sys2Proof.Machine.execSmbRegWrite w pec s
  | .smbTimeout code => Sys2Proof.Machine.execSmbTimeout code s
  | .smbArp addr => Sys2Proof.Machine.execSmbArp addr s
  | .ringTest path target => Sys2Proof.Machine.execRingTest path target s
  | .tilebusTest path target => Sys2Proof.Machine.execTilebusTest path target s
  | .sdramTest path target => Sys2Proof.Machine.execSdramTest path target s
  | .dacTest path target => Sys2Proof.Machine.execDacTest path target s
  | .tcurrentTest path target => Sys2Proof.Machine.execTcurrentTest path target s
  | .opticalTest path target => Sys2Proof.Machine.execOpticalTest path target s
  | .testStop path => Sys2Proof.Machine.execTestStop path s
  | .testEnd f => Sys2Proof.Machine.execTestEnd f s
  | .linkErrorInject path => Sys2Proof.Machine.execLinkErrorInject path s
  | .jtagExtest x => Sys2Proof.Machine.execJtagExtest x s
  | .jtagIdcode => Sys2Proof.Machine.execJtagIdcode s
  | .jtagSamplePreload x => Sys2Proof.Machine.execJtagSamplePreload x s
  | .jtagExtestPulse x => Sys2Proof.Machine.execJtagExtestPulse x s
  | .jtagExtestTrain x => Sys2Proof.Machine.execJtagExtestTrain x s
  | .jtagClamp => Sys2Proof.Machine.execJtagClamp s
  | .jtagHighz => Sys2Proof.Machine.execJtagHighz s
  | .jtagBypass => Sys2Proof.Machine.execJtagBypass s
  | .pllRelock k => Sys2Proof.Machine.execPllRelock k s
  | .railBackInTolerance rail => Sys2Proof.Machine.execRailBackInTolerance rail s
  | .checkerLock lane => Sys2Proof.Machine.execCheckerLock lane s
  | .checkerLockLost lane => Sys2Proof.Machine.execCheckerLockLost lane s
  | .swapInstant => Sys2Proof.Machine.execSwapInstant s
  | .windowGEnd => Sys2Proof.Machine.execWindowGEnd s

end Sys2Proof.Machine
end

