-- ==== Sys2Proof/WellFormed.lean ====
section
/-! DEFINITION. Well-formed commands: what a command names exists (R13 to R21), and its values fit the fields that carry them. -/
namespace Sys2Proof

/-- The base of a register page (R437). -/
def pageOk (pg : Nat) : Bool :=
  pg % 0x1000 == 0 && (decide (pg < 0x1A000) || (decide (0x20000 ≤ pg) && decide (pg < 0x24000)) || (decide (0x40000 ≤ pg) && decide (pg < 0xC0000)) ||
    (decide (0xC0000 ≤ pg) && decide (pg < 0x10E000)))

/-- An aligned word of BAR0 (R5, R430). -/
def wordOk (off : Nat) : Bool := off % 4 == 0 && decide (off < 0x1000000)

/-- A channel of a drive tile (R15, R16): fast 0 to 75, heater 0 to 76. -/
def chanOk (kind t k : Nat) : Bool := decide (kind < 2) && decide (t < 128) && decide (k < 76 + kind)

/-- A memory error names a byte of the working set (R291), or a memory and a word that the first data can hold (R388). -/
def memErrOk : MemErr → Bool
  | .workingSet off => decide (off < 0x70000)
  | .sram m w => decide (m < 4) && decide (w < 2 ^ 24)

/-- A ball with boundary cells exists (R465, R472): of an SDRAM channel, one of its 138. -/
def ballOk : Ball → Bool
  | .sdram c n => decide (c < 4) && decide (n < 138)
  | .pcieTx l => decide (l < 8)
  | .pcieRx l => decide (l < 8)
  | .ringTx p l => decide (p < 2) && decide (l < 2)
  | .ringRx p l => decide (p < 2) && decide (l < 2)
  | .ref k => decide (k < 3)
  | .trigo k => decide (k < 16)
  | .trigin k => decide (k < 4)
  | .gpio k => decide (k < 8)
  | .bootmode k => decide (k < 2)
  | _ => true

/-- A scan names balls with boundary cells, and loads none of those that are only observed (R465). -/
def scanOk (x : Scan) : Bool :=
  x.levels.all (fun e => ballOk e.1) && x.load.all fun e => ballOk e.1 && match e.1 with | .ref _ => false | _ => true

/-- A well-formed command. -/
def Instr.wf : Instr → Bool
  | .poresetNRise mode => decide (mode < 4)
  | .powerOnReset _ => true
  | .sysresetN _ => true
  | .jtagTrst => true
  | .rootPllLock _ => true
  | .pllLossOfLock k => decide (k < 4)
  | .bootFuseLoad => true
  | .selfTestComplete _ => true
  | .bootDomainsOn => true
  | .sdramTrainingDone res _ => res.length == 4
  | .bootCtrlContinue _ => true
  | .smbContinue _ _ => true
  | .jtagBootContinue _ => true
  | .railExcursion rail _ => decide (rail < 11)
  | .powerDownRequest _ pg => pageOk pg
  | .powerUpRequest _ pg => pageOk pg
  | .domainPoweredDown d => decide (d < 224)
  | .domainPoweredUp d => decide (d < 224)
  | .commissionGo _ => true
  | .commissionCheckDone => true
  | .readyRelease => true
  | .pgEnableClear _ pg _ => pageOk pg
  | .pgEnableSet _ pg => pageOk pg
  | .pgSoftReset _ pg => pageOk pg
  | .pgDrainComplete pg => pageOk pg
  | .pgBlockReady pg => pageOk pg
  | .pgEvtRawClear _ pg _ _ => pageOk pg
  | .pgEvtEnWrite _ pg _ => pageOk pg
  | .pgEvtSet _ pg _ => pageOk pg
  | .pgErrcntClear _ pg => pageOk pg
  | .pgLockKey _ pg key => pageOk pg && decide (key < 65536)
  | .cntClear _ pg _ => pageOk pg
  | .multiwordLowRead _ off => wordOk off
  | .multiwordHighWrite _ off _ => wordOk off
  | .registerWrite _ off _ _ => wordOk off
  | .seamDoorbell _ => true
  | .seamRequestAccept _ => true
  | .seamSolveComplete lane => decide (lane < 4)
  | .seamTimeout lane => decide (lane < 4)
  | .slotWindowWrite _ n i _ => decide (n < 512) && decide (i < 512)
  | .slotCheck _ n => decide (n < 512)
  | .slotCheckDone => true
  | .storeFetchArrival _ _ => true
  | .commitPoint => true
  | .stagingStart _ _ => true
  | .stagingComplete => true
  | .armingDeadline => true
  | .benchBoundary => true
  | .groupStrobe g => decide (g < 16)
  | .shapeEnd t k => decide (t < 128) && decide (k < 76)
  | .holdoffEnd eid => decide (eid < 9728)
  | .blankRelease => true
  | .tileModeReq _ t req => decide (t < 128) && decide (req < 4)
  | .driveShortDetect t kind k => chanOk kind t k
  | .hostShadowWrite _ t kind k code => chanOk kind t k && decide (code < (if kind = 0 then 4096 else 65536))
  | .hostDirectWrite _ t chan kind code => decide (t < 128) && decide (chan < 128) && decide (kind < 2) && decide (code < 65536)
  | .commitCodes _ t => decide (t < 128)
  | .commitShapes _ t => decide (t < 128)
  | .shapeDataAccess _ t _ => decide (t < 128)
  | .directUpdate t kind k code _ _ => chanOk kind t k && decide (code < (if kind = 0 then 4096 else 65536))
  | .pacedUpdateRelease t k => decide (t < 128) && decide (k < 77)
  | .deglitchRelease t kind k => chanOk kind t k
  | .readbackSample t _ => decide (t < 128)
  | .rangeChangeGo _ t _ _ => decide (t < 128)
  | .rangeSettleEnd t kind => decide (t < 128) && decide (kind < 2)
  | .chselWrite n _ sel => decide (n < 624) && decide (sel < 32)
  | .convModeWrite _ n mode => decide (n < 624) && decide (mode < 4)
  | .monRangeWrite _ mid r => decide (mid < 19968) && decide (r < 4)
  | .conversionEnd n raw _ => decide (n < 624) && decide (raw < 16384)
  | .tagWrap => true
  | .captureRingEnable _ r => decide (r < 16)
  | .captureRunWrite _ r _ => decide (r < 16)
  | .captureFlush r => decide (r < 16)
  | .captureBurstWritten r => decide (r < 16)
  | .captureRdPtrWrite _ r v => decide (r < 16) && decide (v < 2 ^ 35)
  | .probePairStep eid act => decide (eid < 9728) && decide (act < 3)
  | .estimate eid => decide (eid < 9728)
  | .wrapSettleEnd eid => decide (eid < 9728)
  | .loopSaturated eid => decide (eid < 9728)
  | .quarSet _ eid => decide (eid < 9728)
  | .quarClr _ eid => decide (eid < 9728)
  | .elemEnWrite _ eid _ => decide (eid < 9728)
  | .shutterMeasurement eid => decide (eid < 9728)
  | .ballastRampStep b => decide (b < 128)
  | .guardRequest mid => decide (mid < 19968)
  | .loopStarve mid => decide (mid < 19968)
  | .resultTimeout mid => decide (mid < 19968)
  | .loopEpoch => true
  | .gctlStart _ => true
  | .gctlStop _ => true
  | .gctlJump _ => true
  | .gctlResync _ => true
  | .gctlCancel _ => true
  | .granulePeriodWrite _ v => decide (v < 2 ^ 18)
  | .lockApply _ => true
  | .lockDone => true
  | .benchMemoryWrite _ i ws => decide (i < 8192) && ws.length == 8
  | .streamEnable _ => true
  | .streamWrPtrWrite _ v => decide (v < 2 ^ 31)
  | .streamFetch _ => true
  | .streamSeqExpectWrite _ v => decide (v < 65536)
  | .underflowRetry => true
  | .underflowLimit => true
  | .triggerWaitCommit => true
  | .triginEdge i _ _ _ => decide (i < 4)
  | .trigoAssert k => decide (k < 16)
  | .trigoRelease k => decide (k < 16)
  | .syncOutPulse _ => true
  | .syncInPulse _ _ _ => true
  | .syncPulseGo _ => true
  | .echoDone _ _ => true
  | .ptpSync port via _ _ _ _ _ _ _ => decide (port < 2) && decide (via < 3)
  | .ptpFollowUp port via _ _ _ _ => decide (port < 2) && decide (via < 3)
  | .ptpDelayReqSend _ => true
  | .ptpDelayResp port via _ _ _ => decide (port < 2) && decide (via < 3)
  | .ptpPdelayReq port via _ _ => decide (port < 2) && decide (via < 3)
  | .ptpPdelayExchange port _ => decide (port < 2)
  | .ptpAnnounce port via _ _ _ => decide (port < 2) && decide (via < 3)
  | .syncLoss => true
  | .sourceSwitch => true
  | .timeCtrlWrite _ _ => true
  | .timeCmdStep _ => true
  | .timeCmdOffset _ => true
  | .slewComplete => true
  | .ppsInEdge _ _ => true
  | .timeEventArm _ k _ => decide (k < 16)
  | .timeEventFire ks => ks.all (fun k => k < 16)
  | .tsPop _ => true
  | .ppsOutAssert => true
  | .ppsOutEnd => true
  | .sensorRound xs => xs.length == 120
  | .picStage2Entry => true
  | .shutdownPersist k => decide (k < 4)
  | .jobOffer _ => true
  | .jobGrant => true
  | .jobEnd => true
  | .jobAged _ => true
  | .avsPeriod _ _ => true
  | .marginCrit _ => true
  | .avsResponse _ => true
  | .avsFault _ => true
  | .hostSwap _ => true
  | .hostSwapCheckDone => true
  | .bankAbandon _ => true
  | .pendingCopyDone => true
  | .runReqGo _ kinds => decide (kinds < 8)
  | .plumbIntervalTrigger => true
  | .darkMonitorStep => true
  | .recentre errs corrs => (errs ++ corrs).all fun e => decide (e < 9728)
  | .sweepVisitSubmit => true
  | .plumbWindowOpen => true
  | .sweepPoint _ => true
  | .plumbRunEnd => true
  | .atlasFreeze _ => true
  | .atlasFreezeDone => true
  | .atlasEnable _ => true
  | .fuseCmdCommit _ confirm => decide (confirm < 65536)
  | .finishRevoke _ confirm => decide (confirm < 65536)
  | .fuseCommitEnd _ => true
  | .linkUp l => l.all (fun e => e.1 < 2)
  | .linkDown p => decide (p < 2)
  | .ringFrameRx p data _ _ _ _ _ => decide (p < 2) && decide (20 ≤ data.length)
  | .dupSourceRelease e _ => decide (e < 2)
  | .pathCycleEnd _ _ => true
  | .stateCopyDone e _ => decide (e < 2)
  | .diagTrip e check => decide (e < 2) && decide (check < 7)
  | .pathCtrlTakeover _ => true
  | .revert => true
  | .abdicatedRecovery e => decide (e < 2)
  | .parseFirstPass port => decide (port < 2)
  | .parseSecondPass => true
  | .frameAction => true
  | .nodeCommit _ n _ => decide (n < 48)
  | .ruleCommit _ i _ => decide (i < 1024)
  | .hitsClr _ i => decide (i < 1024)
  | .execDispatch _ _ => true
  | .execComplete x => decide (x < 8)
  | .entryCommit => true
  | .execTimeout x => decide (x < 8)
  | .fragmentArrival x => decide (x < 8)
  | .batchTimeout e => decide (e < 2)
  | .deadListExpiry e => decide (e < 2)
  | .sqDoorbell k _ _ _ => decide (k < 8)
  | .cqHeadDoorbell k _ _ _ => decide (k < 8)
  | .eqHeadDoorbell _ => true
  | .pqHeadDoorbell _ => true
  | .faultClassify _ _ mem => mem.all memErrOk
  | .recordUpdate => true
  | .sumpAck _ id => decide (id < 2 ^ 32)
  | .logRecordWrite => true
  | .safeCtrlExit _ => true
  | .inject _ src => decide (src < 256)
  | .pcieLinkUp _ _ _ => true
  | .pcieLinkDown _ _ => true
  | .functionLevelReset => true
  | .d3hotEntry => true
  | .d0Return => true
  | .pciePerst _ _ => true
  | .pcieRetrain _ _ => true
  | .pcieCompliance _ => true
  | .bar2Access _ _ _ _ _ => true
  | .scrubLine c _ _ _ => decide (c < 4)
  | .scrubPass c => decide (c < 4)
  | .trainGo _ c => decide (c < 4)
  | .smbIdent _ => true
  | .smbStatus _ => true
  | .smbZones _ => true
  | .smbSensorSel _ _ => true
  | .smbSensor _ => true
  | .smbResetCause _ => true
  | .smbRegAddr off _ => decide (off < 2 ^ 32)
  | .smbRegRead _ => true
  | .smbRegWrite _ _ => true
  | .smbTimeout _ => true
  | .smbArp _ => true
  | .ringTest _ target => decide (target < 256)
  | .tilebusTest _ target => decide (target < 256)
  | .sdramTest _ target => decide (target < 256)
  | .dacTest _ target => decide (target < 256)
  | .tcurrentTest _ target => decide (target < 256)
  | .opticalTest _ target => decide (target < 256)
  | .testStop _ => true
  | .testEnd _ => true
  | .linkErrorInject _ => true
  | .jtagExtest x => scanOk x
  | .jtagIdcode => true
  | .jtagSamplePreload x => scanOk x
  | .jtagExtestPulse x => scanOk x
  | .jtagExtestTrain x => scanOk x
  | .jtagClamp => true
  | .jtagHighz => true
  | .jtagBypass => true
  | .pllRelock k => decide (1 ≤ k) && decide (k < 4)
  | .railBackInTolerance rail => decide (rail < 11)
  | .checkerLock lane => decide (lane < 2)
  | .checkerLockLost lane => decide (lane < 2)
  | .swapInstant => true
  | .windowGEnd => true

end Sys2Proof
end

