-- ==== Sys2Proof/Safety.lean ====
section
/-! DEFINITION. What counts as a well-behaved state and a safe run, in the terms claims use. -/
namespace Sys2Proof.Machine

/-- A sparse table in canonical form: keys strictly rising, and no entry equal to what an unlisted key reads as. -/
def tabWf {α : Type} (d : Nat → α) (t : Tab α) : Prop := t.Pairwise (fun a b => a.1 < b.1) ∧ ∀ e ∈ t, e.2 ≠ d e.1

/-- The parts of a state that every command keeps well formed: board SDRAM, the register map, the power domains, the live words of the parser's tables, the elements and the capture rings in canonical form, and network time within its counter's range (R234). -/
structure State.Sound (s : State) : Prop where
  memory : Memory.wf s.sd = true
  words : tabWf resetWord s.regs
  domains : tabWf (fun _ => Dom.onIdle) s.dom
  clock : s.now < timeWrap
  parser : tabWf resetWord s.live
  elements : tabWf (fun _ => ElemSt.idle) s.bram.elems
  capture : tabWf (fun _ => RingSt.idle) s.mon.rings

/-- Well-formedness of a state: its parts are, and every command that waits is well formed. -/
def State.Wf (s : State) : Prop := s.Sound ∧ ∀ c ∈ s.pending, c.wf = true

/-- The changes of the global state that R25 lists and that no reset makes. -/
inductive DevEdge : DevState → DevState → Prop where
  | bootHold : DevEdge .boot .hold
  | holdArmed : DevEdge .hold .armed
  | armedRun : DevEdge .armed .run
  | armedSafe : DevEdge .armed .safe
  | runSafe : DevEdge .run .safe
  | safeArmed : DevEdge .safe .armed
  | halt {a : DevState} : a ≠ .off → DevEdge a .halt

/-- A global state reached from another by changes that R25 lists, without a reset. -/
inductive DevReach (a : DevState) : DevState → Prop where
  | here : DevReach a a
  | more {b c : DevState} : DevReach a b → DevEdge b c → DevReach a c

/-- A command answers a next state, and P holds of it. -/
def Leads (c : Instr) (s : State) (P : State → Prop) : Prop := ∃ t, exec c s = .next t ∧ P t

/-- Nothing waits that the end of another command would set going: no write held by a commissioning check, no solve in a lane, no result of a probe solve, no answer of a command, no test of chapter 18 and no Plumb run. -/
def State.Calm (s : State) : Prop :=
  s.boot.held = [] ∧ s.seam.lanes = [] ∧ s.seam.probe = none ∧ s.seam.done = [] ∧ s.cmd.wait = [] ∧ s.test.run = none ∧ s.plumb.run = none

/-- As Calm, but a Plumb run may be under way, so long as it is not to end with its present kind (R308). -/
def State.Quiet (s : State) : Prop :=
  s.boot.held = [] ∧ s.seam.lanes = [] ∧ s.seam.probe = none ∧ s.seam.done = [] ∧ s.cmd.wait = [] ∧ s.test.run = none ∧ s.plumb.run.all (fun r => !r.ending) = true

/-- A register access at an offset acts at once: the device is not OFF, no commissioning check holds writes (R420), and the block has power (R413). -/
def State.Open (s : State) (off : Nat) : Prop := s.dev ≠ .off ∧ s.boot.check = none ∧ s.reachable off = true

/-- What a page event leaves as it is: every field but the register map, the event queue's own position, what is sent out, the messages and writes that wait for D0, and board SDRAM. -/
def EvtRel (s t : State) : Prop :=
  t = { s with
    regs := t.regs, out := t.out, sd := t.sd
    hq := { s.hq with eqWait := t.hq.eqWait, eqOvf := t.hq.eqOvf, eqSeq := t.hq.eqSeq, eqPh := t.hq.eqPh }
    pcie := { s.pcie with msiWait := t.pcie.msiWait, dmaWait := t.pcie.dmaWait } }

/-- The words that an event of a page can change: its PG_EVT_RAW, and where it is posted (R383, R439) the CMD page's event bits, the event queue's tail, the counters of lost events and of discarded writes, and MSI-X pending bits. -/
def EvtFoot (pg off : Nat) : Prop := off = pg + 0x10 ∨ off = 0xE010 ∨ off = 0xE30C ∨ off = 0xE424 ∨ off = 0x1305C ∨ (0x7F1000 ≤ off ∧ off < 0x7F1008)

/-- An event's bit stands in PG_EVT_RAW of its page (R435). -/
def State.HasEvt (s : State) (pg bit : Nat) : Prop := bitOf (s.rdW (pg + 0x10)).toNat bit = true

/-- What a command leaves as it was: every field but those an event changes, every register word but those listed and those that an event of a listed page changes, and board SDRAM where the event queue does not lie in it. -/
structure Frame (ws pgs : List Nat) (s t : State) : Prop where
  rel : EvtRel s t
  words : ∀ off, off ∉ ws → (∀ pg ∈ pgs, ¬ EvtFoot pg off) → t.rdW off = s.rdW off
  sdram : s.flag Reg.CMD.EQ_CFG.LOCATION = false → t.sd = s.sd

/-- As Frame, but the words that may change are those of listed ranges (the first offset, and the one after the last). -/
structure FrameIn (rs : List (Nat × Nat)) (pgs : List Nat) (s t : State) : Prop where
  rel : EvtRel s t
  words : ∀ off, (∀ r ∈ rs, off < r.1 ∨ r.2 ≤ off) → (∀ pg ∈ pgs, ¬ EvtFoot pg off) → t.rdW off = s.rdW off
  sdram : s.flag Reg.CMD.EQ_CFG.LOCATION = false → t.sd = s.sd

/-- An answer is a next state: no fault and no refusal. -/
def Goes (o : Host.Outcome State Fault Refusal) : Prop := ∃ t, o = .next t

/-- A run of n steps that meets neither a fault nor a refusal. -/
def SafeRun : Nat → State → Prop
  | 0, _ => True
  | n + 1, s => ∃ t, step s = .next t ∧ SafeRun n t

end Sys2Proof.Machine
end

