-- ==== Sys2Proof/Certificates/Slice0/Obligations.lean ====
section
/-! DEFINITION. The statements for the provers. A clause `Leads c s P` says that the command c answers a next state of the state s of which P holds. -/

open Sys2Proof Sys2Proof.Machine

/-- A step takes the command at the front of the queue, and is its meaning on the state with the queue's rest. The queue is the model's choice (log 1). -/
def Obligations.StepRunsFrontCommand : Prop :=
  ∀ (s : State) (c : Instr) (rest : List Instr), step { s with pending := c :: rest } = exec c { s with pending := rest }

/-- A step on an empty queue is one tick of CLK_LOOP (R234). That time passes on an empty queue, and that an accepted range change starts at the next tick, is the model's choice (log 1, 57). -/
def Obligations.IdleStepTicksTime : Prop :=
  ∀ s : State, s.pending = [] → ∃ t, step s = .next t ∧ (s.clkRun = false → t = s) ∧
    (s.clkRun = true → t.now = (s.now + (s.timeInc * fu).toNat) % timeWrap ∧
      t.granAcc = (s.granAcc + (s.timeInc * fu).toNat) % max 1 s.gran ∧ t.phase = (s.phase + 1) % 4 ∧
      t.time.slew = s.time.slew - s.slewTerm ∧ t.mon.clock = s.mon.clock + 1 ∧ t.mon.sub = (if s.mon.sub = 31 then 0 else s.mon.sub + 1)) ∧
    t.pending = [] ∧ t.dev = s.dev ∧ t.img = s.img ∧ t.gan = s.gan ∧
    (s.mon.batch = [] → (∀ r ∈ s.drv.range, r.forced = true) → t.sd = s.sd ∧ t.bram = s.bram ∧ t.inbox = s.inbox) ∧
    (s.Sound → s.clkRun = true → ∀ (τ e : Nat) (r : RangeCh), s.rangeCh τ = some r → r.forced = false → e ∈ tileElems τ → s.status e ≠ stOff → s.status e ≠ stQuar →
      t.status e = stHold ∧ t.reason e = whyRange)

/-- The machine right after reset (R25, R236). Reset values that the spec does not give are the model's (log 8, 10, 11, 12, 13). -/
def Obligations.ResetState : Prop :=
  State.reset.dev = .off ∧ State.reset.pending = [] ∧ State.reset.sd = [] ∧ State.reset.now = 0 ∧ State.reset.clkRun = false ∧
  State.reset.inbox = [] ∧ State.reset.live = [] ∧ State.reset.img.live = none ∧ State.reset.gan.live = none ∧ State.reset.plumb.run = none ∧
  (∀ off, State.reset.rdW off = resetWord off) ∧ ∀ d < 224, (State.reset.domain d).on = false

/-- The reset state is well formed. The canonical forms are the model's choice (log 9). -/
def Obligations.ResetIsWellFormed : Prop :=
  State.reset.Wf

/-- Every step keeps a state well formed (R234 for the range of network time). The canonical forms are the model's choice (log 9). -/
def Obligations.StepKeepsWellFormed : Prop :=
  ∀ s t : State, s.Wf → step s = .next t → t.Wf

/-- Every command answers a next state (R25 for a command that the state rules out), and keeps the queue and the identity (log 3, 7). -/
def Obligations.EveryCommandAnswersNext : Prop :=
  ∀ (c : Instr) (s : State), ∃ t, exec c s = .next t ∧ t.pending = s.pending ∧ t.unit = s.unit

/-- Every run is safe: no number of steps from any state meets a fault or a refusal (log 3). -/
def Obligations.EveryRunIsSafe : Prop :=
  ∀ (n : Nat) (s : State), SafeRun n s

/-- But for the five commands that can reset the device, the global state moves only along the changes of R25 that are no reset. One command may make several of them, as it sets going what waited (log 21). -/
def Obligations.DevStateMovesAlongTransitions : Prop :=
  ∀ (c : Instr) (s t : State), s.Sound → exec c s = .next t → (∀ m, c ≠ .poresetNRise m) → (∀ b, c ≠ .powerOnReset b) → (∀ b, c ≠ .sysresetN b) →
    (∀ r b, c ≠ .railExcursion r b) → (∀ i b z, c ≠ .faultClassify i b z) → DevReach s.dev t.dev

/-- OFF is left only as PORESET_N rises, and HALT only through a reset, which a fault's reaction can be (R25). -/
def Obligations.OffAndHaltAreLeftOnlyThroughReset : Prop :=
  ∀ (c : Instr) (s t : State), s.Sound → exec c s = .next t →
    (s.dev = .off → t.dev ≠ .off → ∃ m, c = .poresetNRise m) ∧
    (s.dev = .halt → t.dev ≠ .halt → (∃ b, c = .powerOnReset b) ∨ (∃ b, c = .sysresetN b) ∨ (∃ b, c = .railExcursion 0 b) ∨ ∃ i b z, c = .faultClassify i b z)

/-- Element numbers give plane, cell and shutter, and are given by them (R13, R14). -/
def Obligations.ElementNumbering : Prop :=
  (∀ p s c, cellEid p (256 * s + c) = p * 4864 + s * 256 + c) ∧ (∀ p e, shutEid p e = p * 4864 + 4352 + e) ∧
  (∀ eid, planeOf eid = eid / 4864) ∧
  (∀ eid, eid % 4864 < 4352 → isCell eid = true ∧ placeOf eid = 256 * (eid % 4864 / 256) + eid % 4864 % 256) ∧
  (∀ eid, 4352 ≤ eid % 4864 → isCell eid = false ∧ placeOf eid = eid % 4864 - 4352) ∧
  (∀ p s c, s < 17 → c < 256 → planeOf (cellEid p (256 * s + c)) = p ∧ isCell (cellEid p (256 * s + c)) = true ∧ placeOf (cellEid p (256 * s + c)) = 256 * s + c) ∧
  ∀ p e, e < 512 → planeOf (shutEid p e) = p ∧ isCell (shutEid p e) = false ∧ placeOf (shutEid p e) = e

/-- The tap on an output waveguide of a stage is output w mod 2 of cell floor(w / 2) (R39). -/
def Obligations.CellTapNumbering : Prop :=
  ∀ p s w, s < 17 → w < 512 → cellTap (cellEid p (256 * s + w / 2)) (w % 2) = p * 9728 + 512 * s + w

/-- The bitmap of a record gives the state of every cell, in both planes (R77). -/
def Obligations.ImageBitmapGivesCells : Prop :=
  ∀ (b : List Byte) (s : State) (p st c : Nat), b.length = 2048 → p < 2 → st < 17 → c < 256 → s.img.liveCells = (parseImage b).cells →
    s.crossed (cellEid p (256 * st + c)) = bitOf (b.getD (0x40 + (256 * st + c) / 8) 0).toNat ((256 * st + c) % 8)

/-- A result offered to a capture ring is put into what waits to be written to it, or counted in exactly one of two counters (R144). That records wait before they are written is how the model holds the write buffer of R145. -/
def Obligations.CaptureLosesNothingUncounted : Prop :=
  ∀ (s t : State) (r : Nat) (rec : List Byte), s.Sound → r < 16 → rec.length = 8 → t = s.capOffer r rec false →
    ((t.ring r).waiting = (s.ring r).waiting + 8 ∧ t.rd (Reg.CAPTURE.CNT_DROP_FULL.COUNT r) = s.rd (Reg.CAPTURE.CNT_DROP_FULL.COUNT r) ∧
      t.rd (Reg.CAPTURE.CNT_CAP_REFUSED.COUNT r) = s.rd (Reg.CAPTURE.CNT_CAP_REFUSED.COUNT r)) ∨
    (t.ring r = s.ring r ∧ t.rd (Reg.CAPTURE.CNT_DROP_FULL.COUNT r) = min (s.rd (Reg.CAPTURE.CNT_DROP_FULL.COUNT r) + 1) (2 ^ 32 - 1) ∧
      t.rd (Reg.CAPTURE.CNT_CAP_REFUSED.COUNT r) = s.rd (Reg.CAPTURE.CNT_CAP_REFUSED.COUNT r)) ∨
    (t.ring r = s.ring r ∧ t.rd (Reg.CAPTURE.CNT_DROP_FULL.COUNT r) = s.rd (Reg.CAPTURE.CNT_DROP_FULL.COUNT r) ∧
      t.rd (Reg.CAPTURE.CNT_CAP_REFUSED.COUNT r) = min (s.rd (Reg.CAPTURE.CNT_CAP_REFUSED.COUNT r) + 1) (2 ^ 32 - 1))

/-- The commit of a parser node whose extract would pass slot 7 is refused (R348). -/
def Obligations.NodePastSlotSevenIsRefused : Prop :=
  ∀ (s : State) (path : HostPath) (n : Nat) (v : Bool), s.Sound → n < 48 → s.Open (0x62007C + 0x80 * n) → s.flag (Reg.NODE.EXT.EN n) = true →
    8 < s.rd (Reg.NODE.EXT.SLOT n) + divUp (s.rd (Reg.NODE.EXT.LEN n)) 4 →
    Leads (.nodeCommit path n v) s fun t => t.lv (Reg.NODE.NODE_CTRL.VALID n) = 0 ∧ t.flag (Reg.NODE.NODE_CTRL.VALID n) = false ∧
      t.rd (Reg.HDR.PG_ERRCNT.COUNT 0xF000) = min (s.rd (Reg.HDR.PG_ERRCNT.COUNT 0xF000) + 1) (2 ^ (Reg.HDR.PG_ERRCNT.COUNT 0xF000).len - 1)

/-- The resets of the device, and the test port, leave the states their rules give (R25, R415). Where the spec leaves it open, it rests on the model's choices (log 8, 10, 35, 40, 41). -/
def Obligations.ResetsLead : Prop :=
  (∀ (s : State) (mode : Nat), s.Sound → s.Calm → s.dev = .off → s.railOk 0 = true → Leads (.poresetNRise mode) s fun t => t.dev = .boot ∧ t.dom = bootDomains ∧ t.rd Reg.BOOT.BOOT_STATUS.BOOTMODE = mode % 4) ∧
  (∀ (s : State) (burnt : List (Nat × Byte)), Leads (.powerOnReset burnt) s fun t => t.dev = .off ∧ t.sd = [] ∧ (∀ off, (off < 0x2040 ∨ 0x2044 ≤ off) → (off < 0x800000 ∨ 0xA00000 ≤ off) → t.rdW off = resetWord off) ∧ t = { State.reset with pending := s.pending, unit := s.unit, freeCtr := t.freeCtr, regs := t.regs, drv := { State.reset.drv with clamp := s.drv.clamp }, pcie := { State.reset.pcie with perst := s.pcie.perst } }) ∧
  (∀ (s : State) (burnt : List (Nat × Byte)), s.Sound → s.dev ≠ .off → Leads (.sysresetN burnt) s fun t => t.dev = .boot ∧ t.dom = bootDomains ∧ t.now = 0 ∧ t.clkRun = s.clkRun ∧ t.bram = State.reset.bram ∧ t.inbox = [] ∧ t.rd Reg.BOOT.BOOT_STATUS.BOOTMODE = s.rd Reg.BOOT.BOOT_STATUS.BOOTMODE) ∧
  (∀ (s : State), Leads .jtagTrst s fun t => t = { s with test := { s.test with jtag := 1, pins := false }, out := [] })

/-- The phases of a boot follow one another, end in HOLD, and a failed self-test halts (R22, R294, R416, R417, R441, R447, R464). Where the spec leaves it open, it rests on the model's choices (log 31, 32, 33, 36, 37, 48). -/
def Obligations.BootPhasesLead : Prop :=
  (∀ (s : State) (us : Nat), s.Sound → s.Calm → s.dev = .boot → s.boot.pll = false → s.boot.fuse = false → Leads (.rootPllLock us) s fun t => t.clkRun = true ∧ t.boot = { s.boot with pll := true, lockUs := us } ∧ t.rd Reg.BOOT.BOOT_STATUS.PHASE = 1 ∧ t.rd Reg.CLOCK.PLL_STATUS.LOCK = (s.rd Reg.CLOCK.PLL_STATUS.LOCK ||| 9) % 16 ∧ Frame [0x3040, 0x1040] [0] { s with clkRun := t.clkRun, boot := t.boot } t) ∧
  (∀ (s : State), s.Sound → s.Calm → s.dev = .boot → s.boot.pll = true → s.boot.fuse = false → s.boot.cold = false → s.boot.self = false → Leads .bootFuseLoad s fun t => t.boot = { s.boot with fuse := true } ∧ t.rd Reg.BOOT.BOOT_STATUS.PHASE = 2 ∧ Frame [0x3040] [0] { s with boot := t.boot } t) ∧
  (∀ (s : State), s.Sound → s.Calm → s.dev = .boot → s.boot.pll = true → s.boot.fuse = false → s.boot.cold = true → s.boot.self = false → Leads .bootFuseLoad s fun t => t.dev = .boot ∧ t.boot = { s.boot with fuse := true } ∧ t.rd Reg.BOOT.BOOT_STATUS.PHASE = 2) ∧
  (∀ (s : State) (failing : List Nat), s.Sound → s.Calm → s.dev = .boot → s.boot.fuse = true → s.boot.self = false → s.boot.doms = false → (∀ b ∈ failing, 10 ≤ b) → Leads (.selfTestComplete failing) s fun t => t.boot = { s.boot with self := true } ∧ t.rd Reg.BOOT.BOOT_STATUS.PHASE = 3 ∧ ((t.rd Reg.BOOT.BOOT_STATUS.WAIT = 1 ↔ 2 ≤ s.rd Reg.BOOT.BOOT_STATUS.BOOTMODE)) ∧ Frame [0x3040] [0] { s with boot := t.boot, therm := t.therm } t) ∧
  (∀ (s : State) (b : Nat), s.Sound → s.Calm → s.dev = .boot → s.boot.fuse = true → s.boot.self = false → b < 10 → Leads (.selfTestComplete [b]) s fun t => t.dev = .halt ∧ t.rd Reg.BOOT.BOOT_STATUS.PHASE = 9 ∧ t.rd Reg.BOOT.SELFTEST_FAIL.BLOCKS = 2 ^ b ∧ t.HasEvt 0x3000 3 ∧ t.inbox = s.inbox ++ [⟨49, b, false, true⟩] ∧ Frame [0x3040, 0x3048] [0, 0x3000] { s with dev := .halt, boot := t.boot, inbox := t.inbox } t) ∧
  (∀ (s : State), s.Sound → s.Calm → s.dev = .boot → s.boot.self = true → s.boot.doms = false → s.boot.cold = false → s.flag Reg.BOOT.BOOT_STATUS.WAIT = true → (∀ d ∈ List.range 224, s.domOn d = true) → Leads .bootDomainsOn s fun t => t.dev = .boot ∧ t.boot = { s.boot with doms := true } ∧ t.rd Reg.BOOT.BOOT_STATUS.PHASE = 4 ∧ Frame [0x3040] [0] { s with boot := t.boot } t) ∧
  (∀ (s : State) (res : List (Nat × Nat × Option Nat)) (time : Nat), s.Sound → s.Calm → s.dev = .hold → s.flag (Reg.SDRAM.TRAIN_STATUS.BUSY 0) = true → res.length = 4 → (∀ r ∈ res, r.2.2 = none) → Leads (.sdramTrainingDone res time) s fun t => t.rd (Reg.SDRAM.TRAIN_STATUS.BUSY 0) = 0 ∧ t.rd (Reg.SDRAM.TRAIN_STATUS.TRAINED 0) = 1 ∧ t.rd (Reg.SDRAM.GEOMETRY.RANKS 0) = (res.getD 0 (1, 0, some 0)).1 % 4 ∧ t.HasEvt 0x14000 2 ∧ t.rd (Reg.SDRAM.TRAIN_STATUS.BUSY 1) = 0 ∧ t.rd (Reg.SDRAM.TRAIN_STATUS.TRAINED 1) = 1 ∧ t.rd (Reg.SDRAM.GEOMETRY.RANKS 1) = (res.getD 1 (1, 0, some 0)).1 % 4 ∧ t.HasEvt 0x15000 2 ∧ t.rd (Reg.SDRAM.TRAIN_STATUS.BUSY 2) = 0 ∧ t.rd (Reg.SDRAM.TRAIN_STATUS.TRAINED 2) = 1 ∧ t.rd (Reg.SDRAM.GEOMETRY.RANKS 2) = (res.getD 2 (1, 0, some 0)).1 % 4 ∧ t.HasEvt 0x16000 2 ∧ t.rd (Reg.SDRAM.TRAIN_STATUS.BUSY 3) = 0 ∧ t.rd (Reg.SDRAM.TRAIN_STATUS.TRAINED 3) = 1 ∧ t.rd (Reg.SDRAM.GEOMETRY.RANKS 3) = (res.getD 3 (1, 0, some 0)).1 % 4 ∧ t.HasEvt 0x17000 2 ∧ t.rd Reg.BOOT.BOOT_STATUS.SDRAM_TRAINED = 1) ∧
  (∀ (s : State) (path : HostPath), s.Sound → s.Calm → s.Open 0x304C → s.dev = .boot → s.boot.pll = true → s.boot.fuse = true → s.boot.self = true → s.boot.doms = true → s.boot.cold = false → Leads (.bootCtrlContinue path) s fun t => t.dev = .hold ∧ t.rd Reg.BOOT.BOOT_STATUS.WAIT = 0 ∧ t.rd Reg.BOOT.BOOT_STATUS.PHASE = 6 ∧ t.HasEvt 0x3000 0 ∧ t.HasEvt 0 0 ∧ Frame [0x3040, 0x3044] [0, 0x3000] { s with dev := .hold, boot := t.boot } t) ∧
  (∀ (s : State), s.Sound → s.Calm → s.dev = .boot → s.boot.doms = false → Leads (.smbContinue 0xC0 (some true)) s fun t => t.rd Reg.BOOT.BOOT_STATUS.WAIT = 0 ∧ t.rd Reg.SMBUS.CNT_CMDS.COUNT = min (s.rd Reg.SMBUS.CNT_CMDS.COUNT + 1) (2 ^ 32 - 1) ∧ Frame [0x3040, Reg.SMBUS.CNT_CMDS.COUNT.off] [0] s t) ∧
  (∀ (s : State), s.Sound → s.Calm → s.dev = .boot → s.boot.doms = false → Leads (.jtagBootContinue true) s fun t => t.rd Reg.BOOT.BOOT_STATUS.WAIT = 0 ∧ t.test.jtag = 0x10 ∧ Frame [0x3040] [0] { s with test := t.test } t)

/-- PLL lock, loss of lock and rail excursions set the bits, counters and events of their rules (R23, R410, R454). Where the spec leaves it open, it rests on the model's choices (log 10, 11, 34). -/
def Obligations.ClocksAndRailsLead : Prop :=
  (∀ (s : State) (k : Nat), s.Sound → k < 4 → bitOf (s.rd Reg.CLOCK.PLL_STATUS.LOCK) k = true → Leads (.pllLossOfLock k) s fun t => t.rd ⟨0x1040, k, 1⟩ = 0 ∧ t.rd (Reg.CLOCK.CNT_LOL.COUNT k) = min (s.rd (Reg.CLOCK.CNT_LOL.COUNT k) + 1) (2 ^ 32 - 1) ∧ t.HasEvt 0x1000 k ∧ t.inbox = s.inbox ++ [⟨k, 0, false, false⟩] ∧ Frame [0x1040, 0x1050 + 4 * k] [0x1000] { s with inbox := t.inbox } t) ∧
  (∀ (s : State) (k : Nat), s.Sound → (1 ≤ k ∧ k < 4) → s.dev ≠ .off → bitOf (s.rd Reg.CLOCK.PLL_STATUS.LOCK) k = false → Leads (.pllRelock k) s fun t => t.rd ⟨0x1040, k, 1⟩ = 1 ∧ t.HasEvt 0x1000 (4 + k) ∧ Frame [0x1040] [0x1000] s t) ∧
  (∀ (s : State) (r : Nat) (burnt : List (Nat × Byte)), s.Sound → s.Calm → (1 ≤ r ∧ r < 9) → s.railOk r = true → s.dev ≠ .off → Leads (.railExcursion r burnt) s fun t => t.rd ⟨0x2040, r, 1⟩ = 0 ∧ t.rd ⟨0x2044, r, 1⟩ = 1 ∧ t.drv = { s.drv with clamp := s.drv.clamp ||| clampBit r } ∧ t.rd Reg.POWER.CNT_RAIL.COUNT = min (s.rd Reg.POWER.CNT_RAIL.COUNT + 1) (2 ^ 32 - 1) ∧ t.HasEvt 0x2000 0 ∧ Frame [0x2040, 0x2044, 0x20A8] [0, 0x2000] { s with drv := t.drv } t) ∧
  (∀ (s : State) (r : Nat) (burnt : List (Nat × Byte)), s.Sound → s.Calm → (r = 9 ∨ r = 10) → s.railOk r = true → s.dev ≠ .off → Leads (.railExcursion r burnt) s fun t => t.rd ⟨0x2040, r, 1⟩ = 0 ∧ t.rd ⟨0x2044, r, 1⟩ = 1 ∧ t.HasEvt 0x2000 0 ∧ t.dev = s.dev) ∧
  (∀ (s : State) (burnt : List (Nat × Byte)), s.Sound → s.railOk 0 = true → Leads (.railExcursion 0 burnt) s fun t => t.dev = .off ∧ t.sd = [] ∧ t.rd ⟨0x2040, 0, 1⟩ = 0) ∧
  (∀ (s : State) (r : Nat), s.Sound → s.Calm → r < 11 → s.railOk r = false → s.dev ≠ .off → Leads (.railBackInTolerance r) s fun t => t.rd ⟨0x2040, r, 1⟩ = 1 ∧ t.drv = { s.drv with clamp := s.drv.clamp - (s.drv.clamp &&& clampBit r) } ∧ Frame [0x2040] [0] { s with drv := t.drv } t)

/-- Power requests and completions move exactly one domain between its power states (R412). Where the spec leaves it open, it rests on the model's choices (log 32, 33, 38, 39, 40). -/
def Obligations.PowerDomainsLead : Prop :=
  (∀ (s : State) (path : HostPath) (pg d : Nat), s.Sound → s.Calm → isPage pg = true → s.Open (pg + 0x2C) → domOfPage pg = some d → (s.domain d).pstate = 2 → s.powerPermits d (path == .pcie || path == .opPcie) = true → Leads (.powerDownRequest path pg) s fun t => (∀ e, t.domain e = if e = d then ⟨3, false, false, 0, false⟩ else s.domain e)) ∧
  (∀ (s : State) (path : HostPath) (pg d : Nat), s.Sound → s.Calm → isPage pg = true → s.Open (pg + 0x2C) → domOfPage pg = some d → (s.domain d).pstate = 2 → 128 ≤ d → s.powerPermits d (path == .pcie || path == .opPcie) = false → Leads (.powerDownRequest path pg) s fun t => (∀ e, t.domain e = if e = d then ⟨2, true, true, 0, false⟩ else s.domain e) ∧ t.rd Reg.POWER.CNT_PWR_REFUSED.COUNT = min (s.rd Reg.POWER.CNT_PWR_REFUSED.COUNT + 1) (2 ^ 32 - 1) ∧ t.HasEvt 0x2000 1 ∧ Frame [Reg.POWER.CNT_PWR_REFUSED.COUNT.off] [0, 0x2000] { s with dom := t.dom } t) ∧
  (∀ (s : State) (path : HostPath) (pg d : Nat), s.Sound → s.Calm → isPage pg = true → (s.dev ≠ .off ∧ s.boot.check = none) → domOfPage pg = some d → d < 224 → (s.domain d).pstate = 0 → s.poweringUp < 16 → (∀ e ∈ List.range 224, e ≠ d → (s.domain e).wait ≠ 1) → Leads (.powerUpRequest path pg) s fun t => (∀ e, t.domain e = if e = d then { s.domain d with pstate := 1, on := true, refused := false, wait := 0 } else s.domain e)) ∧
  (∀ (s : State) (d : Nat), s.Sound → s.Calm → d < 224 → (s.domain d).pstate = 3 → (∀ e ∈ List.range 224, (s.domain e).wait ≠ 1) → Leads (.domainPoweredDown d) s fun t => ((∀ e, t.domain e = if e = d then { s.domain d with pstate := 0 } else s.domain e)) ∧ t.dev = s.dev ∧ t.HasEvt 0x2000 2) ∧
  (∀ (s : State) (d : Nat), s.Sound → s.Calm → d < 224 → (s.domain d).pstate = 1 → (s.domain d).wait ≠ 2 → (∀ e ∈ List.range 224, e ≠ d → (s.domain e).wait ≠ 1) → Leads (.domainPoweredUp d) s fun t => ((∀ e, t.domain e = if e = d then Dom.onIdle else s.domain e)) ∧ t.dev = s.dev ∧ t.HasEvt 0x2000 3)

/-- COMMISSION starts a check that ends in ARMED or back in HOLD with its reasons (R419, R421, R422). Where the spec leaves it open, it rests on the model's choices (log 21, 31, 52, 53). -/
def Obligations.CommissioningLeads : Prop :=
  (∀ (s : State) (path : HostPath), s.Sound → s.Calm → s.Open 0x3054 → s.dev = .hold → Leads (.commissionGo path) s fun t => ((∃ rs, t.boot = { s.boot with check := some rs })) ∧ t.rd Reg.BOOT.BOOT_STATUS.PHASE = 7 ∧ t.rd Reg.BOOT.CHECK_STATUS.BUSY = 1 ∧ t.rd Reg.BOOT.ARMED_INFO.COMMITS = min (s.rd Reg.BOOT.ARMED_INFO.COMMITS + 1) (2 ^ 16 - 1) ∧ Frame [0x3040, 0x3058, 0x3060] [0] { s with boot := t.boot } t) ∧
  (∀ (s : State), s.Sound → s.Calm → s.dev = .hold → s.boot.check = some [] → Leads .commissionCheckDone s fun t => t.dev = .armed ∧ t.rd Reg.BOOT.CHECK_STATUS.RESULT = 1 ∧ t.rd Reg.BOOT.CHECK_STATUS.BUSY = 0 ∧ t.rd Reg.BOOT.BOOT_STATUS.PHASE = 8) ∧
  (∀ (s : State) (a : Nat × Nat) (l : List (Nat × Nat)), s.Sound → s.Calm → s.dev = .hold → s.boot.check = some (a :: l) → Leads .commissionCheckDone s fun t => t.dev = .hold ∧ t.boot = { s.boot with check := none } ∧ t.rd Reg.BOOT.BOOT_STATUS.PHASE = 6 ∧ t.rd Reg.BOOT.CHECK_STATUS.RESULT = 2 ∧ t.rd Reg.BOOT.CHECK_STATUS.FIRST_REASON = a.1 % 16 ∧ t.rd Reg.BOOT.CHECK_STATUS.DETAIL = a.2 % 65536 ∧ t.rd Reg.BOOT.CNT_REFUSED.COUNT = min (s.rd Reg.BOOT.CNT_REFUSED.COUNT + 1) (2 ^ 32 - 1) ∧ t.HasEvt 0x3000 2 ∧ Frame [0x3040, 0x3058, 0x305C, 0x3064] [0, 0x3000] { s with boot := t.boot } t) ∧
  (∀ (s : State), s.up < s.boot.readyAt + 100 * ns → Leads .readyRelease s fun t => t = { s with out := [] }) ∧
  (∀ (s : State), s.boot.readyAt + 100 * ns ≤ s.up → Leads .readyRelease s fun t => t = { s with boot := { s.boot with readyLow := false }, out := [] })

/-- ENABLE, SOFT_RESET and the end of a drain or start move PG_STATE as the page header rules say (R434). Where the spec leaves it open, it rests on the model's choices (log 25, 26, 27, 29). -/
def Obligations.PageControlLeads : Prop :=
  (∀ (s : State) (path : HostPath) (pg : Nat) (p : PageInfo) (abort : Bool), s.Sound → s.Calm → isPage pg = true → s.Open (pg + 8) → pageOf pg = some p → ctrlCounted p.type = false → ctrlIdle p.type = false → p.enActs = true → (p.type ∈ [0x14, 0x22] ∨ abort = false ∧ p.type ∈ [0xC, 0xF, 0x10, 0x12]) → s.flag (Reg.HDR.PG_CTRL.ENABLE pg) = true → s.rd (Reg.HDR.PG_STATE.STATE pg) = 2 → Leads (.pgEnableClear path pg abort) s fun t => t.rd (Reg.HDR.PG_STATE.STATE pg) = 3 ∧ t.flag (Reg.HDR.PG_CTRL.ENABLE pg) = false ∧ t.flag (Reg.HDR.PG_CTRL.STOP_MODE pg) = abort ∧ Frame [pg + 8, pg + 0xC] [0] s t) ∧
  (∀ (s : State) (path : HostPath) (pg : Nat) (p : PageInfo), s.Sound → s.Calm → isPage pg = true → s.Open (pg + 8) → pageOf pg = some p → ctrlCounted p.type = false → ctrlIdle p.type = false → p.enActs = true → s.rd (Reg.HDR.PG_STATE.STATE pg) = 4 → s.flag (Reg.HDR.PG_CTRL.ENABLE pg) = false → Leads (.pgEnableSet path pg) s fun t => t.rd (Reg.HDR.PG_STATE.STATE pg) = 1 ∧ t.flag (Reg.HDR.PG_CTRL.ENABLE pg) = true ∧ Frame [pg + 8, pg + 0xC] [0] s t) ∧
  (∀ (s : State) (path : HostPath) (pg : Nat) (p : PageInfo), s.Sound → s.Calm → isPage pg = true → s.Open (pg + 8) → pageOf pg = some p → ctrlCounted p.type = false → ctrlIdle p.type = false → p.type = 0x22 → p.enActs = true → s.rd (Reg.HDR.PG_STATE.STATE pg) ≠ 5 → Leads (.pgSoftReset path pg) s fun t => t.rd (Reg.HDR.PG_STATE.STATE pg) = (if p.enReset = 1 then 1 else 4) ∧ (∀ off, off % 4 = 0 → pg + 8 ≤ off → off < pg + 0x1000 → off ≠ pg + 0xC → t.rdW off = resetWord off)) ∧
  (∀ (s : State) (pg : Nat) (p : PageInfo), s.Sound → s.Calm → pageOf pg = some p → isPage pg = true → pageBase pg = pg → s.pageOn pg = true → p.enActs = true → s.rd (Reg.HDR.PG_STATE.STATE pg) = 3 → s.pageDrained p (pageInst p pg) = true → p.type ≠ 0x13 → s.enHeld.contains pg = false → Leads (.pgDrainComplete pg) s fun t => t.rd (Reg.HDR.PG_STATE.STATE pg) = 4 ∧ Frame [pg + 0xC] [0] s t) ∧
  (∀ (s : State) (pg : Nat) (p : PageInfo), s.Sound → s.Calm → pageOf pg = some p → isPage pg = true → pageBase pg = pg → s.pageOn pg = true → p.enActs = true → s.rd (Reg.HDR.PG_STATE.STATE pg) = 3 → s.pageDrained p (pageInst p pg) = true → p.type ≠ 0x13 → s.enHeld.contains pg = true → Leads (.pgDrainComplete pg) s fun t => t.rd (Reg.HDR.PG_STATE.STATE pg) = 1 ∧ t.flag (Reg.HDR.PG_CTRL.ENABLE pg) = true ∧ Frame [pg + 8, pg + 0xC] [0] { s with enHeld := s.enHeld.filter (· != pg) } t) ∧
  (∀ (s : State) (pg : Nat) (p : PageInfo), s.Sound → s.Calm → pageOf pg = some p → isPage pg = true → pageBase pg = pg → s.pageOn pg = true → p.enActs = true → s.rd (Reg.HDR.PG_STATE.STATE pg) = 1 → p.type ≠ 0x20 → p.type ≠ 0x22 → s.flag (Reg.HDR.PG_CTRL.ENABLE pg) = true → Leads (.pgBlockReady pg) s fun t => t.rd (Reg.HDR.PG_STATE.STATE pg) = 2 ∧ Frame [pg + 0xC] [0] s t)

/-- Event words of a page: raw clear, enable, set, and the clearing of the error counter (R9, R433, R435). Where the spec leaves it open, it rests on the model's choices (log 4). -/
def Obligations.PageEventsLead : Prop :=
  (∀ (s : State) (path : HostPath) (pg : Nat) (w set : Word), s.Sound → isPage pg = true → s.Open (pg + 0x10) → Leads (.pgEvtRawClear path pg w set) s fun t => (pg = 0xE000 ∨ t.rdW (pg + 0x10) = s.rdW (pg + 0x10) &&& ~~~ (w &&& ~~~ set) ||| (set &&& evtMask pg)) ∧ Frame [pg + 0x10] [0xE000] s t) ∧
  (∀ (s : State) (path : HostPath) (pg : Nat) (w : Word), s.Sound → isPage pg = true → s.Open (pg + 0x14) → Leads (.pgEvtEnWrite path pg w) s fun t => t.rdW (pg + 0x14) = w &&& evtMask pg ∧ Frame [pg + 0x14] [0xE000] s t) ∧
  (∀ (s : State) (path : HostPath) (pg : Nat) (w : Word), s.Sound → isPage pg = true → s.Open (pg + 0x1C) → Leads (.pgEvtSet path pg w) s fun t => (pg = 0xE000 ∨ t.rdW (pg + 0x10) = s.rdW (pg + 0x10) ||| (w &&& evtMask pg)) ∧ Frame [pg + 0x10] [0xE000] s t) ∧
  (∀ (s : State) (path : HostPath) (pg : Nat), s.Sound → isPage pg = true → s.Open (pg + 0x20) → Leads (.pgErrcntClear path pg) s fun t => t.rdW (pg + 0x20) = 0 ∧ Frame [pg + 0x20] [] s t)

/-- Lock keys, counter clearing, paired words and general writes (R7, R8, R73, R436). Where the spec leaves it open, it rests on the model's choices (log 22, 24, 28, 30, 160, 161). -/
def Obligations.LocksAndWritesLead : Prop :=
  (∀ (s : State) (path : HostPath) (pg key : Nat) (p : PageInfo), s.Sound → s.Calm → isPage pg = true → s.Open (pg + 0x24) → pageOf pg = some p → p.lock = true → key % 2 ^ 16 = 0x4F5A → Leads (.pgLockKey path pg key) s fun t => t.flag (Reg.HDR.PG_LOCK.LOCKED pg) = false ∧ Frame [pg + 0x24] [0] s t) ∧
  (∀ (s : State) (path : HostPath) (pg key : Nat) (p : PageInfo), s.Sound → s.Calm → isPage pg = true → s.Open (pg + 0x24) → pageOf pg = some p → p.lock = true → key % 2 ^ 16 = 0 → Leads (.pgLockKey path pg key) s fun t => t.flag (Reg.HDR.PG_LOCK.LOCKED pg) = true ∧ Frame [pg + 0x24] [0] s t) ∧
  (∀ (s : State) (path : HostPath) (pg key : Nat) (p : PageInfo), s.Sound → s.Calm → isPage pg = true → s.Open (pg + 0x24) → pageOf pg = some p → p.lock = true → key % 2 ^ 16 ≠ 0x4F5A → key % 2 ^ 16 ≠ 0 → Leads (.pgLockKey path pg key) s fun t => t.flag (Reg.HDR.PG_LOCK.LOCKED pg) = s.flag (Reg.HDR.PG_LOCK.LOCKED pg) ∧ t.rd (Reg.HDR.PG_ERRCNT.LAST_OFFSET pg) = 0x24 ∧ Frame [pg + 0x20] [0] { s with inbox := s.inbox ++ [⟨55, pg / 0x1000 % 2 ^ 32, false, false⟩] } t) ∧
  (∀ (s : State) (path : HostPath) (pg rel : Nat) (p : PageInfo) (l : List (Nat × Nat)), s.Sound → isPage pg = true → s.Open (pg + rel) → pageOf pg = some p → clearRanges p.type rel = some l → p.type ∉ [6, 8, 0x10, 0x15, 0x20] → Leads (.cntClear path pg rel) s fun t => ((∀ off, (∃ r ∈ l, pg + r.1 ≤ off ∧ off < pg + r.1 + r.2) → t.rdW off = resetWord off)) ∧ ((∀ off, (∀ r ∈ l, off < pg + r.1 ∨ pg + r.1 + r.2 ≤ off) → t.rdW off = s.rdW off)) ∧ t = { s with regs := t.regs, out := [] }) ∧
  (∀ (s : State) (path : HostPath) (off n : Nat), s.Sound → quantAt off = some (off, n, 0) → off % 4 = 0 → s.dev ≠ .off → off < 0x1000000 → off ≠ 0x80D0 → Leads (.multiwordLowRead path off) s fun t => t.out = [.word path off (s.viewWord off)] ∧ ((∀ j < n, 0 < j → tabGet t.latch 0 (latchKey path (off + 4 * j)) = (s.viewWord (off + 4 * j)).toNat + 1)) ∧ t.regs = s.regs ∧ t = { s with latch := t.latch, out := t.out }) ∧
  (∀ (s : State) (path : HostPath) (k : Nat) (lo w : Word), s.Sound → s.Calm → k < 8 → s.dev ≠ .off → s.boot.check = none → s.pageOn 0xE000 = true → s.heldWord path (0xE200 + 0x20 * k) = some lo → Leads (.multiwordHighWrite path (0xE204 + 0x20 * k) w) s fun t => t.rd (Reg.CMD.SQ_BASE_LO.ADDR k) = getBits lo 6 26 ∧ t.rd (Reg.CMD.SQ_BASE_HI.ADDR k) = w.toNat ∧ Frame [0xE200 + 0x20 * k, 0xE204 + 0x20 * k] [0] { s with heldW := tabPut s.heldW 0 (latchKey path (0xE200 + 0x20 * k)) 0 } t) ∧
  (∀ (s : State) (path : HostPath) (w : Word), s.Sound → s.Calm → s.dev ≠ .off → s.pageOn 0x3000 = true → Leads (.registerWrite path 0x3050 w true) s fun t => t.rd Reg.BOOT.COMMIT_CRC.CRC = getBits w 0 32 ∧ Frame [0x3050] [0] s t) ∧
  (∀ (s : State) (path : HostPath) (off : Nat) (w : Word), s.Sound → s.Calm → s.dev ≠ .off → 0x1000 ≤ off → off < 0x1000000 → (pageOf off).isSome = true → Leads (.registerWrite path off w false) s fun t => t.rd (Reg.HDR.PG_ERRCNT.LAST_OFFSET (pageBase off)) = off % 0x1000 ∧ Frame [pageBase off + 0x20] [0] s t) ∧
  (∀ (s : State) (path : HostPath) (off lo len : Nat) (w : Word) (p : PageInfo) (a : Acc) (rg : Option (Nat × Nat)), s.Sound → s.Calm → s.Open off → off < 0x1000000 → off % 4 = 0 → pageOf off = some p → 0x40 ≤ off - pageBase off → quantAt off = none → State.special s.start path p (pageBase off) (off - pageBase off) w = none → ((fieldsAt off).map (fun r => (r.1.fld.lo, r.1.fld.len, r.1.acc, r.1.range)) = [(lo, len, a, rg)]) → (a = .rw ∨ a = .rws) → Leads (.registerWrite path off w true) s fun t => t.rd ⟨off, lo, len⟩ = keptTo rg (getBits w lo len) % 2 ^ len ∧ t.dev = s.dev ∧ t.img = s.img ∧ t.gan = s.gan ∧ Frame [off, pageBase off + 0x20] [0] s t) ∧
  (∀ (s : State) (path : HostPath) (a b w : Word), s.Sound → s.Calm → s.Open 0x8060 → s.heldWord path 0x8058 = some a → s.heldWord path 0x805C = some b → Leads (.multiwordHighWrite path 0x8060 w) s fun t => t.rd (Reg.TIME.TIME_SET.W 0) = getBits a 0 30 ∧ t.rd (Reg.TIME.TIME_SET.W 1) = getBits b 0 32 ∧ t.rd (Reg.TIME.TIME_SET.W 2) = getBits w 0 16 ∧ t.now = s.now ∧ Frame [0x8058, 0x805C, 0x8060] [0] { s with heldW := tabPut (tabPut s.heldW 0 (latchKey path 0x8058) 0) 0 (latchKey path 0x805C) 0 } t)

/-- Image slots: a window write, the check and its verdicts, and a prefetched record (R83, R84, R85). Where the spec leaves it open, it rests on the model's choices (log 15). -/
def Obligations.ImageSlotsLead : Prop :=
  (∀ (s : State) (path : HostPath) (n i : Nat) (w : Word), s.Sound → n < 512 → i < 512 → s.Open (0x400000 + 0x800 * n + 4 * i) → s.slotInUse n = false → Leads (.slotWindowWrite path n i w) s fun t => t.rdW (0x400000 + 0x800 * n + 4 * i) = w ∧ t.rd ⟨(Reg.GANTRY.SLOT_VALID.VALID (n / 32)).off, n % 32, 1⟩ = 0 ∧ Frame [0x400000 + 0x800 * n + 4 * i, (Reg.GANTRY.SLOT_VALID.VALID (n / 32)).off] [] s t) ∧
  (∀ (s : State) (path : HostPath) (n : Nat), s.Sound → s.Open 0x9404 → s.flag Reg.GANTRY.SLOT_CHECK_STATUS.BUSY = false → Leads (.slotCheck path n) s fun t => t.flag Reg.GANTRY.SLOT_CHECK_STATUS.BUSY = true ∧ t.rd Reg.GANTRY.SLOT_CHECK_STATUS.SLOT = n % 512 ∧ Frame [Reg.GANTRY.SLOT_CHECK_STATUS.BUSY.off] [] { s with img := { s.img with checking := some (n % 512) } } t) ∧
  (∀ (s : State) (n : Nat), s.Sound → s.img.checking = some n → n < 512 → imageCheck (s.slotBytes n) ≠ 0 → Leads .slotCheckDone s fun t => t.flag Reg.GANTRY.SLOT_CHECK_STATUS.BUSY = false ∧ t.rd Reg.GANTRY.SLOT_CHECK_STATUS.RESULT = imageCheck (s.slotBytes n) ∧ t.HasEvt 0x9000 16 ∧ Frame [Reg.GANTRY.SLOT_CHECK_STATUS.BUSY.off] [0x9000] { s with img := { s.img with checking := none } } t) ∧
  (∀ (s : State) (n : Nat), s.Sound → s.img.checking = some n → n < 512 → imageCheck (s.slotBytes n) = 0 → Leads .slotCheckDone s fun t => t.flag Reg.GANTRY.SLOT_CHECK_STATUS.BUSY = false ∧ t.rd Reg.GANTRY.SLOT_CHECK_STATUS.RESULT = 0 ∧ t.rd ⟨(Reg.GANTRY.SLOT_VALID.VALID (n / 32)).off, n % 32, 1⟩ = 1 ∧ t.HasEvt 0x9000 16 ∧ Frame [Reg.GANTRY.SLOT_CHECK_STATUS.BUSY.off, (Reg.GANTRY.SLOT_VALID.VALID (n / 32)).off] [0x9000] { s with img := { s.img with checking := none } } t) ∧
  (∀ (s : State) (addr : Nat), s.sdOnline = true → Leads (.storeFetchArrival addr .ok) s fun t => t = { s with out := [], freeCtr := s.freeCtr + 1, img := { s.img with prefetch := s.img.prefetch.map fun p => if p.addr = addr ∧ p.arrived.isNone then { p with arrived := some (if imageCheck (s.sdBytes addr 2048) = 0 then (0, some (parseImage (s.sdBytes addr 2048))) else (imageCheck (s.sdBytes addr 2048), none)) } else p } })

/-- Staging starts, completes, and is armed or found late at the deadline (R90, R91). Where the spec leaves it open, it rests on the model's choices (log 86, 169, 172). -/
def Obligations.StagingLeads : Prop :=
  (∀ (s : State) (errs corrs : List Nat) (f : NextFix), s.img.next = some f → f.held = false → s.img.staged = none → s.plumb.swapFix = false → Leads (.stagingStart errs corrs) s fun t => ((∃ g, t.img.staged = some g ∧ g.complete = false ∧ g.armed = false ∧ g.started = s.up ∧ g.cells = ((diffPos f.image.cells s.img.liveCells).filter s.pinned).foldl (fun c x => c ^^^ 2 ^ x) f.image.cells)) ∧ t.img = { s.img with staged := t.img.staged } ∧ t.dev = s.dev ∧ t.gan = s.gan ∧ t.seam = s.seam ∧ t.plumb = s.plumb ∧ t.boot = s.boot ∧ t.now = s.now) ∧
  (∀ (s : State) (g : Staged), s.Sound → s.img.staged = some g → g.complete = false → Leads .stagingComplete s fun t => t.rd Reg.GANTRY.STAGE_LAST.NS = min 65535 ((s.up - g.started) / ns) ∧ t.rd Reg.GANTRY.STAGE_MAX.NS = max (min 65535 ((s.up - g.started) / ns)) (s.rd Reg.GANTRY.STAGE_MAX.NS) ∧ Frame [Reg.GANTRY.STAGE_LAST.NS.off, Reg.GANTRY.STAGE_MAX.NS.off] [] { s with img := { s.img with staged := some { g with complete := true } } } t) ∧
  (∀ (s : State) (g : Staged), s.img.staged = some g → g.armed = false → g.complete = true → Leads .armingDeadline s fun t => t = { s with out := [], img := { s.img with staged := some { g with armed := true } } }) ∧
  (∀ (s : State) (g : Staged), s.Sound → s.img.staged = some g → g.armed = false → g.complete = false → g.marks = [] → Leads .armingDeadline s fun t => t.rd Reg.GANTRY.CNT_STAGE_LATE.COUNT = min (s.rd Reg.GANTRY.CNT_STAGE_LATE.COUNT + 1) (2 ^ 32 - 1) ∧ t.HasEvt 0x9000 19 ∧ Frame [Reg.GANTRY.CNT_STAGE_LATE.COUNT.off] [0x9000] { s with img := { s.img with staged := none }, inbox := s.inbox ++ [⟨12, s.rd Reg.GANTRY.BENCH_NUM.COUNT % 2 ^ 32, false, false⟩] } t)

/-- Commit points, bench boundaries and what a transition plays out (R93, R95, R98, R99, R100, R207). Where the spec leaves it open, it rests on the model's choices (log 55, 78, 83, 87, 179). -/
def Obligations.BenchesAndStrobesLead : Prop :=
  (∀ (s : State) (T i : Nat), s.Calm → s.gan.nextT = some T → s.gan.fixed = none → s.gstate = 1 → s.gan.first = (false, i) → s.gan.live = none → s.gan.jump = none → s.gan.ended = false → s.gan.resync = none → s.gan.resyncT = false → Leads .commitPoint s fun t => t.gan.fixed = some (s.entry i) ∧ t.gan.nextT = some T ∧ t.dev = s.dev ∧ t.now = s.now ∧ t.live = s.live ∧ t.seam = s.seam ∧ t.cmd = s.cmd) ∧
  (∀ (s : State) (T : Nat) (b : Bench), s.Sound → s.Calm → s.gan.nextT = some T → s.gan.fixed = some b → s.gstate = 2 → s.img.staged = none → s.plumb.swapFix = false → s.gan.ep = none → s.gan.stop = false → s.gan.resync = none → s.gan.resyncT = false → s.gan.period = [] → Leads .benchBoundary s fun t => t.gan.live = some b ∧ t.gan.fixed = none ∧ t.gan.lastT = T ∧ t.gan.nextT = some (T + max b.dur s.minBench * s.gran) ∧ t.granAcc = (s.now - T) % max 1 s.gran ∧ t.img.next = none ∧ t.img.live = s.img.live ∧ t.dev = s.dev ∧ t.rd Reg.GANTRY.BENCH_NUM.COUNT = (s.rd Reg.GANTRY.BENCH_NUM.COUNT + 1) % 2 ^ 32 ∧ t.rd Reg.GANTRY.CNT_SKIPPED.COUNT = min (s.rd Reg.GANTRY.CNT_SKIPPED.COUNT + 1) (2 ^ 32 - 1)) ∧
  (∀ (s : State) (T : Nat) (b : Bench) (g : Staged) (f : NextFix), s.Sound → s.Calm → s.gan.nextT = some T → s.gan.fixed = some b → s.gstate = 2 → s.img.staged = some g → g.armed = true → s.img.next = some f → s.plumb.swapFix = false → s.gan.ep = none → s.gan.stop = false → s.gan.resync = none → s.gan.resyncT = false → s.gan.period = [] → (s.dev = .armed ∨ s.dev = .run) → Leads .benchBoundary s fun t => t.gan.live = some b ∧ t.gan.fixed = none ∧ t.gan.lastT = T ∧ t.gan.nextT = some (T + max b.dur s.minBench * s.gran) ∧ t.gan.struck = true ∧ t.img.live = some f.image ∧ t.img.liveCells = g.cells ∧ t.img.release = g.release ∧ t.img.staged = none ∧ t.img.next = none ∧ t.dev = .run ∧ t.rd Reg.GANTRY.BENCH_NUM.COUNT = (s.rd Reg.GANTRY.BENCH_NUM.COUNT + 1) % 2 ^ 32 ∧ t.rd Reg.GANTRY.CNT_SKIPPED.COUNT = s.rd Reg.GANTRY.CNT_SKIPPED.COUNT ∧ t.rd Reg.GANTRY.CNT_TRANSITIONS.COUNT = min (s.rd Reg.GANTRY.CNT_TRANSITIONS.COUNT + 1) (2 ^ 32 - 1) ∧ t.rd Reg.GANTRY.LAST_FLIPS.FLIPS = g.flips % 2 ^ Reg.GANTRY.LAST_FLIPS.FLIPS.len) ∧
  (∀ (s : State) (g τ k shape : Nat), s.Sound → τ < 128 → k < 76 → s.img.groups.contains g = true → s.settling 1 τ = false → s.img.firing = [(htrKey τ k, shape)] → s.rd (groupFld 1 τ k) = g → s.flag (markFld 1 τ k) = true → Leads (.groupStrobe g) s fun t => t.rd (liveFld 1 τ k) = s.rd (shadowFld 1 τ k) ∧ t.flag (markFld 1 τ k) = false ∧ t.img = { s.img with firing := [], groups := s.img.groups.filter (· != g), swapped := s.img.swapped ++ (if isCell (keyEid (htrKey τ k)) && !s.img.swapped.contains (keyEid (htrKey τ k)) then [keyEid (htrKey τ k)] else []) } ∧ t.dev = s.dev ∧ t.gan = s.gan) ∧
  (∀ (s : State) (g : Nat), s.img.groups.contains g = false → Leads (.groupStrobe g) s fun t => t = { s with out := [] }) ∧
  (∀ (s : State) (τ k : Nat) (p : Play), s.Sound → τ < 128 → k < 76 → s.settling 0 τ = false → (s.drv.plays.find? (fun q => q.key == fastKey τ k) = some p) → Leads (.shapeEnd τ k) s fun t => t.rd (Reg.DRIVE.FAST_CODE.LIVE τ k) = p.new % 2 ^ 12 ∧ t.drv.plays = s.drv.plays.filter (fun q => q.key != fastKey τ k) ∧ t.img = s.img ∧ t.dev = s.dev ∧ t.gan = s.gan) ∧
  (∀ (s : State) (e : Nat), s.Sound → e < numElem → s.status e = stHold → s.reason e = whyHoldoff → s.img.live = none → s.clusterRun (clusterOf e) = true → s.playing (tileOf e) (chanOf e) = false → s.marked e = false → Leads (.holdoffEnd e) s fun t => t.status e = stAcquire ∧ t.reason e = 0 ∧ (t.elem e).offEnd = s.up ∧ (t.elem e).pairs = 0 ∧ t.img = s.img ∧ t.dev = s.dev ∧ t.gan = s.gan) ∧
  (∀ (s : State) (e : Nat), s.playing (tileOf e) (chanOf e) = true → Leads (.holdoffEnd e) s fun t => t = { s with out := [] }) ∧
  (∀ (s : State) (m : Image) (e : Nat), s.Sound → s.img.live = some m → s.img.release = [e] → e < 512 → s.awaits (shutEid 0 e) = true → s.awaits (shutEid 1 e) = true → s.status (shutEid 0 e) ≠ stQuar → s.status (shutEid 1 e) ≠ stQuar → s.tileMode (tileOf (shutEid 0 e)) ≠ 0 → s.tileMode (tileOf (shutEid 1 e)) ≠ 0 → Leads .blankRelease s fun t => t.playing (tileOf (shutEid 0 e)) (chanOf (shutEid 0 e)) = true ∧ t.playing (tileOf (shutEid 1 e)) (chanOf (shutEid 1 e)) = true ∧ t.img = { s.img with release := [] } ∧ t.dev = s.dev ∧ t.gan = s.gan)

/-- A solve is fetched, queued, answered with a record, or timed out (R51, R52, R62, R71). Where the spec leaves it open, it rests on the model's choices (log 18, 89, 90, 91, 92, 93, 164, 167, 168). -/
def Obligations.SeamLeads : Prop :=
  (∀ (s : State) (path : HostPath), s.Sound → s.Open 0xB058 → s.seam.fetch = none → Leads (.seamDoorbell path) s fun t => t.flag Reg.SEAM.STATUS.FETCHING = true ∧ t.seam.fetch = some (s.rd64 0xB048 / 64 * 64, s.rd64 0xB050 / 64 * 64) ∧ Frame [Reg.SEAM.STATUS.QUEUED.off] [] { s with seam := { s.seam with fetch := some (s.rd64 0xB048 / 64 * 64, s.rd64 0xB050 / 64 * 64) } } t) ∧
  (∀ (s : State) (a d : Nat), s.Sound → s.Calm → s.seam.fetch = some (a, d) → s.sdOnline = true → a + 1088 ≤ s.sdSize → s.seamOpen = true → s.seam.queue.length < 64 → solveFault (s.sdBytes a 1088) = none → firstDup (resolvePerm (parseSolve (s.sdBytes a 1088) (.reg d)).perm (match s.baseImage (parseSolve (s.sdBytes a 1088) (.reg d)).base with | some m => m.assignment | none => [])) 0 [] = none → s.slotPending (parseSolve (s.sdBytes a 1088) (.reg d)).target = false → Leads (.seamRequestAccept .ok) s fun t => t.seam = { s.seam with fetch := none, queue := s.seam.queue ++ [parseSolve (s.sdBytes a 1088) (.reg d)] } ∧ t.rd Reg.SEAM.STATUS.QUEUED = s.seam.queue.length + 1 ∧ t.flag Reg.SEAM.STATUS.FETCHING = false ∧ Frame [Reg.SEAM.STATUS.QUEUED.off] [0] { s with freeCtr := s.freeCtr + 1, seam := { s.seam with fetch := none, queue := s.seam.queue ++ [parseSolve (s.sdBytes a 1088) (.reg d)] } } t) ∧
  (∀ (s : State) (lane a : Nat) (l : LaneSt), s.Sound → ({ s with seam := { s.seam with lanes := [] } } : State).Calm → s.seam.lanes = [l] → l.lane = lane → lane < 4 → l.out.code = 0 → l.req.target = 0xFFFF → l.req.paths = 0 → l.req.dest = .reg a → s.sdOnline = true → a + 64 ≤ s.sdSize → Leads (.seamSolveComplete lane) s fun t => t.seam.lanes = [] ∧ t.rd Reg.SEAM.LAST_TAG.TAG = l.req.tag % 2 ^ 32 ∧ t.rd Reg.SEAM.LAST_RESULT.CODE = 0 ∧ t.rd Reg.SEAM.LAST_RESULT.LANE = lane ∧ t.HasEvt 0xB000 0 ∧ ((s.flag Reg.CMD.EQ_CFG.LOCATION = false → t.sd = memWrite s.sd a (solveRecord l.req.tag 0 l.flags lane l.out.flips l.out.changed l.out.circ l.out.pinned (min ((s.up - l.start) / ns) (2 ^ 32 - 1)) l.out.heat 0xFFFF l.req.base 0xFFFF s.now))) ∧ t.img = s.img ∧ t.dev = s.dev ∧ t.inbox = s.inbox ∧ t.gan = s.gan) ∧
  (∀ (s : State) (lane a : Nat) (l : LaneSt), s.Sound → ({ s with seam := { s.seam with lanes := [] } } : State).Calm → s.seam.lanes = [l] → l.lane = lane → lane < 4 → l.start + 200000 * ns ≤ s.up → l.req.dest = .reg a → s.sdOnline = true → a + 64 ≤ s.sdSize → Leads (.seamTimeout lane) s fun t => t.seam.lanes = [] ∧ t.rd Reg.SEAM.LAST_TAG.TAG = l.req.tag % 2 ^ 32 ∧ t.rd Reg.SEAM.LAST_RESULT.CODE = 3 ∧ t.rd Reg.SEAM.LAST_RESULT.LANE = lane ∧ t.HasEvt 0xB000 0 ∧ t.HasEvt 0xB000 1 ∧ t.HasEvt 0xB000 2 ∧ t.inbox = s.inbox ++ [⟨8, l.req.tag % 2 ^ 32, false, false⟩] ∧ t.img = s.img ∧ t.dev = s.dev ∧ t.gan = s.gan)

/-- Mode requests of a drive tile are obeyed or refused, and a short is latched (R108, R109). Where the spec leaves it open, it rests on the model's choices (log 51, 55, 56). -/
def Obligations.TileModesLead : Prop :=
  (∀ (s : State) (path : HostPath) (τ req : Nat), s.Sound → s.Calm → τ < 128 → s.Open (drivePg τ + 0x40) → req % 4 = 2 → s.tileMode τ = 1 → s.dev.live = true → Leads (.tileModeReq path τ req) s fun t => t.rd (Reg.DRIVE.TILE_STATUS.MODE τ) = 2 ∧ t.rd (Reg.DRIVE.TILE_CFG.MODE_REQ τ) = 2 ∧ t.flag (Reg.DRIVE.TILE_STATUS.SAFE_LOADED τ) = true ∧ ((∀ c ∈ tileChans, t.limited c.1 τ c.2 = s.flag (shortFld c.1 τ c.2))) ∧ t.rd (Reg.DRIVE.RB_STATUS.SLOT τ) = 0 ∧ t.dev = s.dev ∧ t.img = s.img ∧ t.gan = s.gan) ∧
  (∀ (s : State) (path : HostPath) (τ req : Nat), s.Sound → s.Calm → τ < 128 → s.Open (drivePg τ + 0x40) → req % 4 = 1 → s.tileMode τ = 2 → (s.dev = .armed ∨ s.dev = .safe ∨ s.tileCarries τ = false) → Leads (.tileModeReq path τ req) s fun t => t.rd (Reg.DRIVE.TILE_STATUS.MODE τ) = 1 ∧ t.rd (Reg.DRIVE.TILE_CFG.MODE_REQ τ) = 1 ∧ ((∀ e ∈ tileElems τ, s.status e ≠ stQuar → t.status e = stOff)) ∧ t.dev = s.dev ∧ t.img = s.img ∧ t.gan = s.gan) ∧
  (∀ (s : State) (path : HostPath) (τ req : Nat), s.Sound → s.Calm → τ < 128 → s.Open (drivePg τ + 0x40) → req % 4 = 2 → s.tileMode τ = 1 → s.dev.live = false → Leads (.tileModeReq path τ req) s fun t => t.rd (Reg.DRIVE.TILE_STATUS.MODE τ) = s.rd (Reg.DRIVE.TILE_STATUS.MODE τ) ∧ t.HasEvt (drivePg τ) 6 ∧ t.rd (Reg.HDR.PG_ERRCNT.LAST_OFFSET (drivePg τ)) = 0x40 ∧ Frame [drivePg τ + 0x20] [drivePg τ, 0] s t) ∧
  (∀ (s : State) (τ kind k : Nat), s.Sound → isChan kind τ k = true → s.tileMode τ = 1 → s.flag (shortFld kind τ k) = false → Leads (.driveShortDetect τ kind k) s fun t => t.flag (shortFld kind τ k) = true ∧ t.HasEvt (drivePg τ) 0 ∧ Frame [(shortFld kind τ k).off] [drivePg τ] { s with inbox := s.inbox ++ [⟨17, (if k = 76 then 0x80000000 + τ else 76 * τ + k) % 2 ^ 32, false, false⟩] } t)

/-- Host codes: shadow, live, dirty and refused, by the row of the access table (R113, R125). Where the spec leaves it open, it rests on the model's choices (log 56, 57). -/
def Obligations.DriveCodesLead : Prop :=
  (∀ (s : State) (path : HostPath) (τ kind k code : Nat), s.Sound → isChan kind τ k = true → s.Open (shadowFld kind τ k).off → s.hostRow τ = 2 → Leads (.hostShadowWrite path τ kind k code) s fun t => t.rd (shadowFld kind τ k) = code % 2 ^ (shadowFld kind τ k).len ∧ t.flag (dirtyFld kind τ k) = true ∧ t.rd (liveFld kind τ k) = s.rd (liveFld kind τ k) ∧ chanKey kind τ k ∈ t.drv.hostWr ∧ Frame [(shadowFld kind τ k).off, (dirtyFld kind τ k).off] [] { s with drv := { s.drv with hostWr := t.drv.hostWr } } t) ∧
  (∀ (s : State) (path : HostPath) (τ kind k code : Nat), s.Sound → isChan kind τ k = true → s.Open (shadowFld kind τ k).off → s.hostRow τ = 1 → s.settling kind τ = false → Leads (.hostShadowWrite path τ kind k code) s fun t => t.rd (shadowFld kind τ k) = code % 2 ^ (shadowFld kind τ k).len ∧ t.rd (liveFld kind τ k) = code % 2 ^ (shadowFld kind τ k).len ∧ t.flag (dirtyFld kind τ k) = s.flag (dirtyFld kind τ k) ∧ t.dev = s.dev ∧ t.img = s.img ∧ t.gan = s.gan) ∧
  (∀ (s : State) (path : HostPath) (τ kind k code : Nat), s.Sound → isChan kind τ k = true → s.Open (shadowFld kind τ k).off → s.hostRow τ = 0 → Leads (.hostShadowWrite path τ kind k code) s fun t => t.rd (shadowFld kind τ k) = s.rd (shadowFld kind τ k) ∧ t.rd (liveFld kind τ k) = s.rd (liveFld kind τ k) ∧ t.HasEvt (drivePg τ) 6 ∧ t.rd (Reg.DRIVE.CNT_REFUSED.COUNT τ) = min (s.rd (Reg.DRIVE.CNT_REFUSED.COUNT τ) + 1) (2 ^ 32 - 1) ∧ Frame [(Reg.DRIVE.CNT_REFUSED.COUNT τ).off, drivePg τ + 0x20] [drivePg τ] s t) ∧
  (∀ (s : State) (path : HostPath) (τ chan code : Nat), s.Sound → τ < 128 → chan < 76 → s.Open (drivePg τ + 0x50) → s.hostRow τ = 2 → (s.status (76 * τ + chan) = stOff ∨ s.status (76 * τ + chan) = stHold ∨ s.status (76 * τ + chan) = stQuar) → s.settling 0 τ = false → Leads (.hostDirectWrite path τ chan 0 code) s fun t => t.rd (Reg.DRIVE.FAST_CODE.LIVE τ chan) = code % 2 ^ 12 ∧ t.rd (Reg.DRIVE.FAST_CODE.SHADOW τ chan) = s.rd (Reg.DRIVE.FAST_CODE.SHADOW τ chan) ∧ t.flag (Reg.DRIVE.FAST_CFG.HOST_DIRTY τ chan) = s.flag (Reg.DRIVE.FAST_CFG.HOST_DIRTY τ chan) ∧ t.dev = s.dev ∧ t.img = s.img ∧ t.gan = s.gan) ∧
  (∀ (s : State) (path : HostPath) (τ chan code : Nat), s.Sound → τ < 128 → chan < 76 → s.Open (drivePg τ + 0x50) → s.hostRow τ = 2 → (s.status (76 * τ + chan) = stOff ∨ s.status (76 * τ + chan) = stHold ∨ s.status (76 * τ + chan) = stQuar) → s.settling 1 τ = false → Leads (.hostDirectWrite path τ chan 1 code) s fun t => t.rd (Reg.DRIVE.HTR_CODE.LIVE τ chan) = code % 2 ^ 16 ∧ t.rd (Reg.DRIVE.HTR_CODE.SHADOW τ chan) = s.rd (Reg.DRIVE.HTR_CODE.SHADOW τ chan) ∧ alGet t.drv.upd (htrKey τ chan) = some s.up ∧ alGet t.drv.held (htrKey τ chan) = none ∧ t.dev = s.dev ∧ t.img = s.img ∧ t.gan = s.gan) ∧
  (∀ (s : State) (path : HostPath) (τ kind k : Nat), s.Sound → isChan kind τ k = true → s.Open (drivePg τ + 0x28) → s.hostRow τ = 2 → s.flag (dirtyFld kind τ k) = true → s.settling kind τ = false → Leads (.commitCodes path τ) s fun t => t.rd (liveFld kind τ k) = s.rd (shadowFld kind τ k) ∧ t.flag (dirtyFld kind τ k) = false ∧ t.rd (shadowFld kind τ k) = s.rd (shadowFld kind τ k) ∧ t.dev = s.dev ∧ t.img = s.img ∧ t.gan = s.gan) ∧
  (∀ (s : State) (path : HostPath) (τ : Nat), s.Sound → τ < 128 → s.Open (drivePg τ + 0x28) → ((s.drv.plays.any fun p => p.key / 256 == τ) = false) → Leads (.commitShapes path τ) s fun t => t.rd (Reg.DRIVE.SHAPE_STATUS.BANK τ) = 1 - s.rd (Reg.DRIVE.SHAPE_STATUS.BANK τ) ∧ t.HasEvt (drivePg τ) 5 ∧ Frame [(Reg.DRIVE.SHAPE_STATUS.BANK τ).off] [drivePg τ] s t) ∧
  (∀ (s : State) (path : HostPath) (τ : Nat), s.Sound → τ < 128 → s.Open (drivePg τ + 0x28) → ((s.drv.plays.any fun p => p.key / 256 == τ) = true) → Leads (.commitShapes path τ) s fun t => t.flag (Reg.DRIVE.SHAPE_STATUS.SWAP_PENDING τ) = true ∧ t.rd (Reg.DRIVE.SHAPE_STATUS.BANK τ) = s.rd (Reg.DRIVE.SHAPE_STATUS.BANK τ) ∧ Frame [(Reg.DRIVE.SHAPE_STATUS.BANK τ).off] [] s t) ∧
  (∀ (s : State) (path : HostPath) (τ v : Nat), s.Sound → τ < 128 → s.Open (drivePg τ + 0x64) → s.flag (Reg.DRIVE.SHAPE_ADDR.AUTOINC τ) = false → Leads (.shapeDataAccess path τ (some v)) s fun t => t.drv.shapes = tabPut s.drv.shapes 0x4000 (s.shapeAddr τ) (v % 2 ^ 16) ∧ Frame [] [] { s with drv := { s.drv with shapes := tabPut s.drv.shapes 0x4000 (s.shapeAddr τ) (v % 2 ^ 16) } } t) ∧
  (∀ (s : State) (path : HostPath) (τ : Nat), s.Sound → τ < 128 → s.dev ≠ .off → s.pageOn (drivePg τ) = true → s.flag (Reg.DRIVE.SHAPE_ADDR.AUTOINC τ) = true → Leads (.shapeDataAccess path τ none) s fun t => t.out = [.word path (drivePg τ + 0x64) (BitVec.ofNat 32 (tabGet s.drv.shapes 0x4000 (s.shapeAddr τ)))] ∧ 64 * t.rd (Reg.DRIVE.SHAPE_ADDR.SHAPE τ) + t.rd (Reg.DRIVE.SHAPE_ADDR.POINT τ) = (64 * s.rd (Reg.DRIVE.SHAPE_ADDR.SHAPE τ) + s.rd (Reg.DRIVE.SHAPE_ADDR.POINT τ) + 1) % 1024 ∧ Frame [(Reg.DRIVE.SHAPE_ADDR.POINT τ).off] [] s t)

/-- Direct updates, pacing, deglitching, readback and range changes (R112, R116, R118, R121). Where the spec leaves it open, it rests on the model's choices (log 55, 57, 58, 59, 170, 193). -/
def Obligations.DriveUpdatesLead : Prop :=
  (∀ (s : State) (τ k code : Nat), s.Sound → isChan 0 τ k = true → s.clusterTested (τ / 32) = false → s.tileMode τ ≠ 0 → s.rangeCh τ = none → s.playing τ k = false → Leads (.directUpdate τ 0 k code false .ok) s fun t => t.rd (Reg.DRIVE.FAST_CODE.LIVE τ k) = code % 2 ^ 12 ∧ t.rd (Reg.DRIVE.CNT_DIRECT.COUNT τ) = min (s.rd (Reg.DRIVE.CNT_DIRECT.COUNT τ) + 1) (2 ^ 32 - 1) ∧ t.dev = s.dev ∧ t.img = s.img ∧ t.gan = s.gan) ∧
  (∀ (s : State) (τ k code t0 : Nat), s.Sound → isChan 1 τ k = true → s.clusterTested (τ / 32) = false → s.tileMode τ ≠ 0 → s.rangeCh τ = none → alGet s.drv.upd (htrKey τ k) = some t0 → s.up < t0 + us → alGet s.drv.held (htrKey τ k) = none → Leads (.directUpdate τ 1 k code false .ok) s fun t => alGet t.drv.held (htrKey τ k) = some code ∧ t.flag (Reg.DRIVE.HTR_CFG.HELD τ k) = true ∧ t.rd (Reg.DRIVE.CNT_PACED.COUNT τ) = min (s.rd (Reg.DRIVE.CNT_PACED.COUNT τ) + 1) (2 ^ 32 - 1) ∧ t.rd (Reg.DRIVE.HTR_CODE.LIVE τ k) = s.rd (Reg.DRIVE.HTR_CODE.LIVE τ k) ∧ t.dev = s.dev ∧ t.img = s.img ∧ t.gan = s.gan) ∧
  (∀ (s : State) (τ kind k code : Nat) (beaten : Bool), isChan kind τ k = true → s.clusterTested (τ / 32) = false → Leads (.directUpdate τ kind k code beaten .uncorrectable) s fun t => t = { s with out := [], inbox := s.inbox ++ [⟨4 + τ / 32, τ % 2 ^ 32, false, false⟩] }) ∧
  (∀ (s : State) (τ kind k code : Nat), isChan kind τ k = true → Leads (.directUpdate τ kind k code true .ok) s fun t => t = { s with out := [] }) ∧
  (∀ (s : State) (τ kind k code : Nat) (beaten : Bool) (bus : Ecc), s.clusterTested (τ / 32) = true → Leads (.directUpdate τ kind k code beaten bus) s fun t => t = { s with out := [] }) ∧
  (∀ (s : State) (τ k c : Nat), s.Sound → isChan 1 τ k = true → s.settling 1 τ = false → alGet s.drv.held (htrKey τ k) = some c → Leads (.pacedUpdateRelease τ k) s fun t => t.rd (Reg.DRIVE.HTR_CODE.LIVE τ k) = c % 2 ^ 16 ∧ t.flag (Reg.DRIVE.HTR_CFG.HELD τ k) = false ∧ alGet t.drv.held (htrKey τ k) = none ∧ alGet t.drv.upd (htrKey τ k) = some s.up ∧ t.dev = s.dev ∧ t.img = s.img ∧ t.gan = s.gan) ∧
  (∀ (s : State) (τ kind k : Nat), Leads (.deglitchRelease τ kind k) s fun t => t = { s with out := [], drv := { s.drv with degl := alDel s.drv.degl (chanKey kind τ k) } } ∧ t.output kind τ k = s.rd (liveFld kind τ k)) ∧
  (∀ (s : State) (τ : Nat) (v : Int), s.Sound → τ < 128 → s.tileMode τ = 2 → s.rd (Reg.DRIVE.RB_STATUS.SLOT τ) < 159 → Leads (.readbackSample τ v) s fun t => t.rd (Reg.DRIVE.RB_STATUS.SLOT τ) = s.rd (Reg.DRIVE.RB_STATUS.SLOT τ) + 1 ∧ t.rd (Reg.DRIVE.RB_LAST.VALUE τ (s.rd (Reg.DRIVE.RB_STATUS.SLOT τ))) = unsgn 16 v ∧ t.dev = s.dev ∧ t.img = s.img ∧ t.gan = s.gan) ∧
  (∀ (s : State) (path : HostPath) (τ : Nat) (fast htr : Bool), s.Sound → τ < 128 → s.Open (drivePg τ + 0x48) → s.rd (Reg.DRIVE.RANGE.FAST_RANGE τ) ≠ b2n fast → s.rd (Reg.DRIVE.RANGE.HTR_RANGE τ) = b2n htr → s.rangeRefusal τ (s.commitNear false) = none → Leads (.rangeChangeGo path τ fast htr) s fun t => t.rd (Reg.DRIVE.RANGE_STATUS.RESULT τ) = 0 ∧ t.rd (Reg.DRIVE.RANGE_STATUS.REASON τ) = 0 ∧ t.rd (Reg.DRIVE.RANGE.FAST_RANGE τ) = s.rd (Reg.DRIVE.RANGE.FAST_RANGE τ) ∧ Frame [(Reg.DRIVE.RANGE.REQ_FAST τ).off, (Reg.DRIVE.RANGE_STATUS.RESULT τ).off] [] { s with drv := { s.drv with range := s.drv.range ++ [⟨τ, true, false, false, false⟩] } } t) ∧
  (∀ (s : State) (path : HostPath) (τ r : Nat) (fast htr : Bool), s.Sound → τ < 128 → s.Open (drivePg τ + 0x48) → (s.rd (Reg.DRIVE.RANGE.FAST_RANGE τ) ≠ b2n fast ∨ s.rd (Reg.DRIVE.RANGE.HTR_RANGE τ) ≠ b2n htr) → s.rangeRefusal τ (s.commitNear (s.rd (Reg.DRIVE.RANGE.HTR_RANGE τ) != b2n htr)) = some r → Leads (.rangeChangeGo path τ fast htr) s fun t => t.rd (Reg.DRIVE.RANGE_STATUS.RESULT τ) = 2 ∧ t.rd (Reg.DRIVE.RANGE_STATUS.REASON τ) = r ∧ t.HasEvt (drivePg τ) 4 ∧ t.drv = s.drv ∧ Frame [(Reg.DRIVE.RANGE.REQ_FAST τ).off, (Reg.DRIVE.RANGE_STATUS.RESULT τ).off] [drivePg τ] s t) ∧
  (∀ (s : State) (τ : Nat) (r : RangeCh), s.Sound → τ < 128 → s.rangeCh τ = some r → r.fast = true → r.htr = false → Leads (.rangeSettleEnd τ 0) s fun t => t.rangeCh τ = none ∧ t.rd (Reg.DRIVE.RANGE_STATUS.RESULT τ) = 1 ∧ t.HasEvt (drivePg τ) 3 ∧ t.dev = s.dev ∧ t.img = s.img ∧ t.gan = s.gan)

/-- Converter inputs, modes, ranges and results (R129, R130, R131, R132). Where the spec leaves it open, it rests on the model's choices (log 62, 63, 64, 175). -/
def Obligations.ConvertersLead : Prop :=
  (∀ (s : State) (n sel : Nat), s.Sound → n < 624 → s.Open (monPg (n / 8) + 0x44 + 0x20 * (n % 8)) → s.loopMode n = false → s.mon.sub ≤ 24 → Leads (.chselWrite n false sel) s fun t => t.rd (Reg.MONITOR.CHSEL.SEL (n / 8) (n % 8)) = sel % 32 ∧ t.conv n = { s.conv n with writes := (s.conv n).writes ++ [⟨s.up, s.convRegs n, false, true⟩] } ∧ Frame [(Reg.MONITOR.CHSEL.SEL (n / 8) (n % 8)).off] [] { s with mon := { s.mon with convs := t.mon.convs } } t) ∧
  (∀ (s : State) (n sel : Nat), s.Sound → n < 624 → s.Open (monPg (n / 8) + 0x44 + 0x20 * (n % 8)) → s.loopMode n = true → Leads (.chselWrite n false sel) s fun t => t.rd (Reg.MONITOR.CHSEL.SEL (n / 8) (n % 8)) = s.rd (Reg.MONITOR.CHSEL.SEL (n / 8) (n % 8)) ∧ t.rd (Reg.MONITOR.CNT_REFUSED.COUNT (n / 8)) = min (s.rd (Reg.MONITOR.CNT_REFUSED.COUNT (n / 8)) + 1) (2 ^ 32 - 1) ∧ Frame [(Reg.MONITOR.CNT_REFUSED.COUNT (n / 8)).off, monPg (n / 8) + 0x20] [] s t) ∧
  (∀ (s : State) (n sel : Nat), s.Sound → n < 624 → s.loopMode n = false → Leads (.chselWrite n true sel) s fun t => t.rd (Reg.MONITOR.CNT_LOOP_DISCARD.COUNT (n / 8)) = min (s.rd (Reg.MONITOR.CNT_LOOP_DISCARD.COUNT (n / 8)) + 1) (2 ^ 32 - 1) ∧ Frame [(Reg.MONITOR.CNT_LOOP_DISCARD.COUNT (n / 8)).off] [] s t) ∧
  (∀ (s : State) (path : HostPath) (n mode : Nat), s.Sound → s.Calm → n < 624 → s.Open (monPg (n / 8) + 0x40 + 0x20 * (n % 8)) → (mode % 4 = 0 ∨ mode % 4 = 3) → s.plumb.run = none → Leads (.convModeWrite path n mode) s fun t => t.rd (Reg.MONITOR.CONV_CTRL.MODE (n / 8) (n % 8)) = mode % 4 ∧ t.conv n = { s.conv n with writes := (s.conv n).writes ++ [⟨s.up, s.convRegs n, decide (24 < s.mon.sub), false⟩] } ∧ Frame [(Reg.MONITOR.CONV_CTRL.MODE (n / 8) (n % 8)).off] [0] { s with mon := { s.mon with convs := t.mon.convs } } t) ∧
  (∀ (s : State) (path : HostPath) (n mode : Nat), s.Sound → s.Calm → n < 624 → s.Open (monPg (n / 8) + 0x40 + 0x20 * (n % 8)) → s.plumb.run = none → Leads (.convModeWrite path n mode) s fun t => t.rd (Reg.MONITOR.CONV_CTRL.MODE (n / 8) (n % 8)) = mode % 4 ∧ t.dev = s.dev ∧ t.img = s.img ∧ t.gan = s.gan) ∧
  (∀ (s : State) (path : HostPath) (mid r : Nat), s.Sound → mid < 19968 → s.Open (monPg (mid / 256) + 0x800 + 4 * (mid % 256)) → s.monRange mid ≠ r % 4 → Leads (.monRangeWrite path mid r) s fun t => t.monRange mid = r % 4 ∧ t.rd (Reg.MONITOR.MON_CFG.LOW_COUNT (mid / 256) (mid % 256)) = 0 ∧ alGet t.mon.settle mid = some (max (s.up + 400 * ns) ((alGet s.mon.settle mid).getD 0)) ∧ Frame [monPg (mid / 256) + 0x800 + 4 * (mid % 256)] [] { s with mon := { s.mon with settle := t.mon.settle } } t) ∧
  (∀ (s : State) (n raw : Nat) (bus : Ecc), s.Sound → n < 624 → s.convRunning n = true → s.rd (Reg.HDR.PG_STATE.STATE (monPg (n / 8))) ≠ 3 → bus ≠ .uncorrectable → (s.conv n).range < 4 → Leads (.conversionEnd n raw bus) s fun t => t.rd (Reg.MONITOR.LAST_RESULT.VALUE (n / 8) (n % 8)) = (s.resultOf n (raw % 2 ^ 14)).value ∧ t.rd (Reg.MONITOR.LAST_RESULT.RANGE (n / 8) (n % 8)) = (s.conv n).range ∧ t.rd (Reg.MONITOR.LAST_RESULT.INPUT (n / 8) (n % 8)) = (s.conv n).input % 32 ∧ (t.conv n).start = s.up ∧ (t.conv n).period = s.mon.period ∧ (t.conv n).lost = [] ∧ tabGet t.drv.busCorr 0 (monCluster (n / 8)) = tabGet s.drv.busCorr 0 (monCluster (n / 8)) + b2n (bus == .corrected) ∧ t.dev = s.dev ∧ t.gan = s.gan) ∧
  (∀ (s : State) (n raw : Nat), s.Sound → n < 624 → s.convRunning n = true → s.rd (Reg.HDR.PG_STATE.STATE (monPg (n / 8))) ≠ 3 → Leads (.conversionEnd n raw .uncorrectable) s fun t => t.rdW (Reg.MONITOR.LAST_RESULT.VALUE (n / 8) (n % 8)).off = s.rdW (Reg.MONITOR.LAST_RESULT.VALUE (n / 8) (n % 8)).off ∧ t.inbox = s.inbox ++ [⟨4 + monCluster (n / 8), 256 + n / 8, false, false⟩] ∧ (t.conv n).start = s.up ∧ (t.conv n).period = s.mon.period ∧ t.dev = s.dev ∧ t.img = s.img ∧ t.gan = s.gan) ∧
  (∀ (s : State) (n raw : Nat), s.Sound → n < 624 → s.convRunning n = true → s.rd (Reg.HDR.PG_STATE.STATE (monPg (n / 8))) = 3 → (s.conv n).range < 4 → Leads (.conversionEnd n raw .ok) s fun t => t.rd (Reg.MONITOR.LAST_RESULT.VALUE (n / 8) (n % 8)) = (s.resultOf n (raw % 2 ^ 14)).value ∧ t.convRunning n = false ∧ t.conv n = s.conv n ∧ t.dev = s.dev ∧ t.gan = s.gan) ∧
  (∀ (s : State) (n sel mid cls : Nat) (turn : Bool), s.Sound → n < 624 → s.loopMode n = true → s.mon.sub ≤ 24 → s.dev.live = true → s.clusterSteers (monCluster (n / 8)) = true → s.attend n = some (mid, cls, turn) → Leads (.chselWrite n true sel) s fun t => t.rd (Reg.MONITOR.CHSEL.SEL (n / 8) (n % 8)) = mid % 32 ∧ alGet t.bram.asked mid = some cls ∧ t.conv n = { s.conv n with writes := (s.conv n).writes ++ [⟨s.up, s.convRegs n, false, true⟩] } ∧ Frame [(Reg.MONITOR.CHSEL.SEL (n / 8) (n % 8)).off] [] { s with bram := t.bram, mon := { s.mon with convs := t.mon.convs } } t) ∧
  (∀ (s : State) (n sel : Nat), s.Sound → n < 624 → s.Open (monPg (n / 8) + 0x44 + 0x20 * (n % 8)) → s.loopMode n = false → 24 < s.mon.sub → Leads (.chselWrite n false sel) s fun t => t.rd (Reg.MONITOR.CHSEL.SEL (n / 8) (n % 8)) = sel % 32 ∧ t.rd (Reg.MONITOR.CNT_CHSEL_LATE.COUNT (n / 8) (n % 8)) = min (s.rd (Reg.MONITOR.CNT_CHSEL_LATE.COUNT (n / 8) (n % 8)) + 1) (2 ^ (Reg.MONITOR.CNT_CHSEL_LATE.COUNT (n / 8) (n % 8)).len - 1) ∧ t.conv n = { s.conv n with writes := (s.conv n).writes ++ [⟨s.up, s.convRegs n, true, false⟩] } ∧ Frame [(Reg.MONITOR.CHSEL.SEL (n / 8) (n % 8)).off, (Reg.MONITOR.CNT_CHSEL_LATE.COUNT (n / 8) (n % 8)).off] [] { s with mon := { s.mon with convs := t.mon.convs } } t)

/-- Capture rings are enabled, run, synchronised, flushed, written and read (R141, R142, R145, R146, R148). Where the spec leaves it open, it rests on the model's choices (log 66, 173, 176). -/
def Obligations.CaptureLeads : Prop :=
  (∀ (s : State) (r : Nat), s.Sound → r < 16 → (∀ q ∈ List.range 16, s.capRunning q = decide (q = r)) → s.mon.batch = [] → s.capLevel < 1024 → s.sdOnline = true → s.capFill r + (s.ring r).waiting + 8 ≤ s.capSize r → (s.ring r).part.length < 56 → Leads .tagWrap s fun t => (t.ring r).part = (s.ring r).part ++ syncRecord s.now ∧ t.mon.eraAt = s.now ∧ (t.ring r).bursts = (s.ring r).bursts ∧ t.rd Reg.CAPTURE.CNT_SYNC.COUNT = min (s.rd Reg.CAPTURE.CNT_SYNC.COUNT + 1) (2 ^ 32 - 1) ∧ Frame [Reg.CAPTURE.CNT_SYNC.COUNT.off, Reg.CAPTURE.CAP_STATUS.BUF_LEVEL.off] [] { s with mon := t.mon } t) ∧
  (∀ (s : State) (path : HostPath) (r : Nat), s.Sound → r < 16 → s.Open (0xD400 + 0x40 * r) → s.flag (Reg.CAPTURE.RING_CTRL.ENABLE r) = false → 12 ≤ s.rd (Reg.CAPTURE.RING_CTRL.SIZE_LOG2 r) → s.rd (Reg.CAPTURE.RING_CTRL.SIZE_LOG2 r) ≤ 34 → s.inPartition 2 (s.rd64 (ringOff r + 4)) (2 ^ s.rd (Reg.CAPTURE.RING_CTRL.SIZE_LOG2 r)) = true → Leads (.captureRingEnable path r) s fun t => t.flag (Reg.CAPTURE.RING_CTRL.ENABLE r) = true ∧ Frame [(Reg.CAPTURE.RING_CTRL.ENABLE r).off] [] s t) ∧
  (∀ (s : State) (path : HostPath) (r : Nat), s.Sound → r < 16 → s.Open (0xD400 + 0x40 * r) → s.flag (Reg.CAPTURE.RING_CTRL.ENABLE r) = false → s.inPartition 2 (s.rd64 (ringOff r + 4)) (2 ^ s.rd (Reg.CAPTURE.RING_CTRL.SIZE_LOG2 r)) = false → Leads (.captureRingEnable path r) s fun t => t.flag (Reg.CAPTURE.RING_CTRL.ENABLE r) = false ∧ t.HasEvt 0xD000 18 ∧ Frame [0xD020] [0xD000] s t) ∧
  (∀ (s : State) (path : HostPath) (r : Nat), s.Sound → r < 16 → s.Open (0xD400 + 0x40 * r) → s.flag (Reg.CAPTURE.RING_CTRL.RUN r) = false → s.flag (Reg.CAPTURE.RING_CTRL.ENABLE r) = true → s.pageRun 0xD000 = true → s.mon.batch = [] → s.capLevel < 1024 → s.sdOnline = true → s.capFill r + (s.ring r).waiting + 8 ≤ s.capSize r → (s.ring r).part = [] → Leads (.captureRunWrite path r true) s fun t => t.flag (Reg.CAPTURE.RING_CTRL.RUN r) = true ∧ t.capRunning r = true ∧ (t.ring r).runAt = s.up ∧ (t.ring r).stopAt = none ∧ (t.ring r).part = syncRecord s.mon.eraAt ∧ Frame [(Reg.CAPTURE.RING_CTRL.RUN r).off, Reg.CAPTURE.CNT_SYNC.COUNT.off, Reg.CAPTURE.CAP_STATUS.BUF_LEVEL.off] [] { s with mon := t.mon } t) ∧
  (∀ (s : State) (path : HostPath) (r : Nat), s.Sound → r < 16 → s.Open (0xD400 + 0x40 * r) → s.flag (Reg.CAPTURE.RING_CTRL.RUN r) = true → s.mon.batch = [] → Leads (.captureRunWrite path r false) s fun t => t.flag (Reg.CAPTURE.RING_CTRL.RUN r) = false ∧ t.capRunning r = false ∧ (t.ring r).stopAt = some s.up ∧ Frame [(Reg.CAPTURE.RING_CTRL.RUN r).off] [] { s with mon := t.mon } t) ∧
  (∀ (s : State) (r : Nat), s.Sound → r < 16 → s.mon.batch = [] → (s.ring r).part ≠ [] → Leads (.captureFlush r) s fun t => (t.ring r).part = [] ∧ (t.ring r).bursts = (s.ring r).bursts ++ [(s.ring r).part] ∧ t = { s with out := [], mon := { s.mon with rings := t.mon.rings } }) ∧
  (∀ (s : State) (r : Nat) (b : List Byte) (rest : List (List Byte)), s.Sound → r < 16 → (s.ring r).bursts = b :: rest → s.capFill r + b.length ≤ s.capSize r → Leads (.captureBurstWritten r) s fun t => (t.ring r).bursts = rest ∧ t.capWr r = (s.capWr r + b.length) % (2 * s.capSize r) ∧ t.rd (Reg.CAPTURE.CNT_RECORDS.COUNT r) = min (s.rd (Reg.CAPTURE.CNT_RECORDS.COUNT r) + b.length / 8) (2 ^ 32 - 1) ∧ t.capRd r = s.capRd r ∧ t.dev = s.dev ∧ t.img = s.img ∧ t.drv = s.drv ∧ t.gan = s.gan) ∧
  (∀ (s : State) (path : HostPath) (r v : Nat), s.Sound → r < 16 → s.Open (0xD414 + 0x40 * r) → v < 2 * s.capSize r → v < 2 ^ 35 → (v + 2 * s.capSize r - s.capRd r % (2 * s.capSize r)) % (2 * s.capSize r) ≤ s.capFill r → Leads (.captureRdPtrWrite path r v) s fun t => t.capRd r = v ∧ t.capWr r = s.capWr r ∧ Frame [0xD414 + 0x40 * r, 0xD418 + 0x40 * r, (Reg.CAPTURE.RING_STATUS.EMPTY r).off] [] s t)

/-- Probe pairs, estimates, saturation and quarantine of element loops (R156, R162, R166, R167, R168, R178). Where the spec leaves it open, it rests on the model's choices (log 17, 51, 67, 69, 72, 74, 171, 174). -/
def Obligations.ElementLoopsLead : Prop :=
  (∀ (s : State) (e : Nat) (pa pb : Int), s.Sound → e < numElem → s.working e = true → s.probes e = true → (s.elem e).probe = none → s.htrReady e s.up = true → s.clusterRun (clusterOf e) = true → s.inputs e = some (pa, pb) → s.tileMode (tileOf e) ≠ 0 → s.rangeCh (tileOf e) = none → s.playing (tileOf e) (chanOf e) = false → Leads (.probePairStep e 0) s fun t => (t.elem e).probe.map (fun p => (p.step, p.delta, p.base, p.tap)) = some (1, s.probeDelta e, s.fastLive e, s.weakTap e pa pb) ∧ t.fastLive e = unsgn 12 (clampFast (sgn 12 (s.fastLive e) + s.probeDelta e)) ∧ t.status e = s.status e ∧ t.dev = s.dev ∧ t.img = s.img ∧ t.gan = s.gan) ∧
  (∀ (s : State) (e : Nat) (p : ProbeSt), s.Sound → e < numElem → (s.elem e).probe = some p → p.step = 2 → s.tileMode (tileOf e) ≠ 0 → s.rangeCh (tileOf e) = none → s.playing (tileOf e) (chanOf e) = false → Leads (.probePairStep e 1) s fun t => (t.elem e).probe.map (fun q => (q.step, q.delta, q.base, q.plus)) = some (3, p.delta, p.base, p.plus) ∧ t.fastLive e = unsgn 12 (clampFast (sgn 12 p.base - p.delta)) ∧ t.status e = s.status e ∧ t.dev = s.dev ∧ t.img = s.img ∧ t.gan = s.gan) ∧
  (∀ (s : State) (e : Nat) (p : ProbeSt), s.Sound → e < numElem → (s.elem e).probe = some p → p.step = 4 → s.tileMode (tileOf e) ≠ 0 → s.rangeCh (tileOf e) = none → s.playing (tileOf e) (chanOf e) = false → Leads (.probePairStep e 2) s fun t => (t.elem e).probe = none ∧ (t.elem e).pairs = (s.elem e).pairs + 1 ∧ (t.elem e).sum = (s.elem e).sum + (p.plus - p.minus) ∧ t.fastLive e = unsgn 12 (clampFast (sgn 12 p.base)) ∧ t.status e = s.status e ∧ t.dev = s.dev ∧ t.img = s.img ∧ t.gan = s.gan) ∧
  (∀ (s : State) (e : Nat) (pa pb : Int), s.Sound → e < numElem → s.working e = true → s.probes e = true → s.clusterRun (clusterOf e) = true → 0 < (s.elem e).pairs → s.pairsNeeded e ≤ (s.elem e).pairs → s.inputs e = some (pa, pb) → pa ≠ pb → s.blindWhy e pa pb = none → Leads (.estimate e) s fun t => t.rd (Reg.ELEM.ELEM_GRAD.G e) = unsgn 16 (clampI (-32768) 32767 (s.gradient e pa pb)) ∧ (t.elem e).pairs = 0 ∧ (t.elem e).sum = 0 ∧ ((t.status e = stTrack ∨ t.status e = stCorrect ∨ t.status e = stSat)) ∧ t.rd (Reg.BRAMBLE.CNT_ESTIMATES.COUNT (clusterOf e)) = min (s.rd (Reg.BRAMBLE.CNT_ESTIMATES.COUNT (clusterOf e)) + 1) (2 ^ 32 - 1) ∧ t.dev = s.dev ∧ t.img = s.img ∧ t.gan = s.gan) ∧
  (∀ (s : State) (e : Nat), s.Sound → e < numElem → s.status e = stHold → s.reason e = whyWrap → s.clusterRun (clusterOf e) = true → Leads (.wrapSettleEnd e) s fun t => t.status e = stAcquire ∧ t.reason e = 0 ∧ t.drv = s.drv ∧ t.dev = s.dev ∧ t.img = s.img ∧ t.gan = s.gan) ∧
  (∀ (s : State) (e : Nat), s.Sound → e < numElem → s.status e = stSat → (s.elem e).satRaised = false → Leads (.loopSaturated e) s fun t => (t.elem e).satRaised = true ∧ t.HasEvt (bramPg (clusterOf e)) 1 ∧ t.status e = stSat ∧ Frame [] [bramPg (clusterOf e)] { s with inbox := s.inbox ++ [⟨20, e % 2 ^ 32, false, false⟩], bram := t.bram } t) ∧
  (∀ (s : State) (path : HostPath) (e : Nat), s.Sound → s.Calm → e < numElem → s.Open (0x200000 + 16 * e) → s.rd (Reg.HDR.PG_STATE.STATE (bramPg (clusterOf e))) ≠ 1 → s.status e ≠ stOff → s.status e ≠ stQuar → s.img.staged = none → Leads (.quarSet path e) s fun t => t.status e = stQuar ∧ t.HasEvt (bramPg (clusterOf e)) 5 ∧ t.flag (Reg.ELEM.ELEM_CTRL.EN e) = s.flag (Reg.ELEM.ELEM_CTRL.EN e) ∧ t.dev = s.dev ∧ t.img = s.img ∧ t.gan = s.gan) ∧
  (∀ (s : State) (path : HostPath) (e : Nat), s.Sound → s.Calm → e < numElem → s.Open (0x200000 + 16 * e) → s.dev.live = true → s.status e = stQuar → bitOf (s.rdW (0x200000 + 16 * e)).toNat 1 = false → s.flag (Reg.ELEM.ELEM_CTRL.EN e) = true → s.tileMode (tileOf e) = 2 → s.clusterRun (clusterOf e) = true → Leads (.quarClr path e) s fun t => t.status e = stAcquire ∧ t.drv = s.drv ∧ t.dev = s.dev ∧ t.img = s.img ∧ t.gan = s.gan) ∧
  (∀ (s : State) (path : HostPath) (e : Nat), s.Sound → s.Calm → e < numElem → s.Open (0x200000 + 16 * e) → s.rd (Reg.HDR.PG_STATE.STATE (bramPg (clusterOf e))) ≠ 1 → s.dev.live = true → s.status e = stQuar → bitOf (s.rdW (0x200000 + 16 * e)).toNat 1 = false → (s.flag (Reg.ELEM.ELEM_CTRL.EN e) = false ∨ s.tileMode (tileOf e) ≠ 2) → Leads (.quarClr path e) s fun t => t.status e = stOff ∧ t.drv = s.drv ∧ t.dev = s.dev ∧ t.img = s.img ∧ t.gan = s.gan) ∧
  (∀ (s : State) (path : HostPath) (e : Nat), s.Sound → s.Calm → e < numElem → s.Open (0x200000 + 16 * e) → s.dev.live = true → s.status e = stOff → bitOf (s.rdW (0x200000 + 16 * e)).toNat 1 = false → bitOf (s.rdW (0x200000 + 16 * e)).toNat 2 = false → s.flag (Reg.ELEM.ELEM_CTRL.EN e) = false → s.tileMode (tileOf e) = 2 → s.clusterRun (clusterOf e) = true → Leads (.elemEnWrite path e true) s fun t => t.flag (Reg.ELEM.ELEM_CTRL.EN e) = true ∧ t.status e = stAcquire ∧ t.drv = s.drv ∧ t.dev = s.dev ∧ t.img = s.img ∧ t.gan = s.gan) ∧
  (∀ (s : State) (path : HostPath) (e : Nat), s.Sound → s.Calm → e < numElem → s.Open (0x200000 + 16 * e) → s.rd (Reg.HDR.PG_STATE.STATE (bramPg (clusterOf e))) ≠ 1 → s.status e ≠ stQuar → bitOf (s.rdW (0x200000 + 16 * e)).toNat 1 = false → bitOf (s.rdW (0x200000 + 16 * e)).toNat 2 = false → s.flag (Reg.ELEM.ELEM_CTRL.EN e) = true → Leads (.elemEnWrite path e false) s fun t => t.flag (Reg.ELEM.ELEM_CTRL.EN e) = false ∧ t.status e = stOff ∧ t.dev = s.dev ∧ t.img = s.img ∧ t.gan = s.gan)

/-- Shutter measurements, ballast ramps, loop guards and epochs (R172, R175, R181, R182, R183). Where the spec leaves it open, it rests on the model's choices (log 61, 68, 70, 71, 76, 163, 177, 178). -/
def Obligations.ShuttersAndBallastLead : Prop :=
  (∀ (s : State) (e : Nat) (thru drop : Int), s.Sound → e < numElem → isCell e = false → s.working e = true → s.clusterRun (clusterOf e) = true → s.shutSeen e = some (thru, drop) → ((s.inputs e).all (fun p => s.light (clusterOf e) p.1) = true) → s.flag (Reg.ELEM.ELEM_STATUS.SH_NULL e) = false → (s.elem e).soft = true → Leads (.shutterMeasurement e) s fun t => t.rd (Reg.ELEM.ELEM_METRIC.M0 e) = shutA thru drop % 2 ^ 16 ∧ t.rd (Reg.ELEM.ELEM_METRIC.M1 e) = min (shutA thru drop) 10240 ∧ (t.elem e).aw = min (shutA thru drop) 10240 ∧ (t.elem e).soft = false ∧ (t.elem e).measAt = s.up ∧ t.dev = s.dev ∧ t.img = s.img ∧ t.gan = s.gan) ∧
  (∀ (s : State) (b tg : Nat), s.Sound → b < 128 → alGet s.bram.ramps b = some tg → s.clusterRun (b / 32) = true → s.tileMode b ≠ 0 → s.rangeCh b = none → alGet s.drv.upd (htrKey b 76) = none → Leads (.ballastRampStep b) s fun t => t.rd (Reg.DRIVE.HTR_CODE.LIVE b 76) = s.ballastCode b (if tg ≤ tabGet s.gov.bz 0 b then max tg (tabGet s.gov.bz 0 b - s.rd (Reg.BRAMBLE.BALLAST_RATE.RATE (b / 32)) * powUnit) else min tg (tabGet s.gov.bz 0 b + s.rd (Reg.BRAMBLE.BALLAST_RATE.RATE (b / 32)) * powUnit)) ∧ alGet t.drv.upd (htrKey b 76) = some s.up ∧ t.dev = s.dev ∧ t.img = s.img ∧ t.gan = s.gan) ∧
  (∀ (s : State) (mid : Nat), mid < 19968 → s.lit mid = true → s.loopMode (mid / 32) = true → s.bram.guard.contains mid = false → Leads (.guardRequest mid) s fun t => t = { s with out := [], bram := { s.bram with guard := s.bram.guard ++ [mid] } }) ∧
  (∀ (s : State) (mid : Nat), s.Sound → mid < 19968 → s.lit mid = true → Leads (.loopStarve mid) s fun t => t.rd (Reg.BRAMBLE.CNT_STARVE_MISS.COUNT (monCluster (monTile mid))) = min (s.rd (Reg.BRAMBLE.CNT_STARVE_MISS.COUNT (monCluster (monTile mid))) + 1) (2 ^ 32 - 1) ∧ t.HasEvt (bramPg (monCluster (monTile mid))) 3 ∧ Frame [(Reg.BRAMBLE.CNT_STARVE_MISS.COUNT (monCluster (monTile mid))).off] [bramPg (monCluster (monTile mid))] { s with inbox := s.inbox ++ [⟨21, mid % 2 ^ 32, false, false⟩] } t) ∧
  (∀ (s : State) (mid cls : Nat), s.Sound → mid < 19968 → alGet s.bram.asked mid = some cls → Leads (.resultTimeout mid) s fun t => t.rd (Reg.BRAMBLE.CNT_TIMEOUT.COUNT (monCluster (monTile mid))) = min (s.rd (Reg.BRAMBLE.CNT_TIMEOUT.COUNT (monCluster (monTile mid))) + 1) (2 ^ 32 - 1) ∧ (mid, cls) ∈ t.bram.reqs ∧ t.bram.asked = alDel s.bram.asked mid ∧ Frame [(Reg.BRAMBLE.CNT_TIMEOUT.COUNT (monCluster (monTile mid))).off] [] { s with bram := t.bram } t) ∧
  (∀ (s : State) (k : Nat), s.Sound → k < 4 → Leads .loopEpoch s fun t => t.rd (Reg.BRAMBLE.EPOCH_COUNT.COUNT k) = (s.rd (Reg.BRAMBLE.EPOCH_COUNT.COUNT k) + 1) % 2 ^ 32 ∧ t.rd (Reg.BRAMBLE.MAX_AGE.US k) = tabGet s.bram.ages 0 k % 2 ^ (Reg.BRAMBLE.MAX_AGE.US k).len ∧ t.bram.fresh = [] ∧ t.dev = s.dev ∧ t.img = s.img ∧ t.gan = s.gan)

/-- Start, stop, jump, resync, cancel, granule period and lock of a schedule (R196, R199, R210, R217, R226, R227, R230). Where the spec leaves it open, it rests on the model's choices (log 77, 79, 80, 84, 180, 182). -/
def Obligations.ScheduleControlLeads : Prop :=
  (∀ (s : State) (path : HostPath), s.Sound → s.Calm → s.Open 0x9040 → (s.dev = .armed ∨ s.dev = .run) → s.gstate = 0 → s.rd Reg.GANTRY.START_CFG.MODE = 0 → s.flag Reg.GANTRY.START_CFG.FROM_STREAM = false → s.rd Reg.GANTRY.START_CFG.INDEX < s.gan.limit → s.flag (Reg.HDR.PG_CTRL.ENABLE 0x9000) = true → Leads (.gctlStart path) s fun t => t.gstate = 1 ∧ t.rd Reg.GANTRY.START_RESULT.REASON = 0 ∧ t.flag Reg.GANTRY.PENDING.START = true ∧ t.rd Reg.GANTRY.BENCH_NUM.COUNT = 0 ∧ t.rdW Reg.GANTRY.SLIP.G.off = 0 ∧ t.gan.first = (false, s.rd Reg.GANTRY.START_CFG.INDEX) ∧ t.gan.nextT = some (s.now + s.startTerm * s.gran) ∧ t.gan.plan = some (s.now + s.startTerm * s.gran) ∧ t.gan.live = none ∧ t.gan.fixed = none ∧ t.gan.stack = [] ∧ t.HasEvt 0x9000 0 ∧ t.dev = s.dev ∧ t.img = s.img ∧ t.plumb = s.plumb) ∧
  (∀ (s : State) (path : HostPath), s.Sound → s.Calm → s.Open 0x9040 → s.gstate = 2 → Leads (.gctlStop path) s fun t => t.flag Reg.GANTRY.PENDING.STOP = true ∧ t.gstate = 2 ∧ Frame [Reg.GANTRY.PENDING.STOP.off] [0] { s with gan := { s.gan with stop := true } } t) ∧
  (∀ (s : State) (path : HostPath), s.Sound → s.Calm → s.Open 0x9040 → (s.gstate = 1 ∨ s.gstate = 3 ∨ s.gstate = 4) → Leads (.gctlStop path) s fun t => t.gstate = 0 ∧ t.gan.fixed = none ∧ t.gan.nextT = none ∧ t.gan.stop = false ∧ t.gan.jump = none ∧ t.gan.resync = none ∧ t.gan.live = s.gan.live ∧ t.rdW Reg.GANTRY.PENDING.START.off = 0 ∧ t.HasEvt 0x9000 1 ∧ t.dev = s.dev ∧ t.plumb = s.plumb) ∧
  (∀ (s : State) (path : HostPath) (i : Nat), s.Sound → s.Calm → s.Open 0x9040 → s.playingG = true → s.labelEntry (s.rd Reg.GANTRY.JUMP_CFG.LABEL) = some i → (s.gstate ≠ 2 ∨ s.gan.fixed = none ∧ s.gan.ended = false) → Leads (.gctlJump path) s fun t => t.rd Reg.GANTRY.JUMP_RESULT.REASON = 0 ∧ t.flag Reg.GANTRY.PENDING.JUMP = true ∧ t.flag Reg.GANTRY.PENDING.DEFERRED = false ∧ Frame [Reg.GANTRY.JUMP_RESULT.REASON.off, Reg.GANTRY.PENDING.JUMP.off] [0] { s with gan := { s.gan with jump := some i } } t) ∧
  (∀ (s : State) (path : HostPath) (i : Nat), s.Sound → s.Calm → s.Open 0x9040 → s.playingG = true → s.labelEntry (s.rd Reg.GANTRY.JUMP_CFG.LABEL) = some i → s.gstate = 2 → (s.gan.fixed.isSome = true ∨ s.gan.ended = true) → Leads (.gctlJump path) s fun t => t.rd Reg.GANTRY.JUMP_RESULT.REASON = 0 ∧ t.flag Reg.GANTRY.PENDING.JUMP = true ∧ t.flag Reg.GANTRY.PENDING.DEFERRED = true ∧ t.HasEvt 0x9000 4 ∧ t.rd Reg.GANTRY.CNT_JUMP_DEFERRED.COUNT = min (s.rd Reg.GANTRY.CNT_JUMP_DEFERRED.COUNT + 1) (2 ^ 32 - 1) ∧ Frame [Reg.GANTRY.JUMP_RESULT.REASON.off, Reg.GANTRY.PENDING.JUMP.off, Reg.GANTRY.CNT_JUMP_DEFERRED.COUNT.off] [0x9000, 0] { s with gan := { s.gan with jump := some i } } t) ∧
  (∀ (s : State) (path : HostPath), s.Sound → s.Calm → s.Open 0x9040 → s.gstate = 3 → s.gan.fixed = none → s.gan.nextT = none → s.gan.plan = none → s.gan.ended = false → s.flag Reg.GANTRY.RESYNC_CFG.USE_LABEL = false → s.now + (s.leadG + 2) * s.gran ≤ s.rdTime 0x9054 → s.gan.lastT + s.minBench * s.gran ≤ s.rdTime 0x9054 → Leads (.gctlResync path) s fun t => t.rd Reg.GANTRY.RESYNC_RESULT.REASON = 0 ∧ t.flag Reg.GANTRY.PENDING.RESYNC = true ∧ t.gan = { s.gan with resync := some (s.rdTime 0x9054, none), resyncT := false, nextT := some (s.rdTime 0x9054) } ∧ t.dev = s.dev ∧ t.img = s.img ∧ t.plumb = s.plumb) ∧
  (∀ (s : State) (path : HostPath), s.Sound → s.Calm → s.Open 0x9040 → s.gstate ≠ 1 → s.gan.resync = none → Leads (.gctlCancel path) s fun t => t.flag Reg.GANTRY.PENDING.JUMP = false ∧ t.flag Reg.GANTRY.PENDING.DEFERRED = false ∧ t.flag Reg.GANTRY.PENDING.RESYNC = false ∧ t.flag Reg.GANTRY.PENDING.START = s.flag Reg.GANTRY.PENDING.START ∧ Frame [Reg.GANTRY.PENDING.JUMP.off] [0] { s with gan := { s.gan with jump := none } } t) ∧
  (∀ (s : State) (path : HostPath), s.Sound → s.Calm → s.Open 0x9040 → s.gstate = 1 → Leads (.gctlCancel path) s fun t => t.gstate = 0 ∧ t.gan.nextT = none ∧ t.gan.fixed = none ∧ t.rdW Reg.GANTRY.PENDING.START.off = 0 ∧ t.HasEvt 0x9000 1 ∧ t.dev = s.dev) ∧
  (∀ (s : State) (path : HostPath) (v : Nat), s.Sound → s.Open 0x9068 → 40000 ≤ v → v ≤ 200000 → (s.gstate = 0 ∨ s.gstate = 5) → Leads (.granulePeriodWrite path v) s fun t => t.rd Reg.GANTRY.GRANULE_PERIOD.PS = v ∧ t.rd Reg.GANTRY.GRANULE_STATUS.PS = v ∧ Frame [Reg.GANTRY.GRANULE_PERIOD.PS.off, Reg.GANTRY.GRANULE_STATUS.PS.off] [] { s with gan := { s.gan with period := [] } } t) ∧
  (∀ (s : State) (path : HostPath) (v : Nat) (T : Nat), s.Sound → s.Open 0x9068 → 40000 ≤ v → v ≤ 200000 → s.gstate ≠ 0 → s.gstate ≠ 5 → s.gan.nextT = some T → s.now + 10 * ns < T → Leads (.granulePeriodWrite path v) s fun t => t.rd Reg.GANTRY.GRANULE_PERIOD.PS = v ∧ t.rd Reg.GANTRY.GRANULE_STATUS.PS = s.rd Reg.GANTRY.GRANULE_STATUS.PS ∧ Frame [Reg.GANTRY.GRANULE_PERIOD.PS.off] [] { s with gan := { s.gan with period := [(v, 0)] } } t) ∧
  (∀ (s : State) (path : HostPath), s.Sound → s.Open 0x9084 → s.gstate = 0 → Leads (.lockApply path) s fun t => t.gan.limit = s.rd Reg.GANTRY.LOCK_LIMIT.ENTRIES ∧ t.flag Reg.GANTRY.LOCK_STATUS.BUSY = true ∧ Frame [Reg.GANTRY.LOCK_STATUS.BUSY.off] [] { s with gan := { s.gan with limit := s.rd Reg.GANTRY.LOCK_LIMIT.ENTRIES } } t) ∧
  (∀ (s : State), s.Sound → s.flag Reg.GANTRY.LOCK_STATUS.BUSY = true → Leads .lockDone s fun t => t.flag Reg.GANTRY.LOCK_STATUS.BUSY = false ∧ t.flag Reg.GANTRY.LOCK_STATUS.DUP = s.buildLabels.2.isSome ∧ t.rd Reg.GANTRY.LOCK_STATUS.LABELS = s.buildLabels.1.length % 2 ^ Reg.GANTRY.LOCK_STATUS.LABELS.len ∧ t.rd Reg.GANTRY.LOCK_STATUS.DUP_INDEX = s.buildLabels.2.getD 0 % 2 ^ Reg.GANTRY.LOCK_STATUS.DUP_INDEX.len ∧ t.HasEvt 0x9000 14 ∧ Frame [Reg.GANTRY.LOCK_STATUS.BUSY.off, Reg.GANTRY.LOCK_STATUS.LABELS.off, Reg.GANTRY.LOCK_STATUS.DUP_INDEX.off] [0x9000] { s with gan := { s.gan with labels := s.buildLabels.1 } } t)

/-- Bench memory and the stream of benches (R200, R203, R205). Where the spec leaves it open, it rests on the model's choices (log 15, 81). -/
def Obligations.StreamsAndBenchMemoryLead : Prop :=
  (∀ (s : State) (path : HostPath) (i : Nat) (ws : List Word), s.Sound → i < 8192 → ws.length = 8 → s.Open (0x580000 + 32 * i) → i < s.gan.limit → s.gantryRunning = false → Leads (.benchMemoryWrite path i ws) s fun t => ((∀ j ∈ List.range 8, t.rdW (0x580000 + 32 * i + 4 * j) = ws.getD j 0)) ∧ Frame [0x580000 + 32 * i, 0x580004 + 32 * i, 0x580008 + 32 * i, 0x58000C + 32 * i, 0x580010 + 32 * i, 0x580014 + 32 * i, 0x580018 + 32 * i, 0x58001C + 32 * i] [] s t) ∧
  (∀ (s : State) (path : HostPath), s.Sound → s.Open 0x908C → 12 ≤ s.rd Reg.GANTRY.STREAM_CFG.SIZE_LOG2 → s.rd Reg.GANTRY.STREAM_CFG.SIZE_LOG2 ≤ 30 → s.rd64 0x9090 % 4096 = 0 → s.inPartition 1 (s.rd64 0x9090) (2 ^ s.rd Reg.GANTRY.STREAM_CFG.SIZE_LOG2) = true → s.gan.limit + 64 ≤ 8192 → s.gstate = 0 → s.flag Reg.GANTRY.STREAM_CFG.ENABLE = false → Leads (.streamEnable path) s fun t => t.flag Reg.GANTRY.STREAM_CFG.ENABLE = true ∧ t.rd Reg.GANTRY.STREAM_CFG.SIZE_LOG2 = s.rd Reg.GANTRY.STREAM_CFG.SIZE_LOG2 ∧ Frame [Reg.GANTRY.STREAM_CFG.ENABLE.off] [] { s with gan := { s.gan with sbuf := [], staken := 0, spos := 0, stall := false } } t) ∧
  (∀ (s : State) (path : HostPath) (v : Nat), s.Sound → s.Open 0x9098 → v < 2 ^ 31 → v % 32 = 0 → Leads (.streamWrPtrWrite path v) s fun t => t.rd Reg.GANTRY.STREAM_WR_PTR.PTR = v % 2 ^ (s.rd Reg.GANTRY.STREAM_CFG.SIZE_LOG2 + 1) % 2 ^ Reg.GANTRY.STREAM_WR_PTR.PTR.len ∧ Frame [Reg.GANTRY.STREAM_WR_PTR.PTR.off] [] s t) ∧
  (∀ (s : State) (b : Bench), s.Sound → s.flag Reg.GANTRY.STREAM_CFG.ENABLE = true → s.sdOnline = true → s.gan.stall = false → s.rd Reg.GANTRY.STREAM_RD_PTR.PTR % 2 ^ (s.rd Reg.GANTRY.STREAM_CFG.SIZE_LOG2 + 1) ≠ s.rd Reg.GANTRY.STREAM_WR_PTR.PTR % 2 ^ (s.rd Reg.GANTRY.STREAM_CFG.SIZE_LOG2 + 1) → s.gan.sbuf.length < 8192 - s.gan.limit → parseBench true s.gan.staken (s.sdBytes (s.rd64 0x9090 + s.rd Reg.GANTRY.STREAM_RD_PTR.PTR % (2 ^ (s.rd Reg.GANTRY.STREAM_CFG.SIZE_LOG2 + 1) / 2)) 32) = b → b.seqOf = s.rd Reg.GANTRY.STREAM_SEQ.EXPECT → Leads (.streamFetch .ok) s fun t => t.gan = { s.gan with sbuf := s.gan.sbuf ++ [(s.gan.staken, b)], staken := s.gan.staken + 1 } ∧ ((∀ j ∈ List.range 8, t.rdW (0x580000 + 32 * (s.gan.limit + s.gan.staken % (8192 - s.gan.limit)) + 4 * j) = BitVec.ofNat 32 (leAt (s.sdBytes (s.rd64 0x9090 + s.rd Reg.GANTRY.STREAM_RD_PTR.PTR % (2 ^ (s.rd Reg.GANTRY.STREAM_CFG.SIZE_LOG2 + 1) / 2)) 32) (4 * j) 4))) ∧ t.rd Reg.GANTRY.STREAM_RD_PTR.PTR = (s.rd Reg.GANTRY.STREAM_RD_PTR.PTR + 32) % 2 ^ (s.rd Reg.GANTRY.STREAM_CFG.SIZE_LOG2 + 1) % 2 ^ Reg.GANTRY.STREAM_RD_PTR.PTR.len ∧ t.rd Reg.GANTRY.STREAM_SEQ.EXPECT = (s.rd Reg.GANTRY.STREAM_SEQ.EXPECT + 1) % 2 ^ 16 ∧ Frame [Reg.GANTRY.STREAM_RD_PTR.PTR.off, Reg.GANTRY.STREAM_SEQ.EXPECT.off, 0x580000 + 32 * (s.gan.limit + s.gan.staken % (8192 - s.gan.limit)), 0x580000 + 32 * (s.gan.limit + s.gan.staken % (8192 - s.gan.limit)) + 4, 0x580000 + 32 * (s.gan.limit + s.gan.staken % (8192 - s.gan.limit)) + 8, 0x580000 + 32 * (s.gan.limit + s.gan.staken % (8192 - s.gan.limit)) + 12, 0x580000 + 32 * (s.gan.limit + s.gan.staken % (8192 - s.gan.limit)) + 16, 0x580000 + 32 * (s.gan.limit + s.gan.staken % (8192 - s.gan.limit)) + 20, 0x580000 + 32 * (s.gan.limit + s.gan.staken % (8192 - s.gan.limit)) + 24, 0x580000 + 32 * (s.gan.limit + s.gan.staken % (8192 - s.gan.limit)) + 28] [] { s with freeCtr := s.freeCtr + 1, gan := t.gan } t) ∧
  (∀ (s : State) (b : Bench), s.Sound → s.flag Reg.GANTRY.STREAM_CFG.ENABLE = true → s.sdOnline = true → s.gan.stall = false → s.rd Reg.GANTRY.STREAM_RD_PTR.PTR % 2 ^ (s.rd Reg.GANTRY.STREAM_CFG.SIZE_LOG2 + 1) ≠ s.rd Reg.GANTRY.STREAM_WR_PTR.PTR % 2 ^ (s.rd Reg.GANTRY.STREAM_CFG.SIZE_LOG2 + 1) → s.gan.sbuf.length < 8192 - s.gan.limit → parseBench true s.gan.staken (s.sdBytes (s.rd64 0x9090 + s.rd Reg.GANTRY.STREAM_RD_PTR.PTR % (2 ^ (s.rd Reg.GANTRY.STREAM_CFG.SIZE_LOG2 + 1) / 2)) 32) = b → b.seqOf ≠ s.rd Reg.GANTRY.STREAM_SEQ.EXPECT → Leads (.streamFetch .ok) s fun t => t.gan.stall = true ∧ t.gan.sbuf = s.gan.sbuf ∧ t.rd Reg.GANTRY.STREAM_RD_PTR.PTR = s.rd Reg.GANTRY.STREAM_RD_PTR.PTR ∧ t.rd Reg.GANTRY.STREAM_SEQ.EXPECT = s.rd Reg.GANTRY.STREAM_SEQ.EXPECT ∧ t.HasEvt 0x9000 9 ∧ Frame [] [0x9000] { s with freeCtr := s.freeCtr + 1, gan := { s.gan with stall := true }, inbox := t.inbox } t) ∧
  (∀ (s : State) (path : HostPath) (v : Nat), s.Sound → s.Open 0x90A0 → v < 2 ^ 16 → (s.flag Reg.GANTRY.STREAM_CFG.ENABLE = false ∨ s.gan.stall = true) → Leads (.streamSeqExpectWrite path v) s fun t => t.rd Reg.GANTRY.STREAM_SEQ.EXPECT = v ∧ Frame [Reg.GANTRY.STREAM_SEQ.EXPECT.off] [] { s with gan := { s.gan with stall := false } } t)

/-- Stream underflow and trigger waits (R213, R224). Where the spec leaves it open, it rests on the model's choices (log 82). -/
def Obligations.UnderflowsAndWaitsLead : Prop :=
  (∀ (s : State) (x : Bench) (e : Episode) (T : Nat), s.Sound → s.Calm → s.gstate = 4 → s.gan.ep = some e → e.safe = false → e.ext < s.maxExtend → s.gan.ended = false → s.gan.nextT = some T → s.gan.live = some x → s.gan.resync = none → s.gan.jump = none → s.gan.stop = false → x.loopEnd = false → x.stopAfter = false → x.stream = true → s.benchAt true (x.idx + 1) = none → Leads .underflowRetry s fun t => t.rd Reg.GANTRY.CNT_EXTEND_G.COUNT = min (s.rd Reg.GANTRY.CNT_EXTEND_G.COUNT + 1) (2 ^ 32 - 1) ∧ t.gan = { s.gan with ep := some { e with ext := e.ext + 1 }, plan := some (T + s.gran), nextT := some (T + s.gran) } ∧ t.gstate = 4 ∧ t.dev = s.dev ∧ t.img = s.img) ∧
  (∀ (s : State) (e : Episode), s.Sound → s.Calm → s.gstate = 4 → s.dev = .run → s.gan.ep = some e → s.maxExtend ≤ s.extension e → Leads .underflowLimit s fun t => t.dev = .safe ∧ t.gstate = 5 ∧ t.gan.fixed = none ∧ t.gan.nextT = none ∧ t.rd Reg.SUMP.SAFE_LAST.SOURCE = 16 ∧ t.HasEvt 0x9000 15) ∧
  (∀ (s : State) (x b : Bench), s.Sound → s.Calm → s.gstate = 3 → s.gan.live = some x → s.gan.resync = none → s.gan.jump = none → s.gan.stop = false → x.loopEnd = false → x.stopAfter = false → x.stream = false → x.toStream = false → x.idx + 1 < s.gan.limit → s.entry (x.idx + 1) = b → b.triggered = true → s.trigQueued b.trigSrc = true → Leads .triggerWaitCommit s fun t => t.gan.fixed = some b ∧ t.gan.nextT = some (s.edgeNow + (s.leadG + if s.master then 1 else 0) * s.gran) ∧ t.gstate = 2 ∧ t.rd ⟨Reg.GANTRY_TRIG.TRIGIN_STATUS.QUEUED.off, b.trigSrc, 1⟩ = 0 ∧ t.dev = s.dev ∧ t.now = s.now) ∧
  (∀ (s : State) (x b : Bench), s.Sound → s.Calm → s.gstate = 3 → s.gan.live = some x → s.gan.resync = none → s.gan.jump = none → s.gan.stop = false → s.gan.syncTrig = false → x.loopEnd = false → x.stopAfter = false → x.stream = false → x.toStream = false → x.idx + 1 < s.gan.limit → s.entry (x.idx + 1) = b → b.triggered = true → s.trigQueued b.trigSrc = false → Leads .triggerWaitCommit s fun t => t.gan = s.gan ∧ t.gstate = 3 ∧ Frame [] [0] s t)

/-- Trigger inputs and outputs, and pulses between sticks (R212, R214, R216, R220, R221, R222). Where the spec leaves it open, it rests on the model's choices (log 181, 183). -/
def Obligations.TriggersAndSyncPulsesLead : Prop :=
  (∀ (s : State) (i T : Nat) (fall held : Bool), s.Sound → i < 4 → (held = false ∨ s.flag (Reg.GANTRY_TRIG.TRIGIN_CFG.EDGE i) ≠ fall ∨ s.flag (Reg.GANTRY_TRIG.TRIGIN_CFG.TO_GANTRY i) = false) → Leads (.triginEdge i T fall held) s fun t => t = { s.timestamp i T fall with out := t.out, regs := t.regs } ∧ t.rd ⟨Reg.GANTRY_TRIG.TRIGIN_STATUS.LEVEL.off, 8 + i, 1⟩ = b2n !fall) ∧
  (∀ (s : State) (i T : Nat), s.Sound → i < 4 → s.rd ⟨Reg.TIME.TS_CFG.EDGE_0.off, 2 * i, 2⟩ = 0 → s.flag (Reg.GANTRY_TRIG.TRIGIN_CFG.EDGE i) = false → s.flag (Reg.GANTRY_TRIG.TRIGIN_CFG.TO_GANTRY i) = true → s.playingG = true → s.trigQueued i = false → Leads (.triginEdge i T false true) s fun t => t.rd ⟨Reg.GANTRY_TRIG.TRIGIN_STATUS.QUEUED.off, i, 1⟩ = 1 ∧ t.rd Reg.GANTRY_TRIG.CNT_TRIG_ACCEPTED.COUNT = min (s.rd Reg.GANTRY_TRIG.CNT_TRIG_ACCEPTED.COUNT + 1) (2 ^ 32 - 1) ∧ t.HasEvt 0xA000 0) ∧
  (∀ (s : State) (k T : Nat) (b : Bench), s.Sound → k < 16 → s.gan.fixed = some b → s.gan.nextT = some T → s.trigTakes k 0 = true → bitOf b.trigo k = true → s.gantryRunning = true → s.gan.trigEarly.contains k = false → s.rd (Reg.GANTRY_TRIG.TRIGO_CFG.LEAD k) ≤ s.leadG → Leads (.trigoAssert k) s fun t => t.flag (Reg.GANTRY_TRIG.TRIGO_STAT.ASSERTED k) = true ∧ t.rd (Reg.GANTRY_TRIG.TRIGO_STAT.PULSES k) = (s.rd (Reg.GANTRY_TRIG.TRIGO_STAT.PULSES k) + 1) % 2 ^ (Reg.GANTRY_TRIG.TRIGO_STAT.PULSES k).len ∧ Frame [(Reg.GANTRY_TRIG.TRIGO_STAT.PULSES k).off] [] { s with gan := { s.gan with trigEarly := k :: s.gan.trigEarly, trigEnd := tabPut s.gan.trigEnd 0 k (max (T - min 64 (s.rd (Reg.GANTRY_TRIG.TRIGO_CFG.LEAD k)) * s.gran + s.trigWidth k * s.schedTick) (tabGet s.gan.trigEnd 0 k)) } } t) ∧
  (∀ (s : State) (k : Nat), s.Sound → k < 16 → tabGet s.gan.trigEnd 0 k ≤ s.now → Leads (.trigoRelease k) s fun t => t.flag (Reg.GANTRY_TRIG.TRIGO_STAT.ASSERTED k) = false ∧ t.rd (Reg.GANTRY_TRIG.TRIGO_STAT.PULSES k) = s.rd (Reg.GANTRY_TRIG.TRIGO_STAT.PULSES k) ∧ Frame [(Reg.GANTRY_TRIG.TRIGO_STAT.ASSERTED k).off] [] { s with gan := { s.gan with trigEnd := tabPut s.gan.trigEnd 0 k 0 } } t) ∧
  (∀ (s : State) (k : Nat), k < 16 → s.now < tabGet s.gan.trigEnd 0 k → Leads (.trigoRelease k) s fun t => t = { s with out := [] }) ∧
  (∀ (s : State) (wide : Bool) (n : Nat), s.master = true → s.gstate = 0 → s.gan.echo = some (n + 1) → Leads (.syncOutPulse wide) s fun t => t = { s with out := [.pin 1 wide], gan := { s.gan with echo := some n } }) ∧
  (∀ (s : State) (wide : Bool), s.master = true → s.gantryRunning = true → (wide = true ∨ s.flag Reg.GANTRY_TRIG.SYNC_CFG.EACH = true) → Leads (.syncOutPulse wide) s fun t => t = { s with out := [.pin 1 wide] }) ∧
  (∀ (s : State) (tin turn : Nat) (wide : Bool), s.Sound → s.Calm → s.rd Reg.GANTRY_TRIG.SYNC_CFG.ROLE = 3 → Leads (.syncInPulse tin wide turn) s fun t => t.rd Reg.GANTRY_TRIG.TURN.PS = turn % 2 ^ Reg.GANTRY_TRIG.TURN.PS.len ∧ t.flag Reg.GANTRY_TRIG.TURN.VALID = true ∧ Frame [Reg.GANTRY_TRIG.TURN.PS.off] [0] s t) ∧
  (∀ (s : State) (tin turn : Nat), s.Sound → s.Calm → s.rd Reg.GANTRY_TRIG.SYNC_CFG.ROLE = 2 → s.gstate = 1 → s.gan.nextT = none → s.gan.resync = none → s.gan.mode = 2 → Leads (.syncInPulse tin true turn) s fun t => t.gan = { s.gan with plan := some (tin - s.rd Reg.GANTRY_TRIG.SYNC_SKEW.PS * ps + s.syncDelay * s.gran), nextT := some (tin - s.rd Reg.GANTRY_TRIG.SYNC_SKEW.PS * ps + s.syncDelay * s.gran) } ∧ t.gstate = 1 ∧ t.HasEvt 0xA000 3 ∧ t.dev = s.dev) ∧
  (∀ (s : State) (tin turn : Nat), s.Sound → s.Calm → s.rd Reg.GANTRY_TRIG.SYNC_CFG.ROLE = 2 → s.gstate = 3 → Leads (.syncInPulse tin false turn) s fun t => t.HasEvt 0xA000 3 ∧ Frame [] [0xA000, 0] { s with gan := { s.gan with syncTrig := true } } t) ∧
  (∀ (s : State) (path : HostPath), s.Sound → s.Open 0xA108 → s.master = true → s.gstate = 0 → Leads (.syncPulseGo path) s fun t => t.flag Reg.GANTRY_TRIG.ECHO_RESULT.VALID = false ∧ Frame [Reg.GANTRY_TRIG.ECHO_RESULT.VALID.off] [] { s with gan := { s.gan with echo := some 64 } } t) ∧
  (∀ (s : State) (mean : Nat) (all : Bool), s.Sound → s.gan.echo = some 0 → Leads (.echoDone mean all) s fun t => t.rd Reg.GANTRY_TRIG.ECHO_RESULT.PS = mean % 2 ^ Reg.GANTRY_TRIG.ECHO_RESULT.PS.len ∧ t.flag Reg.GANTRY_TRIG.ECHO_RESULT.VALID = all ∧ t.HasEvt 0xA000 5 ∧ Frame [Reg.GANTRY_TRIG.ECHO_RESULT.PS.off] [0xA000] { s with gan := { s.gan with echo := none } } t)

/-- PTP messages: what is counted, kept, answered and measured (R240, R243, R244). Where the spec leaves it open, it rests on the model's choices (log 104, 105, 106, 107, 109, 113). -/
def Obligations.TimeMessagesLead : Prop :=
  (∀ (s : State) (port via gm dom t1 t2 : Nat) (corr log : Int), s.Sound → s.ptpTaken port via dom = true → -7 ≤ log → log ≤ 0 → s.time.gm = some gm → Leads (.ptpSync port via gm dom t1 t2 corr log true) s fun t => t.rd (Reg.TIME.CNT_RX_SYNC.COUNT port) = min (s.rd (Reg.TIME.CNT_RX_SYNC.COUNT port) + 1) (2 ^ 32 - 1) ∧ t.out = [] ∧ Frame [(Reg.TIME.CNT_RX_SYNC.COUNT port).off] [] { s with time := { s.time with heard := (port, s.up, log) :: s.time.heard.filter (·.1 != port), waiting := ⟨port, t1, ((t2 : Int) + sgn 32 (s.rd (Reg.TIME.PORT_LAT_RX.PS port))).toNat, corr, log⟩ :: s.time.waiting.filter (·.port != port) } } t) ∧
  (∀ (s : State) (port via gm dom t1 t2 : Nat) (corr log : Int), s.Sound → s.ptpTaken port via dom = true → -7 ≤ log → log ≤ 0 → s.time.gm = some gm → port ≠ s.srcPort → Leads (.ptpSync port via gm dom t1 t2 corr log false) s fun t => t.rd (Reg.TIME.CNT_RX_SYNC.COUNT port) = min (s.rd (Reg.TIME.CNT_RX_SYNC.COUNT port) + 1) (2 ^ 32 - 1) ∧ Frame [(Reg.TIME.CNT_RX_SYNC.COUNT port).off] [] { s with time := { s.time with heard := (port, s.up, log) :: s.time.heard.filter (·.1 != port), last := ⟨port, t1, ((t2 : Int) + sgn 32 (s.rd (Reg.TIME.PORT_LAT_RX.PS port))).toNat, corr, log⟩ :: s.time.last.filter (·.port != port) } } t) ∧
  (∀ (s : State) (port via gm dom t1 t2 : Nat) (corr log : Int) (off : Int), s.Sound → s.ptpTaken port via dom = true → -7 ≤ log → log ≤ 0 → s.time.gm = some gm → port = s.srcPort → s.servoMode = 0 → s.servo = 0 → off = (((t2 : Int) + sgn 32 (s.rd (Reg.TIME.PORT_LAT_RX.PS port))).toNat - (t1 : Int)) * (ps : Int) - corrUnits corr - s.pathDelay port - s.rdPs (Reg.TIME.PORT_ASYM.PS port) → beyond off (max 100 (s.rd Reg.TIME.STEP_LIMIT.NS)) = false → Leads (.ptpSync port via gm dom t1 t2 corr log false) s fun t => t.rd Reg.TIME.OFFSET_LAST.PS = unsgn 32 (clampI (-2147483648) 2147483647 (divRound off ps)) ∧ t.servo = 1 ∧ t.freqAdj = clampI (-343597384) 343597384 (s.freqAdj - divRound (s.rd Reg.TIME.SERVO_GAIN.KI * off * nomInc * 2 ^ (-log).toNat) (65536 * sec)) ∧ t.time.slew = divRound (divRound (-(s.rd Reg.TIME.SERVO_GAIN.KP * off)) 65536) fu ∧ t.now = s.now ∧ t.dev = s.dev ∧ t.gan = s.gan) ∧
  (∀ (s : State) (port via gm dom t1 : Nat) (corr : Int) (m : SyncMsg), s.ptpTaken port via dom = true → (s.time.waiting.find? (fun w => w.port == port) = some m) → s.time.gm = some gm → m.port ≠ s.srcPort → Leads (.ptpFollowUp port via gm dom t1 corr) s fun t => t = { s with out := [], time := { s.time with waiting := s.time.waiting.filter (·.port != port), last := { m with t1 := t1, corr := m.corr + corr } :: s.time.last.filter (·.port != m.port) } }) ∧
  (∀ (s : State) (t3 : Nat), s.pageRun 0x8000 = true → s.flag (Reg.TIME.PORT_CFG.ENABLE s.srcPort) = true → s.flag Reg.TIME.TIME_CTRL.PROFILE = false → s.servoMode < 2 → Leads (.ptpDelayReqSend t3) s fun t => t = { s with out := [.ptp s.srcPort 1 0 false], time := { s.time with asked := some (s.srcPort, ((t3 : Int) + sgn 32 (s.rd (Reg.TIME.PORT_LAT_TX.PS s.srcPort))).toNat) } }) ∧
  (∀ (s : State) (port via dom t3 t4 : Nat) (corr : Int) (m : SyncMsg), s.flag Reg.TIME.TIME_CTRL.PROFILE = false → s.ptpTaken port via dom = true → s.time.asked = some (port, t3) → (s.time.last.find? (fun w => w.port == port) = some m) → port ≠ s.srcPort → Leads (.ptpDelayResp port via dom t4 corr) s fun t => t = { s with out := [], time := { s.time with asked := none, delays := alPut s.time.delays port ((divRound ((((m.t2 : Int) - m.t1) + ((t4 : Int) - t3)) * (ps : Int) - corrUnits (m.corr + corr)) 2 :: (alGet s.time.delays port).getD []).take 16) } }) ∧
  (∀ (s : State) (port via dom t4 : Nat) (corr : Int), s.Sound → port < 2 → s.ptpOver port via = true → s.flag Reg.TIME.TIME_CTRL.PROFILE = true → Leads (.ptpDelayResp port via dom t4 corr) s fun t => t.rd (Reg.TIME.CNT_PROFILE_DROP.COUNT port) = min (s.rd (Reg.TIME.CNT_PROFILE_DROP.COUNT port) + 1) (2 ^ 32 - 1) ∧ Frame [(Reg.TIME.CNT_PROFILE_DROP.COUNT port).off] [] s t) ∧
  (∀ (s : State) (port via turn : Nat) (corr : Int), s.ptpOver port via = true → s.flag Reg.TIME.TIME_CTRL.PROFILE = true → s.pageRun 0x8000 = true → Leads (.ptpPdelayReq port via corr turn) s fun t => t = { s with out := [.ptp port 3 (corr + divRound (((turn : Int) + (sgn 32 (s.rd (Reg.TIME.PORT_LAT_TX.PS port)) - sgn 32 (s.rd (Reg.TIME.PORT_LAT_RX.PS port)))) * 65536) 1000) false] }) ∧
  (∀ (s : State) (port via turn : Nat) (corr : Int), s.Sound → s.ptpOver port via = true → s.flag Reg.TIME.TIME_CTRL.PROFILE = false → Leads (.ptpPdelayReq port via corr turn) s fun t => t.rd (Reg.TIME.CNT_PROFILE_DROP.COUNT port) = min (s.rd (Reg.TIME.CNT_PROFILE_DROP.COUNT port) + 1) (2 ^ 32 - 1) ∧ Frame [(Reg.TIME.CNT_PROFILE_DROP.COUNT port).off] [] s t) ∧
  (∀ (s : State) (port trip turn : Nat), s.Sound → port < 2 → s.pageRun 0x8000 = true → s.flag (Reg.TIME.PORT_CFG.ENABLE port) = true → s.flag Reg.TIME.TIME_CTRL.PROFILE = true → Leads (.ptpPdelayExchange port (some (trip, turn))) s fun t => t.rd (Reg.TIME.LINK_DELAY.PS port) = (clampI 0 4294967295 (divRound ((trip : Int) + (sgn 32 (s.rd (Reg.TIME.PORT_LAT_RX.PS port)) - sgn 32 (s.rd (Reg.TIME.PORT_LAT_TX.PS port))) - turn) 2)).toNat ∧ t.out = [.ptp port 2 0 false] ∧ Frame [(Reg.TIME.LINK_DELAY.PS port).off] [] s t) ∧
  (∀ (s : State) (port : Nat), s.Sound → port < 2 → s.pageRun 0x8000 = true → s.flag (Reg.TIME.PORT_CFG.ENABLE port) = true → s.flag Reg.TIME.TIME_CTRL.PROFILE = true → Leads (.ptpPdelayExchange port none) s fun t => t.rd (Reg.TIME.CNT_PDELAY_FAIL.COUNT port) = min (s.rd (Reg.TIME.CNT_PDELAY_FAIL.COUNT port) + 1) (2 ^ 32 - 1) ∧ Frame [(Reg.TIME.CNT_PDELAY_FAIL.COUNT port).off] [] s t) ∧
  (∀ (s : State) (port via dom id : Nat) (data : List Nat), s.Sound → s.ptpTaken port via dom = true → s.time.masters = [] → s.time.gm = none → Leads (.ptpAnnounce port via dom id data) s fun t => t.time = { s.time with gm := some id, masters := [⟨port, id, data⟩], waiting := [], asked := none } ∧ t.rd Reg.TIME.GM_ID_LO.ID = id % 2 ^ 32 ∧ t.rd Reg.TIME.GM_ID_HI.ID = id / 2 ^ 32 % 2 ^ 32 ∧ t.servo = s.servo ∧ Frame [Reg.TIME.GM_ID_LO.ID.off, Reg.TIME.GM_ID_HI.ID.off, (Reg.TIME.PORT_STATE.STATE 0).off, (Reg.TIME.PORT_STATE.STATE 1).off] [] { s with time := t.time } t) ∧
  (∀ (s : State) (port via dom id g : Nat) (data : List Nat), s.Sound → s.ptpTaken port via dom = true → s.time.masters = [] → s.time.gm = some g → g ≠ id → s.servoMode ≠ 3 → Leads (.ptpAnnounce port via dom id data) s fun t => t.time.gm = some id ∧ t.rd Reg.TIME.GM_ID_LO.ID = id % 2 ^ 32 ∧ t.rd Reg.TIME.GM_ID_HI.ID = id / 2 ^ 32 % 2 ^ 32 ∧ t.servo = 1 ∧ t.HasEvt 0x8000 23 ∧ t.now = s.now ∧ t.dev = s.dev)

/-- The servo: loss, switching, control writes, steps, offsets, slews and pulses per second (R243, R246, R248, R249, R250, R260). Where the spec leaves it open, it rests on the model's choices (log 104, 105, 110, 111, 112, 113). -/
def Obligations.TimeServoLead : Prop :=
  (∀ (s : State), s.Sound → s.lost = true → s.servo = 2 → s.time.hist = [] → Leads .syncLoss s fun t => t.servo = 3 ∧ t.rd Reg.TIME.HOLDOVER_TIME.S = 0 ∧ t.time.slew = 0 ∧ t.time.holdAt = s.up ∧ t.freqAdj = s.freqAdj ∧ t.HasEvt 0x8000 18 ∧ t.HasEvt 0x8000 17 ∧ t.now = s.now ∧ t.dev = s.dev) ∧
  (∀ (s : State), s.Sound → s.lost = true → s.servo = 1 → s.time.reached = false → Leads .syncLoss s fun t => t.servo = 0 ∧ t.freqAdj = s.freqAdj ∧ t.now = s.now) ∧
  (∀ (s : State), s.Sound → s.pageRun 0x8000 = true → s.hears (1 - s.srcPort) = true → s.hears s.srcPort = false → s.linkUp (1 - s.srcPort) = true → s.flag (Reg.TIME.PORT_CFG.ENABLE (1 - s.srcPort)) = true → s.srcPort ≤ 1 → Leads .sourceSwitch s fun t => t.srcPort = 1 - s.srcPort ∧ t.rd Reg.TIME.CNT_SRC_SWITCH.COUNT = min (s.rd Reg.TIME.CNT_SRC_SWITCH.COUNT + 1) (2 ^ 32 - 1) ∧ t.HasEvt 0x8000 22 ∧ Frame [Reg.TIME.TIME_STATUS.SRC_PORT.off, Reg.TIME.CNT_SRC_SWITCH.COUNT.off, (Reg.TIME.PORT_STATE.STATE 0).off, (Reg.TIME.PORT_STATE.STATE 1).off] [0x8000] s t) ∧
  (∀ (s : State) (path : HostPath) (w : Word), s.Sound → s.Open 0x8040 → getBits w 16 8 ≤ 127 → getBits w 0 2 = s.servoMode → getBits w 8 2 = s.rd Reg.TIME.TIME_CTRL.SRC_SEL → Leads (.timeCtrlWrite path w) s fun t => t.rd Reg.TIME.TIME_CTRL.SERVO_MODE = getBits w 0 2 ∧ t.rd Reg.TIME.TIME_CTRL.PROFILE = getBits w 4 1 ∧ t.rd Reg.TIME.TIME_CTRL.SRC_SEL = getBits w 8 2 ∧ t.rd Reg.TIME.TIME_CTRL.TC_EN = getBits w 24 1 ∧ t.rd Reg.TIME.TIME_CTRL.DOMAIN = getBits w 16 8 ∧ Frame [Reg.TIME.TIME_CTRL.DOMAIN.off] [] s t) ∧
  (∀ (s : State) (path : HostPath) (w : Word), s.Sound → s.Open 0x8040 → 127 < getBits w 16 8 → getBits w 0 2 = s.servoMode → getBits w 8 2 = s.rd Reg.TIME.TIME_CTRL.SRC_SEL → Leads (.timeCtrlWrite path w) s fun t => t.rd Reg.TIME.TIME_CTRL.SERVO_MODE = getBits w 0 2 ∧ t.rd Reg.TIME.TIME_CTRL.PROFILE = getBits w 4 1 ∧ t.rd Reg.TIME.TIME_CTRL.SRC_SEL = getBits w 8 2 ∧ t.rd Reg.TIME.TIME_CTRL.TC_EN = getBits w 24 1 ∧ t.rd Reg.TIME.TIME_CTRL.DOMAIN = s.rd Reg.TIME.TIME_CTRL.DOMAIN ∧ t.rd (Reg.HDR.PG_ERRCNT.LAST_OFFSET 0x8000) = 0x40 ∧ Frame [Reg.TIME.TIME_CTRL.DOMAIN.off, 0x8020] [] s t) ∧
  (∀ (s : State) (path : HostPath) (w : Word), s.Sound → s.Open 0x8040 → getBits w 0 2 ≠ s.servoMode → Leads (.timeCtrlWrite path w) s fun t => t.rd Reg.TIME.TIME_CTRL.SERVO_MODE = getBits w 0 2 ∧ t.rd Reg.TIME.TIME_CTRL.PROFILE = getBits w 4 1 ∧ t.rd Reg.TIME.TIME_CTRL.SRC_SEL = getBits w 8 2 ∧ t.rd Reg.TIME.TIME_CTRL.TC_EN = getBits w 24 1 ∧ t.servo = 0 ∧ t.freqAdj = s.freqAdj ∧ t.now = s.now) ∧
  (∀ (s : State) (path : HostPath), s.Sound → s.Calm → s.Open 0x8064 → s.stepFree = true → s.time.tevs = [] → Leads (.timeCmdStep path) s fun t => t.now = s.rdTime 0x8058 % timeWrap ∧ t.time.slew = 0 ∧ t.rd Reg.TIME.CNT_STEP.COUNT = min (s.rd Reg.TIME.CNT_STEP.COUNT + 1) (2 ^ 32 - 1) ∧ t.HasEvt 0x8000 20 ∧ t.dev = s.dev ∧ t.gan = s.gan) ∧
  (∀ (s : State) (path : HostPath), s.Sound → s.Calm → s.Open 0x8064 → s.stepFree = false → Leads (.timeCmdStep path) s fun t => t.now = s.now ∧ t.HasEvt 0x8000 21 ∧ t.rd (Reg.HDR.PG_ERRCNT.LAST_OFFSET 0x8000) = 0x64 ∧ Frame [0x8020] [0x8000, 0] s t) ∧
  (∀ (s : State) (path : HostPath), s.Sound → s.Calm → s.Open 0x8064 → s.flag Reg.TIME.OFFSET_CFG.METHOD = false → Leads (.timeCmdOffset path) s fun t => t.time = { s.time with slew := divRound (sgn 32 (s.rd Reg.TIME.TIME_OFFSET.NS) * ns) fu } ∧ t.now = s.now ∧ Frame [] [0] { s with time := t.time } t) ∧
  (∀ (s : State) (path : HostPath), s.Sound → s.Calm → s.Open 0x8064 → s.flag Reg.TIME.OFFSET_CFG.METHOD = true → s.stepFree = true → s.time.tevs = [] → Leads (.timeCmdOffset path) s fun t => t.now = (((s.now : Int) + sgn 32 (s.rd Reg.TIME.TIME_OFFSET.NS) * ns) % (timeWrap : Int)).toNat ∧ t.time.slew = 0 ∧ t.rd Reg.TIME.CNT_STEP.COUNT = min (s.rd Reg.TIME.CNT_STEP.COUNT + 1) (2 ^ 32 - 1) ∧ t.HasEvt 0x8000 20 ∧ t.dev = s.dev ∧ t.gan = s.gan) ∧
  (∀ (s : State), s.Sound → s.clkRun = true → s.time.slew ≠ 0 → s.slewTerm = s.time.slew → Leads .slewComplete s fun t => t.time = { s.time with slew := 0 } ∧ t.now = (s.now + ((nomInc + s.freqAdj + s.time.slew) * fu).toNat) % timeWrap ∧ t.mon.clock = s.mon.clock + 1 ∧ t.dev = s.dev ∧ t.gan = s.gan ∧ t.pending = s.pending) ∧
  (∀ (s : State), (s.time.slew = 0 ∨ s.slewTerm ≠ s.time.slew) → Leads .slewComplete s fun t => t = { s with out := [] }) ∧
  (∀ (s : State) (T : Nat), (s.rd Reg.TIME.TS_CFG.EDGE_4 = 2 ∨ s.rd Reg.TIME.TS_CFG.EDGE_4 = 3) → s.time.tsq.length < 16 → s.time.tsq ≠ [] → Leads (.ppsInEdge T true) s fun t => t = { s with out := [], time := { s.time with tsq := s.time.tsq ++ [⟨T / 100 * 100, 4, true⟩] } }) ∧
  (∀ (s : State) (T : Nat), s.Sound → s.rd Reg.TIME.TS_CFG.EDGE_4 = 0 → s.pageRun 0x8000 = true → s.servoMode = 2 → s.servo = 0 → 2 * (T % 10 ^ 12) ≤ 10 ^ 12 → Leads (.ppsInEdge T false) s fun t => t.rd Reg.TIME.OFFSET_LAST.PS = unsgn 32 (clampI (-2147483648) 2147483647 (divRound (((T % 10 ^ 12 : Nat) : Int) * (ps : Int)) ps)) ∧ t.servo = 1) ∧
  (∀ (s : State), s.clkRun = true → s.ppsFree = true → s.ppsDue = true → Leads .ppsOutAssert s fun t => t = { s with out := [.pin 2 false], time := { s.time with ppsOn := true, ppsAt := s.up } }) ∧
  (∀ (s : State), (s.ppsFree = false ∨ s.ppsDue = false) → Leads .ppsOutAssert s fun t => t = { s with out := [] }) ∧
  (∀ (s : State), s.up < s.time.ppsAt + clampN 1 999 (s.rd Reg.TIME.PPS_CFG.WIDTH_MS) * ms → Leads .ppsOutEnd s fun t => t = { s with out := [] }) ∧
  (∀ (s : State), s.time.ppsAt + clampN 1 999 (s.rd Reg.TIME.PPS_CFG.WIDTH_MS) * ms ≤ s.up → Leads .ppsOutEnd s fun t => t = { s with out := [], time := { s.time with ppsOn := false } })

/-- Time events are armed, disarmed and fire, and time stamps are popped (R255, R257, R259). Where the spec leaves it open, it rests on the model's choices (log 111). -/
def Obligations.TimeEventsLead : Prop :=
  (∀ (s : State) (path : HostPath) (k : Nat) (w : Word), s.Sound → k < 16 → s.Open (0x8210 + 0x20 * k) → s.tev k = none → getBits w 0 1 = 1 → getBits w 1 1 = 0 → getBits w 20 11 ≤ 1024 → s.now < s.rdTime (0x8200 + 0x20 * k) → Leads (.timeEventArm path k w) s fun t => t.flag (Reg.TIME.TEV_CTRL.ARM k) = true ∧ t.flag (Reg.TIME.TEV_CTRL.PERIODIC k) = false ∧ t.rd (Reg.TIME.TEV_CTRL.TARGETS k) = getBits w 8 7 ∧ t.rd (Reg.TIME.TEV_CTRL.TRIGO_SEL k) = getBits w 16 4 ∧ t.rd (Reg.TIME.TEV_CTRL.WIDTH k) = getBits w 20 11 ∧ t.flag (Reg.TIME.TEV_STATUS.ARMED k) = true ∧ t.tev k = some ⟨k, s.rdTime (0x8200 + 0x20 * k), false⟩ ∧ Frame [(Reg.TIME.TEV_CTRL.ARM k).off, (Reg.TIME.TEV_STATUS.ARMED k).off] [] { s with time := { s.time with tevs := ⟨k, s.rdTime (0x8200 + 0x20 * k), false⟩ :: s.time.tevs.filter (·.k != k) } } t) ∧
  (∀ (s : State) (path : HostPath) (k : Nat) (w : Word) (p : TevPlan), s.Sound → k < 16 → s.Open (0x8210 + 0x20 * k) → s.tev k = some p → getBits w 0 1 = 0 → tevFields w = (s.rd (Reg.TIME.TEV_CTRL.PERIODIC k), s.rd (Reg.TIME.TEV_CTRL.TARGETS k), s.rd (Reg.TIME.TEV_CTRL.TRIGO_SEL k), s.rd (Reg.TIME.TEV_CTRL.WIDTH k)) → Leads (.timeEventArm path k w) s fun t => t.flag (Reg.TIME.TEV_CTRL.ARM k) = false ∧ t.flag (Reg.TIME.TEV_STATUS.ARMED k) = false ∧ t.rd (Reg.TIME.TEV_CTRL.TARGETS k) = s.rd (Reg.TIME.TEV_CTRL.TARGETS k) ∧ t.tev k = none ∧ Frame [(Reg.TIME.TEV_CTRL.ARM k).off, (Reg.TIME.TEV_STATUS.ARMED k).off] [] { s with time := { s.time with tevs := s.time.tevs.filter (·.k != k) } } t) ∧
  (∀ (s : State) (k T : Nat), s.Sound → s.Calm → k < 16 → s.dev ≠ .off → s.dev ≠ .boot → s.tev k = some ⟨k, T, false⟩ → T ≤ s.now → s.flag (Reg.TIME.TEV_CTRL.PERIODIC k) = false → s.rd (Reg.TIME.TEV_CTRL.TARGETS k) = 0 → Leads (.timeEventFire [k]) s fun t => t.rd (Reg.TIME.TEV_STATUS.FIRED k) = (s.rd (Reg.TIME.TEV_STATUS.FIRED k) + 1) % 2 ^ (Reg.TIME.TEV_STATUS.FIRED k).len ∧ t.flag (Reg.TIME.TEV_STATUS.LATE k) = false ∧ t.flag (Reg.TIME.TEV_CTRL.ARM k) = false ∧ t.flag (Reg.TIME.TEV_STATUS.ARMED k) = false ∧ t.tev k = none ∧ t.HasEvt 0x8000 k ∧ Frame [(Reg.TIME.TEV_CTRL.ARM k).off, (Reg.TIME.TEV_STATUS.ARMED k).off, (Reg.TIME.TEV_MISSED.COUNT k).off] [0x8000, 0] { s with time := { s.time with tevs := s.time.tevs.filter (·.k != k) } } t) ∧
  (∀ (s : State) (k T : Nat), s.Sound → s.Calm → k < 16 → s.dev ≠ .off → s.dev ≠ .boot → s.tev k = some ⟨k, T, false⟩ → T ≤ s.now → s.flag (Reg.TIME.TEV_CTRL.PERIODIC k) = true → 0 < s.rd (Reg.TIME.TEV_PERIOD.NS k) → s.rd (Reg.TIME.TEV_CTRL.TARGETS k) = 0 → Leads (.timeEventFire [k]) s fun t => t.rd (Reg.TIME.TEV_STATUS.FIRED k) = (s.rd (Reg.TIME.TEV_STATUS.FIRED k) + 1) % 2 ^ (Reg.TIME.TEV_STATUS.FIRED k).len ∧ t.tev k = some ⟨k, T + s.rd (Reg.TIME.TEV_PERIOD.NS k) * ns, false⟩ ∧ t.HasEvt 0x8000 k) ∧
  (∀ (s : State) (path : HostPath) (e : TsEntry) (r : List TsEntry), s.dev ≠ .off → s.pageOn 0x8000 = true → s.time.tsq = e :: r → Leads (.tsPop path) s fun t => t.time = { s.time with tsq := r } ∧ t.out = [.word path 0x80D0 (BitVec.ofNat 32 (e.t / 1000 % 10 ^ 9))] ∧ t.regs = s.regs ∧ t.dev = s.dev) ∧
  (∀ (s : State) (path : HostPath), s.dev ≠ .off → s.pageOn 0x8000 = true → s.time.tsq = [] → Leads (.tsPop path) s fun t => t.time = s.time ∧ t.out = [.word path 0x80D0 0] ∧ t.regs = s.regs)

/-- Sensor rounds, the second stage of photonic throttling and the thermal shutdown (R265, R271, R272). Where the spec leaves it open, it rests on the model's choices (log 75, 103, 162, 191). -/
def Obligations.TemperatureLead : Prop :=
  (∀ (s : State) (xs : List Sample), s.Sound → s.Calm → s.dev ≠ .off → Leads (.sensorRound xs) s fun t => ((∀ i < 120, ∀ v : Int, xs.getD i .silent = .ok v → t.rd (Reg.THERMAL.SENSOR.TEMP i) = unsgn 16 v))) ∧
  (∀ (s : State) (xs : List Sample), s.Sound → s.Calm → s.dev = .off → Leads (.sensorRound xs) s fun t => t.regs = s.regs ∧ t.dev = .off) ∧
  (∀ (s : State), s.Sound → 2 ≤ s.zoneLevel 0 → s.picStage = 1 → s.throttleFree 0 = true → s.gov.overTemp = false → s.elemTotal ≤ s.rd Reg.BUDGET.HTR_BUDGET.W10 * 2500 * powUnit * 3 → Leads .picStage2Entry s fun t => t.picStage = 2 ∧ t.effBudget = s.rd Reg.BUDGET.HTR_BUDGET.W10 * 2500 * powUnit * 3 ∧ Frame [(Reg.THERMAL.ZONE_STATUS.STAGE 0).off] [] s t) ∧
  (∀ (s : State) (k : Nat), s.Sound → s.Calm → k < 4 → s.haltDue k = true → s.dev = .safe → Leads (.shutdownPersist k) s fun t => t.dev = .halt) ∧
  (∀ (s : State) (k : Nat), s.Sound → s.Calm → k < 4 → s.haltDue k = true → (s.dev = .hold ∨ s.dev = .armed ∨ s.dev = .run) → Leads (.shutdownPersist k) s fun t => t.dev = .halt ∧ t.rd Reg.SUMP.CNT_HALT.COUNT = min (s.rd Reg.SUMP.CNT_HALT.COUNT + 1) (2 ^ 32 - 1) ∧ t.HasEvt 0x7000 5) ∧
  (∀ (s : State) (k : Nat), s.Sound → s.Calm → k < 4 → s.haltDue k = false → Leads (.shutdownPersist k) s fun t => t.dev = s.dev ∧ Frame [] [0] s t) ∧
  (∀ (s : State) (k : Nat), s.Sound → s.Calm → k < 4 → s.haltDue k = true → s.dev = .boot → Leads (.shutdownPersist k) s fun t => t.dev = .halt ∧ t.rd Reg.BOOT.BOOT_STATUS.PHASE = 9)

/-- Jobs are offered, granted, ended and aged by the governor (R281, R282). Where the spec leaves it open, it rests on the model's choices (log 88, 89). -/
def Obligations.JobsLead : Prop :=
  (∀ (s : State) (l : Nat) (r : SolveReq) (rs : List SolveReq), s.laneIdle l = true → s.gov.jobs = [] → s.gov.refused = [] → s.seam.queue = r :: rs → r.hi = true → Leads (.jobOffer (.seam l)) s fun t => t = { s with out := [], gov := { s.gov with jobs := [⟨s.gov.nextId, .seam l, s.rd Reg.SEAM.CFG.HIGH_PRIORITY, s.rd Reg.SEAM.JOB_COST.COST, s.up⟩], nextId := s.gov.nextId + 1 } }) ∧
  (∀ (s : State), s.runBusy = true → s.plumb.run = none → s.gov.jobs = [] → s.gov.runs = [] → s.gov.refused = [] → Leads (.jobOffer .plumb) s fun t => t = { s with out := [], gov := { s.gov with jobs := [⟨s.gov.nextId, .plumb, s.rd Reg.PLUMB.JOB.PRIORITY, s.rd Reg.PLUMB.JOB.COST, s.up⟩], nextId := s.gov.nextId + 1 } }) ∧
  (∀ (s : State) (e : Nat), s.Sound → e < numElem → s.status e = stSat → s.wrapEligible e = true → (s.wrapPow e).isSome = true → s.gov.jobs = [] → Leads (.jobOffer (.wrap e)) s fun t => t.flag (Reg.ELEM.ELEM_STATUS.WRAP_PENDING e) = true ∧ t.status e = s.status e ∧ t.gov.jobs = [⟨s.gov.nextId, .wrap e, s.rd (Reg.BRAMBLE.TIMING_CFG.WRAP_PRIORITY (clusterOf e)), s.wrapCost e, s.up⟩] ∧ Frame [(Reg.ELEM.ELEM_STATUS.WRAP_PENDING e).off] [] { s with gov := t.gov } t) ∧
  (∀ (s : State) (e : Nat), s.status e ≠ stSat → Leads (.jobOffer (.wrap e)) s fun t => t = { s with out := [] }) ∧
  (∀ (s : State) (j : Job) (l : Nat), s.Sound → s.Calm → headJob (s.gov.jobs.filter s.grantable) = some j → j.kind = .seam l → Leads .jobGrant s fun t => t.rd Reg.BUDGET.CNT_JOBS.COUNT = min (s.rd Reg.BUDGET.CNT_JOBS.COUNT + 1) (2 ^ 32 - 1) ∧ t.gov.runs = s.gov.runs ++ [(j, false)] ∧ t.gov.jobs = s.gov.jobs.filter (·.id != j.id) ∧ t.dev = s.dev ∧ t.img = s.img) ∧
  (∀ (s : State), s.Sound → s.Calm → headJob (s.gov.jobs.filter s.grantable) = none → Leads .jobGrant s fun t => t.gov = s.gov ∧ Frame [] [0] s t) ∧
  (∀ (s : State), Leads .jobEnd s fun t => t = { s with out := [], gov := { s.gov with runs := s.gov.runs.filter fun r => !r.2 } }) ∧
  (∀ (s : State) (heater : Bool) (j : Job), s.Sound → (headJob (s.gov.jobs.filter fun j => heaterJob j.kind == heater) = some j) → s.agedOf heater = none → j.born + max 10 (s.rd Reg.BUDGET.JOB_AGE.US) * 1000 * ns ≤ s.up → Leads (.jobAged heater) s fun t => t.agedOf heater = some j.id ∧ t.agedOf (!heater) = s.agedOf (!heater) ∧ t.HasEvt 0x6000 5 ∧ Frame [] [0x6000] { s with gov := t.gov } t) ∧
  (∀ (s : State) (heater : Bool), (s.agedOf heater).isSome = true → Leads (.jobAged heater) s fun t => t = { s with out := [] })

/-- The loop of the supply voltage: requests, answers and faults (R283, R284). Where the spec leaves it open, it rests on the model's choices (log 102). -/
def Obligations.SupplyLoopLeads : Prop :=
  (∀ (s : State) (margin mon : Nat), s.Sound → s.avsOn = true → s.rd Reg.BUDGET.AVS_MARGIN.CRIT ≤ margin → s.rd Reg.BUDGET.AVS_MARGIN.LO ≤ margin → margin ≤ s.rd Reg.BUDGET.AVS_MARGIN.HI → s.therm.again = none → Leads (.avsPeriod margin mon) s fun t => t.rd Reg.BUDGET.MARGIN_NOW.WORST = margin % 2 ^ 8 ∧ t.rd Reg.BUDGET.MARGIN_NOW.MONITOR = mon % 2 ^ 5 ∧ Frame [Reg.BUDGET.MARGIN_NOW.WORST.off] [] { s with therm := { s.therm with above := 0 } } t) ∧
  (∀ (s : State) (margin mon mv : Nat), s.Sound → s.avsOn = true → s.flag Reg.BUDGET.AVS_CTRL.ENABLE = true → s.rd Reg.BUDGET.AVS_MARGIN.CRIT ≤ margin → margin < s.rd Reg.BUDGET.AVS_MARGIN.LO → margin ≤ s.rd Reg.BUDGET.AVS_MARGIN.HI → mv = clampN (clampN 650 900 (s.rd Reg.BUDGET.AVS_LIMITS.MIN_MV)) (clampN 650 900 (s.rd Reg.BUDGET.AVS_LIMITS.MAX_MV)) (s.rd Reg.BUDGET.AVS_STATUS.REQ_MV + 5) → Leads (.avsPeriod margin mon) s fun t => t.rd Reg.BUDGET.AVS_STATUS.REQ_MV = mv ∧ t.rd Reg.BUDGET.CNT_AVS_UP.COUNT = min (s.rd Reg.BUDGET.CNT_AVS_UP.COUNT + 1) (2 ^ 32 - 1) ∧ t.therm.avs = some ⟨.write mv, 0⟩ ∧ t.out = [.avs (.write mv)] ∧ t.HasEvt 0x6000 6 ∧ t.rd Reg.BUDGET.MARGIN_NOW.WORST = margin % 2 ^ 8 ∧ t.rd Reg.BUDGET.MARGIN_NOW.MONITOR = mon % 2 ^ 5 ∧ Frame [Reg.BUDGET.MARGIN_NOW.WORST.off, Reg.BUDGET.AVS_STATUS.REQ_MV.off, Reg.BUDGET.CNT_AVS_UP.COUNT.off] [0x6000] { s with therm := { s.therm with above := 0, avs := some ⟨.write mv, 0⟩, again := none } } t) ∧
  (∀ (s : State) (margin mon mv : Nat), s.Sound → s.avsOn = true → s.flag Reg.BUDGET.AVS_CTRL.ENABLE = true → s.rd Reg.BUDGET.AVS_MARGIN.CRIT ≤ margin → s.rd Reg.BUDGET.AVS_MARGIN.LO ≤ margin → s.rd Reg.BUDGET.AVS_MARGIN.HI < margin → max 1 (s.rd Reg.BUDGET.AVS_CTRL.DOWN_COUNT) ≤ s.therm.above + 1 → mv = clampN (clampN 650 900 (s.rd Reg.BUDGET.AVS_LIMITS.MIN_MV)) (clampN 650 900 (s.rd Reg.BUDGET.AVS_LIMITS.MAX_MV)) (s.rd Reg.BUDGET.AVS_STATUS.REQ_MV - 5) → Leads (.avsPeriod margin mon) s fun t => t.rd Reg.BUDGET.AVS_STATUS.REQ_MV = mv ∧ t.rd Reg.BUDGET.CNT_AVS_DOWN.COUNT = min (s.rd Reg.BUDGET.CNT_AVS_DOWN.COUNT + 1) (2 ^ 32 - 1) ∧ t.therm.avs = some ⟨.write mv, 0⟩ ∧ t.out = [.avs (.write mv)] ∧ t.HasEvt 0x6000 6 ∧ t.rd Reg.BUDGET.MARGIN_NOW.WORST = margin % 2 ^ 8 ∧ t.rd Reg.BUDGET.MARGIN_NOW.MONITOR = mon % 2 ^ 5 ∧ Frame [Reg.BUDGET.MARGIN_NOW.WORST.off, Reg.BUDGET.AVS_STATUS.REQ_MV.off, Reg.BUDGET.CNT_AVS_DOWN.COUNT.off] [0x6000] { s with therm := { s.therm with above := 0, avs := some ⟨.write mv, 0⟩, again := none } } t) ∧
  (∀ (s : State) (margin mv : Nat), s.Sound → s.avsOn = true → s.flag Reg.BUDGET.AVS_CTRL.ENABLE = true → margin < s.rd Reg.BUDGET.AVS_MARGIN.CRIT → mv = clampN (clampN 650 900 (s.rd Reg.BUDGET.AVS_LIMITS.MIN_MV)) (clampN 650 900 (s.rd Reg.BUDGET.AVS_LIMITS.MAX_MV)) (s.rd Reg.BUDGET.AVS_STATUS.REQ_MV + 20) → Leads (.marginCrit margin) s fun t => t.rd Reg.BUDGET.AVS_STATUS.REQ_MV = mv ∧ t.rd Reg.BUDGET.CNT_AVS_UP.COUNT = min (s.rd Reg.BUDGET.CNT_AVS_UP.COUNT + 1) (2 ^ 32 - 1) ∧ t.therm.avs = some ⟨.write mv, 0⟩ ∧ t.out = [.avs (.write mv)] ∧ t.HasEvt 0x6000 6 ∧ t.HasEvt 0x6000 8 ∧ Frame [Reg.BUDGET.AVS_STATUS.REQ_MV.off, Reg.BUDGET.CNT_AVS_UP.COUNT.off] [0x6000] { s with therm := { s.therm with avs := some ⟨.write mv, 0⟩, again := none }, inbox := s.inbox ++ [⟨30, margin % 2 ^ 32, false, false⟩] } t) ∧
  (∀ (s : State) (mv : Nat) (x : AvsTx), s.Sound → s.therm.avs = some x → x.cmd = .readVout → Leads (.avsResponse mv) s fun t => t.rd Reg.BUDGET.AVS_STATUS.READ_MV = mv % 2 ^ 10 ∧ t.flag Reg.BUDGET.AVS_STATUS.FAULT = false ∧ t.rd Reg.BUDGET.AVS_STATUS.REQ_MV = s.rd Reg.BUDGET.AVS_STATUS.REQ_MV ∧ Frame [Reg.BUDGET.AVS_STATUS.READ_MV.off] [] { s with therm := { s.therm with avs := none } } t) ∧
  (∀ (s : State) (mv v : Nat) (x : AvsTx), s.Sound → s.therm.avs = some x → x.cmd = .write v → Leads (.avsResponse mv) s fun t => t.rd Reg.BUDGET.AVS_STATUS.READ_MV = s.rd Reg.BUDGET.AVS_STATUS.READ_MV ∧ t.flag Reg.BUDGET.AVS_STATUS.FAULT = false ∧ t.rd Reg.BUDGET.AVS_STATUS.REQ_MV = s.rd Reg.BUDGET.AVS_STATUS.REQ_MV ∧ Frame [Reg.BUDGET.AVS_STATUS.READ_MV.off] [] { s with therm := { s.therm with avs := none } } t) ∧
  (∀ (s : State) (status : Nat) (x : AvsTx), s.therm.avs = some x → x.fails < 2 → Leads (.avsFault status) s fun t => t = { s with out := if s.flag Reg.BUDGET.AVS_CTRL.ENABLE then [.avs x.cmd] else [], therm := { s.therm with avs := some ⟨x.cmd, x.fails + 1⟩ } }) ∧
  (∀ (s : State) (status : Nat) (x : AvsTx), s.Sound → s.therm.avs = some x → 2 ≤ x.fails → x.cmd ≠ .readStatus → s.flag Reg.BUDGET.AVS_CTRL.ENABLE = true → Leads (.avsFault status) s fun t => t.therm = { s.therm with avs := some ⟨.readStatus, 0⟩, again := some x.cmd } ∧ t.out = [.avs .readStatus] ∧ t.flag Reg.BUDGET.AVS_STATUS.FAULT = true ∧ t.rd Reg.BUDGET.CNT_AVS_FAULT.COUNT = min (s.rd Reg.BUDGET.CNT_AVS_FAULT.COUNT + 1) (2 ^ 32 - 1) ∧ t.HasEvt 0x6000 7 ∧ Frame [Reg.BUDGET.AVS_STATUS.FAULT.off, Reg.BUDGET.CNT_AVS_FAULT.COUNT.off] [0x6000] { s with therm := t.therm, inbox := s.inbox ++ [⟨31, status % 2 ^ 32, false, false⟩] } t)

/-- Calibration banks: check, swap, abandon and copy (R296, R297, R314). Where the spec leaves it open, it rests on the model's choices (log 86, 87, 99, 101, 185). -/
def Obligations.BanksLead : Prop :=
  (∀ (s : State) (path : HostPath), s.Open 0xC06C → Leads (.hostSwap path) s fun t => t = { s with out := [], plumb := { s.plumb with checking := true } }) ∧
  (∀ (s : State), s.Sound → s.plumb.checking = true → Leads .hostSwapCheckDone s fun t => t.rd Reg.PLUMB.BANK_STATUS.HOST_CHECK = s.bankCheck ∧ t.flag Reg.PLUMB.BANK_STATUS.PENDING_READY = (s.bankCheck == 0 || s.flag Reg.PLUMB.BANK_STATUS.PENDING_READY) ∧ t.flag Reg.PLUMB.BANK_STATUS.SWAP_ARMED = (s.bankCheck == 0 || s.flag Reg.PLUMB.BANK_STATUS.SWAP_ARMED) ∧ Frame [Reg.PLUMB.BANK_STATUS.HOST_CHECK.off] [] { s with plumb := { s.plumb with checking := false, hostSet := s.bankCheck == 0 || s.plumb.hostSet, swapFix := s.bankCheck != 0 && s.plumb.swapFix } } t) ∧
  (∀ (s : State) (path : HostPath), s.Sound → s.Open 0xC06C → Leads (.bankAbandon path) s fun t => t.flag Reg.PLUMB.BANK_STATUS.SWAP_ARMED = false ∧ t.flag Reg.PLUMB.BANK_STATUS.PENDING_READY = s.flag Reg.PLUMB.BANK_STATUS.PENDING_READY ∧ Frame [Reg.PLUMB.BANK_STATUS.SWAP_ARMED.off] [] { s with plumb := { s.plumb with swapFix := false, hostSet := false } } t) ∧
  (∀ (s : State), s.Sound → s.flag Reg.PLUMB.BANK_STATUS.COPYING = true → Leads .pendingCopyDone s fun t => t.flag Reg.PLUMB.BANK_STATUS.COPYING = false ∧ ((∀ i < 0x20000, t.rdW (0x380000 + 4 * i) = s.rdW (0x300000 + 4 * i))) ∧ ((∀ off : Nat, off < 0x380000 ∨ 0x400000 ≤ off → off ≠ Reg.PLUMB.BANK_STATUS.COPYING.off → t.rdW off = s.rdW off)) ∧ t = { s with out := [], regs := t.regs }) ∧
  (∀ (s : State), s.Sound → s.flag Reg.PLUMB.BANK_STATUS.SWAP_ARMED = true → (s.gstate = 0 ∨ s.gstate = 5) → s.plumb.armAt < s.mon.clock → s.granuleEdge = true → Leads .swapInstant s fun t => t.flag Reg.PLUMB.BANK_STATUS.SWAP_ARMED = false ∧ t.flag Reg.PLUMB.BANK_STATUS.PENDING_READY = false ∧ t.flag Reg.PLUMB.BANK_STATUS.COPYING = true ∧ t.rd Reg.PLUMB.BANK_STATUS.SWAPS = (s.rd Reg.PLUMB.BANK_STATUS.SWAPS + 1) % 2 ^ Reg.PLUMB.BANK_STATUS.SWAPS.len ∧ ((∀ i < 0x20000, t.rdW (0x300000 + 4 * i) = s.rdW (0x380000 + 4 * i))) ∧ t.HasEvt 0xC000 2 ∧ t.dev = s.dev ∧ t.gan = s.gan)

/-- A Plumb run is requested, merged, refused, goes through its kinds and ends (R301, R302, R303, R304, R306, R307). Where the spec leaves it open, it rests on the model's choices (log 19, 95, 99, 100, 101, 187). -/
def Obligations.PlumbRunsLead : Prop :=
  (∀ (s : State) (path : HostPath) (kinds : Nat), s.Sound → s.Calm → s.Open 0xC040 → s.dev ≠ .off → s.dev ≠ .boot → s.dev ≠ .halt → s.flag (Reg.HDR.PG_CTRL.ENABLE 0xC000) = true → s.flag Reg.FUSE.FUSE_STATUS.COMMIT_BUSY = false → s.runBusy = false → Leads (.runReqGo path kinds) s fun t => t.flag Reg.PLUMB.RUN_STATUS.BUSY = true ∧ t.rd Reg.PLUMB.RUN_STATUS.KINDS = kinds % 8 ∧ t.rd Reg.PLUMB.RUN_STATUS.PHASE = 0 ∧ t.rd Reg.PLUMB.RUN_STATUS.RESULT = 0 ∧ Frame [Reg.PLUMB.RUN_STATUS.BUSY.off] [0] s t) ∧
  (∀ (s : State) (path : HostPath) (kinds : Nat), s.Sound → s.Calm → s.Open 0xC040 → (s.flag (Reg.HDR.PG_CTRL.ENABLE 0xC000) = false ∨ s.flag Reg.FUSE.FUSE_STATUS.COMMIT_BUSY = true) → Leads (.runReqGo path kinds) s fun t => t.rd Reg.PLUMB.RUN_STATUS.RESULT = 6 ∧ t.flag Reg.PLUMB.RUN_STATUS.BUSY = s.flag Reg.PLUMB.RUN_STATUS.BUSY ∧ Frame [Reg.PLUMB.RUN_STATUS.BUSY.off] [0] s t) ∧
  (∀ (s : State) (path : HostPath) (kinds : Nat), s.Sound → s.Calm → s.Open 0xC040 → s.dev ≠ .off → s.dev ≠ .boot → s.dev ≠ .halt → s.flag (Reg.HDR.PG_CTRL.ENABLE 0xC000) = true → s.flag Reg.FUSE.FUSE_STATUS.COMMIT_BUSY = false → s.runBusy = true → s.plumb.run = none → s.rd Reg.PLUMB.RUN_STATUS.PHASE = 0 → Leads (.runReqGo path kinds) s fun t => t.rd Reg.PLUMB.RUN_STATUS.KINDS = kinds % 8 ||| s.rd Reg.PLUMB.RUN_STATUS.KINDS ∧ t.flag Reg.PLUMB.RUN_STATUS.BUSY = true ∧ t.rd Reg.PLUMB.CNT_MERGED.COUNT = min (s.rd Reg.PLUMB.CNT_MERGED.COUNT + 1) (2 ^ 32 - 1) ∧ t.HasEvt 0xC000 3 ∧ Frame [Reg.PLUMB.RUN_STATUS.BUSY.off, Reg.PLUMB.CNT_MERGED.COUNT.off] [0xC000, 0] s t) ∧
  (∀ (s : State), s.Sound → s.Calm → s.flag Reg.PLUMB.TRIG_CFG.INTERVAL_EN = true → s.intervalOver = true → s.dev ≠ .off → s.dev ≠ .boot → s.dev ≠ .halt → s.flag (Reg.HDR.PG_CTRL.ENABLE 0xC000) = true → s.flag Reg.FUSE.FUSE_STATUS.COMMIT_BUSY = false → s.runBusy = false → Leads .plumbIntervalTrigger s fun t => t.flag Reg.PLUMB.RUN_STATUS.BUSY = true ∧ t.rd Reg.PLUMB.RUN_STATUS.KINDS = s.rd Reg.PLUMB.TRIG_CFG.INTERVAL_KINDS ∧ t.rd Reg.PLUMB.RUN_STATUS.PHASE = 0 ∧ t.rd Reg.PLUMB.RUN_STATUS.RESULT = 0 ∧ t.HasEvt 0xC000 5 ∧ Frame [Reg.PLUMB.RUN_STATUS.BUSY.off] [0xC000, 0] s t) ∧
  (∀ (s : State), s.Sound → s.Calm → (s.flag Reg.PLUMB.TRIG_CFG.INTERVAL_EN = false ∨ s.intervalOver = false) → Leads .plumbIntervalTrigger s fun t => t.dev = s.dev ∧ Frame [] [0] s t) ∧
  (∀ (s : State) (r : RunSt) (m : Nat) (ms : List Nat), s.rd Reg.PLUMB.RUN_STATUS.PHASE = 1 → s.flag Reg.PLUMB.BANK_STATUS.COPYING = false → s.plumb.run = some r → r.cur = none → r.dark = m :: ms → m < 19968 → s.monRange m = 0 → Leads .darkMonitorStep s fun t => t = { s with out := [], plumb := { s.plumb with run := some { r with dark := ms, cur := some ⟨m, 0, 0, 0, 0, []⟩ } }, bram := { s.bram with reqs := if s.bram.reqs.contains (m, 3) then s.bram.reqs else s.bram.reqs ++ [(m, 3)] } }) ∧
  (∀ (s : State) (r : RunSt), s.Sound → s.rd Reg.PLUMB.RUN_STATUS.PHASE = 1 → s.flag Reg.PLUMB.BANK_STATUS.COPYING = false → s.plumb.run = some r → r.cur = none → r.dark = [] → s.rd Reg.PLUMB.RUN_STATUS.KINDS = 1 → Leads .darkMonitorStep s fun t => t.rd Reg.PLUMB.RUN_STATUS.PHASE = 0 ∧ t.flag Reg.PLUMB.RUN_STATUS.BUSY = s.flag Reg.PLUMB.RUN_STATUS.BUSY ∧ Frame [Reg.PLUMB.RUN_STATUS.PHASE.off] [] s t) ∧
  (∀ (s : State) (errs corrs : List Nat), s.Sound → s.Quiet → s.rd Reg.PLUMB.RUN_STATUS.PHASE = 2 → s.flag Reg.PLUMB.BANK_STATUS.COPYING = false → s.plumb.run.isSome = true → Leads (.recentre errs corrs) s fun t => ((t.rd Reg.PLUMB.RUN_STATUS.PHASE = 0 ∨ t.rd Reg.PLUMB.RUN_STATUS.PHASE = 3)) ∧ t.dev = s.dev ∧ t.drv = s.drv ∧ t.img = s.img ∧ t.bram = s.bram ∧ t.gan = s.gan ∧ t.rdW 0x300000 = s.rdW 0x300000) ∧
  (∀ (s : State) (r : RunSt), s.Sound → s.Quiet → s.rd Reg.PLUMB.RUN_STATUS.PHASE = 3 → s.dev = .run → s.flag Reg.PLUMB.SWEEP_SLOTS.EN = true → s.plumb.run = some r → r.asked = false → r.ready = false → s.plumb.window = none → s.picStage ≠ 2 → s.flag Reg.PLUMB.BANK_STATUS.COPYING = false → r.visit < 8704 → s.visitPassed (r.visit / 2) = false → s.slotInUse (s.rd Reg.PLUMB.SWEEP_SLOTS.PROBE_SLOT) = false → s.seamOpen = true → s.seam.queue.length < 64 → s.slotPending (s.rd Reg.PLUMB.SWEEP_SLOTS.PROBE_SLOT) = false → Leads .sweepVisitSubmit s fun t => t.plumb = { s.plumb with run := some { r with asked := true } } ∧ t.seam.queue.length = s.seam.queue.length + 1 ∧ t.dev = .run ∧ t.img = s.img ∧ t.gan = s.gan) ∧
  (∀ (s : State) (r : RunSt), s.Sound → s.Quiet → s.rd Reg.PLUMB.RUN_STATUS.PHASE = 3 → s.dev ≠ .run → s.plumb.run = some r → Leads .sweepVisitSubmit s fun t => t.rd Reg.PLUMB.RUN_STATUS.PHASE = 0 ∧ t.plumb = s.plumb ∧ Frame [Reg.PLUMB.RUN_STATUS.PHASE.off] [0] s t) ∧
  (∀ (s : State) (r : RunSt), s.Sound → s.Quiet → s.rd Reg.PLUMB.RUN_STATUS.PHASE = 3 → s.kindRuns 3 = true → s.flag Reg.PLUMB.BANK_STATUS.COPYING = false → s.plumb.window = none → s.img.liveRef = .slot (s.rd Reg.PLUMB.SWEEP_SLOTS.PROBE_SLOT) → s.picStage ≠ 2 → s.plumb.run = some r → r.ready = false → Leads .plumbWindowOpen s fun t => t.rd Reg.PLUMB.CNT_WINDOW_IDLE.COUNT = min (s.rd Reg.PLUMB.CNT_WINDOW_IDLE.COUNT + 1) (2 ^ 32 - 1) ∧ Frame [Reg.PLUMB.CNT_WINDOW_IDLE.COUNT.off] [0] s t) ∧
  (∀ (s : State) (r : RunSt), s.Sound → s.Quiet → s.rd Reg.PLUMB.RUN_STATUS.PHASE = 3 → s.kindRuns 3 = true → s.flag Reg.PLUMB.BANK_STATUS.COPYING = false → s.plumb.window = none → s.img.liveRef = .slot (s.rd Reg.PLUMB.SWEEP_SLOTS.PROBE_SLOT) → s.picStage ≠ 2 → s.plumb.run = some r → r.ready = true → s.viaReady (r.visit / 2) = true → s.probeDark = true → Leads .plumbWindowOpen s fun t => t.plumb = { s.plumb with run := some { r with darkWin := r.darkWin + 1, visit := r.visit + 1, asked := false, ready := false } } ∧ t.HasEvt 0xC000 4 ∧ t.rd Reg.PLUMB.SWEEP_PROGRESS.VISITS = (r.visit + 1) % 2 ^ Reg.PLUMB.SWEEP_PROGRESS.VISITS.len ∧ Frame [Reg.PLUMB.SWEEP_PROGRESS.VISITS.off] [0xC000, 0] { s with plumb := t.plumb } t) ∧
  (∀ (s : State) (r : RunSt), s.Sound → s.Quiet → s.rd Reg.PLUMB.RUN_STATUS.PHASE = 3 → s.kindRuns 3 = true → s.flag Reg.PLUMB.BANK_STATUS.COPYING = false → s.plumb.window = none → s.img.liveRef = .slot (s.rd Reg.PLUMB.SWEEP_SLOTS.PROBE_SLOT) → s.picStage ≠ 2 → s.plumb.run = some r → r.ready = true → s.viaReady (r.visit / 2) = true → s.probeDark = false → Leads .plumbWindowOpen s fun t => (t.plumb.window.map fun w => (w.pos, w.cross, w.point, w.pts, w.timed, w.since)) = some (r.visit / 2, r.visit % 2 == 1, 0, [], false, s.up) ∧ t.plumb.run = some r ∧ t.img = s.img ∧ t.gan = s.gan ∧ t.dev = s.dev) ∧
  (∀ (s : State) (xs : List (Nat × Int × Int)) (w : Window), s.Sound → s.Quiet → s.plumb.window = some w → s.picStage ≠ 2 → s.flag Reg.PLUMB.BANK_STATUS.COPYING = false → s.pointRipe w = true → w.point + 1 < s.sweepPoints → Leads (.sweepPoint xs) s fun t => t.plumb = { s.plumb with window := some { w with point := w.point + 1, since := s.up, pts := w.pts ++ w.base.filterMap fun b => (xs.find? fun x => x.1 == b.1).map fun x => SweepPt.mk b.1 0 x.2.1 x.2.2 } } ∧ t.dev = s.dev ∧ t.img = s.img ∧ t.gan = s.gan) ∧
  (∀ (s : State) (r : RunSt), s.Sound → s.Quiet → s.rd Reg.PLUMB.RUN_STATUS.PHASE = 0 → s.plumb.run = some r → r.cur = none → s.plumb.window = none → r.rejected = 0 → r.darkWin = 0 → r.taken = 0 → Leads .plumbRunEnd s fun t => t.flag Reg.PLUMB.RUN_STATUS.BUSY = false ∧ t.rd Reg.PLUMB.RUN_STATUS.RESULT = 2 ∧ t.flag Reg.PLUMB.BANK_STATUS.SWAP_ARMED = s.flag Reg.PLUMB.BANK_STATUS.SWAP_ARMED ∧ ((∀ z < 64, s.sensorFailed z = false → t.rd (Reg.PLUMB.ZONE_T_LAST.TEMP z) = s.rd (Reg.THERMAL.SENSOR.TEMP z))) ∧ t.HasEvt 0xC000 0 ∧ t.plumb = { s.plumb with run := none, good := some s.up } ∧ t.dev = s.dev) ∧
  (∀ (s : State) (r : RunSt), s.Sound → s.Quiet → s.rd Reg.PLUMB.RUN_STATUS.PHASE = 0 → s.plumb.run = some r → r.cur = none → s.plumb.window = none → r.rejected = 0 → r.darkWin = 0 → 0 < r.taken → Leads .plumbRunEnd s fun t => t.flag Reg.PLUMB.RUN_STATUS.BUSY = false ∧ t.rd Reg.PLUMB.RUN_STATUS.RESULT = 1 ∧ t.flag Reg.PLUMB.BANK_STATUS.SWAP_ARMED = true ∧ t.flag Reg.PLUMB.BANK_STATUS.PENDING_READY = true ∧ t.HasEvt 0xC000 0 ∧ t.plumb = { s.plumb with run := none, hostSet := false, swapFix := false, armAt := s.mon.clock, good := some s.up } ∧ t.dev = s.dev) ∧
  (∀ (s : State) (w : Window), s.Sound → s.Calm → s.plumb.window = some w → w.timed = true → w.stop ≤ s.up → w.base = [] → Leads .windowGEnd s fun t => t.plumb = { s.plumb with window := none } ∧ Frame [] [0] { s with plumb := { s.plumb with window := none } } t) ∧
  (∀ (s : State) (w : Window), s.Sound → s.Calm → s.plumb.window = some w → (w.timed = false ∨ s.up < w.stop) → Leads .windowGEnd s fun t => t.plumb = s.plumb ∧ Frame [] [0] s t)

/-- The atlas and the commit of calibration to fuses (R309, R310, R311). Where the spec leaves it open, it rests on the model's choices (log 96, 97, 98, 188). -/
def Obligations.AtlasAndFusesLead : Prop :=
  (∀ (s : State) (path : HostPath), s.Sound → s.Open 0xC084 → s.flag Reg.PLUMB.ATLAS_CTRL.ENABLE = true → s.flag Reg.PLUMB.ATLAS_CTRL.FREEZE = false → Leads (.atlasFreeze path) s fun t => t.flag Reg.PLUMB.ATLAS_CTRL.FREEZE = true ∧ t.flag Reg.PLUMB.ATLAS_CTRL.ENABLE = true ∧ t.flag Reg.PLUMB.ATLAS_CTRL.VALID = s.flag Reg.PLUMB.ATLAS_CTRL.VALID ∧ Frame [Reg.PLUMB.ATLAS_CTRL.FREEZE.off] [] { s with plumb := { s.plumb with freezing := true } } t) ∧
  (∀ (s : State), s.Sound → s.plumb.freezing = true → s.sdOnline = false → Leads .atlasFreezeDone s fun t => t.flag Reg.PLUMB.ATLAS_CTRL.VALID = true ∧ t.flag Reg.PLUMB.ATLAS_CTRL.FREEZE = s.flag Reg.PLUMB.ATLAS_CTRL.FREEZE ∧ Frame [Reg.PLUMB.ATLAS_CTRL.VALID.off] [] { s with plumb := { s.plumb with freezing := false } } t) ∧
  (∀ (s : State), s.Sound → s.plumb.freezing = true → s.sdOnline = true → Leads .atlasFreezeDone s fun t => t.flag Reg.PLUMB.ATLAS_CTRL.VALID = true ∧ t.sdBytes s.atlasBase 64 = s.atlasHeader ∧ t = { s with out := [], regs := t.regs, sd := t.sd, plumb := { s.plumb with freezing := false } }) ∧
  (∀ (s : State) (path : HostPath), s.Sound → s.Open 0xC084 → s.flag Reg.PLUMB.ATLAS_CTRL.ENABLE = false → s.flag Reg.PLUMB.ATLAS_CTRL.FREEZE = bitOf (s.rdW 0xC084).toNat 1 → s.sdOnline = false → Leads (.atlasEnable path) s fun t => t.flag Reg.PLUMB.ATLAS_CTRL.ENABLE = true ∧ t.flag Reg.PLUMB.ATLAS_CTRL.FREEZE = s.flag Reg.PLUMB.ATLAS_CTRL.FREEZE ∧ Frame [Reg.PLUMB.ATLAS_CTRL.ENABLE.off] [] { s with freeCtr := s.freeCtr + 1 } t) ∧
  (∀ (s : State) (path : HostPath) (g : Nat), s.Sound → s.Open 0x4048 → path ≠ .opRing → s.flag Reg.FUSE.FUSE_STATUS.COMMIT_BUSY = false → s.flag (Reg.HDR.PG_LOCK.LOCKED 0x4000) = false → (s.dev = .hold ∨ s.dev = .armed ∨ s.dev = .run) → s.runBusy = false → s.zoneLevel 3 = 0 → s.commitTarget = some g → Leads (.fuseCmdCommit path 0xF05E) s fun t => t.flag Reg.FUSE.FUSE_STATUS.COMMIT_BUSY = true ∧ t.rd Reg.FUSE.COMMIT_STATUS.STEP = 1 ∧ t.rd Reg.FUSE.COMMIT_STATUS.RESULT = 0 ∧ t.rd Reg.FUSE.COMMIT_STATUS.TARGET = g ∧ t.rd Reg.FUSE.COMMIT_PROGRESS.BYTES = 0 ∧ Frame [Reg.FUSE.FUSE_STATUS.COMMIT_BUSY.off, Reg.FUSE.COMMIT_STATUS.STEP.off, Reg.FUSE.COMMIT_PROGRESS.BYTES.off] [] { s with plumb := { s.plumb with commit := some (s.commitImage g) } } t) ∧
  (∀ (s : State) (path : HostPath) (confirm : Nat), s.Sound → s.Open 0x4048 → s.flag Reg.FUSE.FUSE_STATUS.COMMIT_BUSY = false → confirm % 2 ^ 16 ≠ 0xF05E → Leads (.fuseCmdCommit path confirm) s fun t => t.rd Reg.FUSE.COMMIT_STATUS.RESULT = 9 ∧ t.flag Reg.FUSE.FUSE_STATUS.COMMIT_BUSY = false ∧ Frame [Reg.FUSE.COMMIT_STATUS.RESULT.off] [] s t) ∧
  (∀ (s : State) (path : HostPath), s.Sound → s.Open 0x4048 → s.flag (Reg.HDR.PG_LOCK.LOCKED 0x4000) = false → markPartial (s.validMark (s.rd Reg.FUSE.FUSE_STATUS.IN_FORCE)) = true → s.rd Reg.FUSE.FUSE_STATUS.IN_FORCE = 0 → Leads (.finishRevoke path 0xF05E) s fun t => t.validMark 0 = 0xFF ∧ t.revokeMark 0 = s.revokeMark 0 ∧ t = { s with out := [], regs := t.regs }) ∧
  (∀ (s : State) (path : HostPath) (confirm : Nat), s.Sound → s.Open 0x4048 → confirm % 2 ^ 16 ≠ 0xF05E → Leads (.finishRevoke path confirm) s fun t => t.rd (Reg.HDR.PG_ERRCNT.LAST_OFFSET 0x4000) = 0x48 ∧ Frame [0x4020] [] s t) ∧
  (∀ (s : State) (n : Nat) (image : List Byte), s.Sound → s.plumb.commit = some image → Leads (.fuseCommitEnd (.done n)) s fun t => t.flag Reg.FUSE.FUSE_STATUS.COMMIT_BUSY = false ∧ t.rd Reg.FUSE.COMMIT_STATUS.STEP = 0 ∧ t.rd Reg.FUSE.COMMIT_STATUS.RESULT = 1 ∧ t.rd Reg.FUSE.COMMIT_STATUS.RETRIES = n % 2 ^ 4 ∧ t.rd Reg.FUSE.COMMIT_PROGRESS.BYTES = 0x70000 ∧ t.validMark (s.rd Reg.FUSE.COMMIT_STATUS.TARGET) = 0xFF ∧ t.HasEvt 0x4000 0 ∧ t.plumb = { s.plumb with commit := none }) ∧
  (∀ (s : State) (held : List (Nat × Byte)) (image : List Byte), s.Sound → s.plumb.commit = some image → Leads (.fuseCommitEnd (.verifyFail held)) s fun t => t.flag Reg.FUSE.FUSE_STATUS.COMMIT_BUSY = false ∧ t.rd Reg.FUSE.COMMIT_STATUS.RESULT = 7 ∧ t.rd Reg.FUSE.COMMIT_STATUS.RETRIES = 3 ∧ t.HasEvt 0x4000 1 ∧ t.validMark 0 = s.validMark 0 ∧ t.plumb = { s.plumb with commit := none })

/-- Links go up and down, and frames are counted, dropped, delivered or passed on (R318, R321, R334). Where the spec leaves it open, it rests on the model's choices (log 115, 116, 118, 124). -/
def Obligations.RingPortsLead : Prop :=
  (∀ (s : State) (p : Nat) (tr : List Nat), s.Sound → s.portReady p = true → s.linkUp p = false → s.engState p = 0 → s.activeEng = some (1 - p) → s.flag (Reg.HDR.PG_CTRL.ENABLE (0x10000 + 0x1000 * p)) = true → (s.engine p).trip = none → Leads (.linkUp [(p, tr)]) s fun t => t.linkUp p = true ∧ t.flag (Reg.RING.PORT_STATUS.AN_DONE p) = s.flag (Reg.RING.PORT_CFG.AN_EN p) ∧ t.flag (Reg.RING.PORT_STATUS.LT_DONE p) = s.flag (Reg.RING.PORT_CFG.LT_EN p) ∧ t.flag (Reg.RING.PORT_STATUS.FEC_LOCK p) = true ∧ t.engState p = 1 ∧ t.engState (1 - p) = 3 ∧ (t.engine p).since = s.up ∧ t.HasEvt (0x10000 + 0x1000 * p) 0 ∧ t.dev = s.dev) ∧
  (∀ (s : State) (p : Nat) (tr : List Nat), s.Sound → s.portReady p = true → s.linkUp p = false → s.engState 0 = 0 → s.engState 1 = 0 → s.flag (Reg.HDR.PG_CTRL.ENABLE (0x10000 + 0x1000 * p)) = true → (s.engine p).trip = none → s.rd Reg.PATH.PATH_CFG.PRIMARY = p → Leads (.linkUp [(p, tr)]) s fun t => t.linkUp p = true ∧ t.engState p = 3 ∧ t.engState (1 - p) = 0 ∧ t.rd Reg.PATH.PATH_STATUS.ACTIVE = p ∧ t.epoch = 1 ∧ t.HasEvt (0x10000 + 0x1000 * p) 0 ∧ t.dev = s.dev) ∧
  (∀ (s : State) (p : Nat), s.Sound → p < 2 → s.linkUp p = true → s.engState p ≠ 3 → Leads (.linkDown p) s fun t => t.linkUp p = false ∧ t.engState p = 0 ∧ t.rd (Reg.RING.CNT_LINK_DOWN.COUNT p) = min (s.rd (Reg.RING.CNT_LINK_DOWN.COUNT p) + 1) (2 ^ 32 - 1) ∧ t.HasEvt (0x10000 + 0x1000 * p) 1 ∧ Frame [(Reg.RING.PORT_STATUS.LINK_UP p).off, (Reg.RING.CNT_LINK_DOWN.COUNT p).off, Reg.PATH.PATH_STATUS.ACTIVE.off, (Reg.TIME.PORT_STATE.STATE 0).off, (Reg.TIME.PORT_STATE.STATE 1).off] [0x10000 + 0x1000 * p] { s with path := (s.setEngine p { s.engine p with downAt := some s.up }).path } t) ∧
  (∀ (s : State) (p : Nat), s.Sound → p < 2 → s.linkUp p = true → s.engState p = 3 → Leads (.linkDown p) s fun t => t.linkUp p = false ∧ t.engState p = 3 ∧ t.rd (Reg.RING.CNT_LINK_DOWN.COUNT p) = min (s.rd (Reg.RING.CNT_LINK_DOWN.COUNT p) + 1) (2 ^ 32 - 1) ∧ t.HasEvt (0x10000 + 0x1000 * p) 1 ∧ Frame [(Reg.RING.PORT_STATUS.LINK_UP p).off, (Reg.RING.CNT_LINK_DOWN.COUNT p).off, (Reg.TIME.PORT_STATE.STATE 0).off, (Reg.TIME.PORT_STATE.STATE 1).off] [0x10000 + 0x1000 * p] { s with path := (s.setEngine p { s.engine p with downAt := some s.up }).path } t) ∧
  (∀ (s : State) (p corr res : Nat) (d : List Byte), s.Sound → p < 2 → s.linkUp p = true → 20 ≤ d.length → d.length ≤ 9212 → beAt d 12 2 = 0x8808 → Leads (.ringFrameRx p d .ok false corr res false) s fun t => t.rd (Reg.RING.CNT_FEC_CORR.COUNT p) = min (s.rd (Reg.RING.CNT_FEC_CORR.COUNT p) + corr) (2 ^ 32 - 1) ∧ t.rd (Reg.RING.CNT_RX_FRAMES.COUNT p) = min (s.rd (Reg.RING.CNT_RX_FRAMES.COUNT p) + 1) (2 ^ 32 - 1) ∧ t.rd (Reg.RING.CNT_PAUSE_DROP.COUNT p) = min (s.rd (Reg.RING.CNT_PAUSE_DROP.COUNT p) + 1) (2 ^ 32 - 1) ∧ Frame [(Reg.RING.CNT_FEC_CORR.COUNT p).off, (Reg.RING.CNT_RX_FRAMES.COUNT p).off, (Reg.RING.CNT_PAUSE_DROP.COUNT p).off] [] s t) ∧
  (∀ (s : State) (p corr res : Nat) (d : List Byte), s.Sound → p < 2 → s.linkUp p = true → 20 ≤ d.length → d.length ≤ 9212 → beAt d 12 2 ≠ 0x8808 → beAt d 12 2 ≠ s.rd (Reg.RING.TAG_CFG.ETHERTYPE p) → Leads (.ringFrameRx p d .bad false corr res false) s fun t => t.rd (Reg.RING.CNT_FEC_CORR.COUNT p) = min (s.rd (Reg.RING.CNT_FEC_CORR.COUNT p) + corr) (2 ^ 32 - 1) ∧ t.rd (Reg.RING.CNT_RX_FRAMES.COUNT p) = min (s.rd (Reg.RING.CNT_RX_FRAMES.COUNT p) + 1) (2 ^ 32 - 1) ∧ t.rd (Reg.RING.CNT_FCS_ERR.COUNT p) = min (s.rd (Reg.RING.CNT_FCS_ERR.COUNT p) + 1) (2 ^ 32 - 1) ∧ t.rd (Reg.RING.CNT_UNTAGGED.COUNT p) = min (s.rd (Reg.RING.CNT_UNTAGGED.COUNT p) + 1) (2 ^ 32 - 1) ∧ t.HasEvt (0x10000 + 0x1000 * p) 3 ∧ Frame [(Reg.RING.CNT_FEC_CORR.COUNT p).off, (Reg.RING.CNT_RX_FRAMES.COUNT p).off, (Reg.RING.CNT_FCS_ERR.COUNT p).off, (Reg.RING.CNT_UNTAGGED.COUNT p).off] [0x10000 + 0x1000 * p] { s with path := (s.diagCount p fun x => { x with fcs := x.fcs + 1 }).path } t) ∧
  (∀ (s : State) (p corr res : Nat) (d : List Byte), s.Sound → p < 2 → s.linkUp p = true → 20 ≤ d.length → d.length ≤ 9212 → beAt d 12 2 = s.rd (Reg.RING.TAG_CFG.ETHERTYPE p) → beAt d 12 2 ≠ 0x8808 → beAt d 14 1 = s.rd (Reg.RING.TAG_CFG.RING_ID p) → beAt d 16 1 % 128 + 1 < max 2 (s.rd (Reg.RING.FRAME_CFG.HOP_LIMIT p)) → beAt d 6 6 ≠ s.station p → beAt d 0 6 = s.station p → bitOf (beAt d 19 1) 1 = false → s.flag (Reg.HDR.PG_CTRL.ENABLE 0xF000) = true → fillOf (s.inQueue p) + divUp d.length 64 ≤ 512 → Leads (.ringFrameRx p d .ok false corr res false) s fun t => t.rd (Reg.RING.CNT_FEC_CORR.COUNT p) = min (s.rd (Reg.RING.CNT_FEC_CORR.COUNT p) + corr) (2 ^ 32 - 1) ∧ t.rd (Reg.RING.CNT_RX_FRAMES.COUNT p) = min (s.rd (Reg.RING.CNT_RX_FRAMES.COUNT p) + 1) (2 ^ 32 - 1) ∧ t.rd (Reg.RING.CNT_LOCAL_RX.COUNT p) = min (s.rd (Reg.RING.CNT_LOCAL_RX.COUNT p) + 1) (2 ^ 32 - 1) ∧ Frame [(Reg.RING.CNT_FEC_CORR.COUNT p).off, (Reg.RING.CNT_RX_FRAMES.COUNT p).off, (Reg.RING.CNT_LOCAL_RX.COUNT p).off, Reg.PARSER.CNT_LOCAL_A.COUNT.off, Reg.PARSER.CNT_LOCAL_B.COUNT.off] [] { s with parser := (if p = 0 then { s.parser with inA := s.parser.inA ++ [⟨p, d, true, false, s.now⟩] } else { s.parser with inB := s.parser.inB ++ [⟨p, d, true, false, s.now⟩] }), path := (s.rseqSeen p (beAt d 6 6) (beAt d 17 2)).path } t) ∧
  (∀ (s : State) (p corr res : Nat) (d : List Byte), s.Sound → p < 2 → s.linkUp p = true → 20 ≤ d.length → d.length ≤ 9212 → beAt d 12 2 = s.rd (Reg.RING.TAG_CFG.ETHERTYPE p) → beAt d 12 2 ≠ 0x8808 → beAt d 14 1 = s.rd (Reg.RING.TAG_CFG.RING_ID p) → beAt d 16 1 % 128 + 1 < max 2 (s.rd (Reg.RING.FRAME_CFG.HOP_LIMIT p)) → beAt d 6 6 ≠ s.station p → beAt d 0 6 ≠ s.station p → s.groupAddr p (beAt d 0 6) = false → s.linkUp (1 - p) = true → ptpFind (overlay d 16 (beBytes 1 (beAt d 16 1 / 128 * 128 + (beAt d 16 1 + 1) % 128))) 20 (s.station p) = none → ptpFind d 20 (s.station p) = none → res / 1000 ≤ s.rd (Reg.RING.PASS_LAT.MAX_NS p) → Leads (.ringFrameRx p d .ok false corr res false) s fun t => t.rd (Reg.RING.CNT_FEC_CORR.COUNT p) = min (s.rd (Reg.RING.CNT_FEC_CORR.COUNT p) + corr) (2 ^ 32 - 1) ∧ t.rd (Reg.RING.CNT_RX_FRAMES.COUNT p) = min (s.rd (Reg.RING.CNT_RX_FRAMES.COUNT p) + 1) (2 ^ 32 - 1) ∧ t.rd (Reg.RING.CNT_PASSED.COUNT p) = min (s.rd (Reg.RING.CNT_PASSED.COUNT p) + 1) (2 ^ 32 - 1) ∧ t.rd (Reg.RING.CNT_TX_FRAMES.COUNT (1 - p)) = min (s.rd (Reg.RING.CNT_TX_FRAMES.COUNT (1 - p)) + 1) (2 ^ 32 - 1) ∧ t.out = [.frame (1 - p) (overlay d 16 (beBytes 1 (beAt d 16 1 / 128 * 128 + (beAt d 16 1 + 1) % 128))) false] ∧ Frame [(Reg.RING.CNT_FEC_CORR.COUNT p).off, (Reg.RING.CNT_RX_FRAMES.COUNT p).off, (Reg.RING.CNT_PASSED.COUNT p).off, (Reg.RING.CNT_TX_FRAMES.COUNT (1 - p)).off] [] { s with path := (s.rseqSeen p (beAt d 6 6) (beAt d 17 2)).path } t) ∧
  (∀ (s : State) (p corr res : Nat) (d : List Byte), s.Sound → p < 2 → s.linkUp p = true → 20 ≤ d.length → d.length ≤ 9212 → beAt d 12 2 = s.rd (Reg.RING.TAG_CFG.ETHERTYPE p) → beAt d 12 2 ≠ 0x8808 → beAt d 14 1 = s.rd (Reg.RING.TAG_CFG.RING_ID p) → max 2 (s.rd (Reg.RING.FRAME_CFG.HOP_LIMIT p)) ≤ beAt d 16 1 % 128 + 1 → Leads (.ringFrameRx p d .ok false corr res false) s fun t => t.rd (Reg.RING.CNT_FEC_CORR.COUNT p) = min (s.rd (Reg.RING.CNT_FEC_CORR.COUNT p) + corr) (2 ^ 32 - 1) ∧ t.rd (Reg.RING.CNT_RX_FRAMES.COUNT p) = min (s.rd (Reg.RING.CNT_RX_FRAMES.COUNT p) + 1) (2 ^ 32 - 1) ∧ t.rd (Reg.RING.CNT_HOP_DROP.COUNT p) = min (s.rd (Reg.RING.CNT_HOP_DROP.COUNT p) + 1) (2 ^ 32 - 1) ∧ t.HasEvt (0x10000 + 0x1000 * p) 4 ∧ Frame [(Reg.RING.CNT_FEC_CORR.COUNT p).off, (Reg.RING.CNT_RX_FRAMES.COUNT p).off, (Reg.RING.CNT_HOP_DROP.COUNT p).off] [0x10000 + 0x1000 * p] { s with path := (s.rseqSeen p (beAt d 6 6) (beAt d 17 2)).path } t)

/-- The two path engines: cycle ends, copies, diagnosis, take-overs and recovery (R325, R326, R330, R333, R334, R335). Where the spec leaves it open, it rests on the model's choices (log 121, 123, 134, 190). -/
def Obligations.PathEnginesLead : Prop :=
  (∀ (s : State) (e sa : Nat), e < 2 → Leads (.dupSourceRelease e sa) s fun t => t = { s with out := [], path := (if e = 0 then { s.path with engA := { s.engine e with dups := (s.engine e).dups.filter fun d => d.sa != sa || decide (s.up < d.used + sec) } } else { s.path with engB := { s.engine e with dups := (s.engine e).dups.filter fun d => d.sa != sa || decide (s.up < d.used + sec) } }) }) ∧
  (∀ (s : State) (same : Bool), s.Sound → s.engState 0 = 3 → s.engState 1 = 2 → s.healthy 0 = true → s.path.copy = true → s.flag Reg.PATH.PATH_CFG.MODE = true → Leads (.pathCycleEnd same true) s fun t => (t.engine 1).dups = (s.engine 0).dups ∧ (t.engine 1).reasm = (s.engine 0).reasm ∧ (t.engine 1).dead = (s.engine 0).dead ∧ (t.engine 1).age = 0 ∧ t.engine 0 = s.engine 0 ∧ t.rd Reg.PATH.CNT_COPY.COUNT = min (s.rd Reg.PATH.CNT_COPY.COUNT + 1) (2 ^ 32 - 1) ∧ t.flag Reg.PATH.PATH_STATUS.DEGRADED = false ∧ t.engState 0 = 3 ∧ t.engState 1 = 2 ∧ t.path.copy = true ∧ Frame [Reg.PATH.CNT_COPY.COUNT.off, Reg.PATH.PATH_STATUS.DEGRADED.off] [] { s with path := t.path } t) ∧
  (∀ (s : State) (ok : Bool), s.Sound → s.engState 0 = 3 → s.engState 1 = 2 → s.healthy 0 = true → s.path.copy = false → s.flag Reg.PATH.PATH_CFG.MODE = false → Leads (.pathCycleEnd false ok) s fun t => t.rd Reg.PATH.CNT_DIGEST_MISMATCH.COUNT = min (s.rd Reg.PATH.CNT_DIGEST_MISMATCH.COUNT + 1) (2 ^ 32 - 1) ∧ t.flag Reg.PATH.PATH_STATUS.DEGRADED = false ∧ t.engState 0 = 3 ∧ t.engState 1 = 1 ∧ t.path.copy = false ∧ Frame [Reg.PATH.CNT_DIGEST_MISMATCH.COUNT.off, Reg.PATH.PATH_STATUS.DEGRADED.off] [] { s with path := t.path } t) ∧
  (∀ (s : State) (e : Nat), s.Sound → e < 2 → s.engState e = 1 → s.engState (1 - e) = 3 → s.flag Reg.PATH.PATH_STATUS.DEGRADED = false → Leads (.stateCopyDone e true) s fun t => t.engState e = 2 ∧ t.engState (1 - e) = 3 ∧ t.path = (if e = 0 then { s.path with engA := { s.engine e with dups := (s.engine (1 - e)).dups, reasm := (s.engine (1 - e)).reasm, dead := (s.engine (1 - e)).dead, age := 0, since := s.up } } else { s.path with engB := { s.engine e with dups := (s.engine (1 - e)).dups, reasm := (s.engine (1 - e)).reasm, dead := (s.engine (1 - e)).dead, age := 0, since := s.up } }) ∧ t.rd Reg.PATH.CNT_COPY.COUNT = min (s.rd Reg.PATH.CNT_COPY.COUNT + 1) (2 ^ 32 - 1) ∧ t.HasEvt 0x12000 5 ∧ Frame [Reg.PATH.CNT_COPY.COUNT.off, Reg.PATH.PATH_STATUS.DEGRADED.off] [0x12000] { s with path := t.path } t) ∧
  (∀ (s : State) (e : Nat), s.Sound → e < 2 → s.engState e = 1 → Leads (.stateCopyDone e false) s fun t => t.engState e = 1 ∧ t.rd Reg.PATH.CNT_COPY_FAIL.COUNT = min (s.rd Reg.PATH.CNT_COPY_FAIL.COUNT + 1) (2 ^ 32 - 1) ∧ Frame [Reg.PATH.CNT_COPY_FAIL.COUNT.off] [] s t) ∧
  (∀ (s : State) (e check : Nat), s.Sound → e < 2 → check < 7 → bitOf (s.rd Reg.PATH.DIAG_EN.CHECKS) check = true → s.checkHolds e check = true → s.engState e = 2 → Leads (.diagTrip e check) s fun t => t.flag ⟨0x12060 + 4 * e, check, 1⟩ = true ∧ t.engState e = 0 ∧ t.engState (1 - e) = s.engState (1 - e) ∧ t.path = (if e = 0 then { s.path with engA := { s.engine e with trip := some s.up, since := s.up + s.diagWindow, parity := check == 6 } } else { s.path with engB := { s.engine e with trip := some s.up, since := s.up + s.diagWindow, parity := check == 6 } }) ∧ t.HasEvt 0x12000 3 ∧ Frame [0x12060 + 4 * e, Reg.PATH.PATH_STATUS.ACTIVE.off] [0x12000] { s with path := t.path } t) ∧
  (∀ (s : State) (e check : Nat), s.Sound → e < 2 → check < 7 → bitOf (s.rd Reg.PATH.DIAG_EN.CHECKS) check = true → s.checkHolds e check = true → s.engState e = 3 → s.eligible (1 - e) = false → Leads (.diagTrip e check) s fun t => t.flag ⟨0x12060 + 4 * e, check, 1⟩ = true ∧ t.engState e = 3 ∧ t.flag Reg.PATH.PATH_STATUS.DEGRADED = true ∧ t.path = (if e = 0 then { s.path with engA := { s.engine e with trip := some s.up, since := s.up + s.diagWindow, parity := check == 6 } } else { s.path with engB := { s.engine e with trip := some s.up, since := s.up + s.diagWindow, parity := check == 6 } }) ∧ t.HasEvt 0x12000 3 ∧ t.HasEvt 0x12000 2 ∧ Frame [0x12060 + 4 * e, Reg.PATH.PATH_STATUS.ACTIVE.off] [0x12000] { s with path := t.path, inbox := t.inbox } t) ∧
  (∀ (s : State) (a check : Nat), s.Sound → a < 2 → check < 7 → bitOf (s.rd Reg.PATH.DIAG_EN.CHECKS) check = true → s.checkHolds a check = true → s.engState a = 3 → s.eligible (1 - a) = true → s.linkUp a = true → Leads (.diagTrip a check) s fun t => t.engState a = 4 ∧ t.engState (1 - a) = 3 ∧ t.epoch = (if s.epoch = 65535 then 1 else s.epoch + 1) ∧ t.rd Reg.PATH.PATH_STATUS.ACTIVE = 1 - a ∧ t.flag Reg.PATH.PATH_STATUS.DEGRADED = false ∧ t.rd Reg.PATH.CNT_TAKEOVER.COUNT = min (s.rd Reg.PATH.CNT_TAKEOVER.COUNT + 1) (2 ^ 32 - 1) ∧ t.dev = s.dev ∧ t.HasEvt 0x12000 3 ∧ t.HasEvt 0x12000 0) ∧
  (∀ (s : State) (e check : Nat), s.checkHolds e check = false → Leads (.diagTrip e check) s fun t => t = { s with out := [] }) ∧
  (∀ (s : State) (path : HostPath) (a : Nat), s.Sound → s.Open 0x12044 → s.activeEng = some a → s.eligible (1 - a) = true → Leads (.pathCtrlTakeover path) s fun t => t.engState a = 2 ∧ t.engState (1 - a) = 3 ∧ t.epoch = (if s.epoch = 65535 then 1 else s.epoch + 1) ∧ t.rd Reg.PATH.PATH_STATUS.ACTIVE = 1 - a ∧ t.flag Reg.PATH.PATH_STATUS.DEGRADED = false ∧ t.rd Reg.PATH.CNT_TAKEOVER.COUNT = min (s.rd Reg.PATH.CNT_TAKEOVER.COUNT + 1) (2 ^ 32 - 1) ∧ t.dev = s.dev ∧ t.rd Reg.PATH.LAST_REASON.REASON = 0x80 ∧ t.HasEvt 0x12000 1 ∧ t.HasEvt 0x12000 5) ∧
  (∀ (s : State) (path : HostPath) (a : Nat), s.Sound → s.Open 0x12044 → s.activeEng = some a → s.eligible (1 - a) = false → Leads (.pathCtrlTakeover path) s fun t => t.rd (Reg.HDR.PG_ERRCNT.LAST_OFFSET 0x12000) = 0x44 ∧ Frame [0x12020] [] s t) ∧
  (∀ (s : State) (a : Nat), s.Sound → s.flag Reg.PATH.PATH_CFG.RING_CLASS = true → s.rd Reg.PATH.PATH_CFG.PRIMARY = 1 - a → a ≤ 1 → max 1 (s.rd Reg.PATH.REVERT_HOLD.MS) ≤ s.healthyMs (1 - a) → s.activeEng = some a → s.eligible (1 - a) = true → Leads .revert s fun t => t.engState a = 2 ∧ t.engState (1 - a) = 3 ∧ t.epoch = (if s.epoch = 65535 then 1 else s.epoch + 1) ∧ t.rd Reg.PATH.PATH_STATUS.ACTIVE = 1 - a ∧ t.flag Reg.PATH.PATH_STATUS.DEGRADED = false ∧ t.rd Reg.PATH.CNT_TAKEOVER.COUNT = min (s.rd Reg.PATH.CNT_TAKEOVER.COUNT + 1) (2 ^ 32 - 1) ∧ t.dev = s.dev ∧ t.rd Reg.PATH.LAST_REASON.REASON = 0x80 ∧ t.HasEvt 0x12000 1 ∧ t.HasEvt 0x12000 5 ∧ t.rd Reg.PATH.CNT_REVERT.COUNT = min (s.rd Reg.PATH.CNT_REVERT.COUNT + 1) (2 ^ 32 - 1)) ∧
  (∀ (s : State), (s.flag Reg.PATH.PATH_CFG.RING_CLASS = false ∨ s.healthyMs (s.rd Reg.PATH.PATH_CFG.PRIMARY) < s.rd Reg.PATH.REVERT_HOLD.MS) → Leads .revert s fun t => t = { s with out := [] }) ∧
  (∀ (s : State) (e : Nat), s.Sound → e < 2 → s.healthy e = true → s.engState e = 4 → (s.engine e).since + s.diagWindow ≤ s.up → Leads (.abdicatedRecovery e) s fun t => t.engState e = 1 ∧ t.engState (1 - e) = s.engState (1 - e) ∧ Frame [Reg.PATH.PATH_STATUS.ACTIVE.off] [] s t) ∧
  (∀ (s : State) (e : Nat), e < 2 → s.engState e = 4 → (s.healthy e = false ∨ s.up < (s.engine e).since + s.diagWindow) → Leads (.abdicatedRecovery e) s fun t => t = { s with out := [] })

/-- Parser passes and what a matched or unmatched frame leads to (R347, R355, R358). Where the spec leaves it open, it rests on the model's choices (log 124, 126, 128, 130, 131, 132). -/
def Obligations.ParserPassesLead : Prop :=
  (∀ (s : State) (p : Nat) (f : RxFrame) (fs : List RxFrame) (w : Walk), p < 2 → s.parser.rob.length < 256 → s.inQueue p = f :: fs → w = s.pass f.data (s.rd Reg.PARSER.PARSE_CFG.START_NODE) 0 f.data.length → w.reason ≠ 0 → Leads (.parseFirstPass p) s fun t => t = { s with out := [], parser := (if p = 0 then { s.parser with inA := fs, acts := s.parser.acts ++ [⟨f, false, 0, w.stop, w.reason, none, s.rd Reg.PARSER.RULE_GEN.GEN, s.rd Reg.PARSER.RULE_GEN.GEN, s.engState p == 3, w.node⟩] } else { s.parser with inB := fs, acts := s.parser.acts ++ [⟨f, false, 0, w.stop, w.reason, none, s.rd Reg.PARSER.RULE_GEN.GEN, s.rd Reg.PARSER.RULE_GEN.GEN, s.engState p == 3, w.node⟩] }) }) ∧
  (∀ (s : State) (p : Nat) (f : RxFrame) (fs : List RxFrame) (w : Walk), p < 2 → s.parser.rob.length < 256 → s.inQueue p = f :: fs → w = s.pass f.data (s.rd Reg.PARSER.PARSE_CFG.START_NODE) 0 f.data.length → w.reason = 0 → s.lookup (s.keyOf f w false (s.engState p == 3)) = none → Leads (.parseFirstPass p) s fun t => t = { s with out := [], parser := (if p = 0 then { s.parser with inA := fs, acts := s.parser.acts ++ [⟨f, false, w.pos, w.stop, 1, none, s.rd Reg.PARSER.RULE_GEN.GEN, s.rd Reg.PARSER.RULE_GEN.GEN, s.engState p == 3, w.node⟩] } else { s.parser with inB := fs, acts := s.parser.acts ++ [⟨f, false, w.pos, w.stop, 1, none, s.rd Reg.PARSER.RULE_GEN.GEN, s.rd Reg.PARSER.RULE_GEN.GEN, s.engState p == 3, w.node⟩] }) }) ∧
  (∀ (s : State) (l : Looked) (ls : List Looked) (w : Walk) (n : Nat), s.parser.again = l :: ls → n = (match l.rule with | some r => r.2 / 2 ^ 24 % 64 | none => 63) → w = s.pass l.frame.data n l.strip l.stop → w.reason ≠ 0 → Leads .parseSecondPass s fun t => t = { s with out := [], parser := { s.parser with again := ls, acts := s.parser.acts ++ [⟨l.frame, true, l.strip, w.stop, w.reason, none, l.gen, s.rd Reg.PARSER.RULE_GEN.GEN, s.engState l.frame.port == 3, w.node⟩] } }) ∧
  (∀ (s : State) (l : Looked) (ls : List Looked) (w : Walk) (n : Nat), s.parser.again = l :: ls → n = (match l.rule with | some r => r.2 / 2 ^ 24 % 64 | none => 63) → w = s.pass l.frame.data n l.strip l.stop → w.reason = 0 → s.flag Reg.PARSER.PARSE_CFG.RECIRC_GEN_CHECK = false → s.lookup (s.keyOf l.frame w true (s.engState l.frame.port == 3)) = none → Leads .parseSecondPass s fun t => t = { s with out := [], parser := { s.parser with again := ls, acts := s.parser.acts ++ [⟨l.frame, true, l.strip, w.stop, 1, none, l.gen, s.rd Reg.PARSER.RULE_GEN.GEN, s.engState l.frame.port == 3, w.node⟩] } }) ∧
  (∀ (s : State) (l : Looked) (ls : List Looked) (r : Nat × Nat), s.Sound → s.parser.acts = l :: ls → l.rule = some r → l.reason = 0 → bitOf r.2 3 = false → kindOf r.2 = 0 → Leads .frameAction s fun t => t.rd Reg.PARSER.CNT_DROP.COUNT = min (s.rd Reg.PARSER.CNT_DROP.COUNT + 1) (2 ^ 32 - 1) ∧ Frame [Reg.PARSER.CNT_DROP.COUNT.off] [] { s with parser := { s.parser with acts := ls } } t) ∧
  (∀ (s : State) (l : Looked) (ls : List Looked) (r : Nat × Nat), s.Sound → s.parser.acts = l :: ls → l.rule = some r → l.reason = 0 → bitOf r.2 3 = false → kindOf r.2 = 1 → s.waitingWork.length < 64 → s.parser.rob.length < 256 → s.path.copy = false → s.ctlHalt = false → s.flag (Reg.HDR.PG_CTRL.ENABLE 0x12000) = true → Leads .frameAction s fun t => t.rd Reg.PARSER.CNT_EXEC.COUNT = min (s.rd Reg.PARSER.CNT_EXEC.COUNT + 1) (2 ^ 32 - 1) ∧ Frame [Reg.PARSER.CNT_EXEC.COUNT.off] [] { s with parser := { s.parser with acts := ls, rob := s.parser.rob ++ [⟨s.parser.nextNo, .frame l.frame l.bytes (bitOf r.2 5), none, false, none, 0⟩], nextNo := (s.parser.nextNo + 1) % 256 } } t) ∧
  (∀ (s : State) (l : Looked) (ls : List Looked), s.Sound → s.parser.acts = l :: ls → l.rule = none → 1 ≤ l.reason → l.reason < 6 → l.frame.port < 2 → s.rd (Reg.PARSER.PORT_DEFAULT.ACTION l.frame.port) = 0 → Leads .frameAction s fun t => t.rd Reg.PARSER.CNT_DEFAULT.COUNT = min (s.rd Reg.PARSER.CNT_DEFAULT.COUNT + 1) (2 ^ 32 - 1) ∧ t.rd Reg.PARSER.LAST_DEFAULT.REASON = l.reason ∧ t.rd Reg.PARSER.LAST_DEFAULT.PORT = l.frame.port ∧ t.flag Reg.PARSER.LAST_DEFAULT.PASS = l.second ∧ t.HasEvt 0xF000 (if l.reason = 1 then 1 else 0) ∧ Frame [Reg.PARSER.CNT_DEFAULT.COUNT.off, 0xF140 + 4 * l.reason, Reg.PARSER.LAST_DEFAULT.REASON.off] [0xF000] { s with parser := { s.parser with acts := ls } } t)

/-- Nodes and rules of the parser are committed whole (R349, R354, R357). Where the spec leaves it open, it rests on the model's choices (log 127). -/
def Obligations.NodesAndRulesLead : Prop :=
  (∀ (s : State) (path : HostPath) (n : Nat) (v : Bool), s.Sound → n < 48 → s.Open (0x62007C + 0x80 * n) → (s.flag (Reg.NODE.EXT.EN n) = false ∨ s.rd (Reg.NODE.EXT.SLOT n) + divUp (s.rd (Reg.NODE.EXT.LEN n)) 4 ≤ 8) → Leads (.nodeCommit path n v) s fun t => ((∀ k < 31, t.lv ⟨0x620000 + 0x80 * n + 4 * k, 0, 32⟩ = (s.rdW (0x620000 + 0x80 * n + 4 * k)).toNat)) ∧ t.lv (Reg.NODE.NODE_CTRL.VALID n) = b2n v ∧ t.flag (Reg.NODE.NODE_CTRL.VALID n) = v ∧ Frame [0x62007C + 0x80 * n] [] { s with live := t.live } t) ∧
  (∀ (s : State) (path : HostPath) (n : Nat) (v : Bool), s.Sound → n < 48 → s.Open (0x62007C + 0x80 * n) → s.flag (Reg.NODE.EXT.EN n) = true → 8 < s.rd (Reg.NODE.EXT.SLOT n) + divUp (s.rd (Reg.NODE.EXT.LEN n)) 4 → Leads (.nodeCommit path n v) s fun t => t.lv (Reg.NODE.NODE_CTRL.VALID n) = 0 ∧ t.flag (Reg.NODE.NODE_CTRL.VALID n) = false ∧ t.rd (Reg.HDR.PG_ERRCNT.LAST_OFFSET 0xF000) = 0xFFF ∧ Frame [0x62007C + 0x80 * n, 0xF020] [] { s with live := t.live } t) ∧
  (∀ (s : State) (path : HostPath) (i : Nat) (v : Bool), s.Sound → i < 1024 → s.Open (0x64007C + 0x80 * i) → Leads (.ruleCommit path i v) s fun t => ((∀ k < 21, t.lv ⟨0x640000 + 0x80 * i + 4 * k, 0, 32⟩ = (s.rdW (0x640000 + 0x80 * i + 4 * k)).toNat)) ∧ t.lv ⟨0x64007C + 0x80 * i, 0, 1⟩ = b2n v ∧ t.flag ⟨0x64007C + 0x80 * i, 0, 1⟩ = v ∧ Frame [0x64007C + 0x80 * i] [] { s with live := t.live } t) ∧
  (∀ (s : State) (path : HostPath) (i : Nat), s.Sound → i < 1024 → s.Open (0x640068 + 0x80 * i) → Leads (.hitsClr path i) s fun t => t.rd64 (0x640060 + 0x80 * i) = 0 ∧ Frame [0x640060 + 0x80 * i, 0x640064 + 0x80 * i] [] s t)

/-- Executors, the reorder buffer and batches (R361, R362, R377, R378). Where the spec leaves it open, it rests on the model's choices (log 131, 132, 137, 140, 141, 145). -/
def Obligations.ExecutorsLead : Prop :=
  (∀ (s : State) (mem : HostMem) (ecc : Ecc) (e : Entry) (es : List Entry) (x : Nat), (∀ j ∈ List.range 8, s.flag (Reg.CMD.Q_CFG.ENABLE j) = false) → s.ctlHalt = false → s.waitingWork = e :: es → s.nextExec = some x → Leads (.execDispatch mem ecc) s fun t => t = { s with out := [], parser := { s.parser with rob := s.parser.rob.map fun o => if o.no = e.no then { o with exec := some x, at' := s.up } else o, lastX := x } }) ∧
  (∀ (s : State) (x : Nat) (e : Entry) (es : List Entry), s.heldBy x = e :: es → e.res.isSome = true → Leads (.execComplete x) s fun t => t = { s with out := [], parser := { s.parser with rob := s.parser.rob.map fun o => if o.no = e.no then { o with fin := true } else o } }) ∧
  (∀ (s : State) (x : Nat) (e : Entry) (es : List Entry) (c : SqCmd), s.heldBy x = e :: es → e.res = none → e.work = .sq c → Leads (.fragmentArrival x) s fun t => t = { s with out := [], parser := { s.parser with rob := s.parser.rob.map fun o => if o.no = e.no then { o with res := some (sqWork c) } else o } }) ∧
  (∀ (s : State) (e : Entry) (es : List Entry) (f : RxFrame) (d : List Byte) (au : Bool), s.Sound → s.Calm → s.parser.rob = e :: es → e.fin = true → e.work = .frame f d au → e.res = some .nothing → s.ctlHalt = false → s.cmdRuns = true → Leads .entryCommit s fun t => t.parser = { s.parser with rob := es } ∧ t.dev = s.dev ∧ Frame [] [0] { s with parser := { s.parser with rob := es } } t) ∧
  (∀ (s : State) (e : Entry) (es : List Entry) (c : SqCmd) (b : Batch) (w : Twin), s.Sound → s.Calm → s.parser.rob = e :: es → e.fin = true → e.work = .sq c → c.q < 8 → e.res = some (.batch b w) → b.ops = [] → s.ctlHalt = false → s.cmdRuns = true → s.queueStalls c.q = false → Leads .entryCommit s fun t => t.parser = { s.parser with rob := es } ∧ t.rd Reg.CMD.CNT_BATCHES.COUNT = min (s.rd Reg.CMD.CNT_BATCHES.COUNT + 1) (2 ^ 32 - 1) ∧ t.rd (Reg.CMD.Q_STATUS.CQ_TAIL c.q) = (s.rd (Reg.CMD.Q_STATUS.CQ_TAIL c.q) + 1) % 2 ^ s.rd (Reg.CMD.Q_CFG.CQ_LOG2 c.q) % 2 ^ (Reg.CMD.Q_STATUS.CQ_TAIL c.q).len ∧ t.cmd.wait = [] ∧ t.dev = s.dev ∧ t.img = s.img ∧ t.gan = s.gan) ∧
  (∀ (s : State) (x : Nat) (e : Entry) (es : List Entry), s.Sound → x < 8 → s.heldBy x = e :: es → e.at' + 20 * us ≤ s.up → Leads (.execTimeout x) s fun t => t.rd Reg.PARSER.LAST_TIMEOUT.EXEC = x ∧ t.rd Reg.PARSER.LAST_TIMEOUT.ENTRY = e.no % 2 ^ Reg.PARSER.LAST_TIMEOUT.ENTRY.len ∧ t.rd Reg.PARSER.CNT_EXEC_TIMEOUT.COUNT = min (s.rd Reg.PARSER.CNT_EXEC_TIMEOUT.COUNT + 1) (2 ^ 32 - 1) ∧ t.HasEvt 0xF000 3 ∧ Frame [Reg.PARSER.LAST_TIMEOUT.EXEC.off, Reg.PARSER.CNT_EXEC_TIMEOUT.COUNT.off] [0xF000] { s with parser := { s.parser with rob := s.parser.rob.map fun o => if o.no = e.no then { o with fin := true, res := some (.given 0x0B) } else o }, inbox := s.inbox ++ [⟨38, x, false, false⟩] } t) ∧
  (∀ (s : State) (e : Nat) (b : Batch), s.Sound → e < 2 → ((s.engine e).reasm.find? (fun b => decide (b.born + s.batchTime ≤ s.up)) = some b) → s.cmd.wait = [] → s.seam.done = [] → Leads (.batchTimeout e) s fun t => (t.engine e).reasm = (s.engine e).reasm.filter (fun c => c.key != b.key) ∧ (t.engine e).dead = (s.engine e).dead ++ [(b.key, s.up)] ∧ t.engine (1 - e) = s.engine (1 - e) ∧ t.rd Reg.CMD.CNT_BATCH_TIMEOUT.COUNT = min (s.rd Reg.CMD.CNT_BATCH_TIMEOUT.COUNT + 1) (2 ^ 32 - 1) ∧ t.HasEvt 0xE000 1 ∧ t.dev = s.dev) ∧
  (∀ (s : State) (e : Nat), e < 2 → Leads (.deadListExpiry e) s fun t => t = { s with out := [], path := (if e = 0 then { s.path with engA := { s.engine e with dead := (s.engine e).dead.filter fun d => decide (s.up < d.2 + 16 * s.batchTime) } } else { s.path with engB := { s.engine e with dead := (s.engine e).dead.filter fun d => decide (s.up < d.2 + 16 * s.batchTime) } }) })

/-- Doorbells of the queues keep what they are given (R381, R382, R383, R384). Where the spec leaves it open, it rests on the model's choices (log 142, 143). -/
def Obligations.HostQueuesLead : Prop :=
  (∀ (s : State) (k v : Nat) (mem : HostMem) (ecc : Ecc), k < 8 → s.dev ≠ .off → s.pageOn 0xE000 = true → (∀ j ∈ List.range 8, s.flag (Reg.CMD.Q_CFG.ENABLE j) = false) → Leads (.sqDoorbell k v mem ecc) s fun t => t = { s with out := [], hq := { s.hq with sq := s.hq.sq.set k { s.hq.sq.getD k ⟨0, 0, true⟩ with sqTail := v } } }) ∧
  (∀ (s : State) (k v : Nat) (mem : HostMem) (ecc : Ecc), k < 8 → s.dev ≠ .off → s.pageOn 0xE000 = true → s.hq.sq.length = 8 → Leads (.sqDoorbell k v mem ecc) s fun t => (t.hq.sq.getD k ⟨0, 0, true⟩).sqTail = v ∧ t.dev = s.dev ∧ t.gan = s.gan ∧ t.img = s.img) ∧
  (∀ (s : State) (k v : Nat) (mem : HostMem) (ecc : Ecc), k < 8 → s.dev ≠ .off → s.pageOn 0xE000 = true → (∀ j ∈ List.range 8, s.flag (Reg.CMD.Q_CFG.ENABLE j) = false) → Leads (.cqHeadDoorbell k v mem ecc) s fun t => t = { s with out := [], hq := { s.hq with sq := s.hq.sq.set k { s.hq.sq.getD k ⟨0, 0, true⟩ with cqHead := v } } }) ∧
  (∀ (s : State) (v : Nat), s.dev ≠ .off → s.pageOn 0xE000 = true → Leads (.eqHeadDoorbell v) s fun t => t = { s with out := [], hq := { s.hq with eqHead := v } }) ∧
  (∀ (s : State) (v : Nat), s.dev ≠ .off → s.pageOn 0xE000 = true → Leads (.pqHeadDoorbell v) s fun t => t = { s with out := [], hq := { s.hq with pqHead := v } })

/-- Faults are counted, react when severe, are recorded, acknowledged and logged (R389, R396, R397, R398, R401, R403). Where the spec leaves it open, it rests on the model's choices (log 18, 45, 46, 47, 52, 189). -/
def Obligations.FaultsLead : Prop :=
  (∀ (s : State) (i : Nat) (burnt : List (Nat × Byte)) (f : Raised), s.Sound → s.Calm → f.src < 256 → s.inbox[i]? = some f → s.dev ≠ .off → tabGet s.sump.winAt 0 f.src = 0 → s.flag (Reg.SRC.SRC_CFG.MASK f.src) = true → f.direct = false → 2 ≤ s.rd (Reg.SRC.SRC_CFG.N f.src) → Leads (.faultClassify i burnt none) s fun t => t.rd (Reg.SRC.SRC_STATE.CNT f.src) = 1 ∧ t.rd (Reg.SRC.SRC_TOTAL.COUNT f.src) = min (s.rd (Reg.SRC.SRC_TOTAL.COUNT f.src) + 1) (2 ^ (Reg.SRC.SRC_TOTAL.COUNT f.src).len - 1) ∧ t.flag (Reg.SRC.SRC_STATE.SEVERE f.src) = false ∧ Frame [(Reg.SRC.SRC_STATE.CNT f.src).off, (Reg.SRC.SRC_TOTAL.COUNT f.src).off] [0] { s with inbox := s.inbox.eraseIdx i, sump := { s.sump with winAt := tabPut s.sump.winAt 0 f.src (s.now + 1) } } t) ∧
  (∀ (s : State) (i : Nat) (burnt : List (Nat × Byte)) (f : Raised), s.Sound → s.Calm → f.src < 256 → s.inbox[i]? = some f → s.dev ≠ .off → tabGet s.sump.winAt 0 f.src = 0 → s.flag (Reg.SRC.SRC_CFG.MASK f.src) = false → f.direct = false → s.rd (Reg.SRC.SRC_CFG.N f.src) ≤ 1 → s.rd (Reg.SRC.SRC_CFG.SEVERE f.src) = 5 → s.recordOpen = false → s.recQ = [] → (s.dev = .armed ∨ s.dev = .run) → s.boot.check = none → Leads (.faultClassify i burnt none) s fun t => t.rd (Reg.SRC.SRC_STATE.CNT f.src) = 1 ∧ t.rd (Reg.SRC.SRC_TOTAL.COUNT f.src) = min (s.rd (Reg.SRC.SRC_TOTAL.COUNT f.src) + 1) (2 ^ (Reg.SRC.SRC_TOTAL.COUNT f.src).len - 1) ∧ t.flag (Reg.SRC.SRC_STATE.SEVERE f.src) = true ∧ t.dev = .safe ∧ t.rd Reg.SUMP.SAFE_LAST.SOURCE = f.src ∧ t.inbox = s.inbox.eraseIdx i ∧ (t.recQ.map fun r => (r.src, r.data, r.reaction, r.severe)) = [(f.src, f.data, 5, true)] ∧ t.HasEvt 0x7000 2 ∧ t.HasEvt 0x7000 3 ∧ t.HasEvt 0x7000 4) ∧
  (∀ (s : State) (i : Nat) (burnt : List (Nat × Byte)) (m w : Nat), s.Sound → s.Calm → m < 4 → w < 2 ^ 24 → s.dev ≠ .off → tabGet s.sump.winAt 0 48 = 0 → s.flag (Reg.SRC.SRC_CFG.MASK 48) = false → s.rd (Reg.SRC.SRC_CFG.N 48) ≤ 1 → s.rd (Reg.SRC.SRC_CFG.SEVERE 48) = 1 → s.recQ = [] → Leads (.faultClassify i burnt (some (.sram m w))) s fun t => t.rd (Reg.SRC.SRC_STATE.CNT 48) = 1 ∧ t.flag (Reg.SRC.SRC_STATE.SEVERE 48) = true ∧ t.dev = s.dev ∧ t.inbox = s.inbox ∧ (t.recQ.map fun r => (r.src, r.data, r.reaction, r.severe)) = [(48, m * 2 ^ 24 + w, 1, true)] ∧ t.HasEvt 0x7000 2) ∧
  (∀ (s : State) (r : RecReq), s.Sound → s.Calm → s.recQ = [r] → s.recordOpen = false → r.coal = 0 → r.reaction < 8 → Leads .recordUpdate s fun t => t.recQ = [] ∧ t.recordOpen = true ∧ t.rd Reg.SUMP.SUMP_STATUS.REACTION = r.reaction ∧ t.recordId = s.rd Reg.SUMP.NEXT_RECORD.ID ∧ t.rd Reg.SUMP.NEXT_RECORD.ID = (if s.rd Reg.SUMP.NEXT_RECORD.ID = 2 ^ 32 - 1 then 1 else s.rd Reg.SUMP.NEXT_RECORD.ID + 1) ∧ t.rd Reg.SUMP.CNT_RECORDS.COUNT = min (s.rd Reg.SUMP.CNT_RECORDS.COUNT + 1) (2 ^ 32 - 1) ∧ t.HasEvt 0x7000 0 ∧ t.dev = s.dev) ∧
  (∀ (s : State) (r : RecReq), s.Sound → s.Calm → s.recQ = [r] → s.recordOpen = true → r.coal = 0 → r.reaction < 8 → s.rd (⟨0x7804, 16, 8⟩ : Fld) < 8 → Leads .recordUpdate s fun t => t.recQ = [] ∧ t.recordOpen = true ∧ t.rd Reg.SUMP.SUMP_STATUS.REACTION = max (s.rd (⟨0x7804, 16, 8⟩ : Fld)) r.reaction ∧ t.recordId = s.recordId ∧ t.rd Reg.SUMP.CNT_MERGES.COUNT = min (s.rd Reg.SUMP.CNT_MERGES.COUNT + 1) (2 ^ 32 - 1) ∧ t.HasEvt 0x7000 1 ∧ t.dev = s.dev) ∧
  (∀ (s : State) (path : HostPath) (id : Nat), s.Sound → s.Calm → s.Open 0x7048 → id < 2 ^ 32 → s.recordOpen = true → s.recordId = id → s.sump.blanked = [] → Leads (.sumpAck path id) s fun t => t.recordOpen = false ∧ t.rd Reg.SUMP.SUMP_STATUS.REACTION = 0 ∧ t.HasEvt 0x7000 6 ∧ t.sump.logQ.length = s.sump.logQ.length + (if s.flag Reg.SUMP.LOG_CFG.ENABLE then 1 else 0) ∧ t.rdW 0x7880 = s.rdW 0x7800 ∧ t.rdW 0x7900 = s.rdW 0x7880 ∧ t.dev = s.dev ∧ t.recQ = s.recQ) ∧
  (∀ (s : State) (path : HostPath) (id : Nat), s.Sound → s.Calm → s.Open 0x7048 → id < 2 ^ 32 → (s.recordOpen = false ∨ s.recordId ≠ id) → Leads (.sumpAck path id) s fun t => t.rd (Reg.HDR.PG_ERRCNT.LAST_OFFSET 0x7000) = 0x48 ∧ t.HasEvt 0x7000 7 ∧ t.recordOpen = s.recordOpen ∧ Frame [0x7020] [0x7000, 0] s t) ∧
  (∀ (s : State) (b : List Byte) (bs : List (List Byte)), s.Sound → s.sump.logQ = b :: bs → s.sdOnline = true → s.flag Reg.SUMP.LOG_CFG.ENABLE = true → s.logFits (s.rd Reg.SUMP.LOG_CFG.SIZE_LOG2) = true → Leads .logRecordWrite s fun t => t.rd Reg.SUMP.LOG_WR_PTR.PTR = (s.rd Reg.SUMP.LOG_WR_PTR.PTR + 128) % 2 ^ (s.rd Reg.SUMP.LOG_CFG.SIZE_LOG2 + 1) % 2 ^ Reg.SUMP.LOG_WR_PTR.PTR.len ∧ t = { s with out := [], regs := t.regs, sump := { s.sump with logQ := bs }, sd := memWrite s.sd (s.rd64 0x7058 + s.rd Reg.SUMP.LOG_WR_PTR.PTR % 2 ^ s.rd Reg.SUMP.LOG_CFG.SIZE_LOG2) b }) ∧
  (∀ (s : State) (b : List Byte) (bs : List (List Byte)), s.sump.logQ = b :: bs → s.sdOnline = false → Leads .logRecordWrite s fun t => t = { s with out := [], sump := { s.sump with logQ := bs }, inbox := s.inbox ++ [⟨54, leAt b 0 4 % 2 ^ 32, false, false⟩] }) ∧
  (∀ (s : State) (path : HostPath), s.Sound → s.Calm → s.Open 0x704C → s.dev = .safe → s.recordOpen = false → Leads (.safeCtrlExit path) s fun t => t.dev = .armed ∧ ((s.gstate = 5 → t.gstate = 0)) ∧ t.recQ = s.recQ) ∧
  (∀ (s : State) (path : HostPath), s.Sound → s.Calm → s.Open 0x704C → (s.dev ≠ .safe ∨ s.recordOpen = true) → Leads (.safeCtrlExit path) s fun t => t.dev = s.dev ∧ t.rd (Reg.HDR.PG_ERRCNT.LAST_OFFSET 0x7000) = 0x4C ∧ Frame [0x7020] [0] s t) ∧
  (∀ (s : State) (path : HostPath) (src : Nat), s.Open 0x7054 → 240 ≤ src → src < 256 → Leads (.inject path src) s fun t => t = { s with out := [], inbox := s.inbox ++ [⟨src, s.rd Reg.SUMP.INJECT_DATA.DATA, true, false⟩] }) ∧
  (∀ (s : State) (path : HostPath) (src : Nat), s.Sound → s.Open 0x7054 → 56 ≤ src → src < 240 → Leads (.inject path src) s fun t => t.rd (Reg.HDR.PG_ERRCNT.LAST_OFFSET 0x7000) = 0x54 ∧ Frame [0x7020] [] s t)

/-- The PCI Express link and the states of the function (R428, R429, R452, R458, R477). Where the spec leaves it open, it rests on the model's choices (log 41). -/
def Obligations.PcieLeads : Prop :=
  (∀ (s : State) (speed width ltssm : Nat), s.Sound → s.pcie.up = false → s.pcie.perst = false → s.pageRun 0x13000 = true → Leads (.pcieLinkUp speed width ltssm) s fun t => t.rd Reg.PCIE.LINK_STATUS.LTSSM = ltssm % 2 ^ Reg.PCIE.LINK_STATUS.LTSSM.len ∧ t.rd Reg.PCIE.LINK_STATUS.SPEED = speed % 2 ^ Reg.PCIE.LINK_STATUS.SPEED.len ∧ t.rd Reg.PCIE.LINK_STATUS.WIDTH = width % 2 ^ Reg.PCIE.LINK_STATUS.WIDTH.len ∧ t.HasEvt 0x13000 0 ∧ t.pcie.up = true ∧ t.pcie.d3 = s.pcie.d3 ∧ Frame [Reg.PCIE.LINK_STATUS.LTSSM.off] [0x13000] { s with pcie := t.pcie } t) ∧
  (∀ (s : State) (ltssm : Nat) (hot : Bool), s.Sound → s.pcie.up = true → Leads (.pcieLinkDown ltssm hot) s fun t => t.rd Reg.PCIE.LINK_STATUS.LTSSM = ltssm % 2 ^ Reg.PCIE.LINK_STATUS.LTSSM.len ∧ t.rd Reg.PCIE.CNT_LINK_DOWN.COUNT = min (s.rd Reg.PCIE.CNT_LINK_DOWN.COUNT + 1) (2 ^ 32 - 1) ∧ ((∀ k ∈ List.range 8, t.flag (Reg.CMD.Q_CFG.ENABLE k) = (s.flag (Reg.CMD.Q_CFG.LOCATION k) && s.flag (Reg.CMD.Q_CFG.ENABLE k)))) ∧ t.HasEvt 0x13000 1 ∧ t.pcie.up = false ∧ t.pcie.d3 = (s.pcie.d3 && !hot) ∧ t.dev = s.dev ∧ Frame [Reg.PCIE.LINK_STATUS.LTSSM.off, Reg.PCIE.CNT_LINK_DOWN.COUNT.off, Reg.PCIE.CNT_DMA_DISCARD.COUNT.off, (Reg.CMD.Q_CFG.ENABLE 0).off, (Reg.CMD.Q_CFG.ENABLE 1).off, (Reg.CMD.Q_CFG.ENABLE 2).off, (Reg.CMD.Q_CFG.ENABLE 3).off, (Reg.CMD.Q_CFG.ENABLE 4).off, (Reg.CMD.Q_CFG.ENABLE 5).off, (Reg.CMD.Q_CFG.ENABLE 6).off, (Reg.CMD.Q_CFG.ENABLE 7).off, Reg.CMD.EQ_CFG.ENABLE.off, Reg.CMD.PQ_CFG.ENABLE.off] [0x13000] { s with pcie := t.pcie, inbox := t.inbox } t) ∧
  (∀ (s : State), s.Sound → s.pcie.up = true → Leads .functionLevelReset s fun t => t.rd Reg.PCIE.CNT_DMA_DISCARD.COUNT = min (s.rd Reg.PCIE.CNT_DMA_DISCARD.COUNT + s.pcie.dmaWait.length) (2 ^ 32 - 1) ∧ ((∀ k ∈ List.range 8, t.flag (Reg.CMD.Q_CFG.ENABLE k) = (s.flag (Reg.CMD.Q_CFG.LOCATION k) && s.flag (Reg.CMD.Q_CFG.ENABLE k)))) ∧ t.HasEvt 0x13000 4 ∧ t.pcie.up = true ∧ t.pcie.d3 = false ∧ t.dev = s.dev ∧ Frame [Reg.PCIE.CNT_DMA_DISCARD.COUNT.off, (Reg.CMD.Q_CFG.ENABLE 0).off, (Reg.CMD.Q_CFG.ENABLE 1).off, (Reg.CMD.Q_CFG.ENABLE 2).off, (Reg.CMD.Q_CFG.ENABLE 3).off, (Reg.CMD.Q_CFG.ENABLE 4).off, (Reg.CMD.Q_CFG.ENABLE 5).off, (Reg.CMD.Q_CFG.ENABLE 6).off, (Reg.CMD.Q_CFG.ENABLE 7).off, Reg.CMD.EQ_CFG.ENABLE.off, Reg.CMD.PQ_CFG.ENABLE.off] [0x13000] { s with pcie := t.pcie } t) ∧
  (∀ (s : State), s.pcie.up = true → Leads .d3hotEntry s fun t => t = { s with out := [], pcie := { s.pcie with d3 := true } }) ∧
  (∀ (s : State), s.Sound → s.pcie.d3 = true → s.pcie.msiWait = [] → s.pcie.dmaWait = [] → Leads .d0Return s fun t => t.pcie.d3 = false ∧ t.pcie.up = s.pcie.up ∧ t.dev = s.dev ∧ t.img = s.img ∧ t.gan = s.gan ∧ t.inbox = s.inbox) ∧
  (∀ (s : State) (ltssm : Nat), s.Sound → s.pcie.up = true → Leads (.pciePerst true ltssm) s fun t => t.pcie.up = false ∧ t.pcie.perst = true ∧ t.pcie.d3 = false ∧ t.HasEvt 0x13000 1 ∧ t.rd Reg.PCIE.CNT_LINK_DOWN.COUNT = min (s.rd Reg.PCIE.CNT_LINK_DOWN.COUNT + 1) (2 ^ 32 - 1) ∧ ((∀ k ∈ List.range 8, t.flag (Reg.CMD.Q_CFG.ENABLE k) = (s.flag (Reg.CMD.Q_CFG.LOCATION k) && s.flag (Reg.CMD.Q_CFG.ENABLE k)))) ∧ t.dev = s.dev) ∧
  (∀ (s : State) (ltssm : Nat), s.pcie.perst = true → Leads (.pciePerst false ltssm) s fun t => t = { s with out := [], pcie := { s.pcie with perst := false, d3 := false, msiWait := [] } }) ∧
  (∀ (s : State) (speed width : Nat), s.Sound → s.pcie.up = true → min speed (s.rd Reg.PCIE.LINK_CFG.MAX_SPEED) ≠ s.rd Reg.PCIE.LINK_STATUS.SPEED → Leads (.pcieRetrain speed width) s fun t => t.rd Reg.PCIE.LINK_STATUS.SPEED = min speed (s.rd Reg.PCIE.LINK_CFG.MAX_SPEED) % 2 ^ Reg.PCIE.LINK_STATUS.SPEED.len ∧ t.rd Reg.PCIE.LINK_STATUS.WIDTH = width % 2 ^ Reg.PCIE.LINK_STATUS.WIDTH.len ∧ t.rd Reg.PCIE.LINK_STATUS.LTSSM = s.rd Reg.PCIE.LINK_STATUS.LTSSM ∧ t.HasEvt 0x13000 2 ∧ Frame [Reg.PCIE.LINK_STATUS.SPEED.off] [0x13000] s t) ∧
  (∀ (s : State) (ltssm : Nat), s.Sound → s.pcie.up = true → Leads (.pcieCompliance ltssm) s fun t => t.pcie.up = false ∧ t.pcie.d3 = s.pcie.d3 ∧ t.rd Reg.PCIE.LINK_STATUS.LTSSM = ltssm % 2 ^ Reg.PCIE.LINK_STATUS.LTSSM.len ∧ t.rd Reg.PCIE.CNT_LINK_DOWN.COUNT = min (s.rd Reg.PCIE.CNT_LINK_DOWN.COUNT + 1) (2 ^ 32 - 1) ∧ t.HasEvt 0x13000 1 ∧ t.dev = s.dev)

/-- Accesses through BAR2, scrubbing and training of board memory (R444, R446, R447). Where the spec leaves it open, it rests on the model's choices (log 15, 39, 150, 151). -/
def Obligations.BoardMemoryLeads : Prop :=
  (∀ (s : State) (a n : Nat) (d : List Byte) (ecc : Ecc), s.Sound → s.pcieOpen = true → s.sdOnline = true → a + d.length ≤ s.sdSize → Leads (.bar2Access a n (some d) ecc false) s fun t => t = { s with out := [], sd := memWrite s.sd a d } ∧ ((∀ off : Nat, (off < a ∨ a + d.length ≤ off) → t.sdBytes off 1 = s.sdBytes off 1))) ∧
  (∀ (s : State) (a n : Nat) (d : List Byte) (ecc : Ecc), s.Sound → s.pcieOpen = true → Leads (.bar2Access a n (some d) ecc true) s fun t => t.rd Reg.PCIE.CNT_POISONED_RX.COUNT = min (s.rd Reg.PCIE.CNT_POISONED_RX.COUNT + 1) (2 ^ 32 - 1) ∧ Frame [Reg.PCIE.CNT_POISONED_RX.COUNT.off] [] s t) ∧
  (∀ (s : State) (a n : Nat) (p : Bool), s.pcieOpen = true → s.sdOnline = true → a + n ≤ s.sdSize → Leads (.bar2Access a n none .ok p) s fun t => t = { s with out := [.bar2 (s.sdBytes a n) false], freeCtr := s.freeCtr + 1 }) ∧
  (∀ (s : State) (a n : Nat) (ecc : Ecc) (p : Bool), s.pcieOpen = true → s.sdOnline = false → Leads (.bar2Access a n none ecc p) s fun t => t = { s with out := [.bar2 (List.replicate n 255) false] }) ∧
  (∀ (s : State) (c a : Nat) (raced : Bool), s.Sound → c < 4 → s.sdOnline = true → s.flag (Reg.SDRAM.SCRUB_CFG.ENABLE c) = true → a < s.sdSize → sdChan a = c → Leads (.scrubLine c a .ok raced) s fun t => t.rd (Reg.SDRAM.SCRUB_STATUS.PERMILLE c) = a * 1000 / s.sdSize ∧ Frame [(Reg.SDRAM.SCRUB_STATUS.PERMILLE c).off] [] s t) ∧
  (∀ (s : State) (c : Nat), s.Sound → c < 4 → s.sdOnline = true → s.flag (Reg.SDRAM.SCRUB_CFG.ENABLE c) = true → Leads (.scrubPass c) s fun t => t.rd (Reg.SDRAM.SCRUB_STATUS.PASSES c) = (s.rd (Reg.SDRAM.SCRUB_STATUS.PASSES c) + 1) % 2 ^ (Reg.SDRAM.SCRUB_STATUS.PASSES c).len ∧ t.rd (Reg.SDRAM.SCRUB_STATUS.PERMILLE c) = 0 ∧ t.HasEvt (0x14000 + 0x1000 * c) 4 ∧ Frame [(Reg.SDRAM.SCRUB_STATUS.PASSES c).off, (Reg.SDRAM.SCRUB_STATUS.PERMILLE c).off] [0x14000 + 0x1000 * c] s t) ∧
  (∀ (s : State) (path : HostPath) (c : Nat), s.Sound → s.Calm → c < 4 → s.Open (0x14044 + 0x1000 * c) → s.dev = .hold → s.flag (Reg.SDRAM.TRAIN_STATUS.BUSY c) = false → Leads (.trainGo path c) s fun t => ((∀ k ∈ List.range 4, t.flag (Reg.SDRAM.TRAIN_STATUS.BUSY k) = true ∧ t.flag (Reg.SDRAM.TRAIN_STATUS.TRAINED k) = false ∧ t.flag (Reg.SDRAM.TRAIN_STATUS.FAILED k) = false)) ∧ t.dev = .hold ∧ t.img = s.img ∧ Frame [(Reg.SDRAM.TRAIN_STATUS.BUSY 0).off, (Reg.SDRAM.TRAIN_STATUS.BUSY 1).off, (Reg.SDRAM.TRAIN_STATUS.BUSY 2).off, (Reg.SDRAM.TRAIN_STATUS.BUSY 3).off] [0] s t) ∧
  (∀ (s : State) (path : HostPath) (c : Nat), s.Sound → s.Calm → c < 4 → s.Open (0x14044 + 0x1000 * c) → s.dev ≠ .hold → Leads (.trainGo path c) s fun t => t.rd (Reg.HDR.PG_ERRCNT.LAST_OFFSET (0x14000 + 0x1000 * c)) = 0x44 ∧ t.dev = s.dev ∧ Frame [0x14020 + 0x1000 * c] [0] s t)

/-- SMBus commands are answered, counted or not acknowledged (R440, R441). Where the spec leaves it open, it rests on the model's choices (log 152). -/
def Obligations.SmbusLeads : Prop :=
  (∀ (s : State) (pec : Option Bool), s.Sound → s.dev ≠ .off → (pec = some true ∨ (pec = none ∧ s.flag Reg.SMBUS.CFG.PEC_REQ = false)) → Leads (.smbIdent pec) s fun t => t.rd Reg.SMBUS.CNT_CMDS.COUNT = min (s.rd Reg.SMBUS.CNT_CMDS.COUNT + 1) (2 ^ 32 - 1) ∧ t.out = [.smb (leBytes 4 (if s.unitKnown then (s.viewWord 0x40).toNat else 0x5122) ++ leBytes 8 (if s.unitKnown then s.unit.unitId else 0) ++ leBytes 4 (s.viewWord 0x3044).toNat)] ∧ Frame [Reg.SMBUS.CNT_CMDS.COUNT.off] [] s t) ∧
  (∀ (s : State) (pec : Option Bool), s.Sound → s.dev ≠ .off → (pec = some true ∨ (pec = none ∧ s.flag Reg.SMBUS.CFG.PEC_REQ = false)) → Leads (.smbStatus pec) s fun t => t.rd Reg.SMBUS.CNT_CMDS.COUNT = min (s.rd Reg.SMBUS.CNT_CMDS.COUNT + 1) (2 ^ 32 - 1) ∧ t.out = [.smb ([devCode s.dev, s.gstateSeen, s.zoneByte, b2n s.ready + 2 * b2n s.faultN + 4 * b2n s.recordOpen + 8 * b2n (s.pageOn 0x4000 && s.flag Reg.FUSE.FUSE_STATUS.CAL_ABSENT) + 16 * b2n s.pcie.up + 32 * b2n s.sdOnline].map (BitVec.ofNat 8) ++ leBytes 2 s.epoch ++ leBytes 2 (s.rdW 0x2040).toNat ++ leBytes 4 (s.rd Reg.SUMP.NEXT_RECORD.ID))] ∧ Frame [Reg.SMBUS.CNT_CMDS.COUNT.off] [] s t) ∧
  (∀ (s : State) (pec : Option Bool), s.Sound → s.dev ≠ .off → (pec = some true ∨ (pec = none ∧ s.flag Reg.SMBUS.CFG.PEC_REQ = false)) → Leads (.smbZones pec) s fun t => t.rd Reg.SMBUS.CNT_CMDS.COUNT = min (s.rd Reg.SMBUS.CNT_CMDS.COUNT + 1) (2 ^ 32 - 1) ∧ t.out = [.smb ((List.range 4).flatMap fun k => leBytes 2 (s.rd (Reg.THERMAL.ZONE_STATUS.VALUE k)))] ∧ Frame [Reg.SMBUS.CNT_CMDS.COUNT.off] [] s t) ∧
  (∀ (s : State) (n : Nat) (pec : Option Bool), s.Sound → s.dev ≠ .off → (pec = some true ∨ (pec = none ∧ s.flag Reg.SMBUS.CFG.PEC_REQ = false)) → n < 120 → Leads (.smbSensorSel n pec) s fun t => t.rd Reg.SMBUS.CNT_CMDS.COUNT = min (s.rd Reg.SMBUS.CNT_CMDS.COUNT + 1) (2 ^ 32 - 1) ∧ t.smb.sensor = n ∧ Frame [Reg.SMBUS.CNT_CMDS.COUNT.off] [] { s with smb := { s.smb with sensor := n } } t) ∧
  (∀ (s : State) (pec : Option Bool), s.Sound → s.dev ≠ .off → (pec = some true ∨ (pec = none ∧ s.flag Reg.SMBUS.CFG.PEC_REQ = false)) → s.smb.sensor < 120 → Leads (.smbSensor pec) s fun t => t.rd Reg.SMBUS.CNT_CMDS.COUNT = min (s.rd Reg.SMBUS.CNT_CMDS.COUNT + 1) (2 ^ 32 - 1) ∧ t.out = [.smb (leBytes 2 (s.rd (Reg.THERMAL.SENSOR.TEMP s.smb.sensor)))] ∧ Frame [Reg.SMBUS.CNT_CMDS.COUNT.off] [] s t) ∧
  (∀ (s : State) (pec : Option Bool), s.Sound → s.dev ≠ .off → (pec = some true ∨ (pec = none ∧ s.flag Reg.SMBUS.CFG.PEC_REQ = false)) → Leads (.smbResetCause pec) s fun t => t.rd Reg.SMBUS.CNT_CMDS.COUNT = min (s.rd Reg.SMBUS.CNT_CMDS.COUNT + 1) (2 ^ 32 - 1) ∧ t.out = [.smb (s.winList 0x7C80 32)] ∧ Frame [Reg.SMBUS.CNT_CMDS.COUNT.off] [] s t) ∧
  (∀ (s : State) (off : Nat) (pec : Option Bool), s.Sound → s.dev ≠ .off → (pec = some true ∨ (pec = none ∧ s.flag Reg.SMBUS.CFG.PEC_REQ = false)) → Leads (.smbRegAddr off pec) s fun t => t.rd Reg.SMBUS.CNT_CMDS.COUNT = min (s.rd Reg.SMBUS.CNT_CMDS.COUNT + 1) (2 ^ 32 - 1) ∧ t.smb.addr = off ∧ Frame [Reg.SMBUS.CNT_CMDS.COUNT.off] [] { s with smb := { s.smb with addr := off } } t) ∧
  (∀ (s : State) (pec : Option Bool), s.Sound → s.dev ≠ .off → (pec = some true ∨ (pec = none ∧ s.flag Reg.SMBUS.CFG.PEC_REQ = false)) → s.smb.addr = 0x7054 → s.reachable 0x7054 = true → s.latch = [] → Leads (.smbRegRead pec) s fun t => t.rd Reg.SMBUS.CNT_CMDS.COUNT = min (s.rd Reg.SMBUS.CNT_CMDS.COUNT + 1) (2 ^ 32 - 1) ∧ t.out = [.smb (leBytes 4 (s.viewWord 0x7054).toNat)]) ∧
  (∀ (s : State) (w : Word) (pec : Option Bool), s.Sound → s.Calm → s.dev ≠ .off → (pec = some true ∨ (pec = none ∧ s.flag Reg.SMBUS.CFG.PEC_REQ = false)) → s.smb.addr = 0x7050 → s.reachable 0x7050 = true → s.boot.check = none → Leads (.smbRegWrite w pec) s fun t => t.rd Reg.SMBUS.CNT_CMDS.COUNT = min (s.rd Reg.SMBUS.CNT_CMDS.COUNT + 1) (2 ^ 32 - 1) ∧ t.rdW 0x7050 = w ∧ t.dev = s.dev) ∧
  (∀ (s : State) (code : Nat), s.Sound → s.dev ≠ .off → Leads (.smbTimeout code) s fun t => t.rd Reg.SMBUS.CNT_TIMEOUT.COUNT = min (s.rd Reg.SMBUS.CNT_TIMEOUT.COUNT + 1) (2 ^ 32 - 1) ∧ Frame [Reg.SMBUS.CNT_TIMEOUT.COUNT.off] [] { s with inbox := s.inbox ++ [⟨51, code % 2 ^ 32, false, false⟩] } t) ∧
  (∀ (s : State) (addr : Nat), s.Sound → s.dev ≠ .off → s.flag Reg.SMBUS.CFG.ARP_EN = true → Leads (.smbArp addr) s fun t => t.rd Reg.SMBUS.CFG.ADDR = addr % 2 ^ Reg.SMBUS.CFG.ADDR.len ∧ t.flag Reg.SMBUS.CFG.ARP_EN = true ∧ Frame [Reg.SMBUS.CFG.ADDR.off] [] s t) ∧
  (∀ (s : State) (pec : Option Bool), s.Sound → s.dev ≠ .off → (pec = some false ∨ (pec = none ∧ s.flag Reg.SMBUS.CFG.PEC_REQ = true)) → Leads (.smbStatus pec) s fun t => t.rd Reg.SMBUS.CNT_PEC_FAIL.COUNT = min (s.rd Reg.SMBUS.CNT_PEC_FAIL.COUNT + 1) (2 ^ 32 - 1) ∧ t.out = [.smbNack] ∧ Frame [Reg.SMBUS.CNT_PEC_FAIL.COUNT.off] [] s t) ∧
  (∀ (s : State) (pec : Option Bool), s.dev = .off → Leads (.smbStatus pec) s fun t => t = { s with out := [.smbNack] })

/-- Tests of the TEST page start, are refused, stop and end with their result (R456, R457, R459, R460, R461, R462, R463, R467). Where the spec leaves it open, it rests on the model's choices (log 85, 154, 192, 193). -/
def Obligations.FieldTestsLead : Prop :=
  (∀ (s : State) (path : HostPath) (target : Nat), s.Sound → s.Calm → target < 2 → s.Open 0x18040 → s.unlocked 0x18000 = true → s.test.run = none → s.pageRun 0x18000 = true → (s.dev ≠ .off ∧ s.dev ≠ .boot) → s.flag (Reg.HDR.PG_CTRL.ENABLE (0x10000 + 0x1000 * target)) = false → Leads (.ringTest path target) s fun t => t.flag Reg.TEST.TEST_STATUS.BUSY = true ∧ t.rd Reg.TEST.TEST_STATUS.RESULT = 0 ∧ t.rd Reg.TEST.TEST_STATUS.REASON = 0 ∧ t.rd Reg.TEST.TEST_CTRL.TEST = 1 ∧ t.rd Reg.TEST.TEST_CTRL.TARGET = target ∧ t.test = { s.test with run := some ⟨1, target, [], s.up, 0⟩ } ∧ Frame [Reg.TEST.TEST_CTRL.TEST.off, Reg.TEST.TEST_STATUS.BUSY.off] [0] { s with test := t.test } t) ∧
  (∀ (s : State) (path : HostPath) (target : Nat), s.Sound → s.Calm → target < 256 → s.Open 0x18040 → s.unlocked 0x18000 = true → s.test.run = none → s.pageRun 0x18000 = true → s.dev = .hold → Leads (.tilebusTest path target) s fun t => t.flag Reg.TEST.TEST_STATUS.BUSY = true ∧ t.rd Reg.TEST.TEST_STATUS.RESULT = 0 ∧ t.rd Reg.TEST.TEST_STATUS.REASON = 0 ∧ t.rd Reg.TEST.TEST_CTRL.TEST = 2 ∧ t.rd Reg.TEST.TEST_CTRL.TARGET = target ∧ t.test = { s.test with run := some ⟨2, target, [], s.up, 0⟩ } ∧ Frame [Reg.TEST.TEST_CTRL.TEST.off, Reg.TEST.TEST_STATUS.BUSY.off] [0] { s with test := t.test } t) ∧
  (∀ (s : State) (path : HostPath) (target : Nat), s.Sound → s.Calm → target < 256 → s.Open 0x18040 → s.unlocked 0x18000 = true → s.test.run = none → s.pageRun 0x18000 = true → s.dev = .hold → (∀ c ∈ List.range 4, s.flag (Reg.SDRAM.TRAIN_STATUS.TRAINED c) = true) → (s.rd Reg.TEST.SD_START.MB + max 1 (s.rd Reg.TEST.SD_SIZE.MB)) * 2 ^ 20 ≤ s.sdSize → Leads (.sdramTest path target) s fun t => t.flag Reg.TEST.TEST_STATUS.BUSY = true ∧ t.rd Reg.TEST.TEST_STATUS.RESULT = 0 ∧ t.rd Reg.TEST.TEST_STATUS.REASON = 0 ∧ t.rd Reg.TEST.TEST_CTRL.TEST = 3 ∧ t.rd Reg.TEST.TEST_CTRL.TARGET = target ∧ t.test = { s.test with run := some ⟨3, target, [], s.up, 0⟩ } ∧ Frame [Reg.TEST.TEST_CTRL.TEST.off, Reg.TEST.TEST_STATUS.BUSY.off] [0] { s with test := t.test } t) ∧
  (∀ (s : State) (path : HostPath) (target : Nat), s.Sound → s.Calm → target < 128 → s.Open 0x18040 → s.unlocked 0x18000 = true → s.test.run = none → s.pageRun 0x18000 = true → s.dev = .hold → s.tileMode target = 1 → Leads (.dacTest path target) s fun t => t.flag Reg.TEST.TEST_STATUS.BUSY = true ∧ t.rd Reg.TEST.TEST_STATUS.RESULT = 0 ∧ t.rd Reg.TEST.TEST_STATUS.REASON = 0 ∧ t.rd Reg.TEST.TEST_CTRL.TEST = 4 ∧ t.rd Reg.TEST.TEST_CTRL.TARGET = target ∧ t.test = { s.test with run := some ⟨4, target, [], s.up, 0⟩ } ∧ Frame [Reg.TEST.TEST_CTRL.TEST.off, Reg.TEST.TEST_STATUS.BUSY.off] [0] { s with test := t.test } t) ∧
  (∀ (s : State) (path : HostPath) (target : Nat), s.Sound → s.Calm → target < 78 → s.Open 0x18040 → s.unlocked 0x18000 = true → s.test.run = none → s.pageRun 0x18000 = true → s.dev = .hold → (∀ u ∈ List.range 8, s.rd (Reg.MONITOR.CONV_CTRL.MODE target u) = 0 ∨ s.rd (Reg.MONITOR.CONV_CTRL.MODE target u) = 3) → Leads (.tcurrentTest path target) s fun t => t.flag Reg.TEST.TEST_STATUS.BUSY = true ∧ t.rd Reg.TEST.TEST_STATUS.RESULT = 0 ∧ t.rd Reg.TEST.TEST_STATUS.REASON = 0 ∧ t.rd Reg.TEST.TEST_CTRL.TEST = 5 ∧ t.rd Reg.TEST.TEST_CTRL.TARGET = target ∧ t.test = { s.test with run := some ⟨5, target, (List.range 256).map fun j => (j, s.rd (Reg.MONITOR.MON_CFG.RANGE target j) + 4 * s.rd (Reg.MONITOR.MON_CFG.AR_EN target j)), s.up, 0⟩ } ∧ Frame [Reg.TEST.TEST_CTRL.TEST.off, Reg.TEST.TEST_STATUS.BUSY.off] [0] { s with test := t.test } t) ∧
  (∀ (s : State) (path : HostPath) (target : Nat), s.Sound → s.Calm → target < 256 → s.Open 0x18040 → s.unlocked 0x18000 = true → s.test.run = none → s.pageRun 0x18000 = true → s.dev = .armed → s.gstate = 0 → s.flag Reg.GANTRY.LIVE_SLOT.NONE = true → Leads (.opticalTest path target) s fun t => t.flag Reg.TEST.TEST_STATUS.BUSY = true ∧ t.rd Reg.TEST.TEST_STATUS.RESULT = 0 ∧ t.rd Reg.TEST.TEST_STATUS.REASON = 0 ∧ t.rd Reg.TEST.TEST_CTRL.TEST = 6 ∧ t.rd Reg.TEST.TEST_CTRL.TARGET = target ∧ t.test = { s.test with run := some ⟨6, target, [], s.up, 0⟩ } ∧ Frame [Reg.TEST.TEST_CTRL.TEST.off, Reg.TEST.TEST_STATUS.BUSY.off] [0] { s with test := t.test } t) ∧
  (∀ (s : State) (path : HostPath) (target : Nat), s.Sound → s.Calm → target < 256 → s.Open 0x18040 → s.unlocked 0x18000 = false → Leads (.sdramTest path target) s fun t => t.rd Reg.TEST.TEST_STATUS.RESULT = 3 ∧ t.rd Reg.TEST.TEST_STATUS.REASON = 1 ∧ t.HasEvt 0x18000 3 ∧ t.test = s.test ∧ Frame [Reg.TEST.TEST_CTRL.TEST.off, Reg.TEST.TEST_STATUS.BUSY.off] [0x18000, 0] s t) ∧
  (∀ (s : State) (path : HostPath) (target : Nat), s.Sound → s.Calm → target < 256 → s.Open 0x18040 → s.unlocked 0x18000 = true → s.test.run = none → s.dev ≠ .armed → Leads (.opticalTest path target) s fun t => t.rd Reg.TEST.TEST_STATUS.RESULT = 3 ∧ t.rd Reg.TEST.TEST_STATUS.REASON = 3 ∧ t.HasEvt 0x18000 3 ∧ t.test = s.test ∧ Frame [Reg.TEST.TEST_CTRL.TEST.off, Reg.TEST.TEST_STATUS.BUSY.off] [0x18000, 0] s t) ∧
  (∀ (s : State) (path : HostPath) (n g τ x : Nat), s.Sound → ({ s with test := { s.test with run := none } } : State).Calm → s.Open 0x18040 → s.test.run = some ⟨n, g, [], τ, x⟩ → Leads (.testStop path) s fun t => t.flag Reg.TEST.TEST_STATUS.BUSY = false ∧ t.rd Reg.TEST.TEST_STATUS.RESULT = 4 ∧ t.rd Reg.TEST.LINK_PATTERN.LOCK = 0 ∧ t.HasEvt 0x18000 2 ∧ t.test.run = none ∧ t.test.jtag = s.test.jtag ∧ Frame [Reg.TEST.TEST_STATUS.BUSY.off, Reg.TEST.LINK_PATTERN.LOCK.off] [0x18000, 0] { s with test := { s.test with run := none } } t) ∧
  (∀ (s : State) (g τ x : Nat) (errs : List Nat), s.Sound → s.test.run = some ⟨2, g, [], τ, x⟩ → τ + s.rd Reg.TEST.TB_CFG.DURATION_US * us ≤ s.up → (∀ b ∈ List.range 4, s.rd (Reg.TEST.TB_ERR.COUNT b) = 0 ∧ errs.getD b 0 = 0) → Leads (.testEnd (.tileBus errs)) s fun t => t.flag Reg.TEST.TEST_STATUS.BUSY = false ∧ t.rd Reg.TEST.TEST_STATUS.RESULT = 1 ∧ t.rd Reg.TEST.LINK_PATTERN.LOCK = 0 ∧ t.HasEvt 0x18000 0 ∧ t.test.run = none ∧ t.test.jtag = s.test.jtag ∧ Frame [Reg.TEST.TEST_STATUS.BUSY.off, Reg.TEST.LINK_PATTERN.LOCK.off, (Reg.TEST.TB_ERR.COUNT 0).off, (Reg.TEST.TB_ERR.COUNT 1).off, (Reg.TEST.TB_ERR.COUNT 2).off, (Reg.TEST.TB_ERR.COUNT 3).off] [0x18000] { s with test := { s.test with run := none } } t) ∧
  (∀ (s : State) (g τ x : Nat) (fails : List (Nat × Nat)), s.Sound → s.test.run = some ⟨3, g, [], τ, x⟩ → fails = [] → Leads (.testEnd (.sdram fails)) s fun t => t.flag Reg.TEST.TEST_STATUS.BUSY = false ∧ t.rd Reg.TEST.TEST_STATUS.RESULT = 1 ∧ t.rd Reg.TEST.LINK_PATTERN.LOCK = 0 ∧ t.HasEvt 0x18000 0 ∧ t.test.run = none ∧ t.test.jtag = s.test.jtag ∧ ((∀ a : Nat, (a < s.rd Reg.TEST.SD_START.MB * 2 ^ 20 ∨ (s.rd Reg.TEST.SD_START.MB + max 1 (s.rd Reg.TEST.SD_SIZE.MB)) * 2 ^ 20 ≤ a) → t.sdBytes a 1 = s.sdBytes a 1))) ∧
  (∀ (s : State) (g a l τ x : Nat) (fails : List (Nat × Nat)), s.Sound → s.test.run = some ⟨3, g, [], τ, x⟩ → a < 2 ^ 40 → l < 8 → Leads (.testEnd (.sdram ((a, l) :: fails))) s fun t => t.flag Reg.TEST.TEST_STATUS.BUSY = false ∧ t.rd Reg.TEST.TEST_STATUS.RESULT = 2 ∧ t.rd Reg.TEST.LINK_PATTERN.LOCK = 0 ∧ t.HasEvt 0x18000 1 ∧ t.test.run = none ∧ t.test.jtag = s.test.jtag ∧ t.rd Reg.TEST.SD_FAIL_ADDR_LO.ADDR = a % 2 ^ 32 ∧ t.rd Reg.TEST.SD_FAIL_ADDR_HI.ADDR = a / 2 ^ 32 ∧ t.rd Reg.TEST.SD_FAIL_INFO.LANE = l) ∧
  (∀ (s : State) (g τ x : Nat) (samples : List (Nat × Int)), s.Sound → s.test.run = some ⟨4, g, [], τ, x⟩ → (∀ e ∈ samples, e.2 = 0) → Leads (.testEnd (.dac samples)) s fun t => t.flag Reg.TEST.TEST_STATUS.BUSY = false ∧ t.rd Reg.TEST.TEST_STATUS.RESULT = 1 ∧ t.rd Reg.TEST.LINK_PATTERN.LOCK = 0 ∧ t.HasEvt 0x18000 0 ∧ t.test.run = none ∧ t.test.jtag = s.test.jtag ∧ t.rd Reg.TEST.DAC_RESULT.FAILS = 0 ∧ Frame [Reg.TEST.TEST_STATUS.BUSY.off, Reg.TEST.LINK_PATTERN.LOCK.off, Reg.TEST.DAC_RESULT.FAILS.off] [0x18000] { s with test := { s.test with run := none } } t) ∧
  (∀ (s : State) (g τ x : Nat) (pairs : List (Nat × Nat × Nat × Nat)), s.Sound → s.test.run = some ⟨5, g, [], τ, x⟩ → pairs = [] → Leads (.testEnd (.amplifier pairs)) s fun t => t.flag Reg.TEST.TEST_STATUS.BUSY = false ∧ t.rd Reg.TEST.TEST_STATUS.RESULT = 1 ∧ t.rd Reg.TEST.LINK_PATTERN.LOCK = 0 ∧ t.HasEvt 0x18000 0 ∧ t.test.run = none ∧ t.test.jtag = s.test.jtag ∧ t.rd Reg.TEST.TC_RESULT.FAILS = 0 ∧ Frame [Reg.TEST.TEST_STATUS.BUSY.off, Reg.TEST.LINK_PATTERN.LOCK.off, Reg.TEST.TC_RESULT.FAILS.off] [0x18000] { s with test := { s.test with run := none } } t) ∧
  (∀ (s : State) (g τ x : Nat) (ingress : Int) (planes : List (List Int × Int × Int)), s.Sound → s.test.run = some ⟨6, g, [], τ, x⟩ → ingress < sgn 8 (s.rd Reg.TEST.OPT_MIN.DBM) * 256 → Leads (.testEnd (.optical ingress planes)) s fun t => t.flag Reg.TEST.TEST_STATUS.BUSY = false ∧ t.rd Reg.TEST.TEST_STATUS.RESULT = 2 ∧ t.rd Reg.TEST.LINK_PATTERN.LOCK = 0 ∧ t.HasEvt 0x18000 1 ∧ t.test.run = none ∧ t.test.jtag = s.test.jtag ∧ t.rd Reg.TEST.OPT_RESULT.KIND = 1 ∧ t.rd Reg.TEST.OPT_RESULT.PLANE = 0 ∧ t.rd Reg.TEST.OPT_RESULT.STAGE = 0 ∧ t.rd Reg.TEST.OPT_RESULT.MEASURED = unsgn 16 ingress ∧ Frame [Reg.TEST.TEST_STATUS.BUSY.off, Reg.TEST.LINK_PATTERN.LOCK.off, Reg.TEST.OPT_RESULT.KIND.off, Reg.TEST.OPT_RESULT.MEASURED.off] [0x18000] { s with test := { s.test with run := none } } t) ∧
  (∀ (s : State) (g τ x : Nat) (errs : List Nat), s.Sound → s.test.run = some ⟨1, g, [], τ, 0⟩ → s.flag Reg.TEST.LINK_PATTERN.CHECK_EN = true → τ + s.rd Reg.TEST.LINK_PATTERN.DURATION_MS * ms ≤ s.up → s.rd Reg.TEST.LINK_PATTERN.LOCK = 3 → (∀ l ∈ List.range 2, errs.getD l 0 = 0) → Leads (.testEnd (.ring errs)) s fun t => t.flag Reg.TEST.TEST_STATUS.BUSY = false ∧ t.rd Reg.TEST.TEST_STATUS.RESULT = 1 ∧ t.rd Reg.TEST.LINK_PATTERN.LOCK = 0 ∧ t.HasEvt 0x18000 0 ∧ t.test.run = none ∧ t.test.jtag = s.test.jtag ∧ Frame [Reg.TEST.TEST_STATUS.BUSY.off, Reg.TEST.LINK_PATTERN.LOCK.off, (Reg.TEST.LINK_ERR.COUNT 0).off, (Reg.TEST.LINK_ERR.COUNT 1).off] [0x18000] { s with test := { s.test with run := none } } t) ∧
  (∀ (s : State) (path : HostPath) (g τ x : Nat), s.Sound → ({ s with test := { s.test with run := none } } : State).Calm → s.Open 0x18048 → s.test.run = some ⟨1, g, [], τ, x⟩ → s.flag Reg.TEST.LINK_PATTERN.CHECK_EN = true → s.flag Reg.TEST.LINK_PATTERN.LOOPBACK = true → Leads (.linkErrorInject path) s fun t => ((∀ l < 2, t.rd (Reg.TEST.LINK_ERR.COUNT l) = if bitOf (s.rd Reg.TEST.LINK_PATTERN.LOCK) l then min (s.rd (Reg.TEST.LINK_ERR.COUNT l) + 1) (2 ^ 32 - 1) else s.rd (Reg.TEST.LINK_ERR.COUNT l))) ∧ Frame [(Reg.TEST.LINK_ERR.COUNT 0).off, (Reg.TEST.LINK_ERR.COUNT 1).off] [0] { s with test := t.test } t) ∧
  (∀ (s : State) (lane g τ x : Nat), s.Sound → lane < 2 → s.test.run = some ⟨1, g, [], τ, x⟩ → s.flag Reg.TEST.LINK_PATTERN.CHECK_EN = true → s.flag (⟨0x18048, 12 + lane, 1⟩ : Fld) = false → Leads (.checkerLock lane) s fun t => t.flag (⟨0x18048, 12 + lane, 1⟩ : Fld) = true ∧ Frame [Reg.TEST.LINK_PATTERN.LOCK.off] [] { s with test := { s.test with run := some ⟨1, g, [], s.up, 0⟩ } } t) ∧
  (∀ (s : State) (lane g τ x : Nat), s.Sound → lane < 2 → s.test.run = some ⟨1, g, [], τ, x⟩ → s.flag Reg.TEST.LINK_PATTERN.CHECK_EN = true → s.flag (⟨0x18048, 12 + lane, 1⟩ : Fld) = true → Leads (.checkerLockLost lane) s fun t => t.flag (⟨0x18048, 12 + lane, 1⟩ : Fld) = false ∧ t.HasEvt 0x18000 4 ∧ Frame [Reg.TEST.LINK_PATTERN.LOCK.off] [0x18000] { s with test := { s.test with run := some ⟨1, g, [], s.up, x⟩ } } t)

/-- Test port opcodes select their register and drive the pins where allowed (R464). Where the spec leaves it open, it rests on the model's choices (log 153, 159). -/
def Obligations.JtagLeads : Prop :=
  (∀ (s : State), (s.dev = .hold ∨ s.dev = .halt ∨ s.dev = .off) → Leads .jtagClamp s fun t => t = { s with out := [], test := { s.test with jtag := 5, pins := true } }) ∧
  (∀ (s : State), s.Sound → s.dev ≠ .hold → s.dev ≠ .halt → s.dev ≠ .off → Leads .jtagClamp s fun t => t.rd Reg.TEST.CNT_JTAG_REFUSED.COUNT = min (s.rd Reg.TEST.CNT_JTAG_REFUSED.COUNT + 1) (2 ^ 32 - 1) ∧ Frame [Reg.TEST.CNT_JTAG_REFUSED.COUNT.off] [] { s with test := { s.test with jtag := 0xFF } } t) ∧
  (∀ (s : State), (s.dev = .hold ∨ s.dev = .halt ∨ s.dev = .off) → Leads .jtagHighz s fun t => t = { s with out := [], test := { s.test with jtag := 6, pins := true } }) ∧
  (∀ (s : State), s.Sound → s.dev ≠ .hold → s.dev ≠ .halt → s.dev ≠ .off → Leads .jtagHighz s fun t => t.rd Reg.TEST.CNT_JTAG_REFUSED.COUNT = min (s.rd Reg.TEST.CNT_JTAG_REFUSED.COUNT + 1) (2 ^ 32 - 1) ∧ Frame [Reg.TEST.CNT_JTAG_REFUSED.COUNT.off] [] { s with test := { s.test with jtag := 0xFF } } t) ∧
  (∀ (s : State), Leads .jtagBypass s fun t => t = { s with out := [], test := { s.test with jtag := 255 } }) ∧
  (∀ (s : State) (x : Scan), (s.dev = .hold ∨ s.dev = .halt ∨ s.dev = .off) → Leads (.jtagExtest x) s fun t => t = State.scan { s with out := [], test := { s.test with jtag := 0, pins := true } } x) ∧
  (∀ (s : State) (x : Scan), s.Sound → s.dev ≠ .hold → s.dev ≠ .halt → s.dev ≠ .off → Leads (.jtagExtest x) s fun t => t.rd Reg.TEST.CNT_JTAG_REFUSED.COUNT = min (s.rd Reg.TEST.CNT_JTAG_REFUSED.COUNT + 1) (2 ^ 32 - 1) ∧ t.test.cells = s.test.cells ∧ Frame [Reg.TEST.CNT_JTAG_REFUSED.COUNT.off] [] { s with test := { s.test with jtag := 0xFF } } t) ∧
  (∀ (s : State) (x : Scan), (s.dev = .hold ∨ s.dev = .halt ∨ s.dev = .off) → Leads (.jtagExtestPulse x) s fun t => t = State.scan { s with out := [], test := { s.test with jtag := 3, pins := true } } x) ∧
  (∀ (s : State) (x : Scan), s.Sound → s.dev ≠ .hold → s.dev ≠ .halt → s.dev ≠ .off → Leads (.jtagExtestPulse x) s fun t => t.rd Reg.TEST.CNT_JTAG_REFUSED.COUNT = min (s.rd Reg.TEST.CNT_JTAG_REFUSED.COUNT + 1) (2 ^ 32 - 1) ∧ t.test.cells = s.test.cells ∧ Frame [Reg.TEST.CNT_JTAG_REFUSED.COUNT.off] [] { s with test := { s.test with jtag := 0xFF } } t) ∧
  (∀ (s : State) (x : Scan), (s.dev = .hold ∨ s.dev = .halt ∨ s.dev = .off) → Leads (.jtagExtestTrain x) s fun t => t = State.scan { s with out := [], test := { s.test with jtag := 4, pins := true } } x) ∧
  (∀ (s : State) (x : Scan), s.Sound → s.dev ≠ .hold → s.dev ≠ .halt → s.dev ≠ .off → Leads (.jtagExtestTrain x) s fun t => t.rd Reg.TEST.CNT_JTAG_REFUSED.COUNT = min (s.rd Reg.TEST.CNT_JTAG_REFUSED.COUNT + 1) (2 ^ 32 - 1) ∧ t.test.cells = s.test.cells ∧ Frame [Reg.TEST.CNT_JTAG_REFUSED.COUNT.off] [] { s with test := { s.test with jtag := 0xFF } } t) ∧
  (∀ (s : State) (x : Scan), Leads (.jtagSamplePreload x) s fun t => t = State.scan { s with out := [], test := { s.test with jtag := 2 } } x) ∧
  (∀ (s : State) (a b : Ball) (v c o : Bool), Leads (.jtagSamplePreload ⟨[(a, v)], [(b, c, o)]⟩) s fun t => t.cellsOf b = ⟨c, o, if a = b then (s.ballLevel b).getD v else (s.cellsOf b).inp⟩ ∧ t.out = [.scan [(a, (s.ballLevel a).getD v)]] ∧ t.test.pins = s.test.pins ∧ t.regs = s.regs ∧ ((∀ d : Ball, d ≠ a → d ≠ b → t.cellsOf d = s.cellsOf d))) ∧
  (∀ (s : State), Leads .jtagIdcode s fun t => t = { s with out := [.idcode (BitVec.ofNat 32 (s.unit.stepping % 16 * 2 ^ 28 + 0x51229AB))], test := { s.test with jtag := 1 } })

/-- Commands on pages, modes, waits, events, links and the parser answer a next state with their own effect (R436, R8, R5, R419, R84, R91, R108, R224, R213, R257, R266, R344). -/
def Obligations.PageAndModeCommandsComplete : Prop :=
  (∀ (s : State) (path : HostPath) (pg key : Nat) (p : PageInfo), s.Sound → s.Calm → isPage pg = true → s.Open (pg + 0x24) → pageOf pg = some p → p.lock = true → key % 2 ^ 16 = 0x4F5A → ∃ t : State, Sys2Proof.Machine.exec (.pgLockKey path pg key) s = .next t ∧ t.flag (Reg.HDR.PG_LOCK.LOCKED pg) = false) ∧
  (∀ (s : State) (path : HostPath) (pg rel : Nat) (p : PageInfo) (l : List (Nat × Nat)), s.Sound → isPage pg = true → s.Open (pg + rel) → pageOf pg = some p → clearRanges p.type rel = some l → p.type ∉ [6, 8, 0x10, 0x15, 0x20] → ∃ t : State, Sys2Proof.Machine.exec (.cntClear path pg rel) s = .next t ∧ ((∀ off, (∃ r ∈ l, pg + r.1 ≤ off ∧ off < pg + r.1 + r.2) → t.rdW off = resetWord off)) ∧ ((∀ off, (∀ r ∈ l, off < pg + r.1 ∨ pg + r.1 + r.2 ≤ off) → t.rdW off = s.rdW off))) ∧
  (∀ (s : State) (path : HostPath) (off n : Nat), s.Sound → quantAt off = some (off, n, 0) → off % 4 = 0 → s.dev ≠ .off → off < 0x1000000 → off ≠ 0x80D0 → ∃ t : State, Sys2Proof.Machine.exec (.multiwordLowRead path off) s = .next t ∧ t.out = [.word path off (s.viewWord off)] ∧ ((∀ j < n, 0 < j → tabGet t.latch 0 (latchKey path (off + 4 * j)) = (s.viewWord (off + 4 * j)).toNat + 1))) ∧
  (∀ (s : State) (path : HostPath) (k : Nat) (lo w : Word), s.Sound → s.Calm → k < 8 → s.dev ≠ .off → s.boot.check = none → s.pageOn 0xE000 = true → s.heldWord path (0xE200 + 0x20 * k) = some lo → ∃ t : State, Sys2Proof.Machine.exec (.multiwordHighWrite path (0xE204 + 0x20 * k) w) s = .next t ∧ t.rd (Reg.CMD.SQ_BASE_LO.ADDR k) = getBits lo 6 26 ∧ t.rd (Reg.CMD.SQ_BASE_HI.ADDR k) = w.toNat) ∧
  (∀ (s : State) (path : HostPath) (off lo len : Nat) (w : Word) (p : PageInfo) (a : Acc) (rg : Option (Nat × Nat)), s.Sound → s.Calm → s.Open off → off < 0x1000000 → off % 4 = 0 → pageOf off = some p → 0x40 ≤ off - pageBase off → quantAt off = none → State.special s.start path p (pageBase off) (off - pageBase off) w = none → ((fieldsAt off).map (fun r => (r.1.fld.lo, r.1.fld.len, r.1.acc, r.1.range)) = [(lo, len, a, rg)]) → (a = .rw ∨ a = .rws) → ∃ t : State, Sys2Proof.Machine.exec (.registerWrite path off w true) s = .next t ∧ t.rd ⟨off, lo, len⟩ = keptTo rg (getBits w lo len) % 2 ^ len ∧ t.dev = s.dev) ∧
  (∀ (s : State) (path : HostPath), s.Sound → s.Calm → s.Open 0x3054 → s.dev = .hold → ∃ t : State, Sys2Proof.Machine.exec (.commissionGo path) s = .next t ∧ ((∃ rs, t.boot = { s.boot with check := some rs })) ∧ t.rd Reg.BOOT.BOOT_STATUS.PHASE = 7) ∧
  (∀ (s : State), s.Sound → s.Calm → s.dev = .hold → s.boot.check = some [] → ∃ t : State, Sys2Proof.Machine.exec .commissionCheckDone s = .next t ∧ t.dev = .armed ∧ t.rd Reg.BOOT.CHECK_STATUS.RESULT = 1) ∧
  (∀ (s : State), s.boot.readyAt + 100 * ns ≤ s.up → ∃ t : State, Sys2Proof.Machine.exec .readyRelease s = .next t ∧ t = { s with boot := { s.boot with readyLow := false }, out := [] }) ∧
  (∀ (s : State) (errs corrs : List Nat) (f : NextFix), s.img.next = some f → f.held = false → s.img.staged = none → s.plumb.swapFix = false → ∃ t : State, Sys2Proof.Machine.exec (.stagingStart errs corrs) s = .next t ∧ ((∃ g, t.img.staged = some g ∧ g.complete = false ∧ g.armed = false ∧ g.started = s.up ∧ g.cells = ((diffPos f.image.cells s.img.liveCells).filter s.pinned).foldl (fun c x => c ^^^ 2 ^ x) f.image.cells)) ∧ t.img = { s.img with staged := t.img.staged }) ∧
  (∀ (s : State) (g : Staged), s.Sound → s.img.staged = some g → g.complete = false → ∃ t : State, Sys2Proof.Machine.exec .stagingComplete s = .next t ∧ t.rd Reg.GANTRY.STAGE_LAST.NS = min 65535 ((s.up - g.started) / ns) ∧ t.rd Reg.GANTRY.STAGE_MAX.NS = max (min 65535 ((s.up - g.started) / ns)) (s.rd Reg.GANTRY.STAGE_MAX.NS)) ∧
  (∀ (s : State) (g : Staged), s.img.staged = some g → g.armed = false → g.complete = true → ∃ t : State, Sys2Proof.Machine.exec .armingDeadline s = .next t ∧ t = { s with out := [], img := { s.img with staged := some { g with armed := true } } }) ∧
  (∀ (s : State) (path : HostPath) (τ req : Nat), s.Sound → s.Calm → τ < 128 → s.Open (drivePg τ + 0x40) → req % 4 = 2 → s.tileMode τ = 1 → s.dev.live = true → ∃ t : State, Sys2Proof.Machine.exec (.tileModeReq path τ req) s = .next t ∧ t.rd (Reg.DRIVE.TILE_STATUS.MODE τ) = 2 ∧ t.rd (Reg.DRIVE.TILE_CFG.MODE_REQ τ) = 2) ∧
  (∀ (s : State) (τ kind k : Nat), s.Sound → isChan kind τ k = true → s.tileMode τ = 1 → s.flag (shortFld kind τ k) = false → ∃ t : State, Sys2Proof.Machine.exec (.driveShortDetect τ kind k) s = .next t ∧ t.flag (shortFld kind τ k) = true ∧ t.HasEvt (drivePg τ) 0) ∧
  (∀ (s : State) (x : Bench) (e : Episode) (T : Nat), s.Sound → s.Calm → s.gstate = 4 → s.gan.ep = some e → e.safe = false → e.ext < s.maxExtend → s.gan.ended = false → s.gan.nextT = some T → s.gan.live = some x → s.gan.resync = none → s.gan.jump = none → s.gan.stop = false → x.loopEnd = false → x.stopAfter = false → x.stream = true → s.benchAt true (x.idx + 1) = none → ∃ t : State, Sys2Proof.Machine.exec .underflowRetry s = .next t ∧ t.rd Reg.GANTRY.CNT_EXTEND_G.COUNT = min (s.rd Reg.GANTRY.CNT_EXTEND_G.COUNT + 1) (2 ^ 32 - 1) ∧ t.gan = { s.gan with ep := some { e with ext := e.ext + 1 }, plan := some (T + s.gran), nextT := some (T + s.gran) }) ∧
  (∀ (s : State) (e : Episode), s.Sound → s.Calm → s.gstate = 4 → s.dev = .run → s.gan.ep = some e → s.maxExtend ≤ s.extension e → ∃ t : State, Sys2Proof.Machine.exec .underflowLimit s = .next t ∧ t.dev = .safe ∧ t.gstate = 5) ∧
  (∀ (s : State) (x b : Bench), s.Sound → s.Calm → s.gstate = 3 → s.gan.live = some x → s.gan.resync = none → s.gan.jump = none → s.gan.stop = false → x.loopEnd = false → x.stopAfter = false → x.stream = false → x.toStream = false → x.idx + 1 < s.gan.limit → s.entry (x.idx + 1) = b → b.triggered = true → s.trigQueued b.trigSrc = true → ∃ t : State, Sys2Proof.Machine.exec .triggerWaitCommit s = .next t ∧ t.gan.fixed = some b ∧ t.gan.nextT = some (s.edgeNow + (s.leadG + if s.master then 1 else 0) * s.gran)) ∧
  (∀ (s : State) (path : HostPath) (k : Nat) (w : Word), s.Sound → k < 16 → s.Open (0x8210 + 0x20 * k) → s.tev k = none → getBits w 0 1 = 1 → getBits w 1 1 = 0 → getBits w 20 11 ≤ 1024 → s.now < s.rdTime (0x8200 + 0x20 * k) → ∃ t : State, Sys2Proof.Machine.exec (.timeEventArm path k w) s = .next t ∧ t.flag (Reg.TIME.TEV_CTRL.ARM k) = true ∧ t.flag (Reg.TIME.TEV_CTRL.PERIODIC k) = false) ∧
  (∀ (s : State) (k T : Nat), s.Sound → s.Calm → k < 16 → s.dev ≠ .off → s.dev ≠ .boot → s.tev k = some ⟨k, T, false⟩ → T ≤ s.now → s.flag (Reg.TIME.TEV_CTRL.PERIODIC k) = false → s.rd (Reg.TIME.TEV_CTRL.TARGETS k) = 0 → ∃ t : State, Sys2Proof.Machine.exec (.timeEventFire [k]) s = .next t ∧ t.rd (Reg.TIME.TEV_STATUS.FIRED k) = (s.rd (Reg.TIME.TEV_STATUS.FIRED k) + 1) % 2 ^ (Reg.TIME.TEV_STATUS.FIRED k).len ∧ t.flag (Reg.TIME.TEV_STATUS.LATE k) = false) ∧
  (∀ (s : State) (path : HostPath) (e : TsEntry) (r : List TsEntry), s.dev ≠ .off → s.pageOn 0x8000 = true → s.time.tsq = e :: r → ∃ t : State, Sys2Proof.Machine.exec (.tsPop path) s = .next t ∧ t.time = { s.time with tsq := r } ∧ t.out = [.word path 0x80D0 (BitVec.ofNat 32 (e.t / 1000 % 10 ^ 9))]) ∧
  (∀ (s : State) (xs : List Sample), s.Sound → s.Calm → s.dev ≠ .off → ∃ t : State, Sys2Proof.Machine.exec (.sensorRound xs) s = .next t ∧ ((∀ i < 120, ∀ v : Int, xs.getD i .silent = .ok v → t.rd (Reg.THERMAL.SENSOR.TEMP i) = unsgn 16 v))) ∧
  (∀ (s : State), s.Sound → 2 ≤ s.zoneLevel 0 → s.picStage = 1 → s.throttleFree 0 = true → s.gov.overTemp = false → s.elemTotal ≤ s.rd Reg.BUDGET.HTR_BUDGET.W10 * 2500 * powUnit * 3 → ∃ t : State, Sys2Proof.Machine.exec .picStage2Entry s = .next t ∧ t.picStage = 2 ∧ t.effBudget = s.rd Reg.BUDGET.HTR_BUDGET.W10 * 2500 * powUnit * 3) ∧
  (∀ (s : State) (k : Nat), s.Sound → s.Calm → k < 4 → s.haltDue k = true → s.dev = .safe → ∃ t : State, Sys2Proof.Machine.exec (.shutdownPersist k) s = .next t ∧ t.dev = .halt) ∧
  (∀ (s : State) (p : Nat) (tr : List Nat), s.Sound → s.portReady p = true → s.linkUp p = false → s.engState p = 0 → s.activeEng = some (1 - p) → s.flag (Reg.HDR.PG_CTRL.ENABLE (0x10000 + 0x1000 * p)) = true → (s.engine p).trip = none → ∃ t : State, Sys2Proof.Machine.exec (.linkUp [(p, tr)]) s = .next t ∧ t.linkUp p = true ∧ t.flag (Reg.RING.PORT_STATUS.AN_DONE p) = s.flag (Reg.RING.PORT_CFG.AN_EN p)) ∧
  (∀ (s : State) (p : Nat), s.Sound → p < 2 → s.linkUp p = true → s.engState p ≠ 3 → ∃ t : State, Sys2Proof.Machine.exec (.linkDown p) s = .next t ∧ t.linkUp p = false ∧ t.engState p = 0) ∧
  (∀ (s : State) (p corr res : Nat) (d : List Byte), s.Sound → p < 2 → s.linkUp p = true → 20 ≤ d.length → d.length ≤ 9212 → beAt d 12 2 = 0x8808 → ∃ t : State, Sys2Proof.Machine.exec (.ringFrameRx p d .ok false corr res false) s = .next t ∧ t.rd (Reg.RING.CNT_FEC_CORR.COUNT p) = min (s.rd (Reg.RING.CNT_FEC_CORR.COUNT p) + corr) (2 ^ 32 - 1) ∧ t.rd (Reg.RING.CNT_RX_FRAMES.COUNT p) = min (s.rd (Reg.RING.CNT_RX_FRAMES.COUNT p) + 1) (2 ^ 32 - 1)) ∧
  (∀ (s : State) (p : Nat) (f : RxFrame) (fs : List RxFrame) (w : Walk), p < 2 → s.parser.rob.length < 256 → s.inQueue p = f :: fs → w = s.pass f.data (s.rd Reg.PARSER.PARSE_CFG.START_NODE) 0 f.data.length → w.reason ≠ 0 → ∃ t : State, Sys2Proof.Machine.exec (.parseFirstPass p) s = .next t ∧ t = { s with out := [], parser := (if p = 0 then { s.parser with inA := fs, acts := s.parser.acts ++ [⟨f, false, 0, w.stop, w.reason, none, s.rd Reg.PARSER.RULE_GEN.GEN, s.rd Reg.PARSER.RULE_GEN.GEN, s.engState p == 3, w.node⟩] } else { s.parser with inB := fs, acts := s.parser.acts ++ [⟨f, false, 0, w.stop, w.reason, none, s.rd Reg.PARSER.RULE_GEN.GEN, s.rd Reg.PARSER.RULE_GEN.GEN, s.engState p == 3, w.node⟩] }) }) ∧
  (∀ (s : State) (l : Looked) (ls : List Looked) (w : Walk) (n : Nat), s.parser.again = l :: ls → n = (match l.rule with | some r => r.2 / 2 ^ 24 % 64 | none => 63) → w = s.pass l.frame.data n l.strip l.stop → w.reason ≠ 0 → ∃ t : State, Sys2Proof.Machine.exec .parseSecondPass s = .next t ∧ t = { s with out := [], parser := { s.parser with again := ls, acts := s.parser.acts ++ [⟨l.frame, true, l.strip, w.stop, w.reason, none, l.gen, s.rd Reg.PARSER.RULE_GEN.GEN, s.engState l.frame.port == 3, w.node⟩] } }) ∧
  (∀ (s : State) (l : Looked) (ls : List Looked) (r : Nat × Nat), s.Sound → s.parser.acts = l :: ls → l.rule = some r → l.reason = 0 → bitOf r.2 3 = false → kindOf r.2 = 0 → ∃ t : State, Sys2Proof.Machine.exec .frameAction s = .next t ∧ t.rd Reg.PARSER.CNT_DROP.COUNT = min (s.rd Reg.PARSER.CNT_DROP.COUNT + 1) (2 ^ 32 - 1)) ∧
  (∀ (s : State) (path : HostPath) (n : Nat) (v : Bool), s.Sound → n < 48 → s.Open (0x62007C + 0x80 * n) → (s.flag (Reg.NODE.EXT.EN n) = false ∨ s.rd (Reg.NODE.EXT.SLOT n) + divUp (s.rd (Reg.NODE.EXT.LEN n)) 4 ≤ 8) → ∃ t : State, Sys2Proof.Machine.exec (.nodeCommit path n v) s = .next t ∧ ((∀ k < 31, t.lv ⟨0x620000 + 0x80 * n + 4 * k, 0, 32⟩ = (s.rdW (0x620000 + 0x80 * n + 4 * k)).toNat)) ∧ t.lv (Reg.NODE.NODE_CTRL.VALID n) = b2n v) ∧
  (∀ (s : State) (path : HostPath) (i : Nat) (v : Bool), s.Sound → i < 1024 → s.Open (0x64007C + 0x80 * i) → ∃ t : State, Sys2Proof.Machine.exec (.ruleCommit path i v) s = .next t ∧ ((∀ k < 21, t.lv ⟨0x640000 + 0x80 * i + 4 * k, 0, 32⟩ = (s.rdW (0x640000 + 0x80 * i + 4 * k)).toNat)) ∧ t.lv ⟨0x64007C + 0x80 * i, 0, 1⟩ = b2n v) ∧
  (∀ (s : State) (path : HostPath) (i : Nat), s.Sound → i < 1024 → s.Open (0x640068 + 0x80 * i) → ∃ t : State, Sys2Proof.Machine.exec (.hitsClr path i) s = .next t ∧ t.rd64 (0x640060 + 0x80 * i) = 0)

/-- Commands on benches, strobes, channel updates, capture rings, shutters, ballasts, the atlas, fuses and faults answer a next state with their own effect (R207, R208, R93, R98, R117, R121, R145, R148, R173, R175, R311, R391). -/
def Obligations.StrobeRingAndFaultCommandsComplete : Prop :=
  (∀ (s : State) (T i : Nat), s.Calm → s.gan.nextT = some T → s.gan.fixed = none → s.gstate = 1 → s.gan.first = (false, i) → s.gan.live = none → s.gan.jump = none → s.gan.ended = false → s.gan.resync = none → s.gan.resyncT = false → ∃ t : State, Sys2Proof.Machine.exec .commitPoint s = .next t ∧ t.gan.fixed = some (s.entry i) ∧ t.gan.nextT = some T) ∧
  (∀ (s : State) (T : Nat) (b : Bench) (g : Staged) (f : NextFix), s.Sound → s.Calm → s.gan.nextT = some T → s.gan.fixed = some b → s.gstate = 2 → s.img.staged = some g → g.armed = true → s.img.next = some f → s.plumb.swapFix = false → s.gan.ep = none → s.gan.stop = false → s.gan.resync = none → s.gan.resyncT = false → s.gan.period = [] → (s.dev = .armed ∨ s.dev = .run) → ∃ t : State, Sys2Proof.Machine.exec .benchBoundary s = .next t ∧ t.gan.live = some b ∧ t.gan.fixed = none) ∧
  (∀ (s : State) (g τ k shape : Nat), s.Sound → τ < 128 → k < 76 → s.img.groups.contains g = true → s.settling 1 τ = false → s.img.firing = [(htrKey τ k, shape)] → s.rd (groupFld 1 τ k) = g → s.flag (markFld 1 τ k) = true → ∃ t : State, Sys2Proof.Machine.exec (.groupStrobe g) s = .next t ∧ t.rd (liveFld 1 τ k) = s.rd (shadowFld 1 τ k) ∧ t.flag (markFld 1 τ k) = false) ∧
  (∀ (s : State) (τ k : Nat) (p : Play), s.Sound → τ < 128 → k < 76 → s.settling 0 τ = false → (s.drv.plays.find? (fun q => q.key == fastKey τ k) = some p) → ∃ t : State, Sys2Proof.Machine.exec (.shapeEnd τ k) s = .next t ∧ t.rd (Reg.DRIVE.FAST_CODE.LIVE τ k) = p.new % 2 ^ 12 ∧ t.drv.plays = s.drv.plays.filter (fun q => q.key != fastKey τ k)) ∧
  (∀ (s : State) (e : Nat), s.Sound → e < numElem → s.status e = stHold → s.reason e = whyHoldoff → s.img.live = none → s.clusterRun (clusterOf e) = true → s.playing (tileOf e) (chanOf e) = false → s.marked e = false → ∃ t : State, Sys2Proof.Machine.exec (.holdoffEnd e) s = .next t ∧ t.status e = stAcquire ∧ t.reason e = 0) ∧
  (∀ (s : State) (m : Image) (e : Nat), s.Sound → s.img.live = some m → s.img.release = [e] → e < 512 → s.awaits (shutEid 0 e) = true → s.awaits (shutEid 1 e) = true → s.status (shutEid 0 e) ≠ stQuar → s.status (shutEid 1 e) ≠ stQuar → s.tileMode (tileOf (shutEid 0 e)) ≠ 0 → s.tileMode (tileOf (shutEid 1 e)) ≠ 0 → ∃ t : State, Sys2Proof.Machine.exec .blankRelease s = .next t ∧ t.playing (tileOf (shutEid 0 e)) (chanOf (shutEid 0 e)) = true ∧ t.playing (tileOf (shutEid 1 e)) (chanOf (shutEid 1 e)) = true) ∧
  (∀ (s : State) (τ k code : Nat), s.Sound → isChan 0 τ k = true → s.clusterTested (τ / 32) = false → s.tileMode τ ≠ 0 → s.rangeCh τ = none → s.playing τ k = false → ∃ t : State, Sys2Proof.Machine.exec (.directUpdate τ 0 k code false .ok) s = .next t ∧ t.rd (Reg.DRIVE.FAST_CODE.LIVE τ k) = code % 2 ^ 12 ∧ t.rd (Reg.DRIVE.CNT_DIRECT.COUNT τ) = min (s.rd (Reg.DRIVE.CNT_DIRECT.COUNT τ) + 1) (2 ^ 32 - 1)) ∧
  (∀ (s : State) (τ k c : Nat), s.Sound → isChan 1 τ k = true → s.settling 1 τ = false → alGet s.drv.held (htrKey τ k) = some c → ∃ t : State, Sys2Proof.Machine.exec (.pacedUpdateRelease τ k) s = .next t ∧ t.rd (Reg.DRIVE.HTR_CODE.LIVE τ k) = c % 2 ^ 16 ∧ t.flag (Reg.DRIVE.HTR_CFG.HELD τ k) = false) ∧
  (∀ (s : State) (τ kind k : Nat), ∃ t : State, Sys2Proof.Machine.exec (.deglitchRelease τ kind k) s = .next t ∧ t = { s with out := [], drv := { s.drv with degl := alDel s.drv.degl (chanKey kind τ k) } } ∧ t.output kind τ k = s.rd (liveFld kind τ k)) ∧
  (∀ (s : State) (τ : Nat) (v : Int), s.Sound → τ < 128 → s.tileMode τ = 2 → s.rd (Reg.DRIVE.RB_STATUS.SLOT τ) < 159 → ∃ t : State, Sys2Proof.Machine.exec (.readbackSample τ v) s = .next t ∧ t.rd (Reg.DRIVE.RB_STATUS.SLOT τ) = s.rd (Reg.DRIVE.RB_STATUS.SLOT τ) + 1 ∧ t.rd (Reg.DRIVE.RB_LAST.VALUE τ (s.rd (Reg.DRIVE.RB_STATUS.SLOT τ))) = unsgn 16 v) ∧
  (∀ (s : State) (path : HostPath) (τ : Nat) (fast htr : Bool), s.Sound → τ < 128 → s.Open (drivePg τ + 0x48) → s.rd (Reg.DRIVE.RANGE.FAST_RANGE τ) ≠ b2n fast → s.rd (Reg.DRIVE.RANGE.HTR_RANGE τ) = b2n htr → s.rangeRefusal τ (s.commitNear false) = none → ∃ t : State, Sys2Proof.Machine.exec (.rangeChangeGo path τ fast htr) s = .next t ∧ t.rd (Reg.DRIVE.RANGE_STATUS.RESULT τ) = 0 ∧ t.rd (Reg.DRIVE.RANGE_STATUS.REASON τ) = 0) ∧
  (∀ (s : State) (τ : Nat) (r : RangeCh), s.Sound → τ < 128 → s.rangeCh τ = some r → r.fast = true → r.htr = false → ∃ t : State, Sys2Proof.Machine.exec (.rangeSettleEnd τ 0) s = .next t ∧ t.rangeCh τ = none ∧ t.rd (Reg.DRIVE.RANGE_STATUS.RESULT τ) = 1) ∧
  (∀ (s : State) (r : Nat), s.Sound → r < 16 → (∀ q ∈ List.range 16, s.capRunning q = decide (q = r)) → s.mon.batch = [] → s.capLevel < 1024 → s.sdOnline = true → s.capFill r + (s.ring r).waiting + 8 ≤ s.capSize r → (s.ring r).part.length < 56 → ∃ t : State, Sys2Proof.Machine.exec .tagWrap s = .next t ∧ (t.ring r).part = (s.ring r).part ++ syncRecord s.now ∧ t.mon.eraAt = s.now) ∧
  (∀ (s : State) (path : HostPath) (r : Nat), s.Sound → r < 16 → s.Open (0xD400 + 0x40 * r) → s.flag (Reg.CAPTURE.RING_CTRL.ENABLE r) = false → 12 ≤ s.rd (Reg.CAPTURE.RING_CTRL.SIZE_LOG2 r) → s.rd (Reg.CAPTURE.RING_CTRL.SIZE_LOG2 r) ≤ 34 → s.inPartition 2 (s.rd64 (ringOff r + 4)) (2 ^ s.rd (Reg.CAPTURE.RING_CTRL.SIZE_LOG2 r)) = true → ∃ t : State, Sys2Proof.Machine.exec (.captureRingEnable path r) s = .next t ∧ t.flag (Reg.CAPTURE.RING_CTRL.ENABLE r) = true) ∧
  (∀ (s : State) (path : HostPath) (r : Nat), s.Sound → r < 16 → s.Open (0xD400 + 0x40 * r) → s.flag (Reg.CAPTURE.RING_CTRL.RUN r) = false → s.flag (Reg.CAPTURE.RING_CTRL.ENABLE r) = true → s.pageRun 0xD000 = true → s.mon.batch = [] → s.capLevel < 1024 → s.sdOnline = true → s.capFill r + (s.ring r).waiting + 8 ≤ s.capSize r → (s.ring r).part = [] → ∃ t : State, Sys2Proof.Machine.exec (.captureRunWrite path r true) s = .next t ∧ t.flag (Reg.CAPTURE.RING_CTRL.RUN r) = true ∧ t.capRunning r = true) ∧
  (∀ (s : State) (r : Nat), s.Sound → r < 16 → s.mon.batch = [] → (s.ring r).part ≠ [] → ∃ t : State, Sys2Proof.Machine.exec (.captureFlush r) s = .next t ∧ (t.ring r).part = [] ∧ (t.ring r).bursts = (s.ring r).bursts ++ [(s.ring r).part]) ∧
  (∀ (s : State) (r : Nat) (b : List Byte) (rest : List (List Byte)), s.Sound → r < 16 → (s.ring r).bursts = b :: rest → s.capFill r + b.length ≤ s.capSize r → ∃ t : State, Sys2Proof.Machine.exec (.captureBurstWritten r) s = .next t ∧ (t.ring r).bursts = rest ∧ t.capWr r = (s.capWr r + b.length) % (2 * s.capSize r)) ∧
  (∀ (s : State) (path : HostPath) (r v : Nat), s.Sound → r < 16 → s.Open (0xD414 + 0x40 * r) → v < 2 * s.capSize r → v < 2 ^ 35 → (v + 2 * s.capSize r - s.capRd r % (2 * s.capSize r)) % (2 * s.capSize r) ≤ s.capFill r → ∃ t : State, Sys2Proof.Machine.exec (.captureRdPtrWrite path r v) s = .next t ∧ t.capRd r = v ∧ t.capWr r = s.capWr r) ∧
  (∀ (s : State) (e : Nat) (thru drop : Int), s.Sound → e < numElem → isCell e = false → s.working e = true → s.clusterRun (clusterOf e) = true → s.shutSeen e = some (thru, drop) → ((s.inputs e).all (fun p => s.light (clusterOf e) p.1) = true) → s.flag (Reg.ELEM.ELEM_STATUS.SH_NULL e) = false → (s.elem e).soft = true → ∃ t : State, Sys2Proof.Machine.exec (.shutterMeasurement e) s = .next t ∧ t.rd (Reg.ELEM.ELEM_METRIC.M0 e) = shutA thru drop % 2 ^ 16 ∧ t.rd (Reg.ELEM.ELEM_METRIC.M1 e) = min (shutA thru drop) 10240) ∧
  (∀ (s : State) (b tg : Nat), s.Sound → b < 128 → alGet s.bram.ramps b = some tg → s.clusterRun (b / 32) = true → s.tileMode b ≠ 0 → s.rangeCh b = none → alGet s.drv.upd (htrKey b 76) = none → ∃ t : State, Sys2Proof.Machine.exec (.ballastRampStep b) s = .next t ∧ t.rd (Reg.DRIVE.HTR_CODE.LIVE b 76) = s.ballastCode b (if tg ≤ tabGet s.gov.bz 0 b then max tg (tabGet s.gov.bz 0 b - s.rd (Reg.BRAMBLE.BALLAST_RATE.RATE (b / 32)) * powUnit) else min tg (tabGet s.gov.bz 0 b + s.rd (Reg.BRAMBLE.BALLAST_RATE.RATE (b / 32)) * powUnit))) ∧
  (∀ (s : State) (mid : Nat), mid < 19968 → s.lit mid = true → s.loopMode (mid / 32) = true → s.bram.guard.contains mid = false → ∃ t : State, Sys2Proof.Machine.exec (.guardRequest mid) s = .next t ∧ t = { s with out := [], bram := { s.bram with guard := s.bram.guard ++ [mid] } }) ∧
  (∀ (s : State) (mid : Nat), s.Sound → mid < 19968 → s.lit mid = true → ∃ t : State, Sys2Proof.Machine.exec (.loopStarve mid) s = .next t ∧ t.rd (Reg.BRAMBLE.CNT_STARVE_MISS.COUNT (monCluster (monTile mid))) = min (s.rd (Reg.BRAMBLE.CNT_STARVE_MISS.COUNT (monCluster (monTile mid))) + 1) (2 ^ 32 - 1) ∧ t.HasEvt (bramPg (monCluster (monTile mid))) 3) ∧
  (∀ (s : State) (mid cls : Nat), s.Sound → mid < 19968 → alGet s.bram.asked mid = some cls → ∃ t : State, Sys2Proof.Machine.exec (.resultTimeout mid) s = .next t ∧ t.rd (Reg.BRAMBLE.CNT_TIMEOUT.COUNT (monCluster (monTile mid))) = min (s.rd (Reg.BRAMBLE.CNT_TIMEOUT.COUNT (monCluster (monTile mid))) + 1) (2 ^ 32 - 1) ∧ (mid, cls) ∈ t.bram.reqs) ∧
  (∀ (s : State) (k : Nat), s.Sound → k < 4 → ∃ t : State, Sys2Proof.Machine.exec .loopEpoch s = .next t ∧ t.rd (Reg.BRAMBLE.EPOCH_COUNT.COUNT k) = (s.rd (Reg.BRAMBLE.EPOCH_COUNT.COUNT k) + 1) % 2 ^ 32 ∧ t.rd (Reg.BRAMBLE.MAX_AGE.US k) = tabGet s.bram.ages 0 k % 2 ^ (Reg.BRAMBLE.MAX_AGE.US k).len) ∧
  (∀ (s : State) (path : HostPath), s.Sound → s.Open 0xC084 → s.flag Reg.PLUMB.ATLAS_CTRL.ENABLE = true → s.flag Reg.PLUMB.ATLAS_CTRL.FREEZE = false → ∃ t : State, Sys2Proof.Machine.exec (.atlasFreeze path) s = .next t ∧ t.flag Reg.PLUMB.ATLAS_CTRL.FREEZE = true ∧ t.flag Reg.PLUMB.ATLAS_CTRL.ENABLE = true) ∧
  (∀ (s : State), s.Sound → s.plumb.freezing = true → s.sdOnline = false → ∃ t : State, Sys2Proof.Machine.exec .atlasFreezeDone s = .next t ∧ t.flag Reg.PLUMB.ATLAS_CTRL.VALID = true ∧ t.flag Reg.PLUMB.ATLAS_CTRL.FREEZE = s.flag Reg.PLUMB.ATLAS_CTRL.FREEZE) ∧
  (∀ (s : State) (path : HostPath), s.Sound → s.Open 0xC084 → s.flag Reg.PLUMB.ATLAS_CTRL.ENABLE = false → s.flag Reg.PLUMB.ATLAS_CTRL.FREEZE = bitOf (s.rdW 0xC084).toNat 1 → s.sdOnline = false → ∃ t : State, Sys2Proof.Machine.exec (.atlasEnable path) s = .next t ∧ t.flag Reg.PLUMB.ATLAS_CTRL.ENABLE = true ∧ t.flag Reg.PLUMB.ATLAS_CTRL.FREEZE = s.flag Reg.PLUMB.ATLAS_CTRL.FREEZE) ∧
  (∀ (s : State) (path : HostPath) (g : Nat), s.Sound → s.Open 0x4048 → path ≠ .opRing → s.flag Reg.FUSE.FUSE_STATUS.COMMIT_BUSY = false → s.flag (Reg.HDR.PG_LOCK.LOCKED 0x4000) = false → (s.dev = .hold ∨ s.dev = .armed ∨ s.dev = .run) → s.runBusy = false → s.zoneLevel 3 = 0 → s.commitTarget = some g → ∃ t : State, Sys2Proof.Machine.exec (.fuseCmdCommit path 0xF05E) s = .next t ∧ t.flag Reg.FUSE.FUSE_STATUS.COMMIT_BUSY = true ∧ t.rd Reg.FUSE.COMMIT_STATUS.STEP = 1) ∧
  (∀ (s : State) (path : HostPath), s.Sound → s.Open 0x4048 → s.flag (Reg.HDR.PG_LOCK.LOCKED 0x4000) = false → markPartial (s.validMark (s.rd Reg.FUSE.FUSE_STATUS.IN_FORCE)) = true → s.rd Reg.FUSE.FUSE_STATUS.IN_FORCE = 0 → ∃ t : State, Sys2Proof.Machine.exec (.finishRevoke path 0xF05E) s = .next t ∧ t.validMark 0 = 0xFF ∧ t.revokeMark 0 = s.revokeMark 0) ∧
  (∀ (s : State) (n : Nat) (image : List Byte), s.Sound → s.plumb.commit = some image → ∃ t : State, Sys2Proof.Machine.exec (.fuseCommitEnd (.done n)) s = .next t ∧ t.flag Reg.FUSE.FUSE_STATUS.COMMIT_BUSY = false ∧ t.rd Reg.FUSE.COMMIT_STATUS.STEP = 0) ∧
  (∀ (s : State) (i : Nat) (burnt : List (Nat × Byte)) (f : Raised), s.Sound → s.Calm → f.src < 256 → s.inbox[i]? = some f → s.dev ≠ .off → tabGet s.sump.winAt 0 f.src = 0 → s.flag (Reg.SRC.SRC_CFG.MASK f.src) = true → f.direct = false → 2 ≤ s.rd (Reg.SRC.SRC_CFG.N f.src) → ∃ t : State, Sys2Proof.Machine.exec (.faultClassify i burnt none) s = .next t ∧ t.rd (Reg.SRC.SRC_STATE.CNT f.src) = 1 ∧ t.rd (Reg.SRC.SRC_TOTAL.COUNT f.src) = min (s.rd (Reg.SRC.SRC_TOTAL.COUNT f.src) + 1) (2 ^ (Reg.SRC.SRC_TOTAL.COUNT f.src).len - 1)) ∧
  (∀ (s : State) (r : RecReq), s.Sound → s.Calm → s.recQ = [r] → s.recordOpen = false → r.coal = 0 → r.reaction < 8 → ∃ t : State, Sys2Proof.Machine.exec .recordUpdate s = .next t ∧ t.recQ = [] ∧ t.recordOpen = true) ∧
  (∀ (s : State) (path : HostPath) (id : Nat), s.Sound → s.Calm → s.Open 0x7048 → id < 2 ^ 32 → s.recordOpen = true → s.recordId = id → s.sump.blanked = [] → ∃ t : State, Sys2Proof.Machine.exec (.sumpAck path id) s = .next t ∧ t.recordOpen = false ∧ t.rd Reg.SUMP.SUMP_STATUS.REACTION = 0) ∧
  (∀ (s : State) (b : List Byte) (bs : List (List Byte)), s.Sound → s.sump.logQ = b :: bs → s.sdOnline = true → s.flag Reg.SUMP.LOG_CFG.ENABLE = true → s.logFits (s.rd Reg.SUMP.LOG_CFG.SIZE_LOG2) = true → ∃ t : State, Sys2Proof.Machine.exec .logRecordWrite s = .next t ∧ t.rd Reg.SUMP.LOG_WR_PTR.PTR = (s.rd Reg.SUMP.LOG_WR_PTR.PTR + 128) % 2 ^ (s.rd Reg.SUMP.LOG_CFG.SIZE_LOG2 + 1) % 2 ^ Reg.SUMP.LOG_WR_PTR.PTR.len) ∧
  (∀ (s : State) (path : HostPath), s.Sound → s.Calm → s.Open 0x704C → s.dev = .safe → s.recordOpen = false → ∃ t : State, Sys2Proof.Machine.exec (.safeCtrlExit path) s = .next t ∧ t.dev = .armed ∧ ((s.gstate = 5 → t.gstate = 0))) ∧
  (∀ (s : State) (path : HostPath) (src : Nat), s.Open 0x7054 → 240 ≤ src → src < 256 → ∃ t : State, Sys2Proof.Machine.exec (.inject path src) s = .next t ∧ t = { s with out := [], inbox := s.inbox ++ [⟨src, s.rd Reg.SUMP.INJECT_DATA.DATA, true, false⟩] })
end

