-- ==== Sys2Proof/Laws/State.lean ====
section
/-! SUPPORT. What the plainest updates of a state leave unchanged, field by field. -/
namespace Sys2Proof.Machine

@[simp] theorem State.start_pending (s : State) : (s.start).pending = s.pending := rfl
@[simp] theorem State.start_dev (s : State) : (s.start).dev = s.dev := rfl
@[simp] theorem State.start_regs (s : State) : (s.start).regs = s.regs := rfl
@[simp] theorem State.start_live (s : State) : (s.start).live = s.live := rfl
@[simp] theorem State.start_now (s : State) : (s.start).now = s.now := rfl
@[simp] theorem State.start_clkRun (s : State) : (s.start).clkRun = s.clkRun := rfl
@[simp] theorem State.start_granAcc (s : State) : (s.start).granAcc = s.granAcc := rfl
@[simp] theorem State.start_phase (s : State) : (s.start).phase = s.phase := rfl
@[simp] theorem State.start_dom (s : State) : (s.start).dom = s.dom := rfl
@[simp] theorem State.start_latch (s : State) : (s.start).latch = s.latch := rfl
@[simp] theorem State.start_heldW (s : State) : (s.start).heldW = s.heldW := rfl
@[simp] theorem State.start_enHeld (s : State) : (s.start).enHeld = s.enHeld := rfl
@[simp] theorem State.start_inbox (s : State) : (s.start).inbox = s.inbox := rfl
@[simp] theorem State.start_recQ (s : State) : (s.start).recQ = s.recQ := rfl
@[simp] theorem State.start_sd (s : State) : (s.start).sd = s.sd := rfl
@[simp] theorem State.start_freeCtr (s : State) : (s.start).freeCtr = s.freeCtr := rfl
@[simp] theorem State.start_unit (s : State) : (s.start).unit = s.unit := rfl
@[simp] theorem State.start_drv (s : State) : (s.start).drv = s.drv := rfl
@[simp] theorem State.start_img (s : State) : (s.start).img = s.img := rfl
@[simp] theorem State.start_hq (s : State) : (s.start).hq = s.hq := rfl
@[simp] theorem State.start_bram (s : State) : (s.start).bram = s.bram := rfl
@[simp] theorem State.start_gov (s : State) : (s.start).gov = s.gov := rfl
@[simp] theorem State.start_therm (s : State) : (s.start).therm = s.therm := rfl
@[simp] theorem State.start_sump (s : State) : (s.start).sump = s.sump := rfl
@[simp] theorem State.start_seam (s : State) : (s.start).seam = s.seam := rfl
@[simp] theorem State.start_gan (s : State) : (s.start).gan = s.gan := rfl
@[simp] theorem State.start_plumb (s : State) : (s.start).plumb = s.plumb := rfl
@[simp] theorem State.start_mon (s : State) : (s.start).mon = s.mon := rfl
@[simp] theorem State.start_time (s : State) : (s.start).time = s.time := rfl
@[simp] theorem State.start_path (s : State) : (s.start).path = s.path := rfl
@[simp] theorem State.start_parser (s : State) : (s.start).parser = s.parser := rfl
@[simp] theorem State.start_cmd (s : State) : (s.start).cmd = s.cmd := rfl
@[simp] theorem State.start_boot (s : State) : (s.start).boot = s.boot := rfl
@[simp] theorem State.start_test (s : State) : (s.start).test = s.test := rfl
@[simp] theorem State.start_smb (s : State) : (s.start).smb = s.smb := rfl
@[simp] theorem State.start_pcie (s : State) : (s.start).pcie = s.pcie := rfl

@[simp] theorem State.emit_pending (s : State) (o : Out) : (s.emit o).pending = s.pending := rfl
@[simp] theorem State.emit_dev (s : State) (o : Out) : (s.emit o).dev = s.dev := rfl
@[simp] theorem State.emit_regs (s : State) (o : Out) : (s.emit o).regs = s.regs := rfl
@[simp] theorem State.emit_live (s : State) (o : Out) : (s.emit o).live = s.live := rfl
@[simp] theorem State.emit_now (s : State) (o : Out) : (s.emit o).now = s.now := rfl
@[simp] theorem State.emit_clkRun (s : State) (o : Out) : (s.emit o).clkRun = s.clkRun := rfl
@[simp] theorem State.emit_granAcc (s : State) (o : Out) : (s.emit o).granAcc = s.granAcc := rfl
@[simp] theorem State.emit_phase (s : State) (o : Out) : (s.emit o).phase = s.phase := rfl
@[simp] theorem State.emit_dom (s : State) (o : Out) : (s.emit o).dom = s.dom := rfl
@[simp] theorem State.emit_latch (s : State) (o : Out) : (s.emit o).latch = s.latch := rfl
@[simp] theorem State.emit_heldW (s : State) (o : Out) : (s.emit o).heldW = s.heldW := rfl
@[simp] theorem State.emit_enHeld (s : State) (o : Out) : (s.emit o).enHeld = s.enHeld := rfl
@[simp] theorem State.emit_inbox (s : State) (o : Out) : (s.emit o).inbox = s.inbox := rfl
@[simp] theorem State.emit_recQ (s : State) (o : Out) : (s.emit o).recQ = s.recQ := rfl
@[simp] theorem State.emit_sd (s : State) (o : Out) : (s.emit o).sd = s.sd := rfl
@[simp] theorem State.emit_freeCtr (s : State) (o : Out) : (s.emit o).freeCtr = s.freeCtr := rfl
@[simp] theorem State.emit_unit (s : State) (o : Out) : (s.emit o).unit = s.unit := rfl
@[simp] theorem State.emit_drv (s : State) (o : Out) : (s.emit o).drv = s.drv := rfl
@[simp] theorem State.emit_img (s : State) (o : Out) : (s.emit o).img = s.img := rfl
@[simp] theorem State.emit_hq (s : State) (o : Out) : (s.emit o).hq = s.hq := rfl
@[simp] theorem State.emit_bram (s : State) (o : Out) : (s.emit o).bram = s.bram := rfl
@[simp] theorem State.emit_gov (s : State) (o : Out) : (s.emit o).gov = s.gov := rfl
@[simp] theorem State.emit_therm (s : State) (o : Out) : (s.emit o).therm = s.therm := rfl
@[simp] theorem State.emit_sump (s : State) (o : Out) : (s.emit o).sump = s.sump := rfl
@[simp] theorem State.emit_seam (s : State) (o : Out) : (s.emit o).seam = s.seam := rfl
@[simp] theorem State.emit_gan (s : State) (o : Out) : (s.emit o).gan = s.gan := rfl
@[simp] theorem State.emit_plumb (s : State) (o : Out) : (s.emit o).plumb = s.plumb := rfl
@[simp] theorem State.emit_mon (s : State) (o : Out) : (s.emit o).mon = s.mon := rfl
@[simp] theorem State.emit_time (s : State) (o : Out) : (s.emit o).time = s.time := rfl
@[simp] theorem State.emit_path (s : State) (o : Out) : (s.emit o).path = s.path := rfl
@[simp] theorem State.emit_parser (s : State) (o : Out) : (s.emit o).parser = s.parser := rfl
@[simp] theorem State.emit_cmd (s : State) (o : Out) : (s.emit o).cmd = s.cmd := rfl
@[simp] theorem State.emit_boot (s : State) (o : Out) : (s.emit o).boot = s.boot := rfl
@[simp] theorem State.emit_test (s : State) (o : Out) : (s.emit o).test = s.test := rfl
@[simp] theorem State.emit_smb (s : State) (o : Out) : (s.emit o).smb = s.smb := rfl
@[simp] theorem State.emit_pcie (s : State) (o : Out) : (s.emit o).pcie = s.pcie := rfl

@[simp] theorem State.draw_pending (s : State) : (s.draw).pending = s.pending := rfl
@[simp] theorem State.draw_dev (s : State) : (s.draw).dev = s.dev := rfl
@[simp] theorem State.draw_regs (s : State) : (s.draw).regs = s.regs := rfl
@[simp] theorem State.draw_live (s : State) : (s.draw).live = s.live := rfl
@[simp] theorem State.draw_now (s : State) : (s.draw).now = s.now := rfl
@[simp] theorem State.draw_clkRun (s : State) : (s.draw).clkRun = s.clkRun := rfl
@[simp] theorem State.draw_granAcc (s : State) : (s.draw).granAcc = s.granAcc := rfl
@[simp] theorem State.draw_phase (s : State) : (s.draw).phase = s.phase := rfl
@[simp] theorem State.draw_dom (s : State) : (s.draw).dom = s.dom := rfl
@[simp] theorem State.draw_latch (s : State) : (s.draw).latch = s.latch := rfl
@[simp] theorem State.draw_heldW (s : State) : (s.draw).heldW = s.heldW := rfl
@[simp] theorem State.draw_enHeld (s : State) : (s.draw).enHeld = s.enHeld := rfl
@[simp] theorem State.draw_inbox (s : State) : (s.draw).inbox = s.inbox := rfl
@[simp] theorem State.draw_recQ (s : State) : (s.draw).recQ = s.recQ := rfl
@[simp] theorem State.draw_sd (s : State) : (s.draw).sd = s.sd := rfl
@[simp] theorem State.draw_out (s : State) : (s.draw).out = s.out := rfl
@[simp] theorem State.draw_unit (s : State) : (s.draw).unit = s.unit := rfl
@[simp] theorem State.draw_drv (s : State) : (s.draw).drv = s.drv := rfl
@[simp] theorem State.draw_img (s : State) : (s.draw).img = s.img := rfl
@[simp] theorem State.draw_hq (s : State) : (s.draw).hq = s.hq := rfl
@[simp] theorem State.draw_bram (s : State) : (s.draw).bram = s.bram := rfl
@[simp] theorem State.draw_gov (s : State) : (s.draw).gov = s.gov := rfl
@[simp] theorem State.draw_therm (s : State) : (s.draw).therm = s.therm := rfl
@[simp] theorem State.draw_sump (s : State) : (s.draw).sump = s.sump := rfl
@[simp] theorem State.draw_seam (s : State) : (s.draw).seam = s.seam := rfl
@[simp] theorem State.draw_gan (s : State) : (s.draw).gan = s.gan := rfl
@[simp] theorem State.draw_plumb (s : State) : (s.draw).plumb = s.plumb := rfl
@[simp] theorem State.draw_mon (s : State) : (s.draw).mon = s.mon := rfl
@[simp] theorem State.draw_time (s : State) : (s.draw).time = s.time := rfl
@[simp] theorem State.draw_path (s : State) : (s.draw).path = s.path := rfl
@[simp] theorem State.draw_parser (s : State) : (s.draw).parser = s.parser := rfl
@[simp] theorem State.draw_cmd (s : State) : (s.draw).cmd = s.cmd := rfl
@[simp] theorem State.draw_boot (s : State) : (s.draw).boot = s.boot := rfl
@[simp] theorem State.draw_test (s : State) : (s.draw).test = s.test := rfl
@[simp] theorem State.draw_smb (s : State) : (s.draw).smb = s.smb := rfl
@[simp] theorem State.draw_pcie (s : State) : (s.draw).pcie = s.pcie := rfl

@[simp] theorem State.wrW_pending (s : State) (off : Nat) (w : Word) : (s.wrW off w).pending = s.pending := rfl
@[simp] theorem State.wrW_dev (s : State) (off : Nat) (w : Word) : (s.wrW off w).dev = s.dev := rfl
@[simp] theorem State.wrW_live (s : State) (off : Nat) (w : Word) : (s.wrW off w).live = s.live := rfl
@[simp] theorem State.wrW_now (s : State) (off : Nat) (w : Word) : (s.wrW off w).now = s.now := rfl
@[simp] theorem State.wrW_clkRun (s : State) (off : Nat) (w : Word) : (s.wrW off w).clkRun = s.clkRun := rfl
@[simp] theorem State.wrW_granAcc (s : State) (off : Nat) (w : Word) : (s.wrW off w).granAcc = s.granAcc := rfl
@[simp] theorem State.wrW_phase (s : State) (off : Nat) (w : Word) : (s.wrW off w).phase = s.phase := rfl
@[simp] theorem State.wrW_dom (s : State) (off : Nat) (w : Word) : (s.wrW off w).dom = s.dom := rfl
@[simp] theorem State.wrW_latch (s : State) (off : Nat) (w : Word) : (s.wrW off w).latch = s.latch := rfl
@[simp] theorem State.wrW_heldW (s : State) (off : Nat) (w : Word) : (s.wrW off w).heldW = s.heldW := rfl
@[simp] theorem State.wrW_enHeld (s : State) (off : Nat) (w : Word) : (s.wrW off w).enHeld = s.enHeld := rfl
@[simp] theorem State.wrW_inbox (s : State) (off : Nat) (w : Word) : (s.wrW off w).inbox = s.inbox := rfl
@[simp] theorem State.wrW_recQ (s : State) (off : Nat) (w : Word) : (s.wrW off w).recQ = s.recQ := rfl
@[simp] theorem State.wrW_sd (s : State) (off : Nat) (w : Word) : (s.wrW off w).sd = s.sd := rfl
@[simp] theorem State.wrW_freeCtr (s : State) (off : Nat) (w : Word) : (s.wrW off w).freeCtr = s.freeCtr := rfl
@[simp] theorem State.wrW_out (s : State) (off : Nat) (w : Word) : (s.wrW off w).out = s.out := rfl
@[simp] theorem State.wrW_unit (s : State) (off : Nat) (w : Word) : (s.wrW off w).unit = s.unit := rfl
@[simp] theorem State.wrW_drv (s : State) (off : Nat) (w : Word) : (s.wrW off w).drv = s.drv := rfl
@[simp] theorem State.wrW_img (s : State) (off : Nat) (w : Word) : (s.wrW off w).img = s.img := rfl
@[simp] theorem State.wrW_hq (s : State) (off : Nat) (w : Word) : (s.wrW off w).hq = s.hq := rfl
@[simp] theorem State.wrW_bram (s : State) (off : Nat) (w : Word) : (s.wrW off w).bram = s.bram := rfl
@[simp] theorem State.wrW_gov (s : State) (off : Nat) (w : Word) : (s.wrW off w).gov = s.gov := rfl
@[simp] theorem State.wrW_therm (s : State) (off : Nat) (w : Word) : (s.wrW off w).therm = s.therm := rfl
@[simp] theorem State.wrW_sump (s : State) (off : Nat) (w : Word) : (s.wrW off w).sump = s.sump := rfl
@[simp] theorem State.wrW_seam (s : State) (off : Nat) (w : Word) : (s.wrW off w).seam = s.seam := rfl
@[simp] theorem State.wrW_gan (s : State) (off : Nat) (w : Word) : (s.wrW off w).gan = s.gan := rfl
@[simp] theorem State.wrW_plumb (s : State) (off : Nat) (w : Word) : (s.wrW off w).plumb = s.plumb := rfl
@[simp] theorem State.wrW_mon (s : State) (off : Nat) (w : Word) : (s.wrW off w).mon = s.mon := rfl
@[simp] theorem State.wrW_time (s : State) (off : Nat) (w : Word) : (s.wrW off w).time = s.time := rfl
@[simp] theorem State.wrW_path (s : State) (off : Nat) (w : Word) : (s.wrW off w).path = s.path := rfl
@[simp] theorem State.wrW_parser (s : State) (off : Nat) (w : Word) : (s.wrW off w).parser = s.parser := rfl
@[simp] theorem State.wrW_cmd (s : State) (off : Nat) (w : Word) : (s.wrW off w).cmd = s.cmd := rfl
@[simp] theorem State.wrW_boot (s : State) (off : Nat) (w : Word) : (s.wrW off w).boot = s.boot := rfl
@[simp] theorem State.wrW_test (s : State) (off : Nat) (w : Word) : (s.wrW off w).test = s.test := rfl
@[simp] theorem State.wrW_smb (s : State) (off : Nat) (w : Word) : (s.wrW off w).smb = s.smb := rfl
@[simp] theorem State.wrW_pcie (s : State) (off : Nat) (w : Word) : (s.wrW off w).pcie = s.pcie := rfl

@[simp] theorem State.wr_pending (s : State) (f : Fld) (v : Nat) : (s.wr f v).pending = s.pending := rfl
@[simp] theorem State.wr_dev (s : State) (f : Fld) (v : Nat) : (s.wr f v).dev = s.dev := rfl
@[simp] theorem State.wr_live (s : State) (f : Fld) (v : Nat) : (s.wr f v).live = s.live := rfl
@[simp] theorem State.wr_now (s : State) (f : Fld) (v : Nat) : (s.wr f v).now = s.now := rfl
@[simp] theorem State.wr_clkRun (s : State) (f : Fld) (v : Nat) : (s.wr f v).clkRun = s.clkRun := rfl
@[simp] theorem State.wr_granAcc (s : State) (f : Fld) (v : Nat) : (s.wr f v).granAcc = s.granAcc := rfl
@[simp] theorem State.wr_phase (s : State) (f : Fld) (v : Nat) : (s.wr f v).phase = s.phase := rfl
@[simp] theorem State.wr_dom (s : State) (f : Fld) (v : Nat) : (s.wr f v).dom = s.dom := rfl
@[simp] theorem State.wr_latch (s : State) (f : Fld) (v : Nat) : (s.wr f v).latch = s.latch := rfl
@[simp] theorem State.wr_heldW (s : State) (f : Fld) (v : Nat) : (s.wr f v).heldW = s.heldW := rfl
@[simp] theorem State.wr_enHeld (s : State) (f : Fld) (v : Nat) : (s.wr f v).enHeld = s.enHeld := rfl
@[simp] theorem State.wr_inbox (s : State) (f : Fld) (v : Nat) : (s.wr f v).inbox = s.inbox := rfl
@[simp] theorem State.wr_recQ (s : State) (f : Fld) (v : Nat) : (s.wr f v).recQ = s.recQ := rfl
@[simp] theorem State.wr_sd (s : State) (f : Fld) (v : Nat) : (s.wr f v).sd = s.sd := rfl
@[simp] theorem State.wr_freeCtr (s : State) (f : Fld) (v : Nat) : (s.wr f v).freeCtr = s.freeCtr := rfl
@[simp] theorem State.wr_out (s : State) (f : Fld) (v : Nat) : (s.wr f v).out = s.out := rfl
@[simp] theorem State.wr_unit (s : State) (f : Fld) (v : Nat) : (s.wr f v).unit = s.unit := rfl
@[simp] theorem State.wr_drv (s : State) (f : Fld) (v : Nat) : (s.wr f v).drv = s.drv := rfl
@[simp] theorem State.wr_img (s : State) (f : Fld) (v : Nat) : (s.wr f v).img = s.img := rfl
@[simp] theorem State.wr_hq (s : State) (f : Fld) (v : Nat) : (s.wr f v).hq = s.hq := rfl
@[simp] theorem State.wr_bram (s : State) (f : Fld) (v : Nat) : (s.wr f v).bram = s.bram := rfl
@[simp] theorem State.wr_gov (s : State) (f : Fld) (v : Nat) : (s.wr f v).gov = s.gov := rfl
@[simp] theorem State.wr_therm (s : State) (f : Fld) (v : Nat) : (s.wr f v).therm = s.therm := rfl
@[simp] theorem State.wr_sump (s : State) (f : Fld) (v : Nat) : (s.wr f v).sump = s.sump := rfl
@[simp] theorem State.wr_seam (s : State) (f : Fld) (v : Nat) : (s.wr f v).seam = s.seam := rfl
@[simp] theorem State.wr_gan (s : State) (f : Fld) (v : Nat) : (s.wr f v).gan = s.gan := rfl
@[simp] theorem State.wr_plumb (s : State) (f : Fld) (v : Nat) : (s.wr f v).plumb = s.plumb := rfl
@[simp] theorem State.wr_mon (s : State) (f : Fld) (v : Nat) : (s.wr f v).mon = s.mon := rfl
@[simp] theorem State.wr_time (s : State) (f : Fld) (v : Nat) : (s.wr f v).time = s.time := rfl
@[simp] theorem State.wr_path (s : State) (f : Fld) (v : Nat) : (s.wr f v).path = s.path := rfl
@[simp] theorem State.wr_parser (s : State) (f : Fld) (v : Nat) : (s.wr f v).parser = s.parser := rfl
@[simp] theorem State.wr_cmd (s : State) (f : Fld) (v : Nat) : (s.wr f v).cmd = s.cmd := rfl
@[simp] theorem State.wr_boot (s : State) (f : Fld) (v : Nat) : (s.wr f v).boot = s.boot := rfl
@[simp] theorem State.wr_test (s : State) (f : Fld) (v : Nat) : (s.wr f v).test = s.test := rfl
@[simp] theorem State.wr_smb (s : State) (f : Fld) (v : Nat) : (s.wr f v).smb = s.smb := rfl
@[simp] theorem State.wr_pcie (s : State) (f : Fld) (v : Nat) : (s.wr f v).pcie = s.pcie := rfl

@[simp] theorem State.put_pending (s : State) (f : Fld) (b : Bool) : (s.put f b).pending = s.pending := rfl
@[simp] theorem State.put_dev (s : State) (f : Fld) (b : Bool) : (s.put f b).dev = s.dev := rfl
@[simp] theorem State.put_live (s : State) (f : Fld) (b : Bool) : (s.put f b).live = s.live := rfl
@[simp] theorem State.put_now (s : State) (f : Fld) (b : Bool) : (s.put f b).now = s.now := rfl
@[simp] theorem State.put_clkRun (s : State) (f : Fld) (b : Bool) : (s.put f b).clkRun = s.clkRun := rfl
@[simp] theorem State.put_granAcc (s : State) (f : Fld) (b : Bool) : (s.put f b).granAcc = s.granAcc := rfl
@[simp] theorem State.put_phase (s : State) (f : Fld) (b : Bool) : (s.put f b).phase = s.phase := rfl
@[simp] theorem State.put_dom (s : State) (f : Fld) (b : Bool) : (s.put f b).dom = s.dom := rfl
@[simp] theorem State.put_latch (s : State) (f : Fld) (b : Bool) : (s.put f b).latch = s.latch := rfl
@[simp] theorem State.put_heldW (s : State) (f : Fld) (b : Bool) : (s.put f b).heldW = s.heldW := rfl
@[simp] theorem State.put_enHeld (s : State) (f : Fld) (b : Bool) : (s.put f b).enHeld = s.enHeld := rfl
@[simp] theorem State.put_inbox (s : State) (f : Fld) (b : Bool) : (s.put f b).inbox = s.inbox := rfl
@[simp] theorem State.put_recQ (s : State) (f : Fld) (b : Bool) : (s.put f b).recQ = s.recQ := rfl
@[simp] theorem State.put_sd (s : State) (f : Fld) (b : Bool) : (s.put f b).sd = s.sd := rfl
@[simp] theorem State.put_freeCtr (s : State) (f : Fld) (b : Bool) : (s.put f b).freeCtr = s.freeCtr := rfl
@[simp] theorem State.put_out (s : State) (f : Fld) (b : Bool) : (s.put f b).out = s.out := rfl
@[simp] theorem State.put_unit (s : State) (f : Fld) (b : Bool) : (s.put f b).unit = s.unit := rfl
@[simp] theorem State.put_drv (s : State) (f : Fld) (b : Bool) : (s.put f b).drv = s.drv := rfl
@[simp] theorem State.put_img (s : State) (f : Fld) (b : Bool) : (s.put f b).img = s.img := rfl
@[simp] theorem State.put_hq (s : State) (f : Fld) (b : Bool) : (s.put f b).hq = s.hq := rfl
@[simp] theorem State.put_bram (s : State) (f : Fld) (b : Bool) : (s.put f b).bram = s.bram := rfl
@[simp] theorem State.put_gov (s : State) (f : Fld) (b : Bool) : (s.put f b).gov = s.gov := rfl
@[simp] theorem State.put_therm (s : State) (f : Fld) (b : Bool) : (s.put f b).therm = s.therm := rfl
@[simp] theorem State.put_sump (s : State) (f : Fld) (b : Bool) : (s.put f b).sump = s.sump := rfl
@[simp] theorem State.put_seam (s : State) (f : Fld) (b : Bool) : (s.put f b).seam = s.seam := rfl
@[simp] theorem State.put_gan (s : State) (f : Fld) (b : Bool) : (s.put f b).gan = s.gan := rfl
@[simp] theorem State.put_plumb (s : State) (f : Fld) (b : Bool) : (s.put f b).plumb = s.plumb := rfl
@[simp] theorem State.put_mon (s : State) (f : Fld) (b : Bool) : (s.put f b).mon = s.mon := rfl
@[simp] theorem State.put_time (s : State) (f : Fld) (b : Bool) : (s.put f b).time = s.time := rfl
@[simp] theorem State.put_path (s : State) (f : Fld) (b : Bool) : (s.put f b).path = s.path := rfl
@[simp] theorem State.put_parser (s : State) (f : Fld) (b : Bool) : (s.put f b).parser = s.parser := rfl
@[simp] theorem State.put_cmd (s : State) (f : Fld) (b : Bool) : (s.put f b).cmd = s.cmd := rfl
@[simp] theorem State.put_boot (s : State) (f : Fld) (b : Bool) : (s.put f b).boot = s.boot := rfl
@[simp] theorem State.put_test (s : State) (f : Fld) (b : Bool) : (s.put f b).test = s.test := rfl
@[simp] theorem State.put_smb (s : State) (f : Fld) (b : Bool) : (s.put f b).smb = s.smb := rfl
@[simp] theorem State.put_pcie (s : State) (f : Fld) (b : Bool) : (s.put f b).pcie = s.pcie := rfl

@[simp] theorem State.add_pending (s : State) (f : Fld) (n : Nat) : (s.add f n).pending = s.pending := rfl
@[simp] theorem State.add_dev (s : State) (f : Fld) (n : Nat) : (s.add f n).dev = s.dev := rfl
@[simp] theorem State.add_live (s : State) (f : Fld) (n : Nat) : (s.add f n).live = s.live := rfl
@[simp] theorem State.add_now (s : State) (f : Fld) (n : Nat) : (s.add f n).now = s.now := rfl
@[simp] theorem State.add_clkRun (s : State) (f : Fld) (n : Nat) : (s.add f n).clkRun = s.clkRun := rfl
@[simp] theorem State.add_granAcc (s : State) (f : Fld) (n : Nat) : (s.add f n).granAcc = s.granAcc := rfl
@[simp] theorem State.add_phase (s : State) (f : Fld) (n : Nat) : (s.add f n).phase = s.phase := rfl
@[simp] theorem State.add_dom (s : State) (f : Fld) (n : Nat) : (s.add f n).dom = s.dom := rfl
@[simp] theorem State.add_latch (s : State) (f : Fld) (n : Nat) : (s.add f n).latch = s.latch := rfl
@[simp] theorem State.add_heldW (s : State) (f : Fld) (n : Nat) : (s.add f n).heldW = s.heldW := rfl
@[simp] theorem State.add_enHeld (s : State) (f : Fld) (n : Nat) : (s.add f n).enHeld = s.enHeld := rfl
@[simp] theorem State.add_inbox (s : State) (f : Fld) (n : Nat) : (s.add f n).inbox = s.inbox := rfl
@[simp] theorem State.add_recQ (s : State) (f : Fld) (n : Nat) : (s.add f n).recQ = s.recQ := rfl
@[simp] theorem State.add_sd (s : State) (f : Fld) (n : Nat) : (s.add f n).sd = s.sd := rfl
@[simp] theorem State.add_freeCtr (s : State) (f : Fld) (n : Nat) : (s.add f n).freeCtr = s.freeCtr := rfl
@[simp] theorem State.add_out (s : State) (f : Fld) (n : Nat) : (s.add f n).out = s.out := rfl
@[simp] theorem State.add_unit (s : State) (f : Fld) (n : Nat) : (s.add f n).unit = s.unit := rfl
@[simp] theorem State.add_drv (s : State) (f : Fld) (n : Nat) : (s.add f n).drv = s.drv := rfl
@[simp] theorem State.add_img (s : State) (f : Fld) (n : Nat) : (s.add f n).img = s.img := rfl
@[simp] theorem State.add_hq (s : State) (f : Fld) (n : Nat) : (s.add f n).hq = s.hq := rfl
@[simp] theorem State.add_bram (s : State) (f : Fld) (n : Nat) : (s.add f n).bram = s.bram := rfl
@[simp] theorem State.add_gov (s : State) (f : Fld) (n : Nat) : (s.add f n).gov = s.gov := rfl
@[simp] theorem State.add_therm (s : State) (f : Fld) (n : Nat) : (s.add f n).therm = s.therm := rfl
@[simp] theorem State.add_sump (s : State) (f : Fld) (n : Nat) : (s.add f n).sump = s.sump := rfl
@[simp] theorem State.add_seam (s : State) (f : Fld) (n : Nat) : (s.add f n).seam = s.seam := rfl
@[simp] theorem State.add_gan (s : State) (f : Fld) (n : Nat) : (s.add f n).gan = s.gan := rfl
@[simp] theorem State.add_plumb (s : State) (f : Fld) (n : Nat) : (s.add f n).plumb = s.plumb := rfl
@[simp] theorem State.add_mon (s : State) (f : Fld) (n : Nat) : (s.add f n).mon = s.mon := rfl
@[simp] theorem State.add_time (s : State) (f : Fld) (n : Nat) : (s.add f n).time = s.time := rfl
@[simp] theorem State.add_path (s : State) (f : Fld) (n : Nat) : (s.add f n).path = s.path := rfl
@[simp] theorem State.add_parser (s : State) (f : Fld) (n : Nat) : (s.add f n).parser = s.parser := rfl
@[simp] theorem State.add_cmd (s : State) (f : Fld) (n : Nat) : (s.add f n).cmd = s.cmd := rfl
@[simp] theorem State.add_boot (s : State) (f : Fld) (n : Nat) : (s.add f n).boot = s.boot := rfl
@[simp] theorem State.add_test (s : State) (f : Fld) (n : Nat) : (s.add f n).test = s.test := rfl
@[simp] theorem State.add_smb (s : State) (f : Fld) (n : Nat) : (s.add f n).smb = s.smb := rfl
@[simp] theorem State.add_pcie (s : State) (f : Fld) (n : Nat) : (s.add f n).pcie = s.pcie := rfl

@[simp] theorem State.inc_pending (s : State) (f : Fld) : (s.inc f).pending = s.pending := rfl
@[simp] theorem State.inc_dev (s : State) (f : Fld) : (s.inc f).dev = s.dev := rfl
@[simp] theorem State.inc_live (s : State) (f : Fld) : (s.inc f).live = s.live := rfl
@[simp] theorem State.inc_now (s : State) (f : Fld) : (s.inc f).now = s.now := rfl
@[simp] theorem State.inc_clkRun (s : State) (f : Fld) : (s.inc f).clkRun = s.clkRun := rfl
@[simp] theorem State.inc_granAcc (s : State) (f : Fld) : (s.inc f).granAcc = s.granAcc := rfl
@[simp] theorem State.inc_phase (s : State) (f : Fld) : (s.inc f).phase = s.phase := rfl
@[simp] theorem State.inc_dom (s : State) (f : Fld) : (s.inc f).dom = s.dom := rfl
@[simp] theorem State.inc_latch (s : State) (f : Fld) : (s.inc f).latch = s.latch := rfl
@[simp] theorem State.inc_heldW (s : State) (f : Fld) : (s.inc f).heldW = s.heldW := rfl
@[simp] theorem State.inc_enHeld (s : State) (f : Fld) : (s.inc f).enHeld = s.enHeld := rfl
@[simp] theorem State.inc_inbox (s : State) (f : Fld) : (s.inc f).inbox = s.inbox := rfl
@[simp] theorem State.inc_recQ (s : State) (f : Fld) : (s.inc f).recQ = s.recQ := rfl
@[simp] theorem State.inc_sd (s : State) (f : Fld) : (s.inc f).sd = s.sd := rfl
@[simp] theorem State.inc_freeCtr (s : State) (f : Fld) : (s.inc f).freeCtr = s.freeCtr := rfl
@[simp] theorem State.inc_out (s : State) (f : Fld) : (s.inc f).out = s.out := rfl
@[simp] theorem State.inc_unit (s : State) (f : Fld) : (s.inc f).unit = s.unit := rfl
@[simp] theorem State.inc_drv (s : State) (f : Fld) : (s.inc f).drv = s.drv := rfl
@[simp] theorem State.inc_img (s : State) (f : Fld) : (s.inc f).img = s.img := rfl
@[simp] theorem State.inc_hq (s : State) (f : Fld) : (s.inc f).hq = s.hq := rfl
@[simp] theorem State.inc_bram (s : State) (f : Fld) : (s.inc f).bram = s.bram := rfl
@[simp] theorem State.inc_gov (s : State) (f : Fld) : (s.inc f).gov = s.gov := rfl
@[simp] theorem State.inc_therm (s : State) (f : Fld) : (s.inc f).therm = s.therm := rfl
@[simp] theorem State.inc_sump (s : State) (f : Fld) : (s.inc f).sump = s.sump := rfl
@[simp] theorem State.inc_seam (s : State) (f : Fld) : (s.inc f).seam = s.seam := rfl
@[simp] theorem State.inc_gan (s : State) (f : Fld) : (s.inc f).gan = s.gan := rfl
@[simp] theorem State.inc_plumb (s : State) (f : Fld) : (s.inc f).plumb = s.plumb := rfl
@[simp] theorem State.inc_mon (s : State) (f : Fld) : (s.inc f).mon = s.mon := rfl
@[simp] theorem State.inc_time (s : State) (f : Fld) : (s.inc f).time = s.time := rfl
@[simp] theorem State.inc_path (s : State) (f : Fld) : (s.inc f).path = s.path := rfl
@[simp] theorem State.inc_parser (s : State) (f : Fld) : (s.inc f).parser = s.parser := rfl
@[simp] theorem State.inc_cmd (s : State) (f : Fld) : (s.inc f).cmd = s.cmd := rfl
@[simp] theorem State.inc_boot (s : State) (f : Fld) : (s.inc f).boot = s.boot := rfl
@[simp] theorem State.inc_test (s : State) (f : Fld) : (s.inc f).test = s.test := rfl
@[simp] theorem State.inc_smb (s : State) (f : Fld) : (s.inc f).smb = s.smb := rfl
@[simp] theorem State.inc_pcie (s : State) (f : Fld) : (s.inc f).pcie = s.pcie := rfl

@[simp] theorem State.incWrap_pending (s : State) (f : Fld) : (s.incWrap f).pending = s.pending := rfl
@[simp] theorem State.incWrap_dev (s : State) (f : Fld) : (s.incWrap f).dev = s.dev := rfl
@[simp] theorem State.incWrap_live (s : State) (f : Fld) : (s.incWrap f).live = s.live := rfl
@[simp] theorem State.incWrap_now (s : State) (f : Fld) : (s.incWrap f).now = s.now := rfl
@[simp] theorem State.incWrap_clkRun (s : State) (f : Fld) : (s.incWrap f).clkRun = s.clkRun := rfl
@[simp] theorem State.incWrap_granAcc (s : State) (f : Fld) : (s.incWrap f).granAcc = s.granAcc := rfl
@[simp] theorem State.incWrap_phase (s : State) (f : Fld) : (s.incWrap f).phase = s.phase := rfl
@[simp] theorem State.incWrap_dom (s : State) (f : Fld) : (s.incWrap f).dom = s.dom := rfl
@[simp] theorem State.incWrap_latch (s : State) (f : Fld) : (s.incWrap f).latch = s.latch := rfl
@[simp] theorem State.incWrap_heldW (s : State) (f : Fld) : (s.incWrap f).heldW = s.heldW := rfl
@[simp] theorem State.incWrap_enHeld (s : State) (f : Fld) : (s.incWrap f).enHeld = s.enHeld := rfl
@[simp] theorem State.incWrap_inbox (s : State) (f : Fld) : (s.incWrap f).inbox = s.inbox := rfl
@[simp] theorem State.incWrap_recQ (s : State) (f : Fld) : (s.incWrap f).recQ = s.recQ := rfl
@[simp] theorem State.incWrap_sd (s : State) (f : Fld) : (s.incWrap f).sd = s.sd := rfl
@[simp] theorem State.incWrap_freeCtr (s : State) (f : Fld) : (s.incWrap f).freeCtr = s.freeCtr := rfl
@[simp] theorem State.incWrap_out (s : State) (f : Fld) : (s.incWrap f).out = s.out := rfl
@[simp] theorem State.incWrap_unit (s : State) (f : Fld) : (s.incWrap f).unit = s.unit := rfl
@[simp] theorem State.incWrap_drv (s : State) (f : Fld) : (s.incWrap f).drv = s.drv := rfl
@[simp] theorem State.incWrap_img (s : State) (f : Fld) : (s.incWrap f).img = s.img := rfl
@[simp] theorem State.incWrap_hq (s : State) (f : Fld) : (s.incWrap f).hq = s.hq := rfl
@[simp] theorem State.incWrap_bram (s : State) (f : Fld) : (s.incWrap f).bram = s.bram := rfl
@[simp] theorem State.incWrap_gov (s : State) (f : Fld) : (s.incWrap f).gov = s.gov := rfl
@[simp] theorem State.incWrap_therm (s : State) (f : Fld) : (s.incWrap f).therm = s.therm := rfl
@[simp] theorem State.incWrap_sump (s : State) (f : Fld) : (s.incWrap f).sump = s.sump := rfl
@[simp] theorem State.incWrap_seam (s : State) (f : Fld) : (s.incWrap f).seam = s.seam := rfl
@[simp] theorem State.incWrap_gan (s : State) (f : Fld) : (s.incWrap f).gan = s.gan := rfl
@[simp] theorem State.incWrap_plumb (s : State) (f : Fld) : (s.incWrap f).plumb = s.plumb := rfl
@[simp] theorem State.incWrap_mon (s : State) (f : Fld) : (s.incWrap f).mon = s.mon := rfl
@[simp] theorem State.incWrap_time (s : State) (f : Fld) : (s.incWrap f).time = s.time := rfl
@[simp] theorem State.incWrap_path (s : State) (f : Fld) : (s.incWrap f).path = s.path := rfl
@[simp] theorem State.incWrap_parser (s : State) (f : Fld) : (s.incWrap f).parser = s.parser := rfl
@[simp] theorem State.incWrap_cmd (s : State) (f : Fld) : (s.incWrap f).cmd = s.cmd := rfl
@[simp] theorem State.incWrap_boot (s : State) (f : Fld) : (s.incWrap f).boot = s.boot := rfl
@[simp] theorem State.incWrap_test (s : State) (f : Fld) : (s.incWrap f).test = s.test := rfl
@[simp] theorem State.incWrap_smb (s : State) (f : Fld) : (s.incWrap f).smb = s.smb := rfl
@[simp] theorem State.incWrap_pcie (s : State) (f : Fld) : (s.incWrap f).pcie = s.pcie := rfl

@[simp] theorem State.clearRange_pending (s : State) (off n : Nat) : (s.clearRange off n).pending = s.pending := rfl
@[simp] theorem State.clearRange_dev (s : State) (off n : Nat) : (s.clearRange off n).dev = s.dev := rfl
@[simp] theorem State.clearRange_live (s : State) (off n : Nat) : (s.clearRange off n).live = s.live := rfl
@[simp] theorem State.clearRange_now (s : State) (off n : Nat) : (s.clearRange off n).now = s.now := rfl
@[simp] theorem State.clearRange_clkRun (s : State) (off n : Nat) : (s.clearRange off n).clkRun = s.clkRun := rfl
@[simp] theorem State.clearRange_granAcc (s : State) (off n : Nat) : (s.clearRange off n).granAcc = s.granAcc := rfl
@[simp] theorem State.clearRange_phase (s : State) (off n : Nat) : (s.clearRange off n).phase = s.phase := rfl
@[simp] theorem State.clearRange_dom (s : State) (off n : Nat) : (s.clearRange off n).dom = s.dom := rfl
@[simp] theorem State.clearRange_latch (s : State) (off n : Nat) : (s.clearRange off n).latch = s.latch := rfl
@[simp] theorem State.clearRange_heldW (s : State) (off n : Nat) : (s.clearRange off n).heldW = s.heldW := rfl
@[simp] theorem State.clearRange_enHeld (s : State) (off n : Nat) : (s.clearRange off n).enHeld = s.enHeld := rfl
@[simp] theorem State.clearRange_inbox (s : State) (off n : Nat) : (s.clearRange off n).inbox = s.inbox := rfl
@[simp] theorem State.clearRange_recQ (s : State) (off n : Nat) : (s.clearRange off n).recQ = s.recQ := rfl
@[simp] theorem State.clearRange_sd (s : State) (off n : Nat) : (s.clearRange off n).sd = s.sd := rfl
@[simp] theorem State.clearRange_freeCtr (s : State) (off n : Nat) : (s.clearRange off n).freeCtr = s.freeCtr := rfl
@[simp] theorem State.clearRange_out (s : State) (off n : Nat) : (s.clearRange off n).out = s.out := rfl
@[simp] theorem State.clearRange_unit (s : State) (off n : Nat) : (s.clearRange off n).unit = s.unit := rfl
@[simp] theorem State.clearRange_drv (s : State) (off n : Nat) : (s.clearRange off n).drv = s.drv := rfl
@[simp] theorem State.clearRange_img (s : State) (off n : Nat) : (s.clearRange off n).img = s.img := rfl
@[simp] theorem State.clearRange_hq (s : State) (off n : Nat) : (s.clearRange off n).hq = s.hq := rfl
@[simp] theorem State.clearRange_bram (s : State) (off n : Nat) : (s.clearRange off n).bram = s.bram := rfl
@[simp] theorem State.clearRange_gov (s : State) (off n : Nat) : (s.clearRange off n).gov = s.gov := rfl
@[simp] theorem State.clearRange_therm (s : State) (off n : Nat) : (s.clearRange off n).therm = s.therm := rfl
@[simp] theorem State.clearRange_sump (s : State) (off n : Nat) : (s.clearRange off n).sump = s.sump := rfl
@[simp] theorem State.clearRange_seam (s : State) (off n : Nat) : (s.clearRange off n).seam = s.seam := rfl
@[simp] theorem State.clearRange_gan (s : State) (off n : Nat) : (s.clearRange off n).gan = s.gan := rfl
@[simp] theorem State.clearRange_plumb (s : State) (off n : Nat) : (s.clearRange off n).plumb = s.plumb := rfl
@[simp] theorem State.clearRange_mon (s : State) (off n : Nat) : (s.clearRange off n).mon = s.mon := rfl
@[simp] theorem State.clearRange_time (s : State) (off n : Nat) : (s.clearRange off n).time = s.time := rfl
@[simp] theorem State.clearRange_path (s : State) (off n : Nat) : (s.clearRange off n).path = s.path := rfl
@[simp] theorem State.clearRange_parser (s : State) (off n : Nat) : (s.clearRange off n).parser = s.parser := rfl
@[simp] theorem State.clearRange_cmd (s : State) (off n : Nat) : (s.clearRange off n).cmd = s.cmd := rfl
@[simp] theorem State.clearRange_boot (s : State) (off n : Nat) : (s.clearRange off n).boot = s.boot := rfl
@[simp] theorem State.clearRange_test (s : State) (off n : Nat) : (s.clearRange off n).test = s.test := rfl
@[simp] theorem State.clearRange_smb (s : State) (off n : Nat) : (s.clearRange off n).smb = s.smb := rfl
@[simp] theorem State.clearRange_pcie (s : State) (off n : Nat) : (s.clearRange off n).pcie = s.pcie := rfl

@[simp] theorem State.err_pending (s : State) (pg off : Nat) : (s.err pg off).pending = s.pending := rfl
@[simp] theorem State.err_dev (s : State) (pg off : Nat) : (s.err pg off).dev = s.dev := rfl
@[simp] theorem State.err_live (s : State) (pg off : Nat) : (s.err pg off).live = s.live := rfl
@[simp] theorem State.err_now (s : State) (pg off : Nat) : (s.err pg off).now = s.now := rfl
@[simp] theorem State.err_clkRun (s : State) (pg off : Nat) : (s.err pg off).clkRun = s.clkRun := rfl
@[simp] theorem State.err_granAcc (s : State) (pg off : Nat) : (s.err pg off).granAcc = s.granAcc := rfl
@[simp] theorem State.err_phase (s : State) (pg off : Nat) : (s.err pg off).phase = s.phase := rfl
@[simp] theorem State.err_dom (s : State) (pg off : Nat) : (s.err pg off).dom = s.dom := rfl
@[simp] theorem State.err_latch (s : State) (pg off : Nat) : (s.err pg off).latch = s.latch := rfl
@[simp] theorem State.err_heldW (s : State) (pg off : Nat) : (s.err pg off).heldW = s.heldW := rfl
@[simp] theorem State.err_enHeld (s : State) (pg off : Nat) : (s.err pg off).enHeld = s.enHeld := rfl
@[simp] theorem State.err_inbox (s : State) (pg off : Nat) : (s.err pg off).inbox = s.inbox := rfl
@[simp] theorem State.err_recQ (s : State) (pg off : Nat) : (s.err pg off).recQ = s.recQ := rfl
@[simp] theorem State.err_sd (s : State) (pg off : Nat) : (s.err pg off).sd = s.sd := rfl
@[simp] theorem State.err_freeCtr (s : State) (pg off : Nat) : (s.err pg off).freeCtr = s.freeCtr := rfl
@[simp] theorem State.err_out (s : State) (pg off : Nat) : (s.err pg off).out = s.out := rfl
@[simp] theorem State.err_unit (s : State) (pg off : Nat) : (s.err pg off).unit = s.unit := rfl
@[simp] theorem State.err_drv (s : State) (pg off : Nat) : (s.err pg off).drv = s.drv := rfl
@[simp] theorem State.err_img (s : State) (pg off : Nat) : (s.err pg off).img = s.img := rfl
@[simp] theorem State.err_hq (s : State) (pg off : Nat) : (s.err pg off).hq = s.hq := rfl
@[simp] theorem State.err_bram (s : State) (pg off : Nat) : (s.err pg off).bram = s.bram := rfl
@[simp] theorem State.err_gov (s : State) (pg off : Nat) : (s.err pg off).gov = s.gov := rfl
@[simp] theorem State.err_therm (s : State) (pg off : Nat) : (s.err pg off).therm = s.therm := rfl
@[simp] theorem State.err_sump (s : State) (pg off : Nat) : (s.err pg off).sump = s.sump := rfl
@[simp] theorem State.err_seam (s : State) (pg off : Nat) : (s.err pg off).seam = s.seam := rfl
@[simp] theorem State.err_gan (s : State) (pg off : Nat) : (s.err pg off).gan = s.gan := rfl
@[simp] theorem State.err_plumb (s : State) (pg off : Nat) : (s.err pg off).plumb = s.plumb := rfl
@[simp] theorem State.err_mon (s : State) (pg off : Nat) : (s.err pg off).mon = s.mon := rfl
@[simp] theorem State.err_time (s : State) (pg off : Nat) : (s.err pg off).time = s.time := rfl
@[simp] theorem State.err_path (s : State) (pg off : Nat) : (s.err pg off).path = s.path := rfl
@[simp] theorem State.err_parser (s : State) (pg off : Nat) : (s.err pg off).parser = s.parser := rfl
@[simp] theorem State.err_cmd (s : State) (pg off : Nat) : (s.err pg off).cmd = s.cmd := rfl
@[simp] theorem State.err_boot (s : State) (pg off : Nat) : (s.err pg off).boot = s.boot := rfl
@[simp] theorem State.err_test (s : State) (pg off : Nat) : (s.err pg off).test = s.test := rfl
@[simp] theorem State.err_smb (s : State) (pg off : Nat) : (s.err pg off).smb = s.smb := rfl
@[simp] theorem State.err_pcie (s : State) (pg off : Nat) : (s.err pg off).pcie = s.pcie := rfl

@[simp] theorem State.wrTime_pending (s : State) (off t : Nat) : (s.wrTime off t).pending = s.pending := rfl
@[simp] theorem State.wrTime_dev (s : State) (off t : Nat) : (s.wrTime off t).dev = s.dev := rfl
@[simp] theorem State.wrTime_live (s : State) (off t : Nat) : (s.wrTime off t).live = s.live := rfl
@[simp] theorem State.wrTime_now (s : State) (off t : Nat) : (s.wrTime off t).now = s.now := rfl
@[simp] theorem State.wrTime_clkRun (s : State) (off t : Nat) : (s.wrTime off t).clkRun = s.clkRun := rfl
@[simp] theorem State.wrTime_granAcc (s : State) (off t : Nat) : (s.wrTime off t).granAcc = s.granAcc := rfl
@[simp] theorem State.wrTime_phase (s : State) (off t : Nat) : (s.wrTime off t).phase = s.phase := rfl
@[simp] theorem State.wrTime_dom (s : State) (off t : Nat) : (s.wrTime off t).dom = s.dom := rfl
@[simp] theorem State.wrTime_latch (s : State) (off t : Nat) : (s.wrTime off t).latch = s.latch := rfl
@[simp] theorem State.wrTime_heldW (s : State) (off t : Nat) : (s.wrTime off t).heldW = s.heldW := rfl
@[simp] theorem State.wrTime_enHeld (s : State) (off t : Nat) : (s.wrTime off t).enHeld = s.enHeld := rfl
@[simp] theorem State.wrTime_inbox (s : State) (off t : Nat) : (s.wrTime off t).inbox = s.inbox := rfl
@[simp] theorem State.wrTime_recQ (s : State) (off t : Nat) : (s.wrTime off t).recQ = s.recQ := rfl
@[simp] theorem State.wrTime_sd (s : State) (off t : Nat) : (s.wrTime off t).sd = s.sd := rfl
@[simp] theorem State.wrTime_freeCtr (s : State) (off t : Nat) : (s.wrTime off t).freeCtr = s.freeCtr := rfl
@[simp] theorem State.wrTime_out (s : State) (off t : Nat) : (s.wrTime off t).out = s.out := rfl
@[simp] theorem State.wrTime_unit (s : State) (off t : Nat) : (s.wrTime off t).unit = s.unit := rfl
@[simp] theorem State.wrTime_drv (s : State) (off t : Nat) : (s.wrTime off t).drv = s.drv := rfl
@[simp] theorem State.wrTime_img (s : State) (off t : Nat) : (s.wrTime off t).img = s.img := rfl
@[simp] theorem State.wrTime_hq (s : State) (off t : Nat) : (s.wrTime off t).hq = s.hq := rfl
@[simp] theorem State.wrTime_bram (s : State) (off t : Nat) : (s.wrTime off t).bram = s.bram := rfl
@[simp] theorem State.wrTime_gov (s : State) (off t : Nat) : (s.wrTime off t).gov = s.gov := rfl
@[simp] theorem State.wrTime_therm (s : State) (off t : Nat) : (s.wrTime off t).therm = s.therm := rfl
@[simp] theorem State.wrTime_sump (s : State) (off t : Nat) : (s.wrTime off t).sump = s.sump := rfl
@[simp] theorem State.wrTime_seam (s : State) (off t : Nat) : (s.wrTime off t).seam = s.seam := rfl
@[simp] theorem State.wrTime_gan (s : State) (off t : Nat) : (s.wrTime off t).gan = s.gan := rfl
@[simp] theorem State.wrTime_plumb (s : State) (off t : Nat) : (s.wrTime off t).plumb = s.plumb := rfl
@[simp] theorem State.wrTime_mon (s : State) (off t : Nat) : (s.wrTime off t).mon = s.mon := rfl
@[simp] theorem State.wrTime_time (s : State) (off t : Nat) : (s.wrTime off t).time = s.time := rfl
@[simp] theorem State.wrTime_path (s : State) (off t : Nat) : (s.wrTime off t).path = s.path := rfl
@[simp] theorem State.wrTime_parser (s : State) (off t : Nat) : (s.wrTime off t).parser = s.parser := rfl
@[simp] theorem State.wrTime_cmd (s : State) (off t : Nat) : (s.wrTime off t).cmd = s.cmd := rfl
@[simp] theorem State.wrTime_boot (s : State) (off t : Nat) : (s.wrTime off t).boot = s.boot := rfl
@[simp] theorem State.wrTime_test (s : State) (off t : Nat) : (s.wrTime off t).test = s.test := rfl
@[simp] theorem State.wrTime_smb (s : State) (off t : Nat) : (s.wrTime off t).smb = s.smb := rfl
@[simp] theorem State.wrTime_pcie (s : State) (off t : Nat) : (s.wrTime off t).pcie = s.pcie := rfl

@[simp] theorem State.wr64_pending (s : State) (off v : Nat) : (s.wr64 off v).pending = s.pending := rfl
@[simp] theorem State.wr64_dev (s : State) (off v : Nat) : (s.wr64 off v).dev = s.dev := rfl
@[simp] theorem State.wr64_live (s : State) (off v : Nat) : (s.wr64 off v).live = s.live := rfl
@[simp] theorem State.wr64_now (s : State) (off v : Nat) : (s.wr64 off v).now = s.now := rfl
@[simp] theorem State.wr64_clkRun (s : State) (off v : Nat) : (s.wr64 off v).clkRun = s.clkRun := rfl
@[simp] theorem State.wr64_granAcc (s : State) (off v : Nat) : (s.wr64 off v).granAcc = s.granAcc := rfl
@[simp] theorem State.wr64_phase (s : State) (off v : Nat) : (s.wr64 off v).phase = s.phase := rfl
@[simp] theorem State.wr64_dom (s : State) (off v : Nat) : (s.wr64 off v).dom = s.dom := rfl
@[simp] theorem State.wr64_latch (s : State) (off v : Nat) : (s.wr64 off v).latch = s.latch := rfl
@[simp] theorem State.wr64_heldW (s : State) (off v : Nat) : (s.wr64 off v).heldW = s.heldW := rfl
@[simp] theorem State.wr64_enHeld (s : State) (off v : Nat) : (s.wr64 off v).enHeld = s.enHeld := rfl
@[simp] theorem State.wr64_inbox (s : State) (off v : Nat) : (s.wr64 off v).inbox = s.inbox := rfl
@[simp] theorem State.wr64_recQ (s : State) (off v : Nat) : (s.wr64 off v).recQ = s.recQ := rfl
@[simp] theorem State.wr64_sd (s : State) (off v : Nat) : (s.wr64 off v).sd = s.sd := rfl
@[simp] theorem State.wr64_freeCtr (s : State) (off v : Nat) : (s.wr64 off v).freeCtr = s.freeCtr := rfl
@[simp] theorem State.wr64_out (s : State) (off v : Nat) : (s.wr64 off v).out = s.out := rfl
@[simp] theorem State.wr64_unit (s : State) (off v : Nat) : (s.wr64 off v).unit = s.unit := rfl
@[simp] theorem State.wr64_drv (s : State) (off v : Nat) : (s.wr64 off v).drv = s.drv := rfl
@[simp] theorem State.wr64_img (s : State) (off v : Nat) : (s.wr64 off v).img = s.img := rfl
@[simp] theorem State.wr64_hq (s : State) (off v : Nat) : (s.wr64 off v).hq = s.hq := rfl
@[simp] theorem State.wr64_bram (s : State) (off v : Nat) : (s.wr64 off v).bram = s.bram := rfl
@[simp] theorem State.wr64_gov (s : State) (off v : Nat) : (s.wr64 off v).gov = s.gov := rfl
@[simp] theorem State.wr64_therm (s : State) (off v : Nat) : (s.wr64 off v).therm = s.therm := rfl
@[simp] theorem State.wr64_sump (s : State) (off v : Nat) : (s.wr64 off v).sump = s.sump := rfl
@[simp] theorem State.wr64_seam (s : State) (off v : Nat) : (s.wr64 off v).seam = s.seam := rfl
@[simp] theorem State.wr64_gan (s : State) (off v : Nat) : (s.wr64 off v).gan = s.gan := rfl
@[simp] theorem State.wr64_plumb (s : State) (off v : Nat) : (s.wr64 off v).plumb = s.plumb := rfl
@[simp] theorem State.wr64_mon (s : State) (off v : Nat) : (s.wr64 off v).mon = s.mon := rfl
@[simp] theorem State.wr64_time (s : State) (off v : Nat) : (s.wr64 off v).time = s.time := rfl
@[simp] theorem State.wr64_path (s : State) (off v : Nat) : (s.wr64 off v).path = s.path := rfl
@[simp] theorem State.wr64_parser (s : State) (off v : Nat) : (s.wr64 off v).parser = s.parser := rfl
@[simp] theorem State.wr64_cmd (s : State) (off v : Nat) : (s.wr64 off v).cmd = s.cmd := rfl
@[simp] theorem State.wr64_boot (s : State) (off v : Nat) : (s.wr64 off v).boot = s.boot := rfl
@[simp] theorem State.wr64_test (s : State) (off v : Nat) : (s.wr64 off v).test = s.test := rfl
@[simp] theorem State.wr64_smb (s : State) (off v : Nat) : (s.wr64 off v).smb = s.smb := rfl
@[simp] theorem State.wr64_pcie (s : State) (off v : Nat) : (s.wr64 off v).pcie = s.pcie := rfl

@[simp] theorem State.rawBit_pending (s : State) (pg bit : Nat) : (s.rawBit pg bit).pending = s.pending := rfl
@[simp] theorem State.rawBit_dev (s : State) (pg bit : Nat) : (s.rawBit pg bit).dev = s.dev := rfl
@[simp] theorem State.rawBit_live (s : State) (pg bit : Nat) : (s.rawBit pg bit).live = s.live := rfl
@[simp] theorem State.rawBit_now (s : State) (pg bit : Nat) : (s.rawBit pg bit).now = s.now := rfl
@[simp] theorem State.rawBit_clkRun (s : State) (pg bit : Nat) : (s.rawBit pg bit).clkRun = s.clkRun := rfl
@[simp] theorem State.rawBit_granAcc (s : State) (pg bit : Nat) : (s.rawBit pg bit).granAcc = s.granAcc := rfl
@[simp] theorem State.rawBit_phase (s : State) (pg bit : Nat) : (s.rawBit pg bit).phase = s.phase := rfl
@[simp] theorem State.rawBit_dom (s : State) (pg bit : Nat) : (s.rawBit pg bit).dom = s.dom := rfl
@[simp] theorem State.rawBit_latch (s : State) (pg bit : Nat) : (s.rawBit pg bit).latch = s.latch := rfl
@[simp] theorem State.rawBit_heldW (s : State) (pg bit : Nat) : (s.rawBit pg bit).heldW = s.heldW := rfl
@[simp] theorem State.rawBit_enHeld (s : State) (pg bit : Nat) : (s.rawBit pg bit).enHeld = s.enHeld := rfl
@[simp] theorem State.rawBit_inbox (s : State) (pg bit : Nat) : (s.rawBit pg bit).inbox = s.inbox := rfl
@[simp] theorem State.rawBit_recQ (s : State) (pg bit : Nat) : (s.rawBit pg bit).recQ = s.recQ := rfl
@[simp] theorem State.rawBit_sd (s : State) (pg bit : Nat) : (s.rawBit pg bit).sd = s.sd := rfl
@[simp] theorem State.rawBit_freeCtr (s : State) (pg bit : Nat) : (s.rawBit pg bit).freeCtr = s.freeCtr := rfl
@[simp] theorem State.rawBit_out (s : State) (pg bit : Nat) : (s.rawBit pg bit).out = s.out := rfl
@[simp] theorem State.rawBit_unit (s : State) (pg bit : Nat) : (s.rawBit pg bit).unit = s.unit := rfl
@[simp] theorem State.rawBit_drv (s : State) (pg bit : Nat) : (s.rawBit pg bit).drv = s.drv := rfl
@[simp] theorem State.rawBit_img (s : State) (pg bit : Nat) : (s.rawBit pg bit).img = s.img := rfl
@[simp] theorem State.rawBit_hq (s : State) (pg bit : Nat) : (s.rawBit pg bit).hq = s.hq := rfl
@[simp] theorem State.rawBit_bram (s : State) (pg bit : Nat) : (s.rawBit pg bit).bram = s.bram := rfl
@[simp] theorem State.rawBit_gov (s : State) (pg bit : Nat) : (s.rawBit pg bit).gov = s.gov := rfl
@[simp] theorem State.rawBit_therm (s : State) (pg bit : Nat) : (s.rawBit pg bit).therm = s.therm := rfl
@[simp] theorem State.rawBit_sump (s : State) (pg bit : Nat) : (s.rawBit pg bit).sump = s.sump := rfl
@[simp] theorem State.rawBit_seam (s : State) (pg bit : Nat) : (s.rawBit pg bit).seam = s.seam := rfl
@[simp] theorem State.rawBit_gan (s : State) (pg bit : Nat) : (s.rawBit pg bit).gan = s.gan := rfl
@[simp] theorem State.rawBit_plumb (s : State) (pg bit : Nat) : (s.rawBit pg bit).plumb = s.plumb := rfl
@[simp] theorem State.rawBit_mon (s : State) (pg bit : Nat) : (s.rawBit pg bit).mon = s.mon := rfl
@[simp] theorem State.rawBit_time (s : State) (pg bit : Nat) : (s.rawBit pg bit).time = s.time := rfl
@[simp] theorem State.rawBit_path (s : State) (pg bit : Nat) : (s.rawBit pg bit).path = s.path := rfl
@[simp] theorem State.rawBit_parser (s : State) (pg bit : Nat) : (s.rawBit pg bit).parser = s.parser := rfl
@[simp] theorem State.rawBit_cmd (s : State) (pg bit : Nat) : (s.rawBit pg bit).cmd = s.cmd := rfl
@[simp] theorem State.rawBit_boot (s : State) (pg bit : Nat) : (s.rawBit pg bit).boot = s.boot := rfl
@[simp] theorem State.rawBit_test (s : State) (pg bit : Nat) : (s.rawBit pg bit).test = s.test := rfl
@[simp] theorem State.rawBit_smb (s : State) (pg bit : Nat) : (s.rawBit pg bit).smb = s.smb := rfl
@[simp] theorem State.rawBit_pcie (s : State) (pg bit : Nat) : (s.rawBit pg bit).pcie = s.pcie := rfl

@[simp] theorem State.setDomain_pending (s : State) (d : Nat) (v : Dom) : (s.setDomain d v).pending = s.pending := rfl
@[simp] theorem State.setDomain_dev (s : State) (d : Nat) (v : Dom) : (s.setDomain d v).dev = s.dev := rfl
@[simp] theorem State.setDomain_regs (s : State) (d : Nat) (v : Dom) : (s.setDomain d v).regs = s.regs := rfl
@[simp] theorem State.setDomain_live (s : State) (d : Nat) (v : Dom) : (s.setDomain d v).live = s.live := rfl
@[simp] theorem State.setDomain_now (s : State) (d : Nat) (v : Dom) : (s.setDomain d v).now = s.now := rfl
@[simp] theorem State.setDomain_clkRun (s : State) (d : Nat) (v : Dom) : (s.setDomain d v).clkRun = s.clkRun := rfl
@[simp] theorem State.setDomain_granAcc (s : State) (d : Nat) (v : Dom) : (s.setDomain d v).granAcc = s.granAcc := rfl
@[simp] theorem State.setDomain_phase (s : State) (d : Nat) (v : Dom) : (s.setDomain d v).phase = s.phase := rfl
@[simp] theorem State.setDomain_latch (s : State) (d : Nat) (v : Dom) : (s.setDomain d v).latch = s.latch := rfl
@[simp] theorem State.setDomain_heldW (s : State) (d : Nat) (v : Dom) : (s.setDomain d v).heldW = s.heldW := rfl
@[simp] theorem State.setDomain_enHeld (s : State) (d : Nat) (v : Dom) : (s.setDomain d v).enHeld = s.enHeld := rfl
@[simp] theorem State.setDomain_inbox (s : State) (d : Nat) (v : Dom) : (s.setDomain d v).inbox = s.inbox := rfl
@[simp] theorem State.setDomain_recQ (s : State) (d : Nat) (v : Dom) : (s.setDomain d v).recQ = s.recQ := rfl
@[simp] theorem State.setDomain_sd (s : State) (d : Nat) (v : Dom) : (s.setDomain d v).sd = s.sd := rfl
@[simp] theorem State.setDomain_freeCtr (s : State) (d : Nat) (v : Dom) : (s.setDomain d v).freeCtr = s.freeCtr := rfl
@[simp] theorem State.setDomain_out (s : State) (d : Nat) (v : Dom) : (s.setDomain d v).out = s.out := rfl
@[simp] theorem State.setDomain_unit (s : State) (d : Nat) (v : Dom) : (s.setDomain d v).unit = s.unit := rfl
@[simp] theorem State.setDomain_drv (s : State) (d : Nat) (v : Dom) : (s.setDomain d v).drv = s.drv := rfl
@[simp] theorem State.setDomain_img (s : State) (d : Nat) (v : Dom) : (s.setDomain d v).img = s.img := rfl
@[simp] theorem State.setDomain_hq (s : State) (d : Nat) (v : Dom) : (s.setDomain d v).hq = s.hq := rfl
@[simp] theorem State.setDomain_bram (s : State) (d : Nat) (v : Dom) : (s.setDomain d v).bram = s.bram := rfl
@[simp] theorem State.setDomain_gov (s : State) (d : Nat) (v : Dom) : (s.setDomain d v).gov = s.gov := rfl
@[simp] theorem State.setDomain_therm (s : State) (d : Nat) (v : Dom) : (s.setDomain d v).therm = s.therm := rfl
@[simp] theorem State.setDomain_sump (s : State) (d : Nat) (v : Dom) : (s.setDomain d v).sump = s.sump := rfl
@[simp] theorem State.setDomain_seam (s : State) (d : Nat) (v : Dom) : (s.setDomain d v).seam = s.seam := rfl
@[simp] theorem State.setDomain_gan (s : State) (d : Nat) (v : Dom) : (s.setDomain d v).gan = s.gan := rfl
@[simp] theorem State.setDomain_plumb (s : State) (d : Nat) (v : Dom) : (s.setDomain d v).plumb = s.plumb := rfl
@[simp] theorem State.setDomain_mon (s : State) (d : Nat) (v : Dom) : (s.setDomain d v).mon = s.mon := rfl
@[simp] theorem State.setDomain_time (s : State) (d : Nat) (v : Dom) : (s.setDomain d v).time = s.time := rfl
@[simp] theorem State.setDomain_path (s : State) (d : Nat) (v : Dom) : (s.setDomain d v).path = s.path := rfl
@[simp] theorem State.setDomain_parser (s : State) (d : Nat) (v : Dom) : (s.setDomain d v).parser = s.parser := rfl
@[simp] theorem State.setDomain_cmd (s : State) (d : Nat) (v : Dom) : (s.setDomain d v).cmd = s.cmd := rfl
@[simp] theorem State.setDomain_boot (s : State) (d : Nat) (v : Dom) : (s.setDomain d v).boot = s.boot := rfl
@[simp] theorem State.setDomain_test (s : State) (d : Nat) (v : Dom) : (s.setDomain d v).test = s.test := rfl
@[simp] theorem State.setDomain_smb (s : State) (d : Nat) (v : Dom) : (s.setDomain d v).smb = s.smb := rfl
@[simp] theorem State.setDomain_pcie (s : State) (d : Nat) (v : Dom) : (s.setDomain d v).pcie = s.pcie := rfl

@[simp] theorem State.raise_pending (s : State) (src data : Nat) : (s.raise src data).pending = s.pending := rfl
@[simp] theorem State.raise_dev (s : State) (src data : Nat) : (s.raise src data).dev = s.dev := rfl
@[simp] theorem State.raise_regs (s : State) (src data : Nat) : (s.raise src data).regs = s.regs := rfl
@[simp] theorem State.raise_live (s : State) (src data : Nat) : (s.raise src data).live = s.live := rfl
@[simp] theorem State.raise_now (s : State) (src data : Nat) : (s.raise src data).now = s.now := rfl
@[simp] theorem State.raise_clkRun (s : State) (src data : Nat) : (s.raise src data).clkRun = s.clkRun := rfl
@[simp] theorem State.raise_granAcc (s : State) (src data : Nat) : (s.raise src data).granAcc = s.granAcc := rfl
@[simp] theorem State.raise_phase (s : State) (src data : Nat) : (s.raise src data).phase = s.phase := rfl
@[simp] theorem State.raise_dom (s : State) (src data : Nat) : (s.raise src data).dom = s.dom := rfl
@[simp] theorem State.raise_latch (s : State) (src data : Nat) : (s.raise src data).latch = s.latch := rfl
@[simp] theorem State.raise_heldW (s : State) (src data : Nat) : (s.raise src data).heldW = s.heldW := rfl
@[simp] theorem State.raise_enHeld (s : State) (src data : Nat) : (s.raise src data).enHeld = s.enHeld := rfl
@[simp] theorem State.raise_recQ (s : State) (src data : Nat) : (s.raise src data).recQ = s.recQ := rfl
@[simp] theorem State.raise_sd (s : State) (src data : Nat) : (s.raise src data).sd = s.sd := rfl
@[simp] theorem State.raise_freeCtr (s : State) (src data : Nat) : (s.raise src data).freeCtr = s.freeCtr := rfl
@[simp] theorem State.raise_out (s : State) (src data : Nat) : (s.raise src data).out = s.out := rfl
@[simp] theorem State.raise_unit (s : State) (src data : Nat) : (s.raise src data).unit = s.unit := rfl
@[simp] theorem State.raise_drv (s : State) (src data : Nat) : (s.raise src data).drv = s.drv := rfl
@[simp] theorem State.raise_img (s : State) (src data : Nat) : (s.raise src data).img = s.img := rfl
@[simp] theorem State.raise_hq (s : State) (src data : Nat) : (s.raise src data).hq = s.hq := rfl
@[simp] theorem State.raise_bram (s : State) (src data : Nat) : (s.raise src data).bram = s.bram := rfl
@[simp] theorem State.raise_gov (s : State) (src data : Nat) : (s.raise src data).gov = s.gov := rfl
@[simp] theorem State.raise_therm (s : State) (src data : Nat) : (s.raise src data).therm = s.therm := rfl
@[simp] theorem State.raise_sump (s : State) (src data : Nat) : (s.raise src data).sump = s.sump := rfl
@[simp] theorem State.raise_seam (s : State) (src data : Nat) : (s.raise src data).seam = s.seam := rfl
@[simp] theorem State.raise_gan (s : State) (src data : Nat) : (s.raise src data).gan = s.gan := rfl
@[simp] theorem State.raise_plumb (s : State) (src data : Nat) : (s.raise src data).plumb = s.plumb := rfl
@[simp] theorem State.raise_mon (s : State) (src data : Nat) : (s.raise src data).mon = s.mon := rfl
@[simp] theorem State.raise_time (s : State) (src data : Nat) : (s.raise src data).time = s.time := rfl
@[simp] theorem State.raise_path (s : State) (src data : Nat) : (s.raise src data).path = s.path := rfl
@[simp] theorem State.raise_parser (s : State) (src data : Nat) : (s.raise src data).parser = s.parser := rfl
@[simp] theorem State.raise_cmd (s : State) (src data : Nat) : (s.raise src data).cmd = s.cmd := rfl
@[simp] theorem State.raise_boot (s : State) (src data : Nat) : (s.raise src data).boot = s.boot := rfl
@[simp] theorem State.raise_test (s : State) (src data : Nat) : (s.raise src data).test = s.test := rfl
@[simp] theorem State.raise_smb (s : State) (src data : Nat) : (s.raise src data).smb = s.smb := rfl
@[simp] theorem State.raise_pcie (s : State) (src data : Nat) : (s.raise src data).pcie = s.pcie := rfl

@[simp] theorem State.raiseDirect_pending (s : State) (src data : Nat) : (s.raiseDirect src data).pending = s.pending := rfl
@[simp] theorem State.raiseDirect_dev (s : State) (src data : Nat) : (s.raiseDirect src data).dev = s.dev := rfl
@[simp] theorem State.raiseDirect_regs (s : State) (src data : Nat) : (s.raiseDirect src data).regs = s.regs := rfl
@[simp] theorem State.raiseDirect_live (s : State) (src data : Nat) : (s.raiseDirect src data).live = s.live := rfl
@[simp] theorem State.raiseDirect_now (s : State) (src data : Nat) : (s.raiseDirect src data).now = s.now := rfl
@[simp] theorem State.raiseDirect_clkRun (s : State) (src data : Nat) : (s.raiseDirect src data).clkRun = s.clkRun := rfl
@[simp] theorem State.raiseDirect_granAcc (s : State) (src data : Nat) : (s.raiseDirect src data).granAcc = s.granAcc := rfl
@[simp] theorem State.raiseDirect_phase (s : State) (src data : Nat) : (s.raiseDirect src data).phase = s.phase := rfl
@[simp] theorem State.raiseDirect_dom (s : State) (src data : Nat) : (s.raiseDirect src data).dom = s.dom := rfl
@[simp] theorem State.raiseDirect_latch (s : State) (src data : Nat) : (s.raiseDirect src data).latch = s.latch := rfl
@[simp] theorem State.raiseDirect_heldW (s : State) (src data : Nat) : (s.raiseDirect src data).heldW = s.heldW := rfl
@[simp] theorem State.raiseDirect_enHeld (s : State) (src data : Nat) : (s.raiseDirect src data).enHeld = s.enHeld := rfl
@[simp] theorem State.raiseDirect_recQ (s : State) (src data : Nat) : (s.raiseDirect src data).recQ = s.recQ := rfl
@[simp] theorem State.raiseDirect_sd (s : State) (src data : Nat) : (s.raiseDirect src data).sd = s.sd := rfl
@[simp] theorem State.raiseDirect_freeCtr (s : State) (src data : Nat) : (s.raiseDirect src data).freeCtr = s.freeCtr := rfl
@[simp] theorem State.raiseDirect_out (s : State) (src data : Nat) : (s.raiseDirect src data).out = s.out := rfl
@[simp] theorem State.raiseDirect_unit (s : State) (src data : Nat) : (s.raiseDirect src data).unit = s.unit := rfl
@[simp] theorem State.raiseDirect_drv (s : State) (src data : Nat) : (s.raiseDirect src data).drv = s.drv := rfl
@[simp] theorem State.raiseDirect_img (s : State) (src data : Nat) : (s.raiseDirect src data).img = s.img := rfl
@[simp] theorem State.raiseDirect_hq (s : State) (src data : Nat) : (s.raiseDirect src data).hq = s.hq := rfl
@[simp] theorem State.raiseDirect_bram (s : State) (src data : Nat) : (s.raiseDirect src data).bram = s.bram := rfl
@[simp] theorem State.raiseDirect_gov (s : State) (src data : Nat) : (s.raiseDirect src data).gov = s.gov := rfl
@[simp] theorem State.raiseDirect_therm (s : State) (src data : Nat) : (s.raiseDirect src data).therm = s.therm := rfl
@[simp] theorem State.raiseDirect_sump (s : State) (src data : Nat) : (s.raiseDirect src data).sump = s.sump := rfl
@[simp] theorem State.raiseDirect_seam (s : State) (src data : Nat) : (s.raiseDirect src data).seam = s.seam := rfl
@[simp] theorem State.raiseDirect_gan (s : State) (src data : Nat) : (s.raiseDirect src data).gan = s.gan := rfl
@[simp] theorem State.raiseDirect_plumb (s : State) (src data : Nat) : (s.raiseDirect src data).plumb = s.plumb := rfl
@[simp] theorem State.raiseDirect_mon (s : State) (src data : Nat) : (s.raiseDirect src data).mon = s.mon := rfl
@[simp] theorem State.raiseDirect_time (s : State) (src data : Nat) : (s.raiseDirect src data).time = s.time := rfl
@[simp] theorem State.raiseDirect_path (s : State) (src data : Nat) : (s.raiseDirect src data).path = s.path := rfl
@[simp] theorem State.raiseDirect_parser (s : State) (src data : Nat) : (s.raiseDirect src data).parser = s.parser := rfl
@[simp] theorem State.raiseDirect_cmd (s : State) (src data : Nat) : (s.raiseDirect src data).cmd = s.cmd := rfl
@[simp] theorem State.raiseDirect_boot (s : State) (src data : Nat) : (s.raiseDirect src data).boot = s.boot := rfl
@[simp] theorem State.raiseDirect_test (s : State) (src data : Nat) : (s.raiseDirect src data).test = s.test := rfl
@[simp] theorem State.raiseDirect_smb (s : State) (src data : Nat) : (s.raiseDirect src data).smb = s.smb := rfl
@[simp] theorem State.raiseDirect_pcie (s : State) (src data : Nat) : (s.raiseDirect src data).pcie = s.pcie := rfl

@[simp] theorem State.sdWrite_pending (s : State) (a : Nat) (l : List Byte) : (s.sdWrite a l).pending = s.pending := rfl
@[simp] theorem State.sdWrite_dev (s : State) (a : Nat) (l : List Byte) : (s.sdWrite a l).dev = s.dev := rfl
@[simp] theorem State.sdWrite_regs (s : State) (a : Nat) (l : List Byte) : (s.sdWrite a l).regs = s.regs := rfl
@[simp] theorem State.sdWrite_live (s : State) (a : Nat) (l : List Byte) : (s.sdWrite a l).live = s.live := rfl
@[simp] theorem State.sdWrite_now (s : State) (a : Nat) (l : List Byte) : (s.sdWrite a l).now = s.now := rfl
@[simp] theorem State.sdWrite_clkRun (s : State) (a : Nat) (l : List Byte) : (s.sdWrite a l).clkRun = s.clkRun := rfl
@[simp] theorem State.sdWrite_granAcc (s : State) (a : Nat) (l : List Byte) : (s.sdWrite a l).granAcc = s.granAcc := rfl
@[simp] theorem State.sdWrite_phase (s : State) (a : Nat) (l : List Byte) : (s.sdWrite a l).phase = s.phase := rfl
@[simp] theorem State.sdWrite_dom (s : State) (a : Nat) (l : List Byte) : (s.sdWrite a l).dom = s.dom := rfl
@[simp] theorem State.sdWrite_latch (s : State) (a : Nat) (l : List Byte) : (s.sdWrite a l).latch = s.latch := rfl
@[simp] theorem State.sdWrite_heldW (s : State) (a : Nat) (l : List Byte) : (s.sdWrite a l).heldW = s.heldW := rfl
@[simp] theorem State.sdWrite_enHeld (s : State) (a : Nat) (l : List Byte) : (s.sdWrite a l).enHeld = s.enHeld := rfl
@[simp] theorem State.sdWrite_inbox (s : State) (a : Nat) (l : List Byte) : (s.sdWrite a l).inbox = s.inbox := rfl
@[simp] theorem State.sdWrite_recQ (s : State) (a : Nat) (l : List Byte) : (s.sdWrite a l).recQ = s.recQ := rfl
@[simp] theorem State.sdWrite_freeCtr (s : State) (a : Nat) (l : List Byte) : (s.sdWrite a l).freeCtr = s.freeCtr := rfl
@[simp] theorem State.sdWrite_out (s : State) (a : Nat) (l : List Byte) : (s.sdWrite a l).out = s.out := rfl
@[simp] theorem State.sdWrite_unit (s : State) (a : Nat) (l : List Byte) : (s.sdWrite a l).unit = s.unit := rfl
@[simp] theorem State.sdWrite_drv (s : State) (a : Nat) (l : List Byte) : (s.sdWrite a l).drv = s.drv := rfl
@[simp] theorem State.sdWrite_img (s : State) (a : Nat) (l : List Byte) : (s.sdWrite a l).img = s.img := rfl
@[simp] theorem State.sdWrite_hq (s : State) (a : Nat) (l : List Byte) : (s.sdWrite a l).hq = s.hq := rfl
@[simp] theorem State.sdWrite_bram (s : State) (a : Nat) (l : List Byte) : (s.sdWrite a l).bram = s.bram := rfl
@[simp] theorem State.sdWrite_gov (s : State) (a : Nat) (l : List Byte) : (s.sdWrite a l).gov = s.gov := rfl
@[simp] theorem State.sdWrite_therm (s : State) (a : Nat) (l : List Byte) : (s.sdWrite a l).therm = s.therm := rfl
@[simp] theorem State.sdWrite_sump (s : State) (a : Nat) (l : List Byte) : (s.sdWrite a l).sump = s.sump := rfl
@[simp] theorem State.sdWrite_seam (s : State) (a : Nat) (l : List Byte) : (s.sdWrite a l).seam = s.seam := rfl
@[simp] theorem State.sdWrite_gan (s : State) (a : Nat) (l : List Byte) : (s.sdWrite a l).gan = s.gan := rfl
@[simp] theorem State.sdWrite_plumb (s : State) (a : Nat) (l : List Byte) : (s.sdWrite a l).plumb = s.plumb := rfl
@[simp] theorem State.sdWrite_mon (s : State) (a : Nat) (l : List Byte) : (s.sdWrite a l).mon = s.mon := rfl
@[simp] theorem State.sdWrite_time (s : State) (a : Nat) (l : List Byte) : (s.sdWrite a l).time = s.time := rfl
@[simp] theorem State.sdWrite_path (s : State) (a : Nat) (l : List Byte) : (s.sdWrite a l).path = s.path := rfl
@[simp] theorem State.sdWrite_parser (s : State) (a : Nat) (l : List Byte) : (s.sdWrite a l).parser = s.parser := rfl
@[simp] theorem State.sdWrite_cmd (s : State) (a : Nat) (l : List Byte) : (s.sdWrite a l).cmd = s.cmd := rfl
@[simp] theorem State.sdWrite_boot (s : State) (a : Nat) (l : List Byte) : (s.sdWrite a l).boot = s.boot := rfl
@[simp] theorem State.sdWrite_test (s : State) (a : Nat) (l : List Byte) : (s.sdWrite a l).test = s.test := rfl
@[simp] theorem State.sdWrite_smb (s : State) (a : Nat) (l : List Byte) : (s.sdWrite a l).smb = s.smb := rfl
@[simp] theorem State.sdWrite_pcie (s : State) (a : Nat) (l : List Byte) : (s.sdWrite a l).pcie = s.pcie := rfl

@[simp] theorem State.kept_dev (s : State) (x : State) : (s.kept x).dev = s.dev := rfl
@[simp] theorem State.kept_regs (s : State) (x : State) : (s.kept x).regs = s.regs := rfl
@[simp] theorem State.kept_live (s : State) (x : State) : (s.kept x).live = s.live := rfl
@[simp] theorem State.kept_now (s : State) (x : State) : (s.kept x).now = s.now := rfl
@[simp] theorem State.kept_clkRun (s : State) (x : State) : (s.kept x).clkRun = s.clkRun := rfl
@[simp] theorem State.kept_granAcc (s : State) (x : State) : (s.kept x).granAcc = s.granAcc := rfl
@[simp] theorem State.kept_phase (s : State) (x : State) : (s.kept x).phase = s.phase := rfl
@[simp] theorem State.kept_dom (s : State) (x : State) : (s.kept x).dom = s.dom := rfl
@[simp] theorem State.kept_latch (s : State) (x : State) : (s.kept x).latch = s.latch := rfl
@[simp] theorem State.kept_heldW (s : State) (x : State) : (s.kept x).heldW = s.heldW := rfl
@[simp] theorem State.kept_enHeld (s : State) (x : State) : (s.kept x).enHeld = s.enHeld := rfl
@[simp] theorem State.kept_inbox (s : State) (x : State) : (s.kept x).inbox = s.inbox := rfl
@[simp] theorem State.kept_recQ (s : State) (x : State) : (s.kept x).recQ = s.recQ := rfl
@[simp] theorem State.kept_sd (s : State) (x : State) : (s.kept x).sd = s.sd := rfl
@[simp] theorem State.kept_freeCtr (s : State) (x : State) : (s.kept x).freeCtr = s.freeCtr := rfl
@[simp] theorem State.kept_out (s : State) (x : State) : (s.kept x).out = s.out := rfl
@[simp] theorem State.kept_drv (s : State) (x : State) : (s.kept x).drv = s.drv := rfl
@[simp] theorem State.kept_img (s : State) (x : State) : (s.kept x).img = s.img := rfl
@[simp] theorem State.kept_hq (s : State) (x : State) : (s.kept x).hq = s.hq := rfl
@[simp] theorem State.kept_bram (s : State) (x : State) : (s.kept x).bram = s.bram := rfl
@[simp] theorem State.kept_gov (s : State) (x : State) : (s.kept x).gov = s.gov := rfl
@[simp] theorem State.kept_therm (s : State) (x : State) : (s.kept x).therm = s.therm := rfl
@[simp] theorem State.kept_sump (s : State) (x : State) : (s.kept x).sump = s.sump := rfl
@[simp] theorem State.kept_seam (s : State) (x : State) : (s.kept x).seam = s.seam := rfl
@[simp] theorem State.kept_gan (s : State) (x : State) : (s.kept x).gan = s.gan := rfl
@[simp] theorem State.kept_plumb (s : State) (x : State) : (s.kept x).plumb = s.plumb := rfl
@[simp] theorem State.kept_mon (s : State) (x : State) : (s.kept x).mon = s.mon := rfl
@[simp] theorem State.kept_time (s : State) (x : State) : (s.kept x).time = s.time := rfl
@[simp] theorem State.kept_path (s : State) (x : State) : (s.kept x).path = s.path := rfl
@[simp] theorem State.kept_parser (s : State) (x : State) : (s.kept x).parser = s.parser := rfl
@[simp] theorem State.kept_cmd (s : State) (x : State) : (s.kept x).cmd = s.cmd := rfl
@[simp] theorem State.kept_boot (s : State) (x : State) : (s.kept x).boot = s.boot := rfl
@[simp] theorem State.kept_test (s : State) (x : State) : (s.kept x).test = s.test := rfl
@[simp] theorem State.kept_smb (s : State) (x : State) : (s.kept x).smb = s.smb := rfl
@[simp] theorem State.kept_pcie (s : State) (x : State) : (s.kept x).pcie = s.pcie := rfl

@[simp] theorem State.start_out (s : State) : s.start.out = [] := rfl
@[simp] theorem State.emit_out (s : State) (o : Out) : (s.emit o).out = s.out ++ [o] := rfl
@[simp] theorem State.raise_inbox (s : State) (src data : Nat) : (s.raise src data).inbox = s.inbox ++ [⟨src, data % 2 ^ 32, false, false⟩] := rfl
@[simp] theorem State.raiseDirect_inbox (s : State) (src data : Nat) : (s.raiseDirect src data).inbox = s.inbox ++ [⟨src, data % 2 ^ 32, false, true⟩] := rfl
@[simp] theorem State.kept_pending (s x : State) : (s.kept x).pending = x.pending := rfl
@[simp] theorem State.kept_unit (s x : State) : (s.kept x).unit = x.unit := rfl

theorem EvtRel.refl (s : State) : EvtRel s s := rfl
theorem EvtRel.trans {s t u : State} (h : EvtRel s t) (k : EvtRel t u) : EvtRel s u := by
  unfold EvtRel at h k ⊢
  generalize t.regs = a1, t.hq.eqWait = a2, t.hq.eqOvf = a3, t.hq.eqSeq = a4, t.hq.eqPh = a5, t.out = a6, t.pcie.msiWait = a7, t.pcie.dmaWait = a8, t.sd = a9 at h
  subst h; exact k

end Sys2Proof.Machine
end

