-- ==== Sys2Proof/Laws/Tables.lean ====
section
/-! SUPPORT. Sparse tables and the memory of board SDRAM: what a write leaves and what it changes, and that the canonical form stays. -/
namespace Sys2Proof.Machine

/-- A sparse table in canonical form reads at a written key what was written. -/
theorem tabGet_tabPut_same {α : Type} [DecidableEq α] {t : Tab α} (h : t.Pairwise (fun a b => a.1 < b.1)) (d : α) (k : Nat) (v : α) : tabGet (tabPut t d k v) d k = v := by
  have above : ∀ (t : Tab α), (∀ e ∈ t, k < e.1) → tabGet t d k = d := by
    intro t ht
    induction t with
    | nil => rfl
    | cons a t ih =>
      have h1 := ht a List.mem_cons_self
      have h2 : ¬ a.1 = k := by omega
      simp only [tabGet, h2, if_false]
      exact ih fun e he => ht e (List.mem_cons_of_mem _ he)
  induction t with
  | nil => simp only [tabPut]; split <;> simp_all [tabGet]
  | cons a t ih =>
    have hc := List.pairwise_cons.1 h
    simp only [tabPut]
    split
    · rename_i hk
      have ha : tabGet (a :: t) d k = d := above _ fun e he => by
        rcases List.mem_cons.1 he with rfl | he
        · exact hk
        · exact Nat.lt_trans hk (hc.1 e he)
      split
      · rename_i hv; rw [hv]; exact ha
      · simp [tabGet]
    · split
      · rename_i hk
        split
        · rename_i hv; rw [hv]; exact above _ fun e he => by have := hc.1 e he; omega
        · simp [tabGet]
      · rename_i hk
        have h2 : ¬ a.1 = k := fun e => hk e.symm
        simp only [tabGet, h2, if_false]; exact ih hc.2

/-- A write of one key leaves what every other key reads. -/
theorem tabGet_tabPut_ne {α : Type} [DecidableEq α] (t : Tab α) (d d' : α) {k j : Nat} (v : α) (h : j ≠ k) : tabGet (tabPut t d k v) d' j = tabGet t d' j := by
  have h' : ¬ k = j := fun e => h e.symm
  induction t with
  | nil => simp only [tabPut]; split <;> simp [tabGet, h']
  | cons a t ih =>
    simp only [tabPut]
    split
    · split
      · rfl
      · simp [tabGet, h']
    · split
      · rename_i hk
        have h2 : ¬ a.1 = j := by omega
        split
        · simp [tabGet, h2]
        · simp [tabGet, h', h2]
      · simp only [tabGet, ih]

/-- A byte of memory reads, after a write of it, as what was written. -/
theorem memGet_memPut_same (m : List Host.Cell) (a : Nat) (b : Byte) : memGet (memPut m a b) a = some b := by
  induction m with
  | nil => simp [memPut, memGet, alGet]
  | cons x m ih =>
    obtain ⟨k, v⟩ := x
    simp only [memPut]
    split
    · simp [memGet, alGet]
    · split
      · simp [memGet, alGet]
      · rename_i hk
        have h2 : (k == a) = false := by simpa using fun e => hk e.symm
        simpa [memGet, alGet, List.find?_cons, h2] using ih

/-- Every other byte of memory reads as before. -/
theorem memGet_memPut_ne (m : List Host.Cell) {a c : Nat} (b : Byte) (h : c ≠ a) : memGet (memPut m a b) c = memGet m c := by
  have h' : (a == c) = false := by simpa using fun e => h e.symm
  induction m with
  | nil => simp [memPut, memGet, alGet, h']
  | cons x m ih =>
    obtain ⟨k, v⟩ := x
    simp only [memPut]
    split
    · simp [memGet, alGet, List.find?_cons, h']
    · split
      · rename_i hk
        have h2 : (k == c) = false := by simpa using by omega
        simp [memGet, alGet, h', h2]
      · by_cases hc : k = c
        · simp [memGet, alGet, hc]
        · have h2 : (k == c) = false := by simpa using hc
          simpa [memGet, alGet, List.find?_cons, h2] using ih

theorem tabPut_ne {α : Type} [DecidableEq α] {t : Tab α} {k : Nat} {d v : α} (s : t.Pairwise (fun a b => a.1 < b.1)) {e : Nat × α} (h : e ∈ tabPut t d k v) : (e ∈ t ∧ e.1 ≠ k) ∨ (e = (k, v) ∧ v ≠ d) := by
  induction t with
  | nil => simp only [tabPut] at h; split at h <;> simp_all
  | cons a t ih =>
    rw [List.pairwise_cons] at s
    simp only [tabPut] at h
    split at h
    · rename_i hk
      have hd : ∀ e ∈ a :: t, e.1 ≠ k := by
        intro e he; rcases List.mem_cons.1 he with rfl | he
        · omega
        · have := s.1 e he; omega
      split at h
      · exact .inl ⟨h, hd e h⟩
      · rcases List.mem_cons.1 h with rfl | h
        · exact .inr ⟨rfl, by assumption⟩
        · exact .inl ⟨h, hd e h⟩
    · split at h
      · rename_i hk
        have hd : ∀ e ∈ t, e.1 ≠ k := fun e he => by have := s.1 e he; omega
        split at h
        · exact .inl ⟨List.mem_cons_of_mem _ h, hd e h⟩
        · rcases List.mem_cons.1 h with rfl | h
          · exact .inr ⟨rfl, by assumption⟩
          · exact .inl ⟨List.mem_cons_of_mem _ h, hd e h⟩
      · rcases List.mem_cons.1 h with rfl | h
        · exact .inl ⟨List.mem_cons_self, fun h => by simp_all⟩
        · rcases ih s.2 h with h | h
          · exact .inl ⟨List.mem_cons_of_mem _ h.1, h.2⟩
          · exact .inr h

theorem tabWf_nil {α : Type} {d : Nat → α} : tabWf d [] := ⟨List.Pairwise.nil, fun _ m => nomatch m⟩

theorem tabPut_wf {α : Type} [DecidableEq α] {d : Nat → α} {t : Tab α} (h : tabWf d t) (k : Nat) (v : α) : tabWf d (tabPut t (d k) k v) := by
  obtain ⟨hs, hd⟩ := h
  refine ⟨?_, fun e he => ?_⟩
  · clear hd
    induction t with
    | nil => simp only [tabPut]; split <;> simp
    | cons a t ih =>
      rw [List.pairwise_cons] at hs
      simp only [tabPut]
      split
      · split
        · exact List.pairwise_cons.2 hs
        · refine List.pairwise_cons.2 ⟨fun e he => ?_, List.pairwise_cons.2 hs⟩
          rcases List.mem_cons.1 he with rfl | he
          · assumption
          · have := hs.1 e he; simp only; omega
      · split
        · split
          · exact hs.2
          · exact List.pairwise_cons.2 ⟨fun e he => by have := hs.1 e he; simp only; omega, hs.2⟩
        · refine List.pairwise_cons.2 ⟨fun e he => ?_, ih hs.2⟩
          rcases tabPut_ne hs.2 he with h | h
          · exact hs.1 e h.1
          · rw [h.1]; simp only; omega
  · rcases tabPut_ne hs he with h | ⟨rfl, h⟩
    · exact hd e h.1
    · exact h

theorem tab_filter_wf {α : Type} {d : Nat → α} {t : Tab α} (p : Nat × α → Bool) (h : tabWf d t) : tabWf d (t.filter p) :=
  ⟨h.1.filter _, fun e he => h.2 e (List.mem_filter.1 he).1⟩

theorem memory_wf_iff {m : List Host.Cell} : Memory.wf m = true ↔ m.Pairwise (fun a b => a.1 < b.1) := by
  induction m with
  | nil => simp [Memory.wf]
  | cons a m ih =>
    cases m with
    | nil => simp [Memory.wf]
    | cons b m =>
      obtain ⟨k, v⟩ := a; obtain ⟨k', v'⟩ := b
      rw [Memory.wf, Bool.and_eq_true, decide_eq_true_eq, ih, List.pairwise_cons (a := (k, v))]
      refine ⟨fun h => ⟨fun e he => ?_, h.2⟩, fun h => ⟨h.1 (k', v') List.mem_cons_self, h.2⟩⟩
      rcases List.mem_cons.1 he with rfl | he
      · exact h.1
      · exact Nat.lt_trans h.1 ((List.pairwise_cons.1 h.2).1 e he)

theorem memPut_keys {m : List Host.Cell} {a : Nat} {b : Byte} {e : Host.Cell} (h : e ∈ memPut m a b) : e ∈ m ∨ e = (a, b) := by
  induction m with
  | nil => simp [memPut] at h; exact .inr h
  | cons x m ih =>
    simp only [memPut] at h
    split at h
    · rcases List.mem_cons.1 h with h | h
      · exact .inr h
      · exact .inl h
    · split at h
      · rcases List.mem_cons.1 h with h | h
        · exact .inr h
        · exact .inl (List.mem_cons_of_mem _ h)
      · rcases List.mem_cons.1 h with h | h
        · exact .inl (h ▸ List.mem_cons_self)
        · rcases ih h with h | h
          · exact .inl (List.mem_cons_of_mem _ h)
          · exact .inr h

/-- A write of one byte keeps a memory's canonical form. -/
theorem memPut_wf {m : List Host.Cell} (h : Memory.wf m = true) (a : Nat) (b : Byte) : Memory.wf (memPut m a b) = true := by
  rw [memory_wf_iff] at h ⊢
  induction m with
  | nil => simp [memPut]
  | cons x m ih =>
    have hc := List.pairwise_cons.1 h
    simp only [memPut]
    split
    · refine List.pairwise_cons.2 ⟨fun e he => ?_, h⟩
      rcases List.mem_cons.1 he with rfl | he
      · assumption
      · have := hc.1 e he; simp only; omega
    · split
      · exact List.pairwise_cons.2 ⟨fun e he => by have := hc.1 e he; simp only; omega, hc.2⟩
      · refine List.pairwise_cons.2 ⟨fun e he => ?_, ih hc.2⟩
        rcases memPut_keys he with h | h
        · exact hc.1 e h
        · subst h; simp only; omega

/-- A write of bytes keeps a memory's canonical form. -/
theorem memWrite_wf {m : List Host.Cell} (h : Memory.wf m = true) (a : Nat) (l : List Byte) : Memory.wf (memWrite m a l) = true := by
  induction l generalizing m a with
  | nil => exact h
  | cons b l ih => exact ih (memPut_wf h a b) (a + 1)

/-- Bytes taken out of a memory leave its canonical form. -/
theorem memory_filter_wf {m : List Host.Cell} (p : Host.Cell → Bool) (h : Memory.wf m = true) : Memory.wf (m.filter p) = true :=
  memory_wf_iff.2 ((memory_wf_iff.1 h).filter _)

end Sys2Proof.Machine
end

