-- ==== Sys2Proof/Laws/Registers.lean ====
section
/-! SUPPORT. Register fields: what a write leaves and what it changes, and what a page event can change. -/
namespace Sys2Proof.Machine

/-- The register map has its keys in rising order. -/
def State.RegsUp (s : State) : Prop := s.regs.Pairwise (fun a b => a.1 < b.1)

theorem State.Sound.up {s : State} (h : s.Sound) : s.RegsUp := h.words.1

theorem tabPut_up {α : Type} [DecidableEq α] {t : Tab α} (h : t.Pairwise (fun a b => a.1 < b.1)) (d : α) (k : Nat) (v : α) : (tabPut t d k v).Pairwise (fun a b => a.1 < b.1) := by
  induction t with
  | nil => simp only [tabPut]; split <;> simp
  | cons a t ih =>
    have hs := List.pairwise_cons.1 h
    simp only [tabPut]
    split
    · split
      · exact h
      · refine List.pairwise_cons.2 ⟨fun e he => ?_, h⟩
        rcases List.mem_cons.1 he with rfl | he
        · assumption
        · have := hs.1 e he; simp only; omega
    · split
      · split
        · exact hs.2
        · exact List.pairwise_cons.2 ⟨fun e he => by have := hs.1 e he; simp only; omega, hs.2⟩
      · refine List.pairwise_cons.2 ⟨fun e he => ?_, ih hs.2⟩
        rcases tabPut_ne hs.2 he with h | h
        · exact hs.1 e h.1
        · rw [h.1]; simp only; omega

theorem State.wrW_up {s : State} (h : s.RegsUp) (off : Nat) (w : Word) : (s.wrW off w).RegsUp := tabPut_up h _ _ _
theorem State.wr_up {s : State} (h : s.RegsUp) (f : Fld) (v : Nat) : (s.wr f v).RegsUp := tabPut_up h _ _ _

/-- A word of the register map reads as it was written. -/
theorem State.rdW_wrW_same {s : State} (h : s.RegsUp) (off : Nat) (w : Word) : (s.wrW off w).rdW off = w := tabGet_tabPut_same h _ _ _

/-- Every other word reads as before. -/
theorem State.rdW_wrW_ne (s : State) {off j : Nat} (w : Word) (h : j ≠ off) : (s.wrW off w).rdW j = s.rdW j := tabGet_tabPut_ne _ _ _ _ h

theorem bitsOf_testBit (n lo len i : Nat) : (bitsOf n lo len).testBit i = (decide (i < len) && n.testBit (lo + i)) := by
  rw [bitsOf, Nat.testBit_mod_two_pow, Nat.testBit_div_two_pow, Nat.add_comm i lo]

theorem putBits_testBit (w : Word) (lo len v i : Nat) (h : lo + len ≤ 32) : (putBits w lo len v).toNat.testBit i = if lo ≤ i ∧ i < lo + len then v.testBit (i - lo) else w.toNat.testBit i := by
  by_cases hi : i < 32
  · have e1 : ((2 ^ len - 1) * 2 ^ lo).testBit i = (decide (lo ≤ i) && decide (i - lo < len)) := by
      rw [Nat.mul_comm, Nat.testBit_two_pow_mul, Nat.testBit_two_pow_sub_one]
    have e2 : (v % 2 ^ len * 2 ^ lo).testBit i = (decide (lo ≤ i) && (decide (i - lo < len) && v.testBit (i - lo))) := by
      rw [Nat.mul_comm, Nat.testBit_two_pow_mul, Nat.testBit_mod_two_pow]
    simp only [putBits, maskOf, BitVec.toNat_or, BitVec.toNat_and, Nat.testBit_or, Nat.testBit_and, BitVec.toNat_ofNat, Nat.testBit_mod_two_pow, e2]
    have e3 : (~~~ (BitVec.ofNat 32 ((2 ^ len - 1) * 2 ^ lo))).toNat.testBit i = !(decide (lo ≤ i) && decide (i - lo < len)) := by
      have : (~~~ (BitVec.ofNat 32 ((2 ^ len - 1) * 2 ^ lo))).toNat.testBit i = (~~~ (BitVec.ofNat 32 ((2 ^ len - 1) * 2 ^ lo))).getLsbD i := rfl
      rw [this, BitVec.getLsbD_not, BitVec.getLsbD_ofNat, e1]; simp [hi]
    rw [e3]
    by_cases a : lo ≤ i
    · by_cases b : i - lo < len
      · have c : i < lo + len := by omega
        simp [a, b, hi, c]
      · have c : ¬ i < lo + len := by omega
        simp [a, b, c]
    · simp [a]
  · have n : ¬ (lo ≤ i ∧ i < lo + len) := by omega
    have p : 2 ^ 32 ≤ 2 ^ i := Nat.pow_le_pow_right (by decide) (by omega)
    rw [if_neg n, Nat.testBit_lt_two_pow (Nat.lt_of_lt_of_le (BitVec.isLt _) p), Nat.testBit_lt_two_pow (Nat.lt_of_lt_of_le (BitVec.isLt _) p)]

/-- A field reads as the low bits of what was put there. -/
theorem getBits_putBits_same (w : Word) (lo len v : Nat) (h : lo + len ≤ 32) : getBits (putBits w lo len v) lo len = v % 2 ^ len := by
  refine Nat.eq_of_testBit_eq fun i => ?_
  rw [getBits, bitsOf_testBit, putBits_testBit _ _ _ _ _ h, Nat.testBit_mod_two_pow]
  by_cases hi : i < len
  · simp [hi]
  · simp [hi]

/-- A field keeps its value while others of its word are put. -/
theorem getBits_putBits_ne (w : Word) (lo len v lo' len' : Nat) (h : lo + len ≤ 32) (d : lo' + len' ≤ lo ∨ lo + len ≤ lo') : getBits (putBits w lo len v) lo' len' = getBits w lo' len' := by
  refine Nat.eq_of_testBit_eq fun i => ?_
  rw [getBits, getBits, bitsOf_testBit, bitsOf_testBit, putBits_testBit _ _ _ _ _ h]
  by_cases hi : i < len'
  · have : ¬ (lo ≤ lo' + i ∧ lo' + i < lo + len) := by omega
    simp [this]
  · simp [hi]

/-- A field lies inside its word. -/
def fldOk (f : Fld) : Prop := f.lo + f.len ≤ 32

/-- A field reads as the low bits of what was written. -/
theorem State.rd_wr_same {s : State} (h : s.RegsUp) (f : Fld) (hf : fldOk f) (v : Nat) : (s.wr f v).rd f = v % 2 ^ f.len := by
  rw [State.rd, State.wr, State.rdW_wrW_same h, getBits_putBits_same _ _ _ _ hf]

/-- A field of another word reads as before. -/
theorem State.rd_wr_off (s : State) (f g : Fld) (v : Nat) (h : g.off ≠ f.off) : (s.wr f v).rd g = s.rd g := by
  rw [State.rd, State.wr, State.rdW_wrW_ne _ _ h, State.rd]

/-- Another field of the same word reads as before. -/
theorem State.rd_wr_bits {s : State} (h : s.RegsUp) (f g : Fld) (hf : fldOk f) (v : Nat) (d : g.lo + g.len ≤ f.lo ∨ f.lo + f.len ≤ g.lo) : (s.wr f v).rd g = s.rd g := by
  by_cases e : g.off = f.off
  · rw [State.rd, State.wr, e, State.rdW_wrW_same h, getBits_putBits_ne _ _ _ _ _ _ hf d, State.rd, e]
  · exact s.rd_wr_off f g v e

theorem State.flag_put_same {s : State} (h : s.RegsUp) (f : Fld) (hf : fldOk f) (h1 : f.len = 1) (b : Bool) : (s.put f b).flag f = b := by
  rw [State.flag, State.put, State.rd_wr_same h f hf, h1]; cases b <;> rfl

theorem State.rd_inc_same {s : State} (h : s.RegsUp) (f : Fld) (hf : fldOk f) : (s.inc f).rd f = min (s.rd f + 1) (2 ^ f.len - 1) := by
  rw [State.inc, State.add, State.rd_wr_same h f hf]
  exact Nat.mod_eq_of_lt (Nat.lt_of_le_of_lt (Nat.min_le_right _ _) (Nat.sub_lt (Nat.two_pow_pos _) Nat.one_pos))

/-! ### Page events -/

/-- What posting an event keeps: every field but a few, every word outside the footprint, and the bits of PG_EVT_RAW that are set. -/
structure Posts (pg : Nat) (s t : State) : Prop where
  rel : EvtRel s t
  up  : s.RegsUp → t.RegsUp
  off : ∀ off, ¬ EvtFoot pg off → t.rdW off = s.rdW off
  raw : ∀ off b, off % 0x1000 = 0x10 → s.RegsUp → bitOf (s.rdW off).toNat b = true → bitOf (t.rdW off).toNat b = true
  sd  : pg % 0x1000 = 0 → s.flag Reg.CMD.EQ_CFG.LOCATION = false → t.sd = s.sd

theorem Posts.refl (pg : Nat) (s : State) : Posts pg s s := ⟨.refl s, id, fun _ _ => rfl, fun _ _ _ _ h => h, fun _ _ => rfl⟩

/-- Where the event queue lies is not among the words that an event changes. -/
theorem Posts.loc {pg : Nat} {s t : State} (h : Posts pg s t) (hp : pg % 0x1000 = 0) : t.flag Reg.CMD.EQ_CFG.LOCATION = s.flag Reg.CMD.EQ_CFG.LOCATION := by
  unfold State.flag State.rd
  rw [h.off]
  show ¬ EvtFoot pg 0xE308
  unfold EvtFoot; omega

theorem Posts.trans {pg : Nat} {s t u : State} (h : Posts pg s t) (k : Posts pg t u) : Posts pg s u :=
  ⟨h.rel.trans k.rel, fun x => k.up (h.up x), fun o n => (k.off o n).trans (h.off o n), fun o b m x e => k.raw o b m (h.up x) (h.raw o b m x e),
   fun p e => (k.sd p ((h.loc p).trans e)).trans (h.sd p e)⟩

theorem Posts.of_regs {pg : Nat} {s : State} {t : State} (r : EvtRel s t) (e : t.regs = s.regs) (d : s.flag Reg.CMD.EQ_CFG.LOCATION = false → t.sd = s.sd) : Posts pg s t :=
  ⟨r, fun h => by unfold State.RegsUp; rw [e]; exact h, fun o _ => by unfold State.rdW; rw [e], fun o b _ _ h => by unfold State.rdW at *; rw [e]; exact h, fun _ => d⟩

/-- A write of a field within the footprint that is no bit of PG_EVT_RAW. -/
theorem Posts.wr (pg : Nat) (s : State) (f : Fld) (v : Nat) (h : EvtFoot pg f.off) (hr : f.off % 0x1000 ≠ 0x10) : Posts pg s (s.wr f v) :=
  ⟨rfl, fun h => s.wr_up h f v, fun o n => State.rdW_wrW_ne _ _ (fun e => n (e ▸ h)), fun o b m _ e => by
    rw [State.wr, State.rdW_wrW_ne _ _ (fun q => hr (by rw [← q]; exact m))]; exact e, fun _ _ => rfl⟩

theorem bitOf_testBit (n b : Nat) : bitOf n b = n.testBit b := by
  rw [bitOf, Nat.testBit, Nat.shiftRight_eq_div_pow, Nat.and_comm, Nat.and_one_is_mod]
  rcases Nat.mod_two_eq_zero_or_one (n / 2 ^ b) with h | h <;> simp [h]

theorem Posts.rawBit (pg : Nat) (s : State) (q bit : Nat) (h : EvtFoot pg (q + 0x10)) (hb : bit < 32) : Posts pg s (s.rawBit q bit) :=
  ⟨rfl, fun h => s.wr_up h _ _, fun o n => State.rdW_wrW_ne _ _ (fun e => n (e ▸ h)), fun o b m x e => by
    by_cases eq : o = q + 0x10
    · subst eq
      rw [State.rawBit, State.wr, State.rdW_wrW_same x, bitOf_testBit, putBits_testBit _ _ _ _ _ (by show bit + 1 ≤ 32; omega)]
      rw [bitOf_testBit] at e
      by_cases hbb : b = bit
      · subst hbb; simp
      · have : ¬ (bit ≤ b ∧ b < bit + 1) := by omega
        simp only [this, if_false]; exact e
    · rw [State.rawBit, State.wr, State.rdW_wrW_ne _ _ eq]; exact e, fun _ _ => rfl⟩

theorem Posts.msix (pg : Nat) (s : State) (v : Nat) (hv : v < 64) : Posts pg s (s.msix v) := by
  unfold State.msix
  split
  · exact .of_regs rfl rfl (fun _ => rfl)
  · split
    · exact .wr pg s _ _ (by unfold EvtFoot; show _ ∨ _ ∨ _ ∨ _ ∨ _ ∨ (0x7F1000 ≤ 0x7F1000 + 4 * (v / 32) ∧ 0x7F1000 + 4 * (v / 32) < 0x7F1008); omega) (by show (0x7F1000 + 4 * (v / 32)) % 0x1000 ≠ 0x10; omega)
    · exact .of_regs rfl rfl (fun _ => rfl)

theorem Posts.qWrite (pg : Nat) (s : State) (b : Bool) (a : Nat) (l : List Byte) (hb : s.flag Reg.CMD.EQ_CFG.LOCATION = false → b = false) : Posts pg s (s.qWrite b a l) := by
  unfold State.qWrite
  split
  · exact .of_regs rfl rfl (fun e => absurd (hb e) (by simp_all))
  · split
    · exact .of_regs rfl rfl (fun _ => rfl)
    · split
      · exact .of_regs rfl rfl (fun _ => rfl)
      · exact .wr pg s _ _ (by right; right; right; right; left; rfl) (by decide)

theorem getBits_lt (w : Word) (lo len : Nat) : getBits w lo len < 2 ^ len := Nat.mod_lt _ (Nat.two_pow_pos _)

theorem State.rd_lt (s : State) (f : Fld) : s.rd f < 2 ^ f.len := getBits_lt _ _ _

theorem Posts.eqPut (pg : Nat) (s : State) (p bit pend t : Nat) : Posts pg s (s.eqPut p bit pend t) := by
  unfold State.eqPut
  dsimp only
  split
  · refine Posts.trans (Posts.trans (.wr pg s Reg.CMD.CNT_EQ_OVERFLOW.COUNT _ (by right; right; right; left; rfl) (by decide)) (.rawBit pg _ 0xE000 5 (by right; left; rfl) (by decide))) (.of_regs rfl rfl (fun _ => rfl))
  · refine Posts.trans ?_ (.msix pg _ _ ?_)
    · refine Posts.trans (Posts.trans (.qWrite pg s _ _ _ id) (.wr pg _ Reg.CMD.EQ_STATUS.TAIL _ (by right; right; left; rfl) (by decide))) (.of_regs rfl rfl (fun _ => rfl))
    · exact State.rd_lt _ _

theorem Posts.post (pg : Nat) (s : State) (p bit pend : Nat) : Posts pg s (s.post p bit pend) := by
  unfold State.post
  split
  · exact .refl _ _
  · split
    · exact .of_regs rfl rfl (fun _ => rfl)
    · exact .eqPut _ _ _ _ _ _

theorem Posts.foldl {α : Type} {pg : Nat} {f : State → α → State} (hf : ∀ s a, Posts pg s (f s a)) (l : List α) (s : State) : Posts pg s (l.foldl f s) := by
  induction l generalizing s with
  | nil => exact .refl _ _
  | cons a l ih => exact (hf s a).trans (ih _)

theorem Posts.postNew (pg : Nat) (s : State) (p : Nat) (w : Word) : Posts pg s (s.postNew p w) := .foldl (fun s b => .post pg s p b _) _ s

/-- What an event of a page does (R435, R383). -/
theorem Posts.evt (s : State) (pg bit : Nat) (hb : bit < 32) : Posts pg s (s.evt pg bit) :=
  (Posts.rawBit pg s pg bit (.inl rfl) hb).trans (.postNew pg _ pg _)

/-- The bit of an event stands in PG_EVT_RAW (R435). -/
theorem State.evt_raw {s : State} (h : s.RegsUp) (pg bit : Nat) (hb : bit < 32) (hp : pg % 0x1000 = 0) : bitOf ((s.evt pg bit).rdW (pg + 0x10)).toNat bit = true := by
  refine (Posts.postNew pg (s.rawBit pg bit) pg _).raw _ _ (by omega) (s.wr_up h _ _) ?_
  rw [State.rawBit, State.wr, State.rdW_wrW_same h, bitOf_testBit, putBits_testBit _ _ _ _ _ (by show bit + 1 ≤ 32; omega)]
  simp

/-- A field outside an event's footprint reads as before. -/
theorem State.rd_evt (s : State) (pg bit : Nat) (f : Fld) (hb : bit < 32) (h : ¬ EvtFoot pg f.off) : (s.evt pg bit).rd f = s.rd f := by
  rw [State.rd, (Posts.evt s pg bit hb).off _ h, State.rd]

/-- An event changes no field but a few, whatever its number. -/
theorem State.evt_rel (s : State) (pg bit : Nat) : EvtRel s (s.evt pg bit) := EvtRel.trans (t := s.rawBit pg bit) rfl (Posts.postNew pg _ pg _).rel

theorem EvtRel.eq {s t : State} (h : EvtRel s t) : t = { s with
    regs := t.regs, out := t.out, sd := t.sd
    hq := { s.hq with eqWait := t.hq.eqWait, eqOvf := t.hq.eqOvf, eqSeq := t.hq.eqSeq, eqPh := t.hq.eqPh }
    pcie := { s.pcie with msiWait := t.pcie.msiWait, dmaWait := t.pcie.dmaWait } } := h

theorem EvtRel.pcie_up {s t : State} (h : EvtRel s t) : t.pcie.up = s.pcie.up := (congrArg (fun x : State => x.pcie.up) h.eq).trans rfl
theorem EvtRel.pcie_d3 {s t : State} (h : EvtRel s t) : t.pcie.d3 = s.pcie.d3 := (congrArg (fun x : State => x.pcie.d3) h.eq).trans rfl
theorem EvtRel.pcie_perst {s t : State} (h : EvtRel s t) : t.pcie.perst = s.pcie.perst := (congrArg (fun x : State => x.pcie.perst) h.eq).trans rfl
theorem EvtRel.hq_sq {s t : State} (h : EvtRel s t) : t.hq.sq = s.hq.sq := (congrArg (fun x : State => x.hq.sq) h.eq).trans rfl
theorem EvtRel.hq_turn {s t : State} (h : EvtRel s t) : t.hq.turn = s.hq.turn := (congrArg (fun x : State => x.hq.turn) h.eq).trans rfl
theorem EvtRel.hq_eqHead {s t : State} (h : EvtRel s t) : t.hq.eqHead = s.hq.eqHead := (congrArg (fun x : State => x.hq.eqHead) h.eq).trans rfl
theorem EvtRel.hq_pqHead {s t : State} (h : EvtRel s t) : t.hq.pqHead = s.hq.pqHead := (congrArg (fun x : State => x.hq.pqHead) h.eq).trans rfl
theorem EvtRel.hq_pqPh {s t : State} (h : EvtRel s t) : t.hq.pqPh = s.hq.pqPh := (congrArg (fun x : State => x.hq.pqPh) h.eq).trans rfl
theorem EvtRel.pending {s t : State} (h : EvtRel s t) : t.pending = s.pending := (congrArg State.pending h.eq).trans rfl
theorem EvtRel.dev {s t : State} (h : EvtRel s t) : t.dev = s.dev := (congrArg State.dev h.eq).trans rfl
theorem EvtRel.live {s t : State} (h : EvtRel s t) : t.live = s.live := (congrArg State.live h.eq).trans rfl
theorem EvtRel.now {s t : State} (h : EvtRel s t) : t.now = s.now := (congrArg State.now h.eq).trans rfl
theorem EvtRel.clkRun {s t : State} (h : EvtRel s t) : t.clkRun = s.clkRun := (congrArg State.clkRun h.eq).trans rfl
theorem EvtRel.granAcc {s t : State} (h : EvtRel s t) : t.granAcc = s.granAcc := (congrArg State.granAcc h.eq).trans rfl
theorem EvtRel.phase {s t : State} (h : EvtRel s t) : t.phase = s.phase := (congrArg State.phase h.eq).trans rfl
theorem EvtRel.dom {s t : State} (h : EvtRel s t) : t.dom = s.dom := (congrArg State.dom h.eq).trans rfl
theorem EvtRel.latch {s t : State} (h : EvtRel s t) : t.latch = s.latch := (congrArg State.latch h.eq).trans rfl
theorem EvtRel.heldW {s t : State} (h : EvtRel s t) : t.heldW = s.heldW := (congrArg State.heldW h.eq).trans rfl
theorem EvtRel.enHeld {s t : State} (h : EvtRel s t) : t.enHeld = s.enHeld := (congrArg State.enHeld h.eq).trans rfl
theorem EvtRel.inbox {s t : State} (h : EvtRel s t) : t.inbox = s.inbox := (congrArg State.inbox h.eq).trans rfl
theorem EvtRel.recQ {s t : State} (h : EvtRel s t) : t.recQ = s.recQ := (congrArg State.recQ h.eq).trans rfl
theorem EvtRel.freeCtr {s t : State} (h : EvtRel s t) : t.freeCtr = s.freeCtr := (congrArg State.freeCtr h.eq).trans rfl
theorem EvtRel.unit {s t : State} (h : EvtRel s t) : t.unit = s.unit := (congrArg State.unit h.eq).trans rfl
theorem EvtRel.drv {s t : State} (h : EvtRel s t) : t.drv = s.drv := (congrArg State.drv h.eq).trans rfl
theorem EvtRel.img {s t : State} (h : EvtRel s t) : t.img = s.img := (congrArg State.img h.eq).trans rfl
theorem EvtRel.bram {s t : State} (h : EvtRel s t) : t.bram = s.bram := (congrArg State.bram h.eq).trans rfl
theorem EvtRel.gov {s t : State} (h : EvtRel s t) : t.gov = s.gov := (congrArg State.gov h.eq).trans rfl
theorem EvtRel.therm {s t : State} (h : EvtRel s t) : t.therm = s.therm := (congrArg State.therm h.eq).trans rfl
theorem EvtRel.sump {s t : State} (h : EvtRel s t) : t.sump = s.sump := (congrArg State.sump h.eq).trans rfl
theorem EvtRel.seam {s t : State} (h : EvtRel s t) : t.seam = s.seam := (congrArg State.seam h.eq).trans rfl
theorem EvtRel.gan {s t : State} (h : EvtRel s t) : t.gan = s.gan := (congrArg State.gan h.eq).trans rfl
theorem EvtRel.plumb {s t : State} (h : EvtRel s t) : t.plumb = s.plumb := (congrArg State.plumb h.eq).trans rfl
theorem EvtRel.mon {s t : State} (h : EvtRel s t) : t.mon = s.mon := (congrArg State.mon h.eq).trans rfl
theorem EvtRel.time {s t : State} (h : EvtRel s t) : t.time = s.time := (congrArg State.time h.eq).trans rfl
theorem EvtRel.path {s t : State} (h : EvtRel s t) : t.path = s.path := (congrArg State.path h.eq).trans rfl
theorem EvtRel.parser {s t : State} (h : EvtRel s t) : t.parser = s.parser := (congrArg State.parser h.eq).trans rfl
theorem EvtRel.cmd {s t : State} (h : EvtRel s t) : t.cmd = s.cmd := (congrArg State.cmd h.eq).trans rfl
theorem EvtRel.boot {s t : State} (h : EvtRel s t) : t.boot = s.boot := (congrArg State.boot h.eq).trans rfl
theorem EvtRel.test {s t : State} (h : EvtRel s t) : t.test = s.test := (congrArg State.test h.eq).trans rfl
theorem EvtRel.smb {s t : State} (h : EvtRel s t) : t.smb = s.smb := (congrArg State.smb h.eq).trans rfl

@[simp] theorem State.evt_pending (s : State) (pg bit : Nat) : (s.evt pg bit).pending = s.pending := (s.evt_rel pg bit).pending
@[simp] theorem State.evt_dev (s : State) (pg bit : Nat) : (s.evt pg bit).dev = s.dev := (s.evt_rel pg bit).dev
@[simp] theorem State.evt_live (s : State) (pg bit : Nat) : (s.evt pg bit).live = s.live := (s.evt_rel pg bit).live
@[simp] theorem State.evt_now (s : State) (pg bit : Nat) : (s.evt pg bit).now = s.now := (s.evt_rel pg bit).now
@[simp] theorem State.evt_clkRun (s : State) (pg bit : Nat) : (s.evt pg bit).clkRun = s.clkRun := (s.evt_rel pg bit).clkRun
@[simp] theorem State.evt_granAcc (s : State) (pg bit : Nat) : (s.evt pg bit).granAcc = s.granAcc := (s.evt_rel pg bit).granAcc
@[simp] theorem State.evt_phase (s : State) (pg bit : Nat) : (s.evt pg bit).phase = s.phase := (s.evt_rel pg bit).phase
@[simp] theorem State.evt_dom (s : State) (pg bit : Nat) : (s.evt pg bit).dom = s.dom := (s.evt_rel pg bit).dom
@[simp] theorem State.evt_latch (s : State) (pg bit : Nat) : (s.evt pg bit).latch = s.latch := (s.evt_rel pg bit).latch
@[simp] theorem State.evt_heldW (s : State) (pg bit : Nat) : (s.evt pg bit).heldW = s.heldW := (s.evt_rel pg bit).heldW
@[simp] theorem State.evt_enHeld (s : State) (pg bit : Nat) : (s.evt pg bit).enHeld = s.enHeld := (s.evt_rel pg bit).enHeld
@[simp] theorem State.evt_inbox (s : State) (pg bit : Nat) : (s.evt pg bit).inbox = s.inbox := (s.evt_rel pg bit).inbox
@[simp] theorem State.evt_recQ (s : State) (pg bit : Nat) : (s.evt pg bit).recQ = s.recQ := (s.evt_rel pg bit).recQ
@[simp] theorem State.evt_freeCtr (s : State) (pg bit : Nat) : (s.evt pg bit).freeCtr = s.freeCtr := (s.evt_rel pg bit).freeCtr
@[simp] theorem State.evt_unit (s : State) (pg bit : Nat) : (s.evt pg bit).unit = s.unit := (s.evt_rel pg bit).unit
@[simp] theorem State.evt_drv (s : State) (pg bit : Nat) : (s.evt pg bit).drv = s.drv := (s.evt_rel pg bit).drv
@[simp] theorem State.evt_img (s : State) (pg bit : Nat) : (s.evt pg bit).img = s.img := (s.evt_rel pg bit).img
@[simp] theorem State.evt_bram (s : State) (pg bit : Nat) : (s.evt pg bit).bram = s.bram := (s.evt_rel pg bit).bram
@[simp] theorem State.evt_gov (s : State) (pg bit : Nat) : (s.evt pg bit).gov = s.gov := (s.evt_rel pg bit).gov
@[simp] theorem State.evt_therm (s : State) (pg bit : Nat) : (s.evt pg bit).therm = s.therm := (s.evt_rel pg bit).therm
@[simp] theorem State.evt_sump (s : State) (pg bit : Nat) : (s.evt pg bit).sump = s.sump := (s.evt_rel pg bit).sump
@[simp] theorem State.evt_seam (s : State) (pg bit : Nat) : (s.evt pg bit).seam = s.seam := (s.evt_rel pg bit).seam
@[simp] theorem State.evt_gan (s : State) (pg bit : Nat) : (s.evt pg bit).gan = s.gan := (s.evt_rel pg bit).gan
@[simp] theorem State.evt_plumb (s : State) (pg bit : Nat) : (s.evt pg bit).plumb = s.plumb := (s.evt_rel pg bit).plumb
@[simp] theorem State.evt_mon (s : State) (pg bit : Nat) : (s.evt pg bit).mon = s.mon := (s.evt_rel pg bit).mon
@[simp] theorem State.evt_time (s : State) (pg bit : Nat) : (s.evt pg bit).time = s.time := (s.evt_rel pg bit).time
@[simp] theorem State.evt_path (s : State) (pg bit : Nat) : (s.evt pg bit).path = s.path := (s.evt_rel pg bit).path
@[simp] theorem State.evt_parser (s : State) (pg bit : Nat) : (s.evt pg bit).parser = s.parser := (s.evt_rel pg bit).parser
@[simp] theorem State.evt_cmd (s : State) (pg bit : Nat) : (s.evt pg bit).cmd = s.cmd := (s.evt_rel pg bit).cmd
@[simp] theorem State.evt_boot (s : State) (pg bit : Nat) : (s.evt pg bit).boot = s.boot := (s.evt_rel pg bit).boot
@[simp] theorem State.evt_test (s : State) (pg bit : Nat) : (s.evt pg bit).test = s.test := (s.evt_rel pg bit).test
@[simp] theorem State.evt_smb (s : State) (pg bit : Nat) : (s.evt pg bit).smb = s.smb := (s.evt_rel pg bit).smb

@[simp] theorem State.evt_pcie_up (s : State) (pg bit : Nat) : (s.evt pg bit).pcie.up = s.pcie.up := (s.evt_rel pg bit).pcie_up
@[simp] theorem State.evt_pcie_d3 (s : State) (pg bit : Nat) : (s.evt pg bit).pcie.d3 = s.pcie.d3 := (s.evt_rel pg bit).pcie_d3
@[simp] theorem State.evt_pcie_perst (s : State) (pg bit : Nat) : (s.evt pg bit).pcie.perst = s.pcie.perst := (s.evt_rel pg bit).pcie_perst

@[simp] theorem State.evt_hq_sq (s : State) (pg bit : Nat) : (s.evt pg bit).hq.sq = s.hq.sq := (s.evt_rel pg bit).hq_sq
@[simp] theorem State.evt_hq_turn (s : State) (pg bit : Nat) : (s.evt pg bit).hq.turn = s.hq.turn := (s.evt_rel pg bit).hq_turn
@[simp] theorem State.evt_hq_eqHead (s : State) (pg bit : Nat) : (s.evt pg bit).hq.eqHead = s.hq.eqHead := (s.evt_rel pg bit).hq_eqHead
@[simp] theorem State.evt_hq_pqHead (s : State) (pg bit : Nat) : (s.evt pg bit).hq.pqHead = s.hq.pqHead := (s.evt_rel pg bit).hq_pqHead
@[simp] theorem State.evt_hq_pqPh (s : State) (pg bit : Nat) : (s.evt pg bit).hq.pqPh = s.hq.pqPh := (s.evt_rel pg bit).hq_pqPh

@[simp] theorem State.countEvt_pending (s : State) (f : Fld) (pg bit : Nat) : (s.countEvt f pg bit).pending = s.pending := ((s.inc f).evt_rel pg bit).pending
@[simp] theorem State.countEvt_dev (s : State) (f : Fld) (pg bit : Nat) : (s.countEvt f pg bit).dev = s.dev := ((s.inc f).evt_rel pg bit).dev
@[simp] theorem State.countEvt_live (s : State) (f : Fld) (pg bit : Nat) : (s.countEvt f pg bit).live = s.live := ((s.inc f).evt_rel pg bit).live
@[simp] theorem State.countEvt_now (s : State) (f : Fld) (pg bit : Nat) : (s.countEvt f pg bit).now = s.now := ((s.inc f).evt_rel pg bit).now
@[simp] theorem State.countEvt_clkRun (s : State) (f : Fld) (pg bit : Nat) : (s.countEvt f pg bit).clkRun = s.clkRun := ((s.inc f).evt_rel pg bit).clkRun
@[simp] theorem State.countEvt_granAcc (s : State) (f : Fld) (pg bit : Nat) : (s.countEvt f pg bit).granAcc = s.granAcc := ((s.inc f).evt_rel pg bit).granAcc
@[simp] theorem State.countEvt_phase (s : State) (f : Fld) (pg bit : Nat) : (s.countEvt f pg bit).phase = s.phase := ((s.inc f).evt_rel pg bit).phase
@[simp] theorem State.countEvt_dom (s : State) (f : Fld) (pg bit : Nat) : (s.countEvt f pg bit).dom = s.dom := ((s.inc f).evt_rel pg bit).dom
@[simp] theorem State.countEvt_latch (s : State) (f : Fld) (pg bit : Nat) : (s.countEvt f pg bit).latch = s.latch := ((s.inc f).evt_rel pg bit).latch
@[simp] theorem State.countEvt_heldW (s : State) (f : Fld) (pg bit : Nat) : (s.countEvt f pg bit).heldW = s.heldW := ((s.inc f).evt_rel pg bit).heldW
@[simp] theorem State.countEvt_enHeld (s : State) (f : Fld) (pg bit : Nat) : (s.countEvt f pg bit).enHeld = s.enHeld := ((s.inc f).evt_rel pg bit).enHeld
@[simp] theorem State.countEvt_inbox (s : State) (f : Fld) (pg bit : Nat) : (s.countEvt f pg bit).inbox = s.inbox := ((s.inc f).evt_rel pg bit).inbox
@[simp] theorem State.countEvt_recQ (s : State) (f : Fld) (pg bit : Nat) : (s.countEvt f pg bit).recQ = s.recQ := ((s.inc f).evt_rel pg bit).recQ
@[simp] theorem State.countEvt_freeCtr (s : State) (f : Fld) (pg bit : Nat) : (s.countEvt f pg bit).freeCtr = s.freeCtr := ((s.inc f).evt_rel pg bit).freeCtr
@[simp] theorem State.countEvt_unit (s : State) (f : Fld) (pg bit : Nat) : (s.countEvt f pg bit).unit = s.unit := ((s.inc f).evt_rel pg bit).unit
@[simp] theorem State.countEvt_drv (s : State) (f : Fld) (pg bit : Nat) : (s.countEvt f pg bit).drv = s.drv := ((s.inc f).evt_rel pg bit).drv
@[simp] theorem State.countEvt_img (s : State) (f : Fld) (pg bit : Nat) : (s.countEvt f pg bit).img = s.img := ((s.inc f).evt_rel pg bit).img
@[simp] theorem State.countEvt_bram (s : State) (f : Fld) (pg bit : Nat) : (s.countEvt f pg bit).bram = s.bram := ((s.inc f).evt_rel pg bit).bram
@[simp] theorem State.countEvt_gov (s : State) (f : Fld) (pg bit : Nat) : (s.countEvt f pg bit).gov = s.gov := ((s.inc f).evt_rel pg bit).gov
@[simp] theorem State.countEvt_therm (s : State) (f : Fld) (pg bit : Nat) : (s.countEvt f pg bit).therm = s.therm := ((s.inc f).evt_rel pg bit).therm
@[simp] theorem State.countEvt_sump (s : State) (f : Fld) (pg bit : Nat) : (s.countEvt f pg bit).sump = s.sump := ((s.inc f).evt_rel pg bit).sump
@[simp] theorem State.countEvt_seam (s : State) (f : Fld) (pg bit : Nat) : (s.countEvt f pg bit).seam = s.seam := ((s.inc f).evt_rel pg bit).seam
@[simp] theorem State.countEvt_gan (s : State) (f : Fld) (pg bit : Nat) : (s.countEvt f pg bit).gan = s.gan := ((s.inc f).evt_rel pg bit).gan
@[simp] theorem State.countEvt_plumb (s : State) (f : Fld) (pg bit : Nat) : (s.countEvt f pg bit).plumb = s.plumb := ((s.inc f).evt_rel pg bit).plumb
@[simp] theorem State.countEvt_mon (s : State) (f : Fld) (pg bit : Nat) : (s.countEvt f pg bit).mon = s.mon := ((s.inc f).evt_rel pg bit).mon
@[simp] theorem State.countEvt_time (s : State) (f : Fld) (pg bit : Nat) : (s.countEvt f pg bit).time = s.time := ((s.inc f).evt_rel pg bit).time
@[simp] theorem State.countEvt_path (s : State) (f : Fld) (pg bit : Nat) : (s.countEvt f pg bit).path = s.path := ((s.inc f).evt_rel pg bit).path
@[simp] theorem State.countEvt_parser (s : State) (f : Fld) (pg bit : Nat) : (s.countEvt f pg bit).parser = s.parser := ((s.inc f).evt_rel pg bit).parser
@[simp] theorem State.countEvt_cmd (s : State) (f : Fld) (pg bit : Nat) : (s.countEvt f pg bit).cmd = s.cmd := ((s.inc f).evt_rel pg bit).cmd
@[simp] theorem State.countEvt_boot (s : State) (f : Fld) (pg bit : Nat) : (s.countEvt f pg bit).boot = s.boot := ((s.inc f).evt_rel pg bit).boot
@[simp] theorem State.countEvt_test (s : State) (f : Fld) (pg bit : Nat) : (s.countEvt f pg bit).test = s.test := ((s.inc f).evt_rel pg bit).test
@[simp] theorem State.countEvt_smb (s : State) (f : Fld) (pg bit : Nat) : (s.countEvt f pg bit).smb = s.smb := ((s.inc f).evt_rel pg bit).smb
@[simp] theorem State.countEvt_hq_sq (s : State) (f : Fld) (pg bit : Nat) : (s.countEvt f pg bit).hq.sq = s.hq.sq := ((s.inc f).evt_rel pg bit).hq_sq
@[simp] theorem State.countEvt_hq_turn (s : State) (f : Fld) (pg bit : Nat) : (s.countEvt f pg bit).hq.turn = s.hq.turn := ((s.inc f).evt_rel pg bit).hq_turn
@[simp] theorem State.countEvt_hq_eqHead (s : State) (f : Fld) (pg bit : Nat) : (s.countEvt f pg bit).hq.eqHead = s.hq.eqHead := ((s.inc f).evt_rel pg bit).hq_eqHead
@[simp] theorem State.countEvt_hq_pqHead (s : State) (f : Fld) (pg bit : Nat) : (s.countEvt f pg bit).hq.pqHead = s.hq.pqHead := ((s.inc f).evt_rel pg bit).hq_pqHead
@[simp] theorem State.countEvt_hq_pqPh (s : State) (f : Fld) (pg bit : Nat) : (s.countEvt f pg bit).hq.pqPh = s.hq.pqPh := ((s.inc f).evt_rel pg bit).hq_pqPh
@[simp] theorem State.countEvt_pcie_up (s : State) (f : Fld) (pg bit : Nat) : (s.countEvt f pg bit).pcie.up = s.pcie.up := ((s.inc f).evt_rel pg bit).pcie_up
@[simp] theorem State.countEvt_pcie_d3 (s : State) (f : Fld) (pg bit : Nat) : (s.countEvt f pg bit).pcie.d3 = s.pcie.d3 := ((s.inc f).evt_rel pg bit).pcie_d3
@[simp] theorem State.countEvt_pcie_perst (s : State) (f : Fld) (pg bit : Nat) : (s.countEvt f pg bit).pcie.perst = s.pcie.perst := ((s.inc f).evt_rel pg bit).pcie_perst

end Sys2Proof.Machine
end

