-- ==== Sys2Proof/Laws/Settle.lean ====
section
/-! SUPPORT. What follows from a command whatever its kind: with nothing waiting, at most an event of the DEVICE page. -/
namespace Sys2Proof.Machine

theorem Posts.postWaiting (pg : Nat) (s : State) : Posts pg s s.postWaiting := by
  unfold State.postWaiting
  split
  · exact .refl _ _
  · refine Posts.trans (t := { s with hq := { s.hq with eqWait := [] } }) (.of_regs rfl rfl (fun _ => rfl)) (.foldl (fun s e => ?_) _ _)
    split
    · exact .eqPut _ _ _ _ _ _
    · exact .refl _ _

theorem Posts.watchSdram (s : State) (was : Bool) : Posts 0 s (s.watchSdram was) := by
  unfold State.watchSdram
  split
  · exact .evt _ _ _ (by decide)
  · split
    · exact .postWaiting _ _
    · exact .refl _ _

/-- A command that leaves nothing waiting is followed by at most the SDRAM event of the DEVICE page, and by events that had waited for SDRAM. -/
theorem State.settle_calm {u : State} (h : u.Calm) (was : Bool) : Posts 0 u (u.settle was) := by
  obtain ⟨h1, h2, h3, h4, h5, h6, h7⟩ := h
  have e1 : u.flushHeld = u := by unfold State.flushHeld; rw [h1]; rfl
  have e2 : u.seamPins = u := by unfold State.seamPins; rw [h2]; rfl
  have e3 : u.testCheck = u := by unfold State.testCheck; rw [h6]
  have e4 : u.drainCheck = u := by unfold State.drainCheck; rw [h7]
  have hw := Posts.watchSdram u was
  have e5 : (u.watchSdram was).answersOut = u.watchSdram was := by
    have a1 : (u.watchSdram was).cmd = u.cmd := hw.rel.cmd
    have a2 : (u.watchSdram was).seam = u.seam := hw.rel.seam
    unfold State.answersOut; rw [a1, a2, h5, h4]; rfl
  unfold State.settle
  rw [e1, e2, e3, e4]
  simp only [h3, Option.isSome_none, Bool.false_eq_true, if_false]
  rw [e5]; exact hw

/-- The answer of a meaning that has only its own effect. -/
theorem State.only_eq (s : State) (f : State → State) : s.only f = .next ((f s.start).kept s) := rfl

/-- The answer of a meaning from which more may follow, where nothing waits afterwards. -/
theorem State.whole_calm {s : State} {f : State → State} (h : (f s.start).Calm) : ∃ t, s.whole f = .next (t.kept s) ∧ Posts 0 (f s.start) t :=
  ⟨_, rfl, State.settle_calm h _⟩

/-- A register access where it acts at once. -/
theorem State.regAct_open {s : State} {off : Nat} (h : s.Open off) (path : HostPath) (w : Nat) (f : State → State) : s.regAct path off w f = f s := by
  obtain ⟨h1, h2, h3⟩ := h
  unfold State.regAct State.regActs
  simp [h1, h2, h3]

theorem State.Open.start {s : State} {off : Nat} (h : s.Open off) : s.start.Open off := h

theorem State.Calm.start {s : State} (h : s.Calm) : s.start.Calm := h

end Sys2Proof.Machine
end

