-- ==== Sys2Proof/Laws/Frame.lean ====
section
/-! SUPPORT. The register map as a table: what writes and events leave in it, and how frames are built. -/
namespace Sys2Proof.Machine

@[simp] theorem b2n_lt (b : Bool) : b2n b < 2 := by cases b <;> decide
@[simp] theorem b2n_eq_one (b : Bool) : b2n b = 1 ↔ b = true := by cases b <;> simp [b2n]
@[simp] theorem b2n_mod (b : Bool) : b2n b % 2 = b2n b := by cases b <;> rfl

/-- The word at an offset. -/
def wordT (r : Tab Word) (off : Nat) : Word := tabGet r (resetWord off) off

/-- The value of a field. -/
def rdT (r : Tab Word) (g : Fld) : Nat := getBits (wordT r g.off) g.lo g.len

/-- A word set. -/
def setT (r : Tab Word) (off : Nat) (w : Word) : Tab Word := tabPut r (resetWord off) off w

/-- A field set. -/
def putT (r : Tab Word) (f : Fld) (v : Nat) : Tab Word := setT r f.off (putBits (wordT r f.off) f.lo f.len v)

/-- The keys stand in rising order. -/
def UpT (r : Tab Word) : Prop := r.Pairwise (fun a b => a.1 < b.1)

/-- An event's bit stands. -/
def evtT (r : Tab Word) (pg bit : Nat) : Prop := bitOf (wordT r (pg + 0x10)).toNat bit = true

theorem State.Sound.upT {s : State} (h : s.Sound) : UpT s.regs := h.words.1

theorem State.rdW_eq (s : State) (off : Nat) : s.rdW off = wordT s.regs off := rfl
theorem State.rd_eq (s : State) (g : Fld) : s.rd g = rdT s.regs g := rfl
theorem State.flag_eq (s : State) (g : Fld) : s.flag g = (rdT s.regs g == 1) := rfl
theorem State.hasEvt_eq (s : State) (pg bit : Nat) : s.HasEvt pg bit = evtT s.regs pg bit := rfl
theorem State.wrW_map (s : State) (off : Nat) (w : Word) : (s.wrW off w).regs = setT s.regs off w := rfl
theorem State.wr_map (s : State) (f : Fld) (v : Nat) : (s.wr f v).regs = putT s.regs f v := rfl
theorem State.put_map (s : State) (f : Fld) (b : Bool) : (s.put f b).regs = putT s.regs f (b2n b) := rfl
theorem State.add_map (s : State) (f : Fld) (n : Nat) : (s.add f n).regs = putT s.regs f (min (rdT s.regs f + n) (2 ^ f.len - 1)) := rfl
theorem State.inc_map (s : State) (f : Fld) : (s.inc f).regs = putT s.regs f (min (rdT s.regs f + 1) (2 ^ f.len - 1)) := rfl
theorem State.incWrap_map (s : State) (f : Fld) : (s.incWrap f).regs = putT s.regs f (rdT s.regs f + 1) := rfl
theorem State.err_map (s : State) (pg off : Nat) : (s.err pg off).regs = putT (s.inc (Reg.HDR.PG_ERRCNT.COUNT pg)).regs (Reg.HDR.PG_ERRCNT.LAST_OFFSET pg) off := rfl
theorem State.countEvt_map (s : State) (f : Fld) (pg bit : Nat) : (s.countEvt f pg bit).regs = ((s.inc f).evt pg bit).regs := rfl
theorem State.emit_map (s : State) (o : Out) : (s.emit o).regs = s.regs := rfl
theorem State.draw_map (s : State) : s.draw.regs = s.regs := rfl
theorem State.raise_map (s : State) (a b : Nat) : (s.raise a b).regs = s.regs := rfl
theorem State.raiseDirect_map (s : State) (a b : Nat) : (s.raiseDirect a b).regs = s.regs := rfl
theorem State.setDomain_map (s : State) (d : Nat) (v : Dom) : (s.setDomain d v).regs = s.regs := rfl
theorem State.start_map (s : State) : s.start.regs = s.regs := rfl
theorem State.kept_map (t s : State) : (t.kept s).regs = t.regs := rfl
theorem State.wr64_map (s : State) (off v : Nat) : (s.wr64 off v).regs = setT (setT s.regs off (BitVec.ofNat 32 v)) (off + 4) (BitVec.ofNat 32 (v / 2 ^ 32)) := rfl
theorem State.wrTime_map (s : State) (off t : Nat) :
    (s.wrTime off t).regs = setT (setT (setT s.regs off (BitVec.ofNat 32 (nsOf t))) (off + 4) (BitVec.ofNat 32 (secOf t))) (off + 8) (BitVec.ofNat 32 (secOf t / 2 ^ 32)) := rfl

theorem upT_set {r : Tab Word} (h : UpT r) (off : Nat) (w : Word) : UpT (setT r off w) := tabPut_up h _ _ _
theorem upT_put {r : Tab Word} (h : UpT r) (f : Fld) (v : Nat) : UpT (putT r f v) := tabPut_up h _ _ _
theorem Posts.upT {pg : Nat} {s t : State} (h : Posts pg s t) (k : UpT s.regs) : UpT t.regs := h.up k
theorem upT_evt {s : State} (h : UpT s.regs) (pg bit : Nat) (hb : bit < 32) : UpT (s.evt pg bit).regs := (Posts.evt s pg bit hb).upT h

theorem wordT_set_same {r : Tab Word} (h : UpT r) (off : Nat) (w : Word) : wordT (setT r off w) off = w := tabGet_tabPut_same h _ _ _
theorem wordT_set_ne (r : Tab Word) (off a : Nat) (w : Word) (h : a ≠ off) : wordT (setT r off w) a = wordT r a :=
  State.rdW_wrW_ne { State.reset with regs := r } w h
theorem wordT_put_ne (r : Tab Word) (f : Fld) (v a : Nat) (h : a ≠ f.off) : wordT (putT r f v) a = wordT r a := wordT_set_ne _ _ _ _ h
theorem wordT_evt (s : State) (pg bit a : Nat) (hb : bit < 32) (h : ¬ EvtFoot pg a) : wordT (s.evt pg bit).regs a = wordT s.regs a := (Posts.evt s pg bit hb).off a h

theorem rdT_set_ne (r : Tab Word) (off : Nat) (w : Word) (g : Fld) (h : g.off ≠ off) : rdT (setT r off w) g = rdT r g := by
  unfold rdT; rw [wordT_set_ne _ _ _ _ h]
theorem rdT_put_same {r : Tab Word} (h : UpT r) (f : Fld) (v : Nat) (hf : f.lo + f.len ≤ 32) : rdT (putT r f v) f = v % 2 ^ f.len := by
  unfold rdT putT; rw [wordT_set_same h, getBits_putBits_same _ _ _ _ hf]
theorem rdT_put_off (r : Tab Word) (f g : Fld) (v : Nat) (h : g.off ≠ f.off) : rdT (putT r f v) g = rdT r g := rdT_set_ne _ _ _ _ h
theorem rdT_put_bits {r : Tab Word} (h : UpT r) (f g : Fld) (v : Nat) (hf : f.lo + f.len ≤ 32) (d : g.lo + g.len ≤ f.lo ∨ f.lo + f.len ≤ g.lo) : rdT (putT r f v) g = rdT r g :=
  State.rd_wr_bits (s := { State.reset with regs := r }) h f g hf v d
theorem rdT_evt (s : State) (pg bit : Nat) (g : Fld) (hb : bit < 32) (h : ¬ EvtFoot pg g.off) : rdT (s.evt pg bit).regs g = rdT s.regs g := s.rd_evt pg bit g hb h

theorem evtT_evt {s : State} (h : UpT s.regs) (pg bit : Nat) (hb : bit < 32) (hp : pg % 0x1000 = 0) : evtT (s.evt pg bit).regs pg bit := s.evt_raw h pg bit hb hp
theorem evtT_put {r : Tab Word} {pg bit : Nat} (h : evtT r pg bit) (f : Fld) (v : Nat) (d : pg + 0x10 ≠ f.off) : evtT (putT r f v) pg bit := by
  unfold evtT; rw [wordT_put_ne _ _ _ _ d]; exact h
theorem evtT_set {r : Tab Word} {pg bit : Nat} (h : evtT r pg bit) (off : Nat) (w : Word) (d : pg + 0x10 ≠ off) : evtT (setT r off w) pg bit := by
  unfold evtT; rw [wordT_set_ne _ _ _ _ d]; exact h
theorem Posts.evtT {q : Nat} {s t : State} (k : Posts q s t) (u : UpT s.regs) {pg bit : Nat} (hp : pg % 0x1000 = 0) (h : evtT s.regs pg bit) : evtT t.regs pg bit :=
  k.raw _ _ (by omega) u h
theorem evtT_keep {s : State} {pg bit : Nat} (h : evtT s.regs pg bit) (u : UpT s.regs) (q b : Nat) (hb : b < 32) (hp : pg % 0x1000 = 0) : evtT (s.evt q b).regs pg bit :=
  (Posts.evt s q b hb).evtT u hp h

/-- What is left in the register map and in board SDRAM. -/
structure Chg (ws pgs : List Nat) (r : Tab Word) (d : List Host.Cell) (r' : Tab Word) (d' : List Host.Cell) : Prop where
  words : ∀ off, off ∉ ws → (∀ pg ∈ pgs, ¬ EvtFoot pg off) → wordT r' off = wordT r off
  sd : rdT r Reg.CMD.EQ_CFG.LOCATION ≠ 1 → d' = d

/-- The event queue's place is not among the words changed. -/
def EqApart (ws pgs : List Nat) : Prop := 0xE308 ∉ ws ∧ ∀ pg ∈ pgs, pg % 0x1000 = 0

theorem EqApart.foot {ws pgs : List Nat} (h : EqApart ws pgs) : ∀ pg ∈ pgs, ¬ EvtFoot pg 0xE308 := fun pg hp => by
  have := h.2 pg hp
  unfold EvtFoot; omega

theorem Chg.refl (ws pgs : List Nat) (r : Tab Word) (d : List Host.Cell) : Chg ws pgs r d r d := ⟨fun _ _ _ => rfl, fun _ => rfl⟩

theorem Chg.set {ws pgs : List Nat} {r : Tab Word} {d : List Host.Cell} {x : Tab Word} {e : List Host.Cell} (off : Nat) (w : Word) (hm : off ∈ ws) (h : Chg ws pgs r d x e) : Chg ws pgs r d (setT x off w) e :=
  ⟨fun a n p => (wordT_set_ne _ _ _ _ (fun q => n (by rw [q]; exact hm))).trans (h.words a n p), h.sd⟩

theorem Chg.put {ws pgs : List Nat} {r : Tab Word} {d : List Host.Cell} {x : Tab Word} {e : List Host.Cell} (f : Fld) (v : Nat) (hm : f.off ∈ ws) (h : Chg ws pgs r d x e) : Chg ws pgs r d (putT x f v) e := h.set _ _ hm

theorem Chg.posts {ws pgs : List Nat} {r : Tab Word} {d : List Host.Cell} {x y : State} {pg : Nat} (ha : EqApart ws pgs) (k : Posts pg x y) (hm : pg ∈ pgs) (h : Chg ws pgs r d x.regs x.sd) : Chg ws pgs r d y.regs y.sd :=
  ⟨fun a n p => (k.off a (p pg hm)).trans (h.words a n p), fun l => by
    refine (k.sd (ha.2 pg hm) ?_).trans (h.sd l)
    have e : rdT x.regs Reg.CMD.EQ_CFG.LOCATION = rdT r Reg.CMD.EQ_CFG.LOCATION := by
      unfold rdT; rw [h.words Reg.CMD.EQ_CFG.LOCATION.off ha.1 ha.foot]
    rw [State.flag_eq, e]; simpa using l⟩

theorem Chg.evt {ws pgs : List Nat} {r : Tab Word} {d : List Host.Cell} {x : State} (ha : EqApart ws pgs) (pg bit : Nat) (hm : pg ∈ pgs) (hb : bit < 32) (h : Chg ws pgs r d x.regs x.sd) : Chg ws pgs r d (x.evt pg bit).regs (x.evt pg bit).sd :=
  h.posts ha (.evt x pg bit hb) hm

theorem frame_of {ws pgs : List Nat} {s t : State} (h : EvtRel s t) (k : Chg ws pgs s.regs s.sd t.regs t.sd) : Frame ws pgs s t :=
  ⟨h, k.words, fun e => k.sd (by rw [State.flag_eq] at e; simpa using e)⟩

theorem Posts.wordT {pg : Nat} {s t : State} (k : Posts pg s t) (a : Nat) (h : ¬ EvtFoot pg a) : wordT t.regs a = wordT s.regs a := k.off a h
theorem Posts.rdT {pg : Nat} {s t : State} (k : Posts pg s t) (g : Fld) (h : ¬ EvtFoot pg g.off) : rdT t.regs g = rdT s.regs g := by
  unfold Machine.rdT; rw [k.wordT g.off h]

/-- A change of the global state, the fields only. -/
def State.goneTo (s : State) (d : DevState) (low : Bool) (since : Nat) : State := { s with dev := d, boot := { s.boot with readyLow := low, readyAt := since } }

/-- A change of the global state is a change of two fields, then events of the DEVICE page, then of the BOOT page. -/
theorem State.goto_posts (s : State) (d : DevState) : ∃ low since y, Posts 0 (s.goneTo d low since) y ∧ Posts 0x3000 y (s.goto d) ∧ (s.dev ≠ d → y = (s.goneTo d low since).evt 0 0) := by
  unfold State.goto
  split
  · rename_i h
    subst h
    exact ⟨s.boot.readyLow, s.boot.readyAt, s, .refl 0 s, .refl 0x3000 s, fun n => absurd rfl n⟩
  · refine ⟨(s.dev == .run && (d == .safe || d == .halt)) || (s.boot.readyLow && d != .run), if s.dev == .run && (d == .safe || d == .halt) then s.up else s.boot.readyAt, (s.goneTo d _ _).evt 0 0, .evt _ 0 0 (by decide), ?_, fun _ => rfl⟩
    generalize hx : ((s.goneTo d _ _).evt 0 0) = x
    change Posts 0x3000 x (if d = .armed then State.evt (State.evt (s.goneTo d _ _) 0 0) 0x3000 4 else if d = .run then State.evt (State.evt (s.goneTo d _ _) 0 0) 0x3000 5 else State.evt (s.goneTo d _ _) 0 0)
    rw [hx]
    split
    · exact .evt _ 0x3000 4 (by decide)
    · split
      · exact .evt _ 0x3000 5 (by decide)
      · exact .refl _ _

@[simp] theorem State.goto_dev (s : State) (d : DevState) : (s.goto d).dev = d := by obtain ⟨low, since, y, h, k, -⟩ := s.goto_posts d; exact k.rel.dev.trans h.rel.dev
theorem State.goto_boot (s : State) (d : DevState) : (s.goto d).boot = { s.boot with readyLow := (s.goto d).boot.readyLow, readyAt := (s.goto d).boot.readyAt } := by
  obtain ⟨low, since, y, h, k, -⟩ := s.goto_posts d
  have e : (s.goto d).boot = { s.boot with readyLow := low, readyAt := since } := k.rel.boot.trans h.rel.boot
  rw [e]
@[simp] theorem State.goto_pending (s : State) (d : DevState) : (s.goto d).pending = s.pending := by obtain ⟨low, since, y, h, k, -⟩ := s.goto_posts d; exact k.rel.pending.trans h.rel.pending
@[simp] theorem State.goto_live (s : State) (d : DevState) : (s.goto d).live = s.live := by obtain ⟨low, since, y, h, k, -⟩ := s.goto_posts d; exact k.rel.live.trans h.rel.live
@[simp] theorem State.goto_now (s : State) (d : DevState) : (s.goto d).now = s.now := by obtain ⟨low, since, y, h, k, -⟩ := s.goto_posts d; exact k.rel.now.trans h.rel.now
@[simp] theorem State.goto_clkRun (s : State) (d : DevState) : (s.goto d).clkRun = s.clkRun := by obtain ⟨low, since, y, h, k, -⟩ := s.goto_posts d; exact k.rel.clkRun.trans h.rel.clkRun
@[simp] theorem State.goto_granAcc (s : State) (d : DevState) : (s.goto d).granAcc = s.granAcc := by obtain ⟨low, since, y, h, k, -⟩ := s.goto_posts d; exact k.rel.granAcc.trans h.rel.granAcc
@[simp] theorem State.goto_phase (s : State) (d : DevState) : (s.goto d).phase = s.phase := by obtain ⟨low, since, y, h, k, -⟩ := s.goto_posts d; exact k.rel.phase.trans h.rel.phase
@[simp] theorem State.goto_dom (s : State) (d : DevState) : (s.goto d).dom = s.dom := by obtain ⟨low, since, y, h, k, -⟩ := s.goto_posts d; exact k.rel.dom.trans h.rel.dom
@[simp] theorem State.goto_latch (s : State) (d : DevState) : (s.goto d).latch = s.latch := by obtain ⟨low, since, y, h, k, -⟩ := s.goto_posts d; exact k.rel.latch.trans h.rel.latch
@[simp] theorem State.goto_heldW (s : State) (d : DevState) : (s.goto d).heldW = s.heldW := by obtain ⟨low, since, y, h, k, -⟩ := s.goto_posts d; exact k.rel.heldW.trans h.rel.heldW
@[simp] theorem State.goto_enHeld (s : State) (d : DevState) : (s.goto d).enHeld = s.enHeld := by obtain ⟨low, since, y, h, k, -⟩ := s.goto_posts d; exact k.rel.enHeld.trans h.rel.enHeld
@[simp] theorem State.goto_inbox (s : State) (d : DevState) : (s.goto d).inbox = s.inbox := by obtain ⟨low, since, y, h, k, -⟩ := s.goto_posts d; exact k.rel.inbox.trans h.rel.inbox
@[simp] theorem State.goto_recQ (s : State) (d : DevState) : (s.goto d).recQ = s.recQ := by obtain ⟨low, since, y, h, k, -⟩ := s.goto_posts d; exact k.rel.recQ.trans h.rel.recQ
@[simp] theorem State.goto_freeCtr (s : State) (d : DevState) : (s.goto d).freeCtr = s.freeCtr := by obtain ⟨low, since, y, h, k, -⟩ := s.goto_posts d; exact k.rel.freeCtr.trans h.rel.freeCtr
@[simp] theorem State.goto_unit (s : State) (d : DevState) : (s.goto d).unit = s.unit := by obtain ⟨low, since, y, h, k, -⟩ := s.goto_posts d; exact k.rel.unit.trans h.rel.unit
@[simp] theorem State.goto_drv (s : State) (d : DevState) : (s.goto d).drv = s.drv := by obtain ⟨low, since, y, h, k, -⟩ := s.goto_posts d; exact k.rel.drv.trans h.rel.drv
@[simp] theorem State.goto_img (s : State) (d : DevState) : (s.goto d).img = s.img := by obtain ⟨low, since, y, h, k, -⟩ := s.goto_posts d; exact k.rel.img.trans h.rel.img
@[simp] theorem State.goto_bram (s : State) (d : DevState) : (s.goto d).bram = s.bram := by obtain ⟨low, since, y, h, k, -⟩ := s.goto_posts d; exact k.rel.bram.trans h.rel.bram
@[simp] theorem State.goto_gov (s : State) (d : DevState) : (s.goto d).gov = s.gov := by obtain ⟨low, since, y, h, k, -⟩ := s.goto_posts d; exact k.rel.gov.trans h.rel.gov
@[simp] theorem State.goto_therm (s : State) (d : DevState) : (s.goto d).therm = s.therm := by obtain ⟨low, since, y, h, k, -⟩ := s.goto_posts d; exact k.rel.therm.trans h.rel.therm
@[simp] theorem State.goto_sump (s : State) (d : DevState) : (s.goto d).sump = s.sump := by obtain ⟨low, since, y, h, k, -⟩ := s.goto_posts d; exact k.rel.sump.trans h.rel.sump
@[simp] theorem State.goto_seam (s : State) (d : DevState) : (s.goto d).seam = s.seam := by obtain ⟨low, since, y, h, k, -⟩ := s.goto_posts d; exact k.rel.seam.trans h.rel.seam
@[simp] theorem State.goto_gan (s : State) (d : DevState) : (s.goto d).gan = s.gan := by obtain ⟨low, since, y, h, k, -⟩ := s.goto_posts d; exact k.rel.gan.trans h.rel.gan
@[simp] theorem State.goto_plumb (s : State) (d : DevState) : (s.goto d).plumb = s.plumb := by obtain ⟨low, since, y, h, k, -⟩ := s.goto_posts d; exact k.rel.plumb.trans h.rel.plumb
@[simp] theorem State.goto_mon (s : State) (d : DevState) : (s.goto d).mon = s.mon := by obtain ⟨low, since, y, h, k, -⟩ := s.goto_posts d; exact k.rel.mon.trans h.rel.mon
@[simp] theorem State.goto_time (s : State) (d : DevState) : (s.goto d).time = s.time := by obtain ⟨low, since, y, h, k, -⟩ := s.goto_posts d; exact k.rel.time.trans h.rel.time
@[simp] theorem State.goto_path (s : State) (d : DevState) : (s.goto d).path = s.path := by obtain ⟨low, since, y, h, k, -⟩ := s.goto_posts d; exact k.rel.path.trans h.rel.path
@[simp] theorem State.goto_parser (s : State) (d : DevState) : (s.goto d).parser = s.parser := by obtain ⟨low, since, y, h, k, -⟩ := s.goto_posts d; exact k.rel.parser.trans h.rel.parser
@[simp] theorem State.goto_cmd (s : State) (d : DevState) : (s.goto d).cmd = s.cmd := by obtain ⟨low, since, y, h, k, -⟩ := s.goto_posts d; exact k.rel.cmd.trans h.rel.cmd
@[simp] theorem State.goto_test (s : State) (d : DevState) : (s.goto d).test = s.test := by obtain ⟨low, since, y, h, k, -⟩ := s.goto_posts d; exact k.rel.test.trans h.rel.test
@[simp] theorem State.goto_smb (s : State) (d : DevState) : (s.goto d).smb = s.smb := by obtain ⟨low, since, y, h, k, -⟩ := s.goto_posts d; exact k.rel.smb.trans h.rel.smb
@[simp] theorem State.goto_boot_cold (s : State) (d : DevState) : (s.goto d).boot.cold = s.boot.cold := by rw [s.goto_boot d]
@[simp] theorem State.goto_boot_pll (s : State) (d : DevState) : (s.goto d).boot.pll = s.boot.pll := by rw [s.goto_boot d]
@[simp] theorem State.goto_boot_fuse (s : State) (d : DevState) : (s.goto d).boot.fuse = s.boot.fuse := by rw [s.goto_boot d]
@[simp] theorem State.goto_boot_self (s : State) (d : DevState) : (s.goto d).boot.self = s.boot.self := by rw [s.goto_boot d]
@[simp] theorem State.goto_boot_doms (s : State) (d : DevState) : (s.goto d).boot.doms = s.boot.doms := by rw [s.goto_boot d]
@[simp] theorem State.goto_boot_trained (s : State) (d : DevState) : (s.goto d).boot.trained = s.boot.trained := by rw [s.goto_boot d]
@[simp] theorem State.goto_boot_lockUs (s : State) (d : DevState) : (s.goto d).boot.lockUs = s.boot.lockUs := by rw [s.goto_boot d]
@[simp] theorem State.goto_boot_check (s : State) (d : DevState) : (s.goto d).boot.check = s.boot.check := by rw [s.goto_boot d]
@[simp] theorem State.goto_boot_held (s : State) (d : DevState) : (s.goto d).boot.held = s.boot.held := by rw [s.goto_boot d]
@[simp] theorem State.goto_hq_sq (s : State) (d : DevState) : (s.goto d).hq.sq = s.hq.sq := by obtain ⟨low, since, y, h, k, -⟩ := s.goto_posts d; exact k.rel.hq_sq.trans h.rel.hq_sq
@[simp] theorem State.goto_hq_turn (s : State) (d : DevState) : (s.goto d).hq.turn = s.hq.turn := by obtain ⟨low, since, y, h, k, -⟩ := s.goto_posts d; exact k.rel.hq_turn.trans h.rel.hq_turn
@[simp] theorem State.goto_hq_eqHead (s : State) (d : DevState) : (s.goto d).hq.eqHead = s.hq.eqHead := by obtain ⟨low, since, y, h, k, -⟩ := s.goto_posts d; exact k.rel.hq_eqHead.trans h.rel.hq_eqHead
@[simp] theorem State.goto_hq_pqHead (s : State) (d : DevState) : (s.goto d).hq.pqHead = s.hq.pqHead := by obtain ⟨low, since, y, h, k, -⟩ := s.goto_posts d; exact k.rel.hq_pqHead.trans h.rel.hq_pqHead
@[simp] theorem State.goto_hq_pqPh (s : State) (d : DevState) : (s.goto d).hq.pqPh = s.hq.pqPh := by obtain ⟨low, since, y, h, k, -⟩ := s.goto_posts d; exact k.rel.hq_pqPh.trans h.rel.hq_pqPh
@[simp] theorem State.goto_pcie_up (s : State) (d : DevState) : (s.goto d).pcie.up = s.pcie.up := by obtain ⟨low, since, y, h, k, -⟩ := s.goto_posts d; exact k.rel.pcie_up.trans h.rel.pcie_up
@[simp] theorem State.goto_pcie_d3 (s : State) (d : DevState) : (s.goto d).pcie.d3 = s.pcie.d3 := by obtain ⟨low, since, y, h, k, -⟩ := s.goto_posts d; exact k.rel.pcie_d3.trans h.rel.pcie_d3
@[simp] theorem State.goto_pcie_perst (s : State) (d : DevState) : (s.goto d).pcie.perst = s.pcie.perst := by obtain ⟨low, since, y, h, k, -⟩ := s.goto_posts d; exact k.rel.pcie_perst.trans h.rel.pcie_perst

theorem upT_goto {s : State} (u : UpT s.regs) (d : DevState) : UpT (s.goto d).regs := by
  obtain ⟨low, since, y, h, k, -⟩ := s.goto_posts d
  exact k.upT (h.upT u)
theorem wordT_goto (s : State) (d : DevState) (a : Nat) (h0 : ¬ EvtFoot 0 a) (h3 : ¬ EvtFoot 0x3000 a) : wordT (s.goto d).regs a = wordT s.regs a := by
  obtain ⟨low, since, y, h, k, -⟩ := s.goto_posts d
  exact (k.wordT a h3).trans (h.wordT a h0)
theorem rdT_goto (s : State) (d : DevState) (g : Fld) (h0 : ¬ EvtFoot 0 g.off) (h3 : ¬ EvtFoot 0x3000 g.off) : rdT (s.goto d).regs g = rdT s.regs g := by
  unfold rdT; rw [wordT_goto _ _ _ h0 h3]
theorem Chg.goto {ws pgs : List Nat} {r : Tab Word} {d : List Host.Cell} {x : State} (ha : EqApart ws pgs) (v : DevState) (h0 : 0 ∈ pgs) (h3 : 0x3000 ∈ pgs) (h : Chg ws pgs r d x.regs x.sd) : Chg ws pgs r d (x.goto v).regs (x.goto v).sd := by
  obtain ⟨low, since, y, h1, k, -⟩ := x.goto_posts v
  exact Chg.posts ha k h3 (Chg.posts ha h1 h0 h)
theorem evtT_goto {s : State} {pg bit : Nat} (h : evtT s.regs pg bit) (u : UpT s.regs) (d : DevState) (hp : pg % 0x1000 = 0) : evtT (s.goto d).regs pg bit := by
  obtain ⟨low, since, y, h1, k, -⟩ := s.goto_posts d
  exact k.evtT (h1.upT u) hp (h1.evtT u hp h)
/-- STATE_CHANGE stands after a change of the global state (R454). -/
theorem evtT_goto_new {s : State} (u : UpT s.regs) {d : DevState} (n : s.dev ≠ d) : evtT (s.goto d).regs 0 0 := by
  obtain ⟨low, since, y, h, k, e⟩ := s.goto_posts d
  refine k.evtT (h.upT u) (by decide) ?_
  rw [e n]
  exact evtT_evt (s := s.goneTo d low since) u 0 0 (by decide) (by decide)

/-- A command that has only its own effect, which is u. -/
theorem leads_only {c : Instr} {s : State} {f : State → State} {P : State → Prop} (hc : exec c s = s.only f) (u : State) (hu : f s.start = u) (h : P (u.kept s)) : Leads c s P :=
  ⟨_, hc.trans (by rw [State.only_eq, hu]), h⟩

/-- A command from which more may follow, whose own effect is u, and nothing waits after it. -/
theorem leads_whole {c : Instr} {s : State} {f : State → State} {P : State → Prop} (hc : exec c s = s.whole f) (u : State) (hu : f s.start = u) (hq : u.Calm)
    (h : ∀ t, Posts 0 u t → P (t.kept s)) : Leads c s P :=
  ⟨_, hc.trans rfl, by rw [hu]; exact h _ (State.settle_calm hq _)⟩

/-- Two states that differ in nothing but what an event changes. -/
theorem evtRel_of {s t : State} (h1 : t.pending = s.pending) (h2 : t.dev = s.dev) (h3 : t.live = s.live) (h4 : t.now = s.now) (h5 : t.clkRun = s.clkRun) (h6 : t.granAcc = s.granAcc)
    (h7 : t.phase = s.phase) (h8 : t.dom = s.dom) (h9 : t.latch = s.latch) (h10 : t.heldW = s.heldW) (h11 : t.enHeld = s.enHeld) (h12 : t.inbox = s.inbox) (h13 : t.recQ = s.recQ)
    (h14 : t.freeCtr = s.freeCtr) (h15 : t.unit = s.unit) (h16 : t.drv = s.drv) (h17 : t.img = s.img) (h18 : t.bram = s.bram) (h19 : t.gov = s.gov) (h20 : t.therm = s.therm)
    (h21 : t.sump = s.sump) (h22 : t.seam = s.seam) (h23 : t.gan = s.gan) (h24 : t.plumb = s.plumb) (h25 : t.mon = s.mon) (h26 : t.time = s.time) (h27 : t.path = s.path)
    (h28 : t.parser = s.parser) (h29 : t.cmd = s.cmd) (h30 : t.boot = s.boot) (h31 : t.test = s.test) (h32 : t.smb = s.smb)
    (h33 : t.hq.sq = s.hq.sq) (h34 : t.hq.turn = s.hq.turn) (h35 : t.hq.eqHead = s.hq.eqHead) (h36 : t.hq.pqHead = s.hq.pqHead) (h37 : t.hq.pqPh = s.hq.pqPh)
    (h38 : t.pcie.up = s.pcie.up) (h39 : t.pcie.d3 = s.pcie.d3) (h40 : t.pcie.perst = s.pcie.perst) : EvtRel s t := by
  unfold EvtRel
  dsimp only
  rw [← h1, ← h2, ← h3, ← h4, ← h5, ← h6, ← h7, ← h8, ← h9, ← h10, ← h11, ← h12, ← h13, ← h14, ← h15, ← h16, ← h17, ← h18, ← h19, ← h20, ← h21, ← h22, ← h23, ← h24, ← h25, ← h26,
    ← h27, ← h28, ← h29, ← h30, ← h31, ← h32, ← h33, ← h34, ← h35, ← h36, ← h37, ← h38, ← h39, ← h40]

/-! ### One word and what leaves it -/

theorem State.rdW_wr_ne (s : State) (f : Fld) (v a : Nat) (h : a ≠ f.off) : (s.wr f v).rdW a = s.rdW a := wordT_put_ne _ _ _ _ h
theorem State.rdW_put_ne (s : State) (f : Fld) (b : Bool) (a : Nat) (h : a ≠ f.off) : (s.put f b).rdW a = s.rdW a := wordT_put_ne _ _ _ _ h
theorem State.rdW_add_ne (s : State) (f : Fld) (n a : Nat) (h : a ≠ f.off) : (s.add f n).rdW a = s.rdW a := wordT_put_ne _ _ _ _ h
theorem State.rdW_inc_ne (s : State) (f : Fld) (a : Nat) (h : a ≠ f.off) : (s.inc f).rdW a = s.rdW a := wordT_put_ne _ _ _ _ h
theorem State.rdW_incWrap_ne (s : State) (f : Fld) (a : Nat) (h : a ≠ f.off) : (s.incWrap f).rdW a = s.rdW a := wordT_put_ne _ _ _ _ h
theorem State.rdW_err_ne (s : State) (pg off a : Nat) (h : a ≠ pg + 0x20) : (s.err pg off).rdW a = s.rdW a :=
  (State.rdW_wr_ne _ _ _ _ h).trans (State.rdW_inc_ne _ _ _ h)
theorem State.rdW_evt (s : State) (pg bit a : Nat) (hb : bit < 32) (h : ¬ EvtFoot pg a) : (s.evt pg bit).rdW a = s.rdW a := wordT_evt s pg bit a hb h
theorem State.rdW_countEvt (s : State) (f : Fld) (pg bit a : Nat) (hf : a ≠ f.off) (hb : bit < 32) (h : ¬ EvtFoot pg a) : (s.countEvt f pg bit).rdW a = s.rdW a :=
  (State.rdW_evt _ pg bit a hb h).trans (State.rdW_inc_ne _ _ _ hf)
theorem State.rdW_goto (s : State) (d : DevState) (a : Nat) (h0 : ¬ EvtFoot 0 a) (h3 : ¬ EvtFoot 0x3000 a) : (s.goto d).rdW a = s.rdW a := wordT_goto s d a h0 h3
theorem tabGet_filter_keep {l : Tab Word} {p : Nat × Word → Bool} {k : Nat} {d : Word} (h : ∀ w, p (k, w) = true) : tabGet (l.filter p) d k = tabGet l d k := by
  induction l with
  | nil => rfl
  | cons a l ih =>
    obtain ⟨j, w⟩ := a
    by_cases e : j = k
    · subst e; simp [h, tabGet]
    · simp only [List.filter_cons]
      split
      · simp [tabGet, e, ih]
      · simp [tabGet, e, ih]
theorem State.rdW_clearRange (s : State) (off n a : Nat) (h : a < off ∨ off + n ≤ a) : (s.clearRange off n).rdW a = s.rdW a :=
  tabGet_filter_keep fun w => by simp; omega
theorem State.rdW_wr64 (s : State) (off v a : Nat) (h : a ≠ off ∧ a ≠ off + 4) : (s.wr64 off v).rdW a = s.rdW a :=
  (wordT_set_ne _ _ _ _ h.2).trans (wordT_set_ne _ _ _ _ h.1)
theorem State.rdW_wrTime (s : State) (off t a : Nat) (h : a ≠ off ∧ a ≠ off + 4 ∧ a ≠ off + 8) : (s.wrTime off t).rdW a = s.rdW a :=
  ((wordT_set_ne _ _ _ _ h.2.2).trans (wordT_set_ne _ _ _ _ h.2.1)).trans (wordT_set_ne _ _ _ _ h.1)

theorem State.rdW_mk {pending dev regs live now clkRun granAcc phase dom latch heldW enHeld inbox recQ sd freeCtr out unit drv img hq bram gov therm sump seam gan plumb mon time path parser cmd boot test smb pcie} (off : Nat) : State.rdW ⟨pending, dev, regs, live, now, clkRun, granAcc, phase, dom, latch, heldW, enHeld, inbox, recQ, sd, freeCtr, out, unit, drv, img, hq, bram, gov, therm, sump, seam, gan, plumb, mon, time, path, parser, cmd, boot, test, smb, pcie⟩ off = wordT regs off := rfl

/-- A property that a step of a fold keeps. -/
theorem foldl_keeps {α : Type} (Q : State → Prop) {f : State → α → State} {l : List α} {s : State} (h : Q s) (hf : ∀ s a, Q s → Q (f s a)) : Q (l.foldl f s) := by
  induction l generalizing s with
  | nil => exact h
  | cons a l ih => exact ih (hf _ _ h)
theorem ite_keeps (Q : State → Prop) {c : Prop} [Decidable c] {a b : State} (ha : Q a) (hb : Q b) : Q (if c then a else b) := by split <;> assumption

end Sys2Proof.Machine
end

