-- ==== Sys2Proof/Laws/KeepBase.lean ====
section
/-! SUPPORT. What every operation keeps (State.Ok): the named operations. -/
namespace Sys2Proof.Machine

/-- A property of global states that the changes of R25 without a reset keep. -/
def DevClosed (D : DevState → Prop) : Prop := ∀ a b, DevEdge a b → D a → D b

/-- What every command keeps of the state's parts: board SDRAM, the register map, the domains, the parser's live words, the elements and the capture rings in canonical form, network time within the counter's range (R234), and of the global state whatever the changes of R25 keep. -/
structure Parts (D : DevState → Prop) (sd : List Host.Cell) (regs : Tab Word) (dom : Tab Dom) (now : Nat) (dev : DevState) (live : Tab Word) (elems : Tab ElemSt) (rings : Tab RingSt) : Prop where
  memory : Memory.wf sd = true
  words : tabWf resetWord regs
  domains : tabWf (fun _ => Dom.onIdle) dom
  clock : now < timeWrap
  global : D dev
  parser : tabWf resetWord live
  elements : tabWf (fun _ => ElemSt.idle) elems
  capture : tabWf (fun _ => RingSt.idle) rings

variable {D : DevState → Prop} {sd : List Host.Cell} {regs : Tab Word} {dom : Tab Dom} {now : Nat} {dev : DevState} {live : Tab Word} {elems : Tab ElemSt} {rings : Tab RingSt}

theorem Parts.withMemory (h : Parts D sd regs dom now dev live elems rings) {x : List Host.Cell} (hx : Memory.wf x = true) : Parts D x regs dom now dev live elems rings :=
  { h with memory := hx }
theorem Parts.withWords (h : Parts D sd regs dom now dev live elems rings) {x : Tab Word} (hx : tabWf resetWord x) : Parts D sd x dom now dev live elems rings :=
  { h with words := hx }
theorem Parts.withDomains (h : Parts D sd regs dom now dev live elems rings) {x : Tab Dom} (hx : tabWf (fun _ => Dom.onIdle) x) : Parts D sd regs x now dev live elems rings :=
  { h with domains := hx }
theorem Parts.withClock (h : Parts D sd regs dom now dev live elems rings) {x : Nat} (hx : x < timeWrap) : Parts D sd regs dom x dev live elems rings :=
  { h with clock := hx }
theorem Parts.withGlobal {E : DevState → Prop} {x : DevState} (h : Parts D sd regs dom now dev live elems rings) (hx : E x) : Parts E sd regs dom now x live elems rings :=
  { h with global := hx }
theorem Parts.withParser (h : Parts D sd regs dom now dev live elems rings) {x : Tab Word} (hx : tabWf resetWord x) : Parts D sd regs dom now dev x elems rings :=
  { h with parser := hx }
theorem Parts.withElements (h : Parts D sd regs dom now dev live elems rings) {x : Tab ElemSt} (hx : tabWf (fun _ => ElemSt.idle) x) : Parts D sd regs dom now dev live x rings :=
  { h with elements := hx }
theorem Parts.withCapture (h : Parts D sd regs dom now dev live elems rings) {x : Tab RingSt} (hx : tabWf (fun _ => RingSt.idle) x) : Parts D sd regs dom now dev live elems x :=
  { h with capture := hx }

/-- A state whose parts are well formed, with a property of its global state. -/
def State.Ok (D : DevState → Prop) (s : State) : Prop := Parts D s.sd s.regs s.dom s.now s.dev s.live s.bram.elems s.mon.rings

theorem ok_mk {D : DevState → Prop} {pending dev regs live now clkRun granAcc phase dom latch heldW enHeld inbox recQ sd freeCtr out unit drv img hq bram gov therm sump seam gan plumb mon time path parser cmd boot test smb pcie} :
  State.Ok D ⟨pending, dev, regs, live, now, clkRun, granAcc, phase, dom, latch, heldW, enHeld, inbox, recQ, sd, freeCtr, out, unit, drv, img, hq, bram, gov, therm, sump, seam, gan, plumb, mon, time, path, parser, cmd, boot, test, smb, pcie⟩ ↔ Parts D sd regs dom now dev live bram.elems mon.rings := Iff.rfl
theorem parts_ok {D : DevState → Prop} {s : State} (h : s.Ok D) : Parts D s.sd s.regs s.dom s.now s.dev s.live s.bram.elems s.mon.rings := h
/-- A sound state whose global state has a property. -/
theorem State.Sound.ok {s : State} (h : s.Sound) {D : DevState → Prop} (hd : D s.dev) : s.Ok D :=
  ⟨h.memory, h.words, h.domains, h.clock, hd, h.parser, h.elements, h.capture⟩
/-- A well-formed state is sound. -/
theorem State.Ok.sound {D : DevState → Prop} {s : State} (h : s.Ok D) : s.Sound :=
  ⟨h.memory, h.words, h.domains, h.clock, h.parser, h.elements, h.capture⟩
/-- A well-formed state has its own global state. -/
theorem State.Ok.same {D : DevState → Prop} {s : State} (h : s.Ok D) : s.Ok (· = s.dev) := Parts.withGlobal h rfl

/-- Where there is a next state it is kept. -/
def OptOk (D : DevState → Prop) (o : Option State) : Prop := ∀ t, o = some t → t.Ok D

theorem optOk_some {D : DevState → Prop} {t : State} (h : t.Ok D) : OptOk D (some t) := fun _ e => Option.some.inj e ▸ h

theorem optOk_none {D : DevState → Prop} : OptOk D none := fun _ e => nomatch e

theorem ok_step {D : DevState → Prop} {c : Prop} [Decidable c] {a b : State} (hb : b.Ok D) (ha : b.Ok D → a.Ok D) : State.Ok D (if c then a else b) := by
  split
  · exact ha hb
  · exact hb
theorem ok_foldl {D : DevState → Prop} {α : Type} {f : State → α → State} {l : List α} {s : State} (h : s.Ok D) (hf : ∀ s a, State.Ok D s → State.Ok D (f s a)) : State.Ok D (l.foldl f s) := by
  induction l generalizing s with
  | nil => exact h
  | cons a l ih => exact ih (hf _ _ h)

theorem State.wrW_ok {D : DevState → Prop} {s : State} (off : Nat) (w : Word) (h : s.Ok D) : (s.wrW off w).Ok D := Parts.withWords h (tabPut_wf h.words off w)
theorem State.live_ok {D : DevState → Prop} {s : State} (off : Nat) (w : Word) (h : s.Ok D) : State.Ok D { s with live := tabPut s.live (resetWord off) off w } :=
  Parts.withParser h (tabPut_wf h.parser off w)
theorem State.clearRange_ok {D : DevState → Prop} {s : State} (off n : Nat) (h : s.Ok D) : (s.clearRange off n).Ok D := Parts.withWords h (tab_filter_wf _ h.words)
theorem State.setDomain_ok {D : DevState → Prop} {s : State} (d : Nat) (v : Dom) (h : s.Ok D) : (s.setDomain d v).Ok D := Parts.withDomains h (tabPut_wf (d := fun _ => Dom.onIdle) h.domains d v)
theorem State.sdWrite_ok {D : DevState → Prop} {s : State} (a : Nat) (l : List Byte) (h : s.Ok D) : (s.sdWrite a l).Ok D := Parts.withMemory h (memWrite_wf h.memory a l)

theorem State.wr_ok {D : DevState → Prop} {s : State} (f : Fld) (v : Nat) (h : s.Ok D) : (State.wr s f v).Ok D := by
  unfold State.wr
  repeat' (first | with_reducible assumption | with_reducible apply State.wrW_ok | with_reducible refine ok_foldl ?_ (fun _ _ _ => ?_) | with_reducible refine ok_step ?_ (fun _ => ?_) | dsimp only | split | intro _)

theorem State.put_ok {D : DevState → Prop} {s : State} (f : Fld) (b : Bool) (h : s.Ok D) : (State.put s f b).Ok D := by
  unfold State.put
  repeat' (first | with_reducible assumption | with_reducible apply State.wr_ok | with_reducible refine ok_foldl ?_ (fun _ _ _ => ?_) | with_reducible refine ok_step ?_ (fun _ => ?_) | dsimp only | split | intro _)

theorem State.add_ok {D : DevState → Prop} {s : State} (f : Fld) (n : Nat) (h : s.Ok D) : (State.add s f n).Ok D := by
  unfold State.add
  repeat' (first | with_reducible assumption | with_reducible apply State.wr_ok | with_reducible refine ok_foldl ?_ (fun _ _ _ => ?_) | with_reducible refine ok_step ?_ (fun _ => ?_) | dsimp only | split | intro _)

theorem State.inc_ok {D : DevState → Prop} {s : State} (f : Fld) (h : s.Ok D) : (State.inc s f).Ok D := by
  unfold State.inc
  repeat' (first | with_reducible assumption | with_reducible apply State.add_ok | with_reducible refine ok_foldl ?_ (fun _ _ _ => ?_) | with_reducible refine ok_step ?_ (fun _ => ?_) | dsimp only | split | intro _)

theorem State.incWrap_ok {D : DevState → Prop} {s : State} (f : Fld) (h : s.Ok D) : (State.incWrap s f).Ok D := by
  unfold State.incWrap
  repeat' (first | with_reducible assumption | with_reducible apply State.wr_ok | with_reducible refine ok_foldl ?_ (fun _ _ _ => ?_) | with_reducible refine ok_step ?_ (fun _ => ?_) | dsimp only | split | intro _)

theorem State.start_ok {D : DevState → Prop} {s : State} (h : s.Ok D) : (State.start s).Ok D := by
  unfold State.start
  repeat' (first | with_reducible assumption | with_reducible refine ok_foldl ?_ (fun _ _ _ => ?_) | with_reducible refine ok_step ?_ (fun _ => ?_) | dsimp only | split | (simp only [↓ok_mk]; with_reducible refine parts_ok ?_) | intro _)

theorem State.emit_ok {D : DevState → Prop} {s : State} (o : Out) (h : s.Ok D) : (State.emit s o).Ok D := by
  unfold State.emit
  repeat' (first | with_reducible assumption | with_reducible refine ok_foldl ?_ (fun _ _ _ => ?_) | with_reducible refine ok_step ?_ (fun _ => ?_) | dsimp only | split | (simp only [↓ok_mk]; with_reducible refine parts_ok ?_) | intro _)

theorem State.draw_ok {D : DevState → Prop} {s : State} (h : s.Ok D) : (State.draw s).Ok D := by
  unfold State.draw
  repeat' (first | with_reducible assumption | with_reducible refine ok_foldl ?_ (fun _ _ _ => ?_) | with_reducible refine ok_step ?_ (fun _ => ?_) | dsimp only | split | (simp only [↓ok_mk]; with_reducible refine parts_ok ?_) | intro _)

theorem State.wrTime_ok {D : DevState → Prop} {s : State} (off : Nat) (t : Nat) (h : s.Ok D) : (State.wrTime s off t).Ok D := by
  unfold State.wrTime
  repeat' (first | with_reducible assumption | with_reducible apply State.wrW_ok | with_reducible refine ok_foldl ?_ (fun _ _ _ => ?_) | with_reducible refine ok_step ?_ (fun _ => ?_) | dsimp only | split | intro _)

theorem State.wr64_ok {D : DevState → Prop} {s : State} (off : Nat) (v : Nat) (h : s.Ok D) : (State.wr64 s off v).Ok D := by
  unfold State.wr64
  repeat' (first | with_reducible assumption | with_reducible apply State.wrW_ok | with_reducible refine ok_foldl ?_ (fun _ _ _ => ?_) | with_reducible refine ok_step ?_ (fun _ => ?_) | dsimp only | split | intro _)

theorem State.err_ok {D : DevState → Prop} {s : State} (pg : Nat) (off : Nat) (h : s.Ok D) : (State.err s pg off).Ok D := by
  unfold State.err
  repeat' (first | with_reducible assumption | with_reducible apply State.wr_ok | with_reducible apply State.inc_ok | with_reducible refine ok_foldl ?_ (fun _ _ _ => ?_) | with_reducible refine ok_step ?_ (fun _ => ?_) | dsimp only | split | intro _)

theorem State.raise_ok {D : DevState → Prop} {s : State} (src : Nat) (data : Nat) (h : s.Ok D) : (State.raise s src data).Ok D := by
  unfold State.raise
  repeat' (first | with_reducible assumption | with_reducible refine ok_foldl ?_ (fun _ _ _ => ?_) | with_reducible refine ok_step ?_ (fun _ => ?_) | dsimp only | split | (simp only [↓ok_mk]; with_reducible refine parts_ok ?_) | intro _)

theorem State.raiseDirect_ok {D : DevState → Prop} {s : State} (src : Nat) (data : Nat) (h : s.Ok D) : (State.raiseDirect s src data).Ok D := by
  unfold State.raiseDirect
  repeat' (first | with_reducible assumption | with_reducible refine ok_foldl ?_ (fun _ _ _ => ?_) | with_reducible refine ok_step ?_ (fun _ => ?_) | dsimp only | split | (simp only [↓ok_mk]; with_reducible refine parts_ok ?_) | intro _)

theorem State.msix_ok {D : DevState → Prop} {s : State} (v : Nat) (h : s.Ok D) : (State.msix s v).Ok D := by
  unfold State.msix
  repeat' (first | with_reducible assumption | with_reducible apply State.wr_ok | with_reducible apply State.emit_ok | with_reducible refine ok_foldl ?_ (fun _ _ _ => ?_) | with_reducible refine ok_step ?_ (fun _ => ?_) | dsimp only | split | (simp only [↓ok_mk]; with_reducible refine parts_ok ?_) | intro _)

theorem State.qWrite_ok {D : DevState → Prop} {s : State} (inSd : Bool) (a : Nat) (l : List Byte) (h : s.Ok D) : (State.qWrite s inSd a l).Ok D := by
  unfold State.qWrite
  repeat' (first | with_reducible assumption | with_reducible apply State.sdWrite_ok | with_reducible apply State.emit_ok | with_reducible apply State.inc_ok | with_reducible refine ok_foldl ?_ (fun _ _ _ => ?_) | with_reducible refine ok_step ?_ (fun _ => ?_) | dsimp only | split | (simp only [↓ok_mk]; with_reducible refine parts_ok ?_) | intro _)

theorem State.rawBit_ok {D : DevState → Prop} {s : State} (pg : Nat) (bit : Nat) (h : s.Ok D) : (State.rawBit s pg bit).Ok D := by
  unfold State.rawBit
  repeat' (first | with_reducible assumption | with_reducible apply State.wr_ok | with_reducible refine ok_foldl ?_ (fun _ _ _ => ?_) | with_reducible refine ok_step ?_ (fun _ => ?_) | dsimp only | split | intro _)

theorem State.eqPut_ok {D : DevState → Prop} {s : State} (pg : Nat) (bit : Nat) (pend : Nat) (t : Nat) (h : s.Ok D) : (State.eqPut s pg bit pend t).Ok D := by
  unfold State.eqPut
  repeat' (first | with_reducible assumption | with_reducible apply State.rawBit_ok | with_reducible apply State.inc_ok | with_reducible apply State.qWrite_ok | with_reducible apply State.wr_ok | with_reducible apply State.msix_ok | with_reducible refine ok_foldl ?_ (fun _ _ _ => ?_) | with_reducible refine ok_step ?_ (fun _ => ?_) | dsimp only | split | (simp only [↓ok_mk]; with_reducible refine parts_ok ?_) | intro _)

theorem State.post_ok {D : DevState → Prop} {s : State} (pg : Nat) (bit : Nat) (pend : Nat) (h : s.Ok D) : (State.post s pg bit pend).Ok D := by
  unfold State.post
  repeat' (first | with_reducible assumption | with_reducible apply State.eqPut_ok | with_reducible refine ok_foldl ?_ (fun _ _ _ => ?_) | with_reducible refine ok_step ?_ (fun _ => ?_) | dsimp only | split | (simp only [↓ok_mk]; with_reducible refine parts_ok ?_) | intro _)

theorem State.postWaiting_ok {D : DevState → Prop} {s : State} (h : s.Ok D) : (State.postWaiting s).Ok D := by
  unfold State.postWaiting
  repeat' (first | with_reducible assumption | with_reducible apply State.eqPut_ok | with_reducible refine ok_foldl ?_ (fun _ _ _ => ?_) | with_reducible refine ok_step ?_ (fun _ => ?_) | dsimp only | split | (simp only [↓ok_mk]; with_reducible refine parts_ok ?_) | intro _)

theorem State.postNew_ok {D : DevState → Prop} {s : State} (pg : Nat) (before : Word) (h : s.Ok D) : (State.postNew s pg before).Ok D := by
  unfold State.postNew
  repeat' (first | with_reducible assumption | with_reducible apply State.post_ok | with_reducible refine ok_foldl ?_ (fun _ _ _ => ?_) | with_reducible refine ok_step ?_ (fun _ => ?_) | dsimp only | split | intro _)

theorem State.evt_ok {D : DevState → Prop} {s : State} (pg : Nat) (bit : Nat) (h : s.Ok D) : (State.evt s pg bit).Ok D := by
  unfold State.evt
  repeat' (first | with_reducible assumption | with_reducible apply State.postNew_ok | with_reducible apply State.rawBit_ok | with_reducible refine ok_foldl ?_ (fun _ _ _ => ?_) | with_reducible refine ok_step ?_ (fun _ => ?_) | dsimp only | split | intro _)

theorem State.goto_ok {D : DevState → Prop} {s : State} (d : DevState) (h : s.Ok D) (hd : D d) : (s.goto d).Ok D := by
  have h' : ∀ b : BootSt, State.Ok D { s with dev := d, boot := b } := fun b => Parts.withGlobal h hd
  unfold State.goto
  repeat' (first | with_reducible assumption | with_reducible apply State.evt_ok | with_reducible apply h' | dsimp only | split)

theorem State.zero_ok {D : DevState → Prop} {s : State} (l : List Fld) (h : s.Ok D) : (State.zero s l).Ok D := by
  unfold State.zero
  repeat' (first | with_reducible assumption | with_reducible apply State.wr_ok | with_reducible refine ok_foldl ?_ (fun _ _ _ => ?_) | with_reducible refine ok_step ?_ (fun _ => ?_) | dsimp only | split | intro _)

theorem State.setElem_ok {D : DevState → Prop} {s : State} (eid : Nat) (e : ElemSt) (h : s.Ok D) : (State.setElem s eid e).Ok D :=
  Parts.withElements h (tabPut_wf (d := fun _ => ElemSt.idle) h.elements eid e)

end Sys2Proof.Machine
end

