-- ==== Sys2Proof/Laws/KeepDrive.lean ====
section
/-! SUPPORT. What every operation keeps (State.Ok): drive tiles, converters and capture. -/
namespace Sys2Proof.Machine

theorem State.notePow_ok {D : DevState → Prop} {s : State} (t : Nat) (k : Nat) (old : Nat) (c : Nat) (h : s.Ok D) : (State.notePow s t k old c).Ok D := by
  unfold State.notePow
  repeat' (first | with_reducible assumption | with_reducible refine ok_foldl ?_ (fun _ _ _ => ?_) | with_reducible refine ok_step ?_ (fun _ => ?_) | dsimp only | split | (simp only [↓ok_mk]; with_reducible refine parts_ok ?_) | intro _)

theorem State.putLive_ok {D : DevState → Prop} {s : State} (kind : Nat) (t : Nat) (k : Nat) (c : Nat) (bypass : Bool) (h : s.Ok D) : (State.putLive s kind t k c bypass).Ok D := by
  unfold State.putLive
  repeat' (first | with_reducible assumption | with_reducible apply State.wr_ok | with_reducible apply State.notePow_ok | with_reducible apply State.inc_ok | with_reducible refine ok_foldl ?_ (fun _ _ _ => ?_) | with_reducible refine ok_step ?_ (fun _ => ?_) | dsimp only | split | (simp only [↓ok_mk]; with_reducible refine parts_ok ?_) | intro _)

theorem State.setLive_ok {D : DevState → Prop} {s : State} (kind : Nat) (t : Nat) (k : Nat) (c : Nat) (bypass : Bool) (h : s.Ok D) : (State.setLive s kind t k c bypass).Ok D := by
  unfold State.setLive
  repeat' (first | with_reducible assumption | with_reducible apply State.putLive_ok | with_reducible refine ok_foldl ?_ (fun _ _ _ => ?_) | with_reducible refine ok_step ?_ (fun _ => ?_) | dsimp only | split | intro _)

theorem State.noteHtr_ok {D : DevState → Prop} {s : State} (t : Nat) (k : Nat) (h : s.Ok D) : (State.noteHtr s t k).Ok D := by
  unfold State.noteHtr
  repeat' (first | with_reducible assumption | with_reducible refine ok_foldl ?_ (fun _ _ _ => ?_) | with_reducible refine ok_step ?_ (fun _ => ?_) | dsimp only | split | (simp only [↓ok_mk]; with_reducible refine parts_ok ?_) | intro _)

theorem State.jobDone_ok {D : DevState → Prop} {s : State} (p : JobKind → Bool) (h : s.Ok D) : (State.jobDone s p).Ok D := by
  unfold State.jobDone
  repeat' (first | with_reducible assumption | with_reducible refine ok_foldl ?_ (fun _ _ _ => ?_) | with_reducible refine ok_step ?_ (fun _ => ?_) | dsimp only | split | (simp only [↓ok_mk]; with_reducible refine parts_ok ?_) | intro _)

theorem State.dropJob_ok {D : DevState → Prop} {s : State} (id : Nat) (h : s.Ok D) : (State.dropJob s id).Ok D := by
  unfold State.dropJob
  repeat' (first | with_reducible assumption | with_reducible refine ok_foldl ?_ (fun _ _ _ => ?_) | with_reducible refine ok_step ?_ (fun _ => ?_) | dsimp only | split | (simp only [↓ok_mk]; with_reducible refine parts_ok ?_) | intro _)

theorem State.withdraw_ok {D : DevState → Prop} {s : State} (p : JobKind → Bool) (h : s.Ok D) : (State.withdraw s p).Ok D := by
  unfold State.withdraw
  repeat' (first | with_reducible assumption | with_reducible apply State.dropJob_ok | with_reducible refine ok_foldl ?_ (fun _ _ _ => ?_) | with_reducible refine ok_step ?_ (fun _ => ?_) | dsimp only | split | (simp only [↓ok_mk]; with_reducible refine parts_ok ?_) | intro _)

theorem State.dropHeld_ok {D : DevState → Prop} {s : State} (t : Nat) (k : Nat) (h : s.Ok D) : (State.dropHeld s t k).Ok D := by
  unfold State.dropHeld
  repeat' (first | with_reducible assumption | with_reducible apply State.jobDone_ok | with_reducible apply State.put_ok | with_reducible apply State.inc_ok | with_reducible refine ok_foldl ?_ (fun _ _ _ => ?_) | with_reducible refine ok_step ?_ (fun _ => ?_) | dsimp only | split | (simp only [↓ok_mk]; with_reducible refine parts_ok ?_) | intro _)

theorem State.directLive_ok {D : DevState → Prop} {s : State} (kind : Nat) (t : Nat) (k : Nat) (c : Nat) (h : s.Ok D) : (State.directLive s kind t k c).Ok D := by
  unfold State.directLive
  repeat' (first | with_reducible assumption | with_reducible apply State.inc_ok | with_reducible apply State.setLive_ok | with_reducible apply State.noteHtr_ok | with_reducible refine ok_foldl ?_ (fun _ _ _ => ?_) | with_reducible refine ok_step ?_ (fun _ => ?_) | dsimp only | split | intro _)

theorem State.direct_ok {D : DevState → Prop} {s : State} (kind : Nat) (t : Nat) (k : Nat) (c : Nat) (h : s.Ok D) : (State.direct s kind t k c).Ok D := by
  unfold State.direct
  repeat' (first | with_reducible assumption | with_reducible apply State.inc_ok | with_reducible apply State.directLive_ok | with_reducible apply State.put_ok | with_reducible refine ok_foldl ?_ (fun _ _ _ => ?_) | with_reducible refine ok_step ?_ (fun _ => ?_) | dsimp only | split | (simp only [↓ok_mk]; with_reducible refine parts_ok ?_) | intro _)

theorem State.directFast_ok {D : DevState → Prop} {s : State} (eid : Nat) (c : Int) (h : s.Ok D) : (State.directFast s eid c).Ok D := by
  unfold State.directFast
  repeat' (first | with_reducible assumption | with_reducible apply State.direct_ok | with_reducible refine ok_foldl ?_ (fun _ _ _ => ?_) | with_reducible refine ok_step ?_ (fun _ => ?_) | dsimp only | split | intro _)

theorem State.directHtr_ok {D : DevState → Prop} {s : State} (eid : Nat) (c : Nat) (h : s.Ok D) : (State.directHtr s eid c).Ok D := by
  unfold State.directHtr
  repeat' (first | with_reducible assumption | with_reducible apply State.direct_ok | with_reducible refine ok_foldl ?_ (fun _ _ _ => ?_) | with_reducible refine ok_step ?_ (fun _ => ?_) | dsimp only | split | intro _)

theorem State.shapesEnded_ok {D : DevState → Prop} {s : State} (t : Nat) (h : s.Ok D) : (State.shapesEnded s t).Ok D := by
  unfold State.shapesEnded
  repeat' (first | with_reducible assumption | with_reducible apply State.put_ok | with_reducible apply State.evt_ok | with_reducible apply State.wr_ok | with_reducible refine ok_foldl ?_ (fun _ _ _ => ?_) | with_reducible refine ok_step ?_ (fun _ => ?_) | dsimp only | split | intro _)

theorem State.stopPlay_ok {D : DevState → Prop} {s : State} (t : Nat) (k : Nat) (h : s.Ok D) : (State.stopPlay s t k).Ok D := by
  unfold State.stopPlay
  repeat' (first | with_reducible assumption | with_reducible apply State.shapesEnded_ok | with_reducible refine ok_foldl ?_ (fun _ _ _ => ?_) | with_reducible refine ok_step ?_ (fun _ => ?_) | dsimp only | split | (simp only [↓ok_mk]; with_reducible refine parts_ok ?_) | intro _)

theorem State.startPlay_ok {D : DevState → Prop} {s : State} (t : Nat) (k : Nat) (new : Nat) (shape : Nat) (h : s.Ok D) : (State.startPlay s t k new shape).Ok D := by
  unfold State.startPlay
  repeat' (first | with_reducible assumption | with_reducible apply State.setLive_ok | with_reducible apply State.put_ok | with_reducible refine ok_foldl ?_ (fun _ _ _ => ?_) | with_reducible refine ok_step ?_ (fun _ => ?_) | dsimp only | split | (simp only [↓ok_mk]; with_reducible refine parts_ok ?_) | intro _)

theorem State.playTick_ok {D : DevState → Prop} {s : State} (h : s.Ok D) : (State.playTick s).Ok D := by
  unfold State.playTick
  repeat' (first | with_reducible assumption | with_reducible apply State.setLive_ok | with_reducible refine ok_foldl ?_ (fun _ _ _ => ?_) | with_reducible refine ok_step ?_ (fun _ => ?_) | dsimp only | split | (simp only [↓ok_mk]; with_reducible refine parts_ok ?_) | intro _)

theorem State.loadSafe_ok {D : DevState → Prop} {s : State} (t : Nat) (h : s.Ok D) : (State.loadSafe s t).Ok D := by
  unfold State.loadSafe
  repeat' (first | with_reducible assumption | with_reducible apply State.wr_ok | with_reducible apply State.put_ok | with_reducible refine ok_foldl ?_ (fun _ _ _ => ?_) | with_reducible refine ok_step ?_ (fun _ => ?_) | dsimp only | split | intro _)

theorem State.safeChan_ok {D : DevState → Prop} {s : State} (t : Nat) (k : Nat) (h : s.Ok D) : (State.safeChan s t k).Ok D := by
  unfold State.safeChan
  repeat' (first | with_reducible assumption | with_reducible apply State.put_ok | with_reducible apply State.setLive_ok | with_reducible apply State.stopPlay_ok | with_reducible refine ok_foldl ?_ (fun _ _ _ => ?_) | with_reducible refine ok_step ?_ (fun _ => ?_) | dsimp only | split | intro _)

theorem State.safeTile_ok {D : DevState → Prop} {s : State} (t : Nat) (h : s.Ok D) : (State.safeTile s t).Ok D := by
  unfold State.safeTile
  repeat' (first | with_reducible assumption | with_reducible apply State.safeChan_ok | with_reducible refine ok_foldl ?_ (fun _ _ _ => ?_) | with_reducible refine ok_step ?_ (fun _ => ?_) | dsimp only | split | (simp only [↓ok_mk]; with_reducible refine parts_ok ?_) | intro _)

theorem State.safeStrobe_ok {D : DevState → Prop} {s : State} (h : s.Ok D) : (State.safeStrobe s).Ok D := by
  unfold State.safeStrobe
  repeat' (first | with_reducible assumption | with_reducible apply State.safeTile_ok | with_reducible refine ok_foldl ?_ (fun _ _ _ => ?_) | with_reducible refine ok_step ?_ (fun _ => ?_) | dsimp only | split | intro _)

theorem State.dropProbe_ok {D : DevState → Prop} {s : State} (eid : Nat) (h : s.Ok D) : (State.dropProbe s eid).Ok D := by
  unfold State.dropProbe
  repeat' (first | with_reducible assumption | with_reducible apply State.setElem_ok | with_reducible apply State.directFast_ok | with_reducible refine ok_foldl ?_ (fun _ _ _ => ?_) | with_reducible refine ok_step ?_ (fun _ => ?_) | dsimp only | split | intro _)

theorem State.abortProbe_ok {D : DevState → Prop} {s : State} (eid : Nat) (h : s.Ok D) : (State.abortProbe s eid).Ok D := by
  unfold State.abortProbe
  repeat' (first | with_reducible assumption | with_reducible apply State.inc_ok | with_reducible apply State.dropProbe_ok | with_reducible refine ok_foldl ?_ (fun _ _ _ => ?_) | with_reducible refine ok_step ?_ (fun _ => ?_) | dsimp only | split | intro _)

theorem State.setStatus_ok {D : DevState → Prop} {s : State} (eid : Nat) (st : Nat) (why : Nat) (h : s.Ok D) : (State.setStatus s eid st why).Ok D := by
  unfold State.setStatus
  repeat' (first | with_reducible assumption | with_reducible apply State.withdraw_ok | with_reducible apply State.wr_ok | with_reducible apply State.put_ok | with_reducible refine ok_foldl ?_ (fun _ _ _ => ?_) | with_reducible refine ok_step ?_ (fun _ => ?_) | dsimp only | split | intro _)

theorem State.dropElemHeld_ok {D : DevState → Prop} {s : State} (eid : Nat) (h : s.Ok D) : (State.dropElemHeld s eid).Ok D := by
  unfold State.dropElemHeld
  repeat' (first | with_reducible assumption | with_reducible apply State.dropHeld_ok | with_reducible refine ok_foldl ?_ (fun _ _ _ => ?_) | with_reducible refine ok_step ?_ (fun _ => ?_) | dsimp only | split | intro _)

theorem State.elemOff_ok {D : DevState → Prop} {s : State} (eid : Nat) (h : s.Ok D) : (State.elemOff s eid).Ok D := by
  unfold State.elemOff
  repeat' (first | with_reducible assumption | with_reducible apply State.setStatus_ok | with_reducible apply State.dropElemHeld_ok | with_reducible apply State.dropProbe_ok | with_reducible refine ok_foldl ?_ (fun _ _ _ => ?_) | with_reducible refine ok_step ?_ (fun _ => ?_) | dsimp only | split | intro _)

theorem State.elemHold_ok {D : DevState → Prop} {s : State} (eid : Nat) (why : Nat) (h : s.Ok D) : (State.elemHold s eid why).Ok D := by
  unfold State.elemHold
  repeat' (first | with_reducible assumption | with_reducible apply State.setStatus_ok | with_reducible apply State.dropProbe_ok | with_reducible refine ok_foldl ?_ (fun _ _ _ => ?_) | with_reducible refine ok_step ?_ (fun _ => ?_) | dsimp only | split | intro _)

theorem State.refreshBand_ok {D : DevState → Prop} {s : State} (eid : Nat) (h : s.Ok D) : (State.refreshBand s eid).Ok D := by
  unfold State.refreshBand
  repeat' (first | with_reducible assumption | with_reducible apply State.wr_ok | with_reducible refine ok_foldl ?_ (fun _ _ _ => ?_) | with_reducible refine ok_step ?_ (fun _ => ?_) | dsimp only | split | intro _)

theorem State.clearHist_ok {D : DevState → Prop} {s : State} (eid : Nat) (h : s.Ok D) : (State.clearHist s eid).Ok D := by
  unfold State.clearHist
  repeat' (first | with_reducible assumption | with_reducible apply State.refreshBand_ok | with_reducible apply State.setElem_ok | with_reducible refine ok_foldl ?_ (fun _ _ _ => ?_) | with_reducible refine ok_step ?_ (fun _ => ?_) | dsimp only | split | intro _)

theorem State.elemAcquire_ok {D : DevState → Prop} {s : State} (eid : Nat) (h : s.Ok D) : (State.elemAcquire s eid).Ok D := by
  unfold State.elemAcquire
  repeat' (first | with_reducible assumption | with_reducible apply State.setStatus_ok | with_reducible apply State.put_ok | with_reducible apply State.refreshBand_ok | with_reducible apply State.setElem_ok | with_reducible refine ok_foldl ?_ (fun _ _ _ => ?_) | with_reducible refine ok_step ?_ (fun _ => ?_) | dsimp only | split | intro _)

theorem State.acquire_ok {D : DevState → Prop} {s : State} (eid : Nat) (h : s.Ok D) : (State.acquire s eid).Ok D := by
  unfold State.acquire
  repeat' (first | with_reducible assumption | with_reducible apply State.elemHold_ok | with_reducible apply State.setStatus_ok | with_reducible apply State.elemAcquire_ok | with_reducible refine ok_foldl ?_ (fun _ _ _ => ?_) | with_reducible refine ok_step ?_ (fun _ => ?_) | dsimp only | split | intro _)

theorem State.elemStart_ok {D : DevState → Prop} {s : State} (eid : Nat) (h : s.Ok D) : (State.elemStart s eid).Ok D := by
  unfold State.elemStart
  repeat' (first | with_reducible assumption | with_reducible apply State.acquire_ok | with_reducible apply State.clearHist_ok | with_reducible refine ok_foldl ?_ (fun _ _ _ => ?_) | with_reducible refine ok_step ?_ (fun _ => ?_) | dsimp only | split | intro _)

theorem State.quarantine_ok {D : DevState → Prop} {s : State} (eid : Nat) (h : s.Ok D) : (State.quarantine s eid).Ok D := by
  unfold State.quarantine
  repeat' (first | with_reducible assumption | with_reducible apply State.setStatus_ok | with_reducible apply State.dropElemHeld_ok | with_reducible apply State.dropProbe_ok | with_reducible apply State.directFast_ok | with_reducible apply State.evt_ok | with_reducible refine ok_foldl ?_ (fun _ _ _ => ?_) | with_reducible refine ok_step ?_ (fun _ => ?_) | dsimp only | split | intro _)

theorem State.keepLimits_ok {D : DevState → Prop} {s : State} (t : Nat) (h : s.Ok D) : (State.keepLimits s t).Ok D := by
  unfold State.keepLimits
  repeat' (first | with_reducible assumption | with_reducible refine ok_foldl ?_ (fun _ _ _ => ?_) | with_reducible refine ok_step ?_ (fun _ => ?_) | dsimp only | split | (simp only [↓ok_mk]; with_reducible refine parts_ok ?_) | intro _)

theorem State.toService_ok {D : DevState → Prop} {s : State} (t : Nat) (h : s.Ok D) : (State.toService s t).Ok D := by
  unfold State.toService
  repeat' (first | with_reducible assumption | with_reducible apply State.keepLimits_ok | with_reducible apply State.wr_ok | with_reducible apply State.loadSafe_ok | with_reducible apply State.elemStart_ok | with_reducible refine ok_foldl ?_ (fun _ _ _ => ?_) | with_reducible refine ok_step ?_ (fun _ => ?_) | dsimp only | split | intro _)

theorem State.elemsLeave_ok {D : DevState → Prop} {s : State} (t : Nat) (h : s.Ok D) : (State.elemsLeave s t).Ok D := by
  unfold State.elemsLeave
  repeat' (first | with_reducible assumption | with_reducible apply State.elemOff_ok | with_reducible refine ok_foldl ?_ (fun _ _ _ => ?_) | with_reducible refine ok_step ?_ (fun _ => ?_) | dsimp only | split | intro _)

theorem State.toLimit_ok {D : DevState → Prop} {s : State} (t : Nat) (h : s.Ok D) : (State.toLimit s t).Ok D := by
  unfold State.toLimit
  repeat' (first | with_reducible assumption | with_reducible apply State.wr_ok | with_reducible apply State.elemsLeave_ok | with_reducible refine ok_foldl ?_ (fun _ _ _ => ?_) | with_reducible refine ok_step ?_ (fun _ => ?_) | dsimp only | split | intro _)

theorem State.forgetTile_ok {D : DevState → Prop} {s : State} (t : Nat) (h : s.Ok D) : (State.forgetTile s t).Ok D := by
  unfold State.forgetTile
  repeat' (first | with_reducible assumption | with_reducible refine ok_foldl ?_ (fun _ _ _ => ?_) | with_reducible refine ok_step ?_ (fun _ => ?_) | dsimp only | split | (simp only [↓ok_mk]; with_reducible refine parts_ok ?_) | intro _)

theorem State.tileFresh_ok {D : DevState → Prop} {s : State} (t : Nat) (h : s.Ok D) : (State.tileFresh s t).Ok D := by
  unfold State.tileFresh
  repeat' (first | with_reducible assumption | with_reducible apply State.forgetTile_ok | with_reducible apply State.clearRange_ok | with_reducible apply State.elemsLeave_ok | with_reducible refine ok_foldl ?_ (fun _ _ _ => ?_) | with_reducible refine ok_step ?_ (fun _ => ?_) | dsimp only | split | intro _)

theorem State.tileQuiesce_ok {D : DevState → Prop} {s : State} (t : Nat) (h : s.Ok D) : (State.tileQuiesce s t).Ok D := by
  unfold State.tileQuiesce
  repeat' (first | with_reducible assumption | with_reducible apply State.elemsLeave_ok | with_reducible apply State.setLive_ok | with_reducible apply State.stopPlay_ok | with_reducible apply State.dropHeld_ok | with_reducible refine ok_foldl ?_ (fun _ _ _ => ?_) | with_reducible refine ok_step ?_ (fun _ => ?_) | dsimp only | split | intro _)

theorem State.busCheck_ok {D : DevState → Prop} {s : State} (cluster : Nat) (data : Nat) (e : Ecc) (h : s.Ok D) : (State.busCheck s cluster data e).Ok D := by
  unfold State.busCheck
  repeat' (first | with_reducible assumption | with_reducible apply State.raise_ok | with_reducible refine ok_foldl ?_ (fun _ _ _ => ?_) | with_reducible refine ok_step ?_ (fun _ => ?_) | dsimp only | split | (simp only [↓ok_mk]; with_reducible refine parts_ok ?_) | intro _)

theorem State.hostRefused_ok {D : DevState → Prop} {s : State} (t : Nat) (off : Nat) (h : s.Ok D) : (State.hostRefused s t off).Ok D := by
  unfold State.hostRefused
  repeat' (first | with_reducible assumption | with_reducible apply State.evt_ok | with_reducible apply State.err_ok | with_reducible refine ok_foldl ?_ (fun _ _ _ => ?_) | with_reducible refine ok_step ?_ (fun _ => ?_) | dsimp only | split | intro _)

theorem State.modeReq_ok {D : DevState → Prop} {s : State} (t : Nat) (req : Nat) (h : s.Ok D) : (State.modeReq s t req).Ok D := by
  unfold State.modeReq
  repeat' (first | with_reducible assumption | with_reducible apply State.toService_ok | with_reducible apply State.wr_ok | with_reducible apply State.hostRefused_ok | with_reducible apply State.toLimit_ok | with_reducible refine ok_foldl ?_ (fun _ _ _ => ?_) | with_reducible refine ok_step ?_ (fun _ => ?_) | dsimp only | split | intro _)

theorem State.codeRefused_ok {D : DevState → Prop} {s : State} (t : Nat) (off : Nat) (h : s.Ok D) : (State.codeRefused s t off).Ok D := by
  unfold State.codeRefused
  repeat' (first | with_reducible assumption | with_reducible apply State.hostRefused_ok | with_reducible apply State.inc_ok | with_reducible refine ok_foldl ?_ (fun _ _ _ => ?_) | with_reducible refine ok_step ?_ (fun _ => ?_) | dsimp only | split | intro _)

theorem State.noteHostWr_ok {D : DevState → Prop} {s : State} (key : Nat) (h : s.Ok D) : (State.noteHostWr s key).Ok D := by
  unfold State.noteHostWr
  repeat' (first | with_reducible assumption | with_reducible refine ok_foldl ?_ (fun _ _ _ => ?_) | with_reducible refine ok_step ?_ (fun _ => ?_) | dsimp only | split | (simp only [↓ok_mk]; with_reducible refine parts_ok ?_) | intro _)

theorem State.hostShadow_ok {D : DevState → Prop} {s : State} (kind : Nat) (t : Nat) (k : Nat) (c : Nat) (h : s.Ok D) : (State.hostShadow s kind t k c).Ok D := by
  unfold State.hostShadow
  repeat' (first | with_reducible assumption | with_reducible apply State.setLive_ok | with_reducible apply State.noteHostWr_ok | with_reducible apply State.wr_ok | with_reducible apply State.put_ok | with_reducible apply State.codeRefused_ok | with_reducible refine ok_foldl ?_ (fun _ _ _ => ?_) | with_reducible refine ok_step ?_ (fun _ => ?_) | dsimp only | split | intro _)

theorem State.hostDirect_ok {D : DevState → Prop} {s : State} (t : Nat) (chan : Nat) (kind : Nat) (code : Nat) (h : s.Ok D) : (State.hostDirect s t chan kind code).Ok D := by
  unfold State.hostDirect
  repeat' (first | with_reducible assumption | with_reducible apply State.err_ok | with_reducible apply State.setLive_ok | with_reducible apply State.noteHostWr_ok | with_reducible apply State.wr_ok | with_reducible apply State.noteHtr_ok | with_reducible apply State.dropHeld_ok | with_reducible apply State.codeRefused_ok | with_reducible refine ok_foldl ?_ (fun _ _ _ => ?_) | with_reducible refine ok_step ?_ (fun _ => ?_) | dsimp only | split | intro _)

theorem State.commitCodes_ok {D : DevState → Prop} {s : State} (t : Nat) (h : s.Ok D) : (State.commitCodes s t).Ok D := by
  unfold State.commitCodes
  repeat' (first | with_reducible assumption | with_reducible apply State.setLive_ok | with_reducible apply State.put_ok | with_reducible apply State.noteHtr_ok | with_reducible apply State.dropHeld_ok | with_reducible apply State.codeRefused_ok | with_reducible refine ok_foldl ?_ (fun _ _ _ => ?_) | with_reducible refine ok_step ?_ (fun _ => ?_) | dsimp only | split | (simp only [↓ok_mk]; with_reducible refine parts_ok ?_) | intro _)

theorem State.commitShapes_ok {D : DevState → Prop} {s : State} (t : Nat) (h : s.Ok D) : (State.commitShapes s t).Ok D := by
  unfold State.commitShapes
  repeat' (first | with_reducible assumption | with_reducible apply State.put_ok | with_reducible apply State.evt_ok | with_reducible apply State.wr_ok | with_reducible refine ok_foldl ?_ (fun _ _ _ => ?_) | with_reducible refine ok_step ?_ (fun _ => ?_) | dsimp only | split | intro _)

theorem State.shapeNext_ok {D : DevState → Prop} {s : State} (t : Nat) (h : s.Ok D) : (State.shapeNext s t).Ok D := by
  unfold State.shapeNext
  repeat' (first | with_reducible assumption | with_reducible apply State.wr_ok | with_reducible refine ok_foldl ?_ (fun _ _ _ => ?_) | with_reducible refine ok_step ?_ (fun _ => ?_) | dsimp only | split | intro _)

theorem State.shapeWrite_ok {D : DevState → Prop} {s : State} (t : Nat) (v : Nat) (h : s.Ok D) : (State.shapeWrite s t v).Ok D := by
  unfold State.shapeWrite
  repeat' (first | with_reducible assumption | with_reducible apply State.shapeNext_ok | with_reducible refine ok_foldl ?_ (fun _ _ _ => ?_) | with_reducible refine ok_step ?_ (fun _ => ?_) | dsimp only | split | (simp only [↓ok_mk]; with_reducible refine parts_ok ?_) | intro _)

theorem State.setConv_ok {D : DevState → Prop} {s : State} (n : Nat) (c : Conv) (h : s.Ok D) : (State.setConv s n c).Ok D := by
  unfold State.setConv
  repeat' (first | with_reducible assumption | with_reducible refine ok_foldl ?_ (fun _ _ _ => ?_) | with_reducible refine ok_step ?_ (fun _ => ?_) | dsimp only | split | (simp only [↓ok_mk]; with_reducible refine parts_ok ?_) | intro _)

theorem State.beginWith_ok {D : DevState → Prop} {s : State} (n : Nat) (g : Nat × Nat × Nat) (lost : List Nat) (h : s.Ok D) : (State.beginWith s n g lost).Ok D := by
  unfold State.beginWith
  repeat' (first | with_reducible assumption | with_reducible apply State.setConv_ok | with_reducible refine ok_foldl ?_ (fun _ _ _ => ?_) | with_reducible refine ok_step ?_ (fun _ => ?_) | dsimp only | split | intro _)

theorem State.beginConv_ok {D : DevState → Prop} {s : State} (n : Nat) (h : s.Ok D) : (State.beginConv s n).Ok D := by
  unfold State.beginConv
  repeat' (first | with_reducible assumption | with_reducible apply State.beginWith_ok | with_reducible refine ok_foldl ?_ (fun _ _ _ => ?_) | with_reducible refine ok_step ?_ (fun _ => ?_) | dsimp only | split | intro _)

theorem State.convNote_ok {D : DevState → Prop} {s : State} (n : Nat) (sel : Bool) (h : s.Ok D) : (State.convNote s n sel).Ok D := by
  unfold State.convNote
  repeat' (first | with_reducible assumption | with_reducible apply State.setConv_ok | with_reducible apply State.inc_ok | with_reducible refine ok_foldl ?_ (fun _ _ _ => ?_) | with_reducible refine ok_step ?_ (fun _ => ?_) | dsimp only | split | intro _)

theorem State.openSettle_ok {D : DevState → Prop} {s : State} (mid : Nat) (len : Nat) (h : s.Ok D) : (State.openSettle s mid len).Ok D := by
  unfold State.openSettle
  repeat' (first | with_reducible assumption | with_reducible refine ok_foldl ?_ (fun _ _ _ => ?_) | with_reducible refine ok_step ?_ (fun _ => ?_) | dsimp only | split | (simp only [↓ok_mk]; with_reducible refine parts_ok ?_) | intro _)

theorem State.switchRange_ok {D : DevState → Prop} {s : State} (mid : Nat) (r : Nat) (h : s.Ok D) : (State.switchRange s mid r).Ok D := by
  unfold State.switchRange
  repeat' (first | with_reducible assumption | with_reducible apply State.wr_ok | with_reducible apply State.openSettle_ok | with_reducible refine ok_foldl ?_ (fun _ _ _ => ?_) | with_reducible refine ok_step ?_ (fun _ => ?_) | dsimp only | split | intro _)

theorem State.hostRange_ok {D : DevState → Prop} {s : State} (mid : Nat) (r : Nat) (h : s.Ok D) : (State.hostRange s mid r).Ok D := by
  unfold State.hostRange
  repeat' (first | with_reducible assumption | with_reducible apply State.switchRange_ok | with_reducible refine ok_foldl ?_ (fun _ _ _ => ?_) | with_reducible refine ok_step ?_ (fun _ => ?_) | dsimp only | split | intro _)

theorem State.autoRange_ok {D : DevState → Prop} {s : State} (mid : Nat) (value : Nat) (ovr : Bool) (settling : Bool) (h : s.Ok D) : (State.autoRange s mid value ovr settling).Ok D := by
  unfold State.autoRange
  repeat' (first | with_reducible assumption | with_reducible apply State.evt_ok | with_reducible apply State.inc_ok | with_reducible apply State.switchRange_ok | with_reducible apply State.wr_ok | with_reducible refine ok_foldl ?_ (fun _ _ _ => ?_) | with_reducible refine ok_step ?_ (fun _ => ?_) | dsimp only | split | intro _)

theorem State.recordResult_ok {D : DevState → Prop} {s : State} (n : Nat) (r : Result) (h : s.Ok D) : (State.recordResult s n r).Ok D := by
  unfold State.recordResult
  repeat' (first | with_reducible assumption | with_reducible apply State.wr_ok | with_reducible apply State.wrW_ok | with_reducible apply State.inc_ok | with_reducible apply State.evt_ok | with_reducible apply State.openSettle_ok | with_reducible refine ok_foldl ?_ (fun _ _ _ => ?_) | with_reducible refine ok_step ?_ (fun _ => ?_) | dsimp only | split | intro _)

theorem State.overpower_ok {D : DevState → Prop} {s : State} (r : Result) (h : s.Ok D) : (State.overpower s r).Ok D := by
  unfold State.overpower
  repeat' (first | with_reducible assumption | with_reducible apply State.raise_ok | with_reducible refine ok_foldl ?_ (fun _ _ _ => ?_) | with_reducible refine ok_step ?_ (fun _ => ?_) | dsimp only | split | (simp only [↓ok_mk]; with_reducible refine parts_ok ?_) | intro _)

theorem State.setRing_ok {D : DevState → Prop} {s : State} (r : Nat) (g : RingSt) (h : s.Ok D) : (State.setRing s r g).Ok D :=
  Parts.withCapture h (tabPut_wf (d := fun _ => RingSt.idle) h.capture r g)

theorem State.capFlags_ok {D : DevState → Prop} {s : State} (r : Nat) (h : s.Ok D) : (State.capFlags s r).Ok D := by
  unfold State.capFlags
  repeat' (first | with_reducible assumption | with_reducible apply State.put_ok | with_reducible refine ok_foldl ?_ (fun _ _ _ => ?_) | with_reducible refine ok_step ?_ (fun _ => ?_) | dsimp only | split | intro _)

theorem State.capBufReg_ok {D : DevState → Prop} {s : State} (h : s.Ok D) : (State.capBufReg s).Ok D := by
  unfold State.capBufReg
  repeat' (first | with_reducible assumption | with_reducible apply State.wr_ok | with_reducible refine ok_foldl ?_ (fun _ _ _ => ?_) | with_reducible refine ok_step ?_ (fun _ => ?_) | dsimp only | split | intro _)

theorem State.capAppend_ok {D : DevState → Prop} {s : State} (r : Nat) (rec : List Byte) (h : s.Ok D) : (State.capAppend s r rec).Ok D := by
  unfold State.capAppend
  repeat' (first | with_reducible assumption | with_reducible apply State.capBufReg_ok | with_reducible apply State.setRing_ok | with_reducible refine ok_foldl ?_ (fun _ _ _ => ?_) | with_reducible refine ok_step ?_ (fun _ => ?_) | dsimp only | split | intro _)

theorem State.capOffer_ok {D : DevState → Prop} {s : State} (r : Nat) (rec : List Byte) (sync : Bool) (h : s.Ok D) : (State.capOffer s r rec sync).Ok D := by
  unfold State.capOffer
  repeat' (first | with_reducible assumption | with_reducible apply State.evt_ok | with_reducible apply State.inc_ok | with_reducible apply State.capAppend_ok | with_reducible refine ok_foldl ?_ (fun _ _ _ => ?_) | with_reducible refine ok_step ?_ (fun _ => ?_) | dsimp only | split | (simp only [↓ok_mk]; with_reducible refine parts_ok ?_) | intro _)

theorem State.capTake_ok {D : DevState → Prop} {s : State} (h : s.Ok D) : (State.capTake s).Ok D := by
  unfold State.capTake
  repeat' (first | with_reducible assumption | with_reducible apply State.capOffer_ok | with_reducible refine ok_foldl ?_ (fun _ _ _ => ?_) | with_reducible refine ok_step ?_ (fun _ => ?_) | dsimp only | split | (simp only [↓ok_mk]; with_reducible refine parts_ok ?_) | intro _)

theorem State.capHold_ok {D : DevState → Prop} {s : State} (r : Nat) (n : Nat) (rec : List Byte) (h : s.Ok D) : (State.capHold s r n rec).Ok D := by
  unfold State.capHold
  repeat' (first | with_reducible assumption | with_reducible apply State.capTake_ok | with_reducible refine ok_foldl ?_ (fun _ _ _ => ?_) | with_reducible refine ok_step ?_ (fun _ => ?_) | dsimp only | split | (simp only [↓ok_mk]; with_reducible refine parts_ok ?_) | intro _)

theorem State.syncAll_ok {D : DevState → Prop} {s : State} (h : s.Ok D) : (State.syncAll s).Ok D := by
  unfold State.syncAll
  repeat' (first | with_reducible assumption | with_reducible apply State.capTake_ok | with_reducible apply State.capOffer_ok | with_reducible refine ok_foldl ?_ (fun _ _ _ => ?_) | with_reducible refine ok_step ?_ (fun _ => ?_) | dsimp only | split | intro _)

theorem State.tagWrap_ok {D : DevState → Prop} {s : State} (h : s.Ok D) : (State.tagWrap s).Ok D := by
  unfold State.tagWrap
  repeat' (first | with_reducible assumption | with_reducible apply State.syncAll_ok | with_reducible refine ok_foldl ?_ (fun _ _ _ => ?_) | with_reducible refine ok_step ?_ (fun _ => ?_) | dsimp only | split | (simp only [↓ok_mk]; with_reducible refine parts_ok ?_) | intro _)

theorem State.capResult_ok {D : DevState → Prop} {s : State} (r : Nat) (x : Result) (h : s.Ok D) : (State.capResult s r x).Ok D := by
  unfold State.capResult
  repeat' (first | with_reducible assumption | with_reducible apply State.setRing_ok | with_reducible apply State.inc_ok | with_reducible apply State.capHold_ok | with_reducible refine ok_foldl ?_ (fun _ _ _ => ?_) | with_reducible refine ok_step ?_ (fun _ => ?_) | dsimp only | split | intro _)

theorem State.ringWrite_ok {D : DevState → Prop} {s : State} (base size pos : Nat) (l : List Byte) (h : s.Ok D) : (s.ringWrite base size pos l).Ok D := by
  induction l generalizing s pos with
  | nil => exact h
  | cons b l ih => exact ih _ (Parts.withMemory h (memPut_wf h.memory _ _))

theorem State.capRoom_ok {D : DevState → Prop} {s : State} (r : Nat) (n : Nat) (h : s.Ok D) : (State.capRoom s r n).Ok D := by
  unfold State.capRoom
  repeat' (first | with_reducible assumption | with_reducible apply State.evt_ok | with_reducible apply State.add_ok | with_reducible apply State.wr64_ok | with_reducible refine ok_foldl ?_ (fun _ _ _ => ?_) | with_reducible refine ok_step ?_ (fun _ => ?_) | dsimp only | split | intro _)

theorem State.burstDone_ok {D : DevState → Prop} {s : State} (r : Nat) (h : s.Ok D) : (State.burstDone s r).Ok D := by
  unfold State.burstDone
  repeat' (first | with_reducible assumption | with_reducible apply State.capRoom_ok | with_reducible apply State.ringWrite_ok | with_reducible apply State.wr64_ok | with_reducible apply State.capBufReg_ok | with_reducible apply State.setRing_ok | with_reducible apply State.capFlags_ok | with_reducible apply State.add_ok | with_reducible apply State.evt_ok | with_reducible refine ok_foldl ?_ (fun _ _ _ => ?_) | with_reducible refine ok_step ?_ (fun _ => ?_) | dsimp only | split | (simp only [↓ok_mk]; with_reducible refine parts_ok ?_) | intro _)

theorem State.capFlush_ok {D : DevState → Prop} {s : State} (r : Nat) (h : s.Ok D) : (State.capFlush s r).Ok D := by
  unfold State.capFlush
  repeat' (first | with_reducible assumption | with_reducible apply State.capTake_ok | with_reducible apply State.setRing_ok | with_reducible refine ok_foldl ?_ (fun _ _ _ => ?_) | with_reducible refine ok_step ?_ (fun _ => ?_) | dsimp only | split | intro _)

theorem State.capRun_ok {D : DevState → Prop} {s : State} (r : Nat) (on : Bool) (h : s.Ok D) : (State.capRun s r on).Ok D := by
  unfold State.capRun
  repeat' (first | with_reducible assumption | with_reducible apply State.capTake_ok | with_reducible apply State.put_ok | with_reducible apply State.setRing_ok | with_reducible apply State.capOffer_ok | with_reducible refine ok_foldl ?_ (fun _ _ _ => ?_) | with_reducible refine ok_step ?_ (fun _ => ?_) | dsimp only | split | intro _)

theorem State.capEnable_ok {D : DevState → Prop} {s : State} (r : Nat) (h : s.Ok D) : (State.capEnable s r).Ok D := by
  unfold State.capEnable
  repeat' (first | with_reducible assumption | with_reducible apply State.put_ok | with_reducible apply State.evt_ok | with_reducible apply State.err_ok | with_reducible refine ok_foldl ?_ (fun _ _ _ => ?_) | with_reducible refine ok_step ?_ (fun _ => ?_) | dsimp only | split | intro _)

theorem State.capDisable_ok {D : DevState → Prop} {s : State} (r : Nat) (h : s.Ok D) : (State.capDisable s r).Ok D := by
  unfold State.capDisable
  repeat' (first | with_reducible assumption | with_reducible apply State.put_ok | with_reducible apply State.capRun_ok | with_reducible refine ok_foldl ?_ (fun _ _ _ => ?_) | with_reducible refine ok_step ?_ (fun _ => ?_) | dsimp only | split | intro _)

theorem State.capRdWrite_ok {D : DevState → Prop} {s : State} (r : Nat) (v : Nat) (h : s.Ok D) : (State.capRdWrite s r v).Ok D := by
  unfold State.capRdWrite
  repeat' (first | with_reducible assumption | with_reducible apply State.capFlags_ok | with_reducible apply State.wr64_ok | with_reducible apply State.err_ok | with_reducible refine ok_foldl ?_ (fun _ _ _ => ?_) | with_reducible refine ok_step ?_ (fun _ => ?_) | dsimp only | split | intro _)

theorem State.restartConv_ok {D : DevState → Prop} {s : State} (n : Nat) (h : s.Ok D) : (State.restartConv s n).Ok D := by
  unfold State.restartConv
  repeat' (first | with_reducible assumption | with_reducible apply State.inc_ok | with_reducible apply State.put_ok | with_reducible apply State.add_ok | with_reducible apply State.setConv_ok | with_reducible apply State.beginWith_ok | with_reducible refine ok_foldl ?_ (fun _ _ _ => ?_) | with_reducible refine ok_step ?_ (fun _ => ?_) | dsimp only | split | intro _)

theorem State.converterRestart_ok {D : DevState → Prop} {s : State} (h : s.Ok D) : (State.converterRestart s).Ok D := by
  unfold State.converterRestart
  repeat' (first | with_reducible assumption | with_reducible apply State.capTake_ok | with_reducible apply State.evt_ok | with_reducible apply State.restartConv_ok | with_reducible apply State.tagWrap_ok | with_reducible refine ok_foldl ?_ (fun _ _ _ => ?_) | with_reducible refine ok_step ?_ (fun _ => ?_) | dsimp only | split | (simp only [↓ok_mk]; with_reducible refine parts_ok ?_) | intro _)

end Sys2Proof.Machine
end

