-- ==== Sys2Proof/Laws/KeepLoops.lean ====
section
/-! SUPPORT. What every operation keeps (State.Ok): the governor and the element loops. -/
namespace Sys2Proof.Machine

theorem State.recomputePow_ok {D : DevState → Prop} {s : State} (h : s.Ok D) : (State.recomputePow s).Ok D := by
  unfold State.recomputePow
  repeat' (first | with_reducible assumption | with_reducible refine ok_foldl ?_ (fun _ _ _ => ?_) | with_reducible refine ok_step ?_ (fun _ => ?_) | dsimp only | split | (simp only [↓ok_mk]; with_reducible refine parts_ok ?_) | intro _)

theorem State.countEvt_ok {D : DevState → Prop} {s : State} (f : Fld) (pg : Nat) (bit : Nat) (h : s.Ok D) : (State.countEvt s f pg bit).Ok D := by
  unfold State.countEvt
  repeat' (first | with_reducible assumption | with_reducible apply State.evt_ok | with_reducible apply State.inc_ok | with_reducible refine ok_foldl ?_ (fun _ _ _ => ?_) | with_reducible refine ok_step ?_ (fun _ => ?_) | dsimp only | split | intro _)

theorem State.setTarget_ok {D : DevState → Prop} {s : State} (b : Nat) (v : Nat) (force : Bool) (h : s.Ok D) : (State.setTarget s b v force).Ok D := by
  unfold State.setTarget
  repeat' (first | with_reducible assumption | with_reducible refine ok_foldl ?_ (fun _ _ _ => ?_) | with_reducible refine ok_step ?_ (fun _ => ?_) | dsimp only | split | (simp only [↓ok_mk]; with_reducible refine parts_ok ?_) | intro _)

theorem State.setBallast_ok {D : DevState → Prop} {s : State} (e : Nat → Nat) (force : Bool) (h : s.Ok D) : (State.setBallast s e force).Ok D := by
  unfold State.setBallast
  repeat' (first | with_reducible assumption | with_reducible apply State.put_ok | with_reducible apply State.setTarget_ok | with_reducible refine ok_foldl ?_ (fun _ _ _ => ?_) | with_reducible refine ok_step ?_ (fun _ => ?_) | dsimp only | split | intro _)

theorem State.ballastLive_ok {D : DevState → Prop} {s : State} (force : Bool) (h : s.Ok D) : (State.ballastLive s force).Ok D := by
  unfold State.ballastLive
  repeat' (first | with_reducible assumption | with_reducible apply State.setBallast_ok | with_reducible refine ok_foldl ?_ (fun _ _ _ => ?_) | with_reducible refine ok_step ?_ (fun _ => ?_) | dsimp only | split | intro _)

theorem State.ballastZero_ok {D : DevState → Prop} {s : State} (h : s.Ok D) : (State.ballastZero s).Ok D := by
  unfold State.ballastZero
  repeat' (first | with_reducible assumption | with_reducible apply State.put_ok | with_reducible apply State.setTarget_ok | with_reducible refine ok_foldl ?_ (fun _ _ _ => ?_) | with_reducible refine ok_step ?_ (fun _ => ?_) | dsimp only | split | intro _)

theorem State.checkHtrOver_ok {D : DevState → Prop} {s : State} (h : s.Ok D) : (State.checkHtrOver s).Ok D := by
  unfold State.checkHtrOver
  repeat' (first | with_reducible assumption | with_reducible apply State.ballastLive_ok | with_reducible apply State.ballastZero_ok | with_reducible apply State.raise_ok | with_reducible apply State.countEvt_ok | with_reducible refine ok_foldl ?_ (fun _ _ _ => ?_) | with_reducible refine ok_step ?_ (fun _ => ?_) | dsimp only | split | (simp only [↓ok_mk]; with_reducible refine parts_ok ?_) | intro _)

theorem State.wrSteps_ok {D : DevState → Prop} {s : State} (steps : List Nat) (h : s.Ok D) : (State.wrSteps s steps).Ok D := by
  unfold State.wrSteps
  repeat' (first | with_reducible assumption | with_reducible apply State.wrW_ok | with_reducible refine ok_foldl ?_ (fun _ _ _ => ?_) | with_reducible refine ok_step ?_ (fun _ => ?_) | dsimp only | split | intro _)

theorem State.noteZone_ok {D : DevState → Prop} {s : State} (m : Image) (t : Tested) (h : s.Ok D) : (State.noteZone s m t).Ok D := by
  unfold State.noteZone
  repeat' (first | with_reducible assumption | with_reducible apply State.wr_ok | with_reducible apply State.evt_ok | with_reducible refine ok_foldl ?_ (fun _ _ _ => ?_) | with_reducible refine ok_step ?_ (fun _ => ?_) | dsimp only | split | intro _)

theorem State.admitNote_ok {D : DevState → Prop} {s : State} (o : Admit) (f : Nat) (af : Nat) (fl : Nat) (steps : List Nat) (h : s.Ok D) : (State.admitNote s o f af fl steps).Ok D := by
  unfold State.admitNote
  repeat' (first | with_reducible assumption | with_reducible apply State.wr_ok | with_reducible apply State.wrSteps_ok | with_reducible apply State.inc_ok | with_reducible apply State.countEvt_ok | with_reducible refine ok_foldl ?_ (fun _ _ _ => ?_) | with_reducible refine ok_step ?_ (fun _ => ?_) | dsimp only | split | intro _)

theorem State.admitDone_ok {D : DevState → Prop} {s : State} (o : Admit) (f : Nat) (af : Nat) (fl : Nat) (steps : Option (List Nat)) (h : s.Ok D) : (State.admitDone s o f af fl steps).1.Ok D := by
  unfold State.admitDone
  repeat' (first | with_reducible assumption | with_reducible apply State.admitNote_ok | with_reducible refine ok_foldl ?_ (fun _ _ _ => ?_) | with_reducible refine ok_step ?_ (fun _ => ?_) | dsimp only | split | intro _)

theorem State.admitFail_ok {D : DevState → Prop} {s : State} (t : Tested) (alt : Option Image) (policy : Nat) (h : s.Ok D) : (State.admitFail s t alt policy).1.Ok D := by
  unfold State.admitFail
  repeat' (first | with_reducible assumption | with_reducible apply State.admitDone_ok | with_reducible apply State.noteZone_ok | with_reducible refine ok_foldl ?_ (fun _ _ _ => ?_) | with_reducible refine ok_step ?_ (fun _ => ?_) | dsimp only | split | intro _)

theorem State.admitBy_ok {D : DevState → Prop} {s : State} (t : Tested) (alt : Option Image) (policy : Nat) (h : s.Ok D) : (State.admitBy s t alt policy).1.Ok D := by
  unfold State.admitBy
  repeat' (first | with_reducible assumption | with_reducible apply State.admitFail_ok | with_reducible apply State.admitDone_ok | with_reducible refine ok_foldl ?_ (fun _ _ _ => ?_) | with_reducible refine ok_step ?_ (fun _ => ?_) | dsimp only | split | intro _)

theorem State.admission_ok {D : DevState → Prop} {s : State} (m : Image) (alt : Option Image) (policy : Nat) (h : s.Ok D) : (s.admission m alt policy).1.Ok D :=
  State.admitBy_ok _ _ _ (s.noteZone_ok _ _ h)

theorem State.offer_ok {D : DevState → Prop} {s : State} (k : JobKind) (prio : Nat) (cost : Nat) (h : s.Ok D) : (State.offer s k prio cost).Ok D := by
  unfold State.offer
  repeat' (first | with_reducible assumption | with_reducible refine ok_foldl ?_ (fun _ _ _ => ?_) | with_reducible refine ok_step ?_ (fun _ => ?_) | dsimp only | split | (simp only [↓ok_mk]; with_reducible refine parts_ok ?_) | intro _)

theorem State.request_ok {D : DevState → Prop} {s : State} (mid : Nat) (cls : Nat) (h : s.Ok D) : (State.request s mid cls).Ok D := by
  unfold State.request
  repeat' (first | with_reducible assumption | with_reducible refine ok_foldl ?_ (fun _ _ _ => ?_) | with_reducible refine ok_step ?_ (fun _ => ?_) | dsimp only | split | (simp only [↓ok_mk]; with_reducible refine parts_ok ?_) | intro _)

theorem State.requestInputs_ok {D : DevState → Prop} {s : State} (eid : Nat) (h : s.Ok D) : (State.requestInputs s eid).Ok D := by
  unfold State.requestInputs
  repeat' (first | with_reducible assumption | with_reducible apply State.request_ok | with_reducible refine ok_foldl ?_ (fun _ _ _ => ?_) | with_reducible refine ok_step ?_ (fun _ => ?_) | dsimp only | split | intro _)

theorem State.probeCode_ok {D : DevState → Prop} {s : State} (eid : Nat) (p : ProbeSt) (c : Int) (step : Nat) (h : s.Ok D) : (State.probeCode s eid p c step).Ok D := by
  unfold State.probeCode
  repeat' (first | with_reducible assumption | with_reducible apply State.directFast_ok | with_reducible apply State.request_ok | with_reducible apply State.setElem_ok | with_reducible refine ok_foldl ?_ (fun _ _ _ => ?_) | with_reducible refine ok_step ?_ (fun _ => ?_) | dsimp only | split | intro _)

theorem State.probePlus_ok {D : DevState → Prop} {s : State} (eid : Nat) (h : s.Ok D) : (State.probePlus s eid).Ok D := by
  unfold State.probePlus
  repeat' (first | with_reducible assumption | with_reducible apply State.requestInputs_ok | with_reducible apply State.probeCode_ok | with_reducible refine ok_foldl ?_ (fun _ _ _ => ?_) | with_reducible refine ok_step ?_ (fun _ => ?_) | dsimp only | split | intro _)

theorem State.probeMinus_ok {D : DevState → Prop} {s : State} (eid : Nat) (h : s.Ok D) : (State.probeMinus s eid).Ok D := by
  unfold State.probeMinus
  repeat' (first | with_reducible assumption | with_reducible apply State.probeCode_ok | with_reducible refine ok_foldl ?_ (fun _ _ _ => ?_) | with_reducible refine ok_step ?_ (fun _ => ?_) | dsimp only | split | intro _)

theorem State.probeRemove_ok {D : DevState → Prop} {s : State} (eid : Nat) (h : s.Ok D) : (State.probeRemove s eid).Ok D := by
  unfold State.probeRemove
  repeat' (first | with_reducible assumption | with_reducible apply State.directFast_ok | with_reducible apply State.setElem_ok | with_reducible refine ok_foldl ?_ (fun _ _ _ => ?_) | with_reducible refine ok_step ?_ (fun _ => ?_) | dsimp only | split | intro _)

theorem State.probeSample_ok {D : DevState → Prop} {s : State} (eid : Nat) (r : Result) (period : Nat) (h : s.Ok D) : (State.probeSample s eid r period).Ok D := by
  unfold State.probeSample
  repeat' (first | with_reducible assumption | with_reducible apply State.abortProbe_ok | with_reducible apply State.setElem_ok | with_reducible refine ok_foldl ?_ (fun _ _ _ => ?_) | with_reducible refine ok_step ?_ (fun _ => ?_) | dsimp only | split | intro _)

theorem State.stepHtr_ok {D : DevState → Prop} {s : State} (eid : Nat) (c : Nat) (h : s.Ok D) : (State.stepHtr s eid c).Ok D := by
  unfold State.stepHtr
  repeat' (first | with_reducible assumption | with_reducible apply State.checkHtrOver_ok | with_reducible apply State.directHtr_ok | with_reducible refine ok_foldl ?_ (fun _ _ _ => ?_) | with_reducible refine ok_step ?_ (fun _ => ?_) | dsimp only | split | intro _)

theorem State.saturate_ok {D : DevState → Prop} {s : State} (eid : Nat) (h : s.Ok D) : (State.saturate s eid).Ok D := by
  unfold State.saturate
  repeat' (first | with_reducible assumption | with_reducible apply State.setStatus_ok | with_reducible apply State.evt_ok | with_reducible apply State.inc_ok | with_reducible apply State.setElem_ok | with_reducible refine ok_foldl ?_ (fun _ _ _ => ?_) | with_reducible refine ok_step ?_ (fun _ => ?_) | dsimp only | split | intro _)

theorem State.wrapDrop_ok {D : DevState → Prop} {s : State} (eid : Nat) (h : s.Ok D) : (State.wrapDrop s eid).Ok D := by
  unfold State.wrapDrop
  repeat' (first | with_reducible assumption | with_reducible apply State.put_ok | with_reducible apply State.withdraw_ok | with_reducible refine ok_foldl ?_ (fun _ _ _ => ?_) | with_reducible refine ok_step ?_ (fun _ => ?_) | dsimp only | split | intro _)

theorem State.wrapCheck_ok {D : DevState → Prop} {s : State} (eid : Nat) (h : s.Ok D) : (State.wrapCheck s eid).Ok D := by
  unfold State.wrapCheck
  repeat' (first | with_reducible assumption | with_reducible apply State.put_ok | with_reducible apply State.offer_ok | with_reducible apply State.wrapDrop_ok | with_reducible refine ok_foldl ?_ (fun _ _ _ => ?_) | with_reducible refine ok_step ?_ (fun _ => ?_) | dsimp only | split | intro _)

theorem State.law_ok {D : DevState → Prop} {s : State} (eid : Nat) (g : Int) (bo : Nat) (step : Nat) (h : s.Ok D) : (State.law s eid g bo step).Ok D := by
  unfold State.law
  repeat' (first | with_reducible assumption | with_reducible apply State.put_ok | with_reducible apply State.setStatus_ok | with_reducible apply State.wrapCheck_ok | with_reducible apply State.saturate_ok | with_reducible apply State.stepHtr_ok | with_reducible refine ok_foldl ?_ (fun _ _ _ => ?_) | with_reducible refine ok_step ?_ (fun _ => ?_) | dsimp only | split | intro _)

theorem State.enterBlind_ok {D : DevState → Prop} {s : State} (eid : Nat) (why : Nat) (h : s.Ok D) : (State.enterBlind s eid why).Ok D := by
  unfold State.enterBlind
  repeat' (first | with_reducible assumption | with_reducible apply State.setStatus_ok | with_reducible apply State.abortProbe_ok | with_reducible apply State.inc_ok | with_reducible apply State.evt_ok | with_reducible apply State.setElem_ok | with_reducible refine ok_foldl ?_ (fun _ _ _ => ?_) | with_reducible refine ok_step ?_ (fun _ => ?_) | dsimp only | split | intro _)

theorem State.cellMetric_ok {D : DevState → Prop} {s : State} (eid : Nat) (pa : Int) (pb : Int) (h : s.Ok D) : (State.cellMetric s eid pa pb).Ok D := by
  unfold State.cellMetric
  repeat' (first | with_reducible assumption | with_reducible apply State.wr_ok | with_reducible refine ok_foldl ?_ (fun _ _ _ => ?_) | with_reducible refine ok_step ?_ (fun _ => ?_) | dsimp only | split | intro _)

theorem State.blindRefresh_ok {D : DevState → Prop} {s : State} (eid : Nat) (h : s.Ok D) : (State.blindRefresh s eid).Ok D := by
  unfold State.blindRefresh
  repeat' (first | with_reducible assumption | with_reducible apply State.cellMetric_ok | with_reducible apply State.enterBlind_ok | with_reducible apply State.setElem_ok | with_reducible apply State.acquire_ok | with_reducible refine ok_foldl ?_ (fun _ _ _ => ?_) | with_reducible refine ok_step ?_ (fun _ => ?_) | dsimp only | split | intro _)

theorem State.estimate_ok {D : DevState → Prop} {s : State} (eid : Nat) (h : s.Ok D) : (State.estimate s eid).Ok D := by
  unfold State.estimate
  repeat' (first | with_reducible assumption | with_reducible apply State.requestInputs_ok | with_reducible apply State.draw_ok | with_reducible apply State.cellMetric_ok | with_reducible apply State.inc_ok | with_reducible apply State.setElem_ok | with_reducible apply State.enterBlind_ok | with_reducible apply State.wr_ok | with_reducible apply State.law_ok | with_reducible refine ok_foldl ?_ (fun _ _ _ => ?_) | with_reducible refine ok_step ?_ (fun _ => ?_) | dsimp only | split | intro _)

theorem State.setAw_ok {D : DevState → Prop} {s : State} (eid : Nat) (aw : Nat) (h : s.Ok D) : (State.setAw s eid aw).Ok D := by
  unfold State.setAw
  repeat' (first | with_reducible assumption | with_reducible apply State.wr_ok | with_reducible apply State.setElem_ok | with_reducible refine ok_foldl ?_ (fun _ _ _ => ?_) | with_reducible refine ok_step ?_ (fun _ => ?_) | dsimp only | split | intro _)

theorem State.moveAw_ok {D : DevState → Prop} {s : State} (eid : Nat) (aw' : Nat) (h : s.Ok D) : (State.moveAw s eid aw').Ok D := by
  unfold State.moveAw
  repeat' (first | with_reducible assumption | with_reducible apply State.directFast_ok | with_reducible refine ok_foldl ?_ (fun _ _ _ => ?_) | with_reducible refine ok_step ?_ (fun _ => ?_) | dsimp only | split | intro _)

theorem State.measure_ok {D : DevState → Prop} {s : State} (eid : Nat) (h : s.Ok D) : (State.measure s eid).Ok D := by
  unfold State.measure
  repeat' (first | with_reducible assumption | with_reducible apply State.requestInputs_ok | with_reducible apply State.request_ok | with_reducible apply State.wr_ok | with_reducible apply State.enterBlind_ok | with_reducible apply State.put_ok | with_reducible apply State.abortProbe_ok | with_reducible apply State.refreshBand_ok | with_reducible apply State.setElem_ok | with_reducible apply State.setAw_ok | with_reducible apply State.moveAw_ok | with_reducible apply State.setStatus_ok | with_reducible apply State.law_ok | with_reducible refine ok_foldl ?_ (fun _ _ _ => ?_) | with_reducible refine ok_step ?_ (fun _ => ?_) | dsimp only | split | intro _)

theorem State.wrapSettled_ok {D : DevState → Prop} {s : State} (eid : Nat) (h : s.Ok D) : (State.wrapSettled s eid).Ok D := by
  unfold State.wrapSettled
  repeat' (first | with_reducible assumption | with_reducible apply State.acquire_ok | with_reducible refine ok_foldl ?_ (fun _ _ _ => ?_) | with_reducible refine ok_step ?_ (fun _ => ?_) | dsimp only | split | intro _)

theorem State.wrapGo_ok {D : DevState → Prop} {s : State} (eid : Nat) (h : s.Ok D) : (State.wrapGo s eid).Ok D := by
  unfold State.wrapGo
  repeat' (first | with_reducible assumption | with_reducible apply State.jobDone_ok | with_reducible apply State.wrapDrop_ok | with_reducible apply State.stepHtr_ok | with_reducible apply State.evt_ok | with_reducible apply State.inc_ok | with_reducible apply State.checkHtrOver_ok | with_reducible apply State.elemHold_ok | with_reducible refine ok_foldl ?_ (fun _ _ _ => ?_) | with_reducible refine ok_step ?_ (fun _ => ?_) | dsimp only | split | intro _)

theorem State.loopSaturated_ok {D : DevState → Prop} {s : State} (eid : Nat) (h : s.Ok D) : (State.loopSaturated s eid).Ok D := by
  unfold State.loopSaturated
  repeat' (first | with_reducible assumption | with_reducible apply State.raise_ok | with_reducible apply State.evt_ok | with_reducible apply State.setElem_ok | with_reducible refine ok_foldl ?_ (fun _ _ _ => ?_) | with_reducible refine ok_step ?_ (fun _ => ?_) | dsimp only | split | intro _)

theorem State.quarClear_ok {D : DevState → Prop} {s : State} (eid : Nat) (h : s.Ok D) : (State.quarClear s eid).Ok D := by
  unfold State.quarClear
  repeat' (first | with_reducible assumption | with_reducible apply State.err_ok | with_reducible apply State.clearHist_ok | with_reducible apply State.acquire_ok | with_reducible apply State.setStatus_ok | with_reducible apply State.refreshBand_ok | with_reducible refine ok_foldl ?_ (fun _ _ _ => ?_) | with_reducible refine ok_step ?_ (fun _ => ?_) | dsimp only | split | intro _)

theorem State.elemEn_ok {D : DevState → Prop} {s : State} (eid : Nat) (on : Bool) (h : s.Ok D) : (State.elemEn s eid on).Ok D := by
  unfold State.elemEn
  repeat' (first | with_reducible assumption | with_reducible apply State.put_ok | with_reducible apply State.elemStart_ok | with_reducible apply State.elemOff_ok | with_reducible refine ok_foldl ?_ (fun _ _ _ => ?_) | with_reducible refine ok_step ?_ (fun _ => ?_) | dsimp only | split | intro _)

theorem State.holdoffEnd_ok {D : DevState → Prop} {s : State} (eid : Nat) (h : s.Ok D) : (State.holdoffEnd s eid).Ok D := by
  unfold State.holdoffEnd
  repeat' (first | with_reducible assumption | with_reducible apply State.setElem_ok | with_reducible apply State.setStatus_ok | with_reducible apply State.acquire_ok | with_reducible refine ok_foldl ?_ (fun _ _ _ => ?_) | with_reducible refine ok_step ?_ (fun _ => ?_) | dsimp only | split | intro _)

theorem State.elemStop_ok {D : DevState → Prop} {s : State} (eid : Nat) (abort : Bool) (h : s.Ok D) : (State.elemStop s eid abort).Ok D := by
  unfold State.elemStop
  repeat' (first | with_reducible assumption | with_reducible apply State.elemHold_ok | with_reducible apply State.wrapDrop_ok | with_reducible apply State.setStatus_ok | with_reducible refine ok_foldl ?_ (fun _ _ _ => ?_) | with_reducible refine ok_step ?_ (fun _ => ?_) | dsimp only | split | intro _)

theorem State.clusterStop_ok {D : DevState → Prop} {s : State} (k : Nat) (abort : Bool) (h : s.Ok D) : (s.clusterStop k abort).Ok D := by
  have key : ∀ x : State, x.Ok D → ∀ q g, State.Ok D { x with bram := { x.bram with reqs := q, guard := g } } := fun _ h _ _ => h
  unfold State.clusterStop
  exact key _ (ok_foldl h fun _ eid h => State.elemStop_ok eid abort h) _ _

theorem State.clusterStart_ok {D : DevState → Prop} {s : State} (k : Nat) (h : s.Ok D) : (State.clusterStart s k).Ok D := by
  unfold State.clusterStart
  repeat' (first | with_reducible assumption | with_reducible apply State.acquire_ok | with_reducible refine ok_foldl ?_ (fun _ _ _ => ?_) | with_reducible refine ok_step ?_ (fun _ => ?_) | dsimp only | split | intro _)

theorem State.softStart_ok {D : DevState → Prop} {s : State} (eid : Nat) (h : s.Ok D) : (State.softStart s eid).Ok D := by
  unfold State.softStart
  repeat' (first | with_reducible assumption | with_reducible apply State.put_ok | with_reducible apply State.abortProbe_ok | with_reducible apply State.refreshBand_ok | with_reducible apply State.setElem_ok | with_reducible refine ok_foldl ?_ (fun _ _ _ => ?_) | with_reducible refine ok_step ?_ (fun _ => ?_) | dsimp only | split | intro _)

theorem State.ballastStep_ok {D : DevState → Prop} {s : State} (b : Nat) (h : s.Ok D) : (State.ballastStep s b).Ok D := by
  unfold State.ballastStep
  repeat' (first | with_reducible assumption | with_reducible apply State.direct_ok | with_reducible refine ok_foldl ?_ (fun _ _ _ => ?_) | with_reducible refine ok_step ?_ (fun _ => ?_) | dsimp only | split | (simp only [↓ok_mk]; with_reducible refine parts_ok ?_) | intro _)

theorem State.guardRequest_ok {D : DevState → Prop} {s : State} (mid : Nat) (h : s.Ok D) : (State.guardRequest s mid).Ok D := by
  unfold State.guardRequest
  repeat' (first | with_reducible assumption | with_reducible refine ok_foldl ?_ (fun _ _ _ => ?_) | with_reducible refine ok_step ?_ (fun _ => ?_) | dsimp only | split | (simp only [↓ok_mk]; with_reducible refine parts_ok ?_) | intro _)

theorem State.starve_ok {D : DevState → Prop} {s : State} (mid : Nat) (h : s.Ok D) : (State.starve s mid).Ok D := by
  unfold State.starve
  repeat' (first | with_reducible assumption | with_reducible apply State.raise_ok | with_reducible apply State.evt_ok | with_reducible apply State.inc_ok | with_reducible refine ok_foldl ?_ (fun _ _ _ => ?_) | with_reducible refine ok_step ?_ (fun _ => ?_) | dsimp only | split | intro _)

theorem State.resultTimeout_ok {D : DevState → Prop} {s : State} (mid : Nat) (h : s.Ok D) : (State.resultTimeout s mid).Ok D := by
  unfold State.resultTimeout
  repeat' (first | with_reducible assumption | with_reducible apply State.inc_ok | with_reducible apply State.request_ok | with_reducible refine ok_foldl ?_ (fun _ _ _ => ?_) | with_reducible refine ok_step ?_ (fun _ => ?_) | dsimp only | split | (simp only [↓ok_mk]; with_reducible refine parts_ok ?_) | intro _)

theorem State.steer_ok {D : DevState → Prop} {s : State} (n : Nat) (h : s.Ok D) : (State.steer s n).Ok D := by
  unfold State.steer
  repeat' (first | with_reducible assumption | with_reducible apply State.wr_ok | with_reducible refine ok_foldl ?_ (fun _ _ _ => ?_) | with_reducible refine ok_step ?_ (fun _ => ?_) | dsimp only | split | (simp only [↓ok_mk]; with_reducible refine parts_ok ?_) | intro _)

theorem State.noteConv_ok {D : DevState → Prop} {s : State} (n : Nat) (r : Result) (h : s.Ok D) : (State.noteConv s n r).Ok D := by
  unfold State.noteConv
  repeat' (first | with_reducible assumption | with_reducible refine ok_foldl ?_ (fun _ _ _ => ?_) | with_reducible refine ok_step ?_ (fun _ => ?_) | dsimp only | split | (simp only [↓ok_mk]; with_reducible refine parts_ok ?_) | intro _)

theorem State.holdoffDrop_ok {D : DevState → Prop} {s : State} (mid : Nat) (h : s.Ok D) : (State.holdoffDrop s mid).Ok D := by
  unfold State.holdoffDrop
  repeat' (first | with_reducible assumption | with_reducible apply State.inc_ok | with_reducible refine ok_foldl ?_ (fun _ _ _ => ?_) | with_reducible refine ok_step ?_ (fun _ => ?_) | dsimp only | split | intro _)

theorem State.deliver_ok {D : DevState → Prop} {s : State} (n : Nat) (r : Result) (h : s.Ok D) : (State.deliver s n r).Ok D := by
  unfold State.deliver
  repeat' (first | with_reducible assumption | with_reducible apply State.noteConv_ok | with_reducible apply State.holdoffDrop_ok | with_reducible apply State.probeSample_ok | with_reducible apply State.inc_ok | with_reducible apply State.blindRefresh_ok | with_reducible refine ok_foldl ?_ (fun _ _ _ => ?_) | with_reducible refine ok_step ?_ (fun _ => ?_) | dsimp only | split | (simp only [↓ok_mk]; with_reducible refine parts_ok ?_) | intro _)

theorem State.steerBack_ok {D : DevState → Prop} {s : State} (n : Nat) (h : s.Ok D) : (State.steerBack s n).Ok D := by
  unfold State.steerBack
  repeat' (first | with_reducible assumption | with_reducible apply State.acquire_ok | with_reducible refine ok_foldl ?_ (fun _ _ _ => ?_) | with_reducible refine ok_step ?_ (fun _ => ?_) | dsimp only | split | intro _)

theorem State.steerLost_ok {D : DevState → Prop} {s : State} (n : Nat) (h : s.Ok D) : (State.steerLost s n).Ok D := by
  unfold State.steerLost
  repeat' (first | with_reducible assumption | with_reducible apply State.enterBlind_ok | with_reducible refine ok_foldl ?_ (fun _ _ _ => ?_) | with_reducible refine ok_step ?_ (fun _ => ?_) | dsimp only | split | intro _)

theorem State.feedForward_ok {D : DevState → Prop} {s : State} (eid : Nat) (h : s.Ok D) : (State.feedForward s eid).Ok D := by
  unfold State.feedForward
  repeat' (first | with_reducible assumption | with_reducible apply State.stepHtr_ok | with_reducible refine ok_foldl ?_ (fun _ _ _ => ?_) | with_reducible refine ok_step ?_ (fun _ => ?_) | dsimp only | split | intro _)

theorem State.epochElem_ok {D : DevState → Prop} {s : State} (eid : Nat) (h : s.Ok D) : (State.epochElem s eid).Ok D := by
  unfold State.epochElem
  repeat' (first | with_reducible assumption | with_reducible apply State.feedForward_ok | with_reducible apply State.refreshBand_ok | with_reducible apply State.wrapCheck_ok | with_reducible apply State.wr_ok | with_reducible refine ok_foldl ?_ (fun _ _ _ => ?_) | with_reducible refine ok_step ?_ (fun _ => ?_) | dsimp only | split | intro _)

theorem State.epochCluster_ok {D : DevState → Prop} {s : State} (k : Nat) (h : s.Ok D) : (State.epochCluster s k).Ok D := by
  unfold State.epochCluster
  repeat' (first | with_reducible assumption | with_reducible apply State.wr_ok | with_reducible apply State.inc_ok | with_reducible apply State.incWrap_ok | with_reducible refine ok_foldl ?_ (fun _ _ _ => ?_) | with_reducible refine ok_step ?_ (fun _ => ?_) | dsimp only | split | intro _)

theorem State.loopEpoch_ok {D : DevState → Prop} {s : State} (h : s.Ok D) : (State.loopEpoch s).Ok D := by
  have key : ∀ l : List Nat, State.Ok D ([0, 1, 2, 3].foldl State.epochCluster (l.foldl State.epochElem s)) := fun l =>
    ok_foldl (ok_foldl h fun _ e h => State.epochElem_ok e h) fun _ k h => State.epochCluster_ok k h
  have fresh : ∀ x : State, x.Ok D → State.Ok D { x with bram := { x.bram with fresh := [] } } := fun _ h => h
  unfold State.loopEpoch
  generalize allElems = l
  exact State.ballastLive_ok false (State.checkHtrOver_ok (State.recomputePow_ok (fresh _ (key l))))

theorem State.swapProbes_ok {D : DevState → Prop} {s : State} (h : s.Ok D) : (State.swapProbes s).Ok D := by
  unfold State.swapProbes
  repeat' (first | with_reducible assumption | with_reducible apply State.abortProbe_ok | with_reducible refine ok_foldl ?_ (fun _ _ _ => ?_) | with_reducible refine ok_step ?_ (fun _ => ?_) | dsimp only | split | intro _)

end Sys2Proof.Machine
end

