-- ==== Sys2Proof/Laws/KeepGantry.lean ====
section
/-! SUPPORT. What every operation keeps (State.Ok): images, transitions and Gantry. -/
namespace Sys2Proof.Machine

theorem State.sdEcc_ok {D : DevState → Prop} {s : State} (a : Nat) (e : Ecc) (h : s.Ok D) : (State.sdEcc s a e).Ok D := by
  unfold State.sdEcc
  repeat' (first | with_reducible assumption | with_reducible apply State.inc_ok | with_reducible apply State.wr_ok | with_reducible apply State.raise_ok | with_reducible apply State.evt_ok | with_reducible refine ok_foldl ?_ (fun _ _ _ => ?_) | with_reducible refine ok_step ?_ (fun _ => ?_) | dsimp only | split | intro _)

theorem State.setValid_ok {D : DevState → Prop} {s : State} (n : Nat) (b : Bool) (h : s.Ok D) : (State.setValid s n b).Ok D := by
  unfold State.setValid
  repeat' (first | with_reducible assumption | with_reducible apply State.wr_ok | with_reducible refine ok_foldl ?_ (fun _ _ _ => ?_) | with_reducible refine ok_step ?_ (fun _ => ?_) | dsimp only | split | intro _)

theorem State.writeSlot_ok {D : DevState → Prop} {s : State} (n : Nat) (b : List Byte) (valid : Bool) (h : s.Ok D) : (State.writeSlot s n b valid).Ok D := by
  unfold State.writeSlot
  repeat' (first | with_reducible assumption | with_reducible apply State.wrW_ok | with_reducible apply State.setValid_ok | with_reducible refine ok_foldl ?_ (fun _ _ _ => ?_) | with_reducible refine ok_step ?_ (fun _ => ?_) | dsimp only | split | intro _)

theorem State.slotWord_ok {D : DevState → Prop} {s : State} (n : Nat) (i : Nat) (w : Word) (h : s.Ok D) : (State.slotWord s n i w).Ok D := by
  unfold State.slotWord
  repeat' (first | with_reducible assumption | with_reducible apply State.err_ok | with_reducible apply State.setValid_ok | with_reducible apply State.wrW_ok | with_reducible refine ok_foldl ?_ (fun _ _ _ => ?_) | with_reducible refine ok_step ?_ (fun _ => ?_) | dsimp only | split | intro _)

theorem State.slotCheck_ok {D : DevState → Prop} {s : State} (n : Nat) (h : s.Ok D) : (State.slotCheck s n).Ok D := by
  unfold State.slotCheck
  repeat' (first | with_reducible assumption | with_reducible apply State.err_ok | with_reducible apply State.wr_ok | with_reducible apply State.put_ok | with_reducible refine ok_foldl ?_ (fun _ _ _ => ?_) | with_reducible refine ok_step ?_ (fun _ => ?_) | dsimp only | split | (simp only [↓ok_mk]; with_reducible refine parts_ok ?_) | intro _)

theorem State.slotCheckDone_ok {D : DevState → Prop} {s : State} (h : s.Ok D) : (State.slotCheckDone s).Ok D := by
  unfold State.slotCheckDone
  repeat' (first | with_reducible assumption | with_reducible apply State.wr_ok | with_reducible apply State.put_ok | with_reducible apply State.setValid_ok | with_reducible apply State.evt_ok | with_reducible refine ok_foldl ?_ (fun _ _ _ => ?_) | with_reducible refine ok_step ?_ (fun _ => ?_) | dsimp only | split | (simp only [↓ok_mk]; with_reducible refine parts_ok ?_) | intro _)

theorem State.fetchArrival_ok {D : DevState → Prop} {s : State} (addr : Nat) (ecc : Ecc) (h : s.Ok D) : (State.fetchArrival s addr ecc).Ok D := by
  unfold State.fetchArrival
  repeat' (first | with_reducible assumption | with_reducible apply State.sdEcc_ok | with_reducible apply State.draw_ok | with_reducible refine ok_foldl ?_ (fun _ _ _ => ?_) | with_reducible refine ok_step ?_ (fun _ => ?_) | dsimp only | split | (simp only [↓ok_mk]; with_reducible refine parts_ok ?_) | intro _)

theorem State.writeMark_ok {D : DevState → Prop} {s : State} (k : Mark) (h : s.Ok D) : (State.writeMark s k).Ok D := by
  unfold State.writeMark
  repeat' (first | with_reducible assumption | with_reducible apply State.inc_ok | with_reducible apply State.put_ok | with_reducible apply State.wr_ok | with_reducible refine ok_foldl ?_ (fun _ _ _ => ?_) | with_reducible refine ok_step ?_ (fun _ => ?_) | dsimp only | split | intro _)

theorem State.stageElem_ok {D : DevState → Prop} {s : State} (eid : Nat) (h : s.Ok D) : (State.stageElem s eid).Ok D := by
  unfold State.stageElem
  repeat' (first | with_reducible assumption | with_reducible apply State.setStatus_ok | with_reducible apply State.abortProbe_ok | with_reducible refine ok_foldl ?_ (fun _ _ _ => ?_) | with_reducible refine ok_step ?_ (fun _ => ?_) | dsimp only | split | intro _)

theorem State.unstageElem_ok {D : DevState → Prop} {s : State} (eid : Nat) (h : s.Ok D) : (State.unstageElem s eid).Ok D := by
  unfold State.unstageElem
  repeat' (first | with_reducible assumption | with_reducible apply State.acquire_ok | with_reducible refine ok_foldl ?_ (fun _ _ _ => ?_) | with_reducible refine ok_step ?_ (fun _ => ?_) | dsimp only | split | intro _)

theorem State.clearMark_ok {D : DevState → Prop} {s : State} (key : Nat) (h : s.Ok D) : (State.clearMark s key).Ok D := by
  unfold State.clearMark
  repeat' (first | with_reducible assumption | with_reducible apply State.put_ok | with_reducible refine ok_foldl ?_ (fun _ _ _ => ?_) | with_reducible refine ok_step ?_ (fun _ => ?_) | dsimp only | split | intro _)

theorem State.pinConflict_ok {D : DevState → Prop} {s : State} (x : Nat) (h : s.Ok D) : (State.pinConflict s x).Ok D := by
  unfold State.pinConflict
  repeat' (first | with_reducible assumption | with_reducible apply State.raise_ok | with_reducible apply State.evt_ok | with_reducible apply State.inc_ok | with_reducible refine ok_foldl ?_ (fun _ _ _ => ?_) | with_reducible refine ok_step ?_ (fun _ => ?_) | dsimp only | split | intro _)

theorem State.stageFor_ok {D : DevState → Prop} {s : State} (m : Image) (old : Option Staged) (h : s.Ok D) : (State.stageFor s m old).Ok D := by
  unfold State.stageFor
  repeat' (first | with_reducible assumption | with_reducible apply State.pinConflict_ok | with_reducible apply State.inc_ok | with_reducible apply State.clearMark_ok | with_reducible apply State.writeMark_ok | with_reducible apply State.unstageElem_ok | with_reducible apply State.stageElem_ok | with_reducible refine ok_foldl ?_ (fun _ _ _ => ?_) | with_reducible refine ok_step ?_ (fun _ => ?_) | dsimp only | split | (simp only [↓ok_mk]; with_reducible refine parts_ok ?_) | intro _)

theorem State.stagingStart_ok {D : DevState → Prop} {s : State} (errs : List Nat) (corrs : List Nat) (h : s.Ok D) : (State.stagingStart s errs corrs).Ok D := by
  unfold State.stagingStart
  repeat' (first | with_reducible assumption | with_reducible apply State.busCheck_ok | with_reducible apply State.stageFor_ok | with_reducible refine ok_foldl ?_ (fun _ _ _ => ?_) | with_reducible refine ok_step ?_ (fun _ => ?_) | dsimp only | split | intro _)

theorem State.stagingComplete_ok {D : DevState → Prop} {s : State} (h : s.Ok D) : (State.stagingComplete s).Ok D := by
  unfold State.stagingComplete
  repeat' (first | with_reducible assumption | with_reducible apply State.wr_ok | with_reducible refine ok_foldl ?_ (fun _ _ _ => ?_) | with_reducible refine ok_step ?_ (fun _ => ?_) | dsimp only | split | (simp only [↓ok_mk]; with_reducible refine parts_ok ?_) | intro _)

theorem State.discardMarks_ok {D : DevState → Prop} {s : State} (h : s.Ok D) : (State.discardMarks s).Ok D := by
  unfold State.discardMarks
  repeat' (first | with_reducible assumption | with_reducible apply State.clearMark_ok | with_reducible apply State.unstageElem_ok | with_reducible refine ok_foldl ?_ (fun _ _ _ => ?_) | with_reducible refine ok_step ?_ (fun _ => ?_) | dsimp only | split | (simp only [↓ok_mk]; with_reducible refine parts_ok ?_) | intro _)

theorem State.dropNext_ok {D : DevState → Prop} {s : State} (h : s.Ok D) : (State.dropNext s).Ok D := by
  unfold State.dropNext
  repeat' (first | with_reducible assumption | with_reducible apply State.discardMarks_ok | with_reducible apply State.put_ok | with_reducible refine ok_foldl ?_ (fun _ _ _ => ?_) | with_reducible refine ok_step ?_ (fun _ => ?_) | dsimp only | split | (simp only [↓ok_mk]; with_reducible refine parts_ok ?_) | intro _)

theorem State.armingDeadline_ok {D : DevState → Prop} {s : State} (h : s.Ok D) : (State.armingDeadline s).Ok D := by
  unfold State.armingDeadline
  repeat' (first | with_reducible assumption | with_reducible apply State.discardMarks_ok | with_reducible apply State.raise_ok | with_reducible apply State.evt_ok | with_reducible apply State.inc_ok | with_reducible refine ok_foldl ?_ (fun _ _ _ => ?_) | with_reducible refine ok_step ?_ (fun _ => ?_) | dsimp only | split | (simp only [↓ok_mk]; with_reducible refine parts_ok ?_) | intro _)

theorem State.exchangeTaps_ok {D : DevState → Prop} {s : State} (eid : Nat) (h : s.Ok D) : (State.exchangeTaps s eid).Ok D := by
  unfold State.exchangeTaps
  repeat' (first | with_reducible assumption | with_reducible apply State.hostRange_ok | with_reducible refine ok_foldl ?_ (fun _ _ _ => ?_) | with_reducible refine ok_step ?_ (fun _ => ?_) | dsimp only | split | intro _)

theorem State.fireAs_ok {D : DevState → Prop} {s : State} (key : Nat) (shape : Nat) (code : Nat) (h : s.Ok D) : (State.fireAs s key shape code).Ok D := by
  unfold State.fireAs
  repeat' (first | with_reducible assumption | with_reducible apply State.clearMark_ok | with_reducible apply State.startPlay_ok | with_reducible apply State.noteHtr_ok | with_reducible apply State.setLive_ok | with_reducible apply State.dropHeld_ok | with_reducible refine ok_foldl ?_ (fun _ _ _ => ?_) | with_reducible refine ok_step ?_ (fun _ => ?_) | dsimp only | split | intro _)

theorem State.fireMark_ok {D : DevState → Prop} {s : State} (key : Nat) (shape : Nat) (h : s.Ok D) : (State.fireMark s key shape).Ok D := by
  unfold State.fireMark
  repeat' (first | with_reducible assumption | with_reducible apply State.fireAs_ok | with_reducible refine ok_foldl ?_ (fun _ _ _ => ?_) | with_reducible refine ok_step ?_ (fun _ => ?_) | dsimp only | split | intro _)

theorem State.enterHoldoff_ok {D : DevState → Prop} {s : State} (eid : Nat) (h : s.Ok D) : (State.enterHoldoff s eid).Ok D := by
  unfold State.enterHoldoff
  repeat' (first | with_reducible assumption | with_reducible apply State.setStatus_ok | with_reducible apply State.abortProbe_ok | with_reducible refine ok_foldl ?_ (fun _ _ _ => ?_) | with_reducible refine ok_step ?_ (fun _ => ?_) | dsimp only | split | intro _)

theorem State.strobeHost_ok {D : DevState → Prop} {s : State} (p : Nat → Bool) (h : s.Ok D) : (State.strobeHost s p).Ok D := by
  unfold State.strobeHost
  repeat' (first | with_reducible assumption | with_reducible apply State.put_ok | with_reducible refine ok_foldl ?_ (fun _ _ _ => ?_) | with_reducible refine ok_step ?_ (fun _ => ?_) | dsimp only | split | (simp only [↓ok_mk]; with_reducible refine parts_ok ?_) | intro _)

theorem State.groupStrobe_ok {D : DevState → Prop} {s : State} (g : Nat) (h : s.Ok D) : (State.groupStrobe s g).Ok D := by
  unfold State.groupStrobe
  repeat' (first | with_reducible assumption | with_reducible apply State.strobeHost_ok | with_reducible apply State.fireMark_ok | with_reducible apply State.enterHoldoff_ok | with_reducible apply State.exchangeTaps_ok | with_reducible apply State.checkHtrOver_ok | with_reducible refine ok_foldl ?_ (fun _ _ _ => ?_) | with_reducible refine ok_step ?_ (fun _ => ?_) | dsimp only | split | (simp only [↓ok_mk]; with_reducible refine parts_ok ?_) | intro _)

theorem State.shapeEnd_ok {D : DevState → Prop} {s : State} (t : Nat) (k : Nat) (h : s.Ok D) : (State.shapeEnd s t k).Ok D := by
  unfold State.shapeEnd
  repeat' (first | with_reducible assumption | with_reducible apply State.stopPlay_ok | with_reducible apply State.setLive_ok | with_reducible refine ok_foldl ?_ (fun _ _ _ => ?_) | with_reducible refine ok_step ?_ (fun _ => ?_) | dsimp only | split | intro _)

theorem State.blankRelease_ok {D : DevState → Prop} {s : State} (h : s.Ok D) : (State.blankRelease s).Ok D := by
  unfold State.blankRelease
  repeat' (first | with_reducible assumption | with_reducible apply State.enterHoldoff_ok | with_reducible apply State.startPlay_ok | with_reducible refine ok_foldl ?_ (fun _ _ _ => ?_) | with_reducible refine ok_step ?_ (fun _ => ?_) | dsimp only | split | (simp only [↓ok_mk]; with_reducible refine parts_ok ?_) | intro _)

theorem State.cancelRelease_ok {D : DevState → Prop} {s : State} (h : s.Ok D) : (State.cancelRelease s).Ok D := by
  unfold State.cancelRelease
  repeat' (first | with_reducible assumption | with_reducible apply State.unstageElem_ok | with_reducible refine ok_foldl ?_ (fun _ _ _ => ?_) | with_reducible refine ok_step ?_ (fun _ => ?_) | dsimp only | split | (simp only [↓ok_mk]; with_reducible refine parts_ok ?_) | intro _)

theorem State.goLive_ok {D : DevState → Prop} {s : State} (h : s.Ok D) : (State.goLive s).Ok D := by
  unfold State.goLive
  repeat' (first | with_reducible assumption | with_reducible apply State.strobeHost_ok | with_reducible apply State.fireAs_ok | with_reducible apply State.fireMark_ok | with_reducible apply State.enterHoldoff_ok | with_reducible apply State.put_ok | with_reducible apply State.wr_ok | with_reducible apply State.inc_ok | with_reducible refine ok_foldl ?_ (fun _ _ _ => ?_) | with_reducible refine ok_step ?_ (fun _ => ?_) | dsimp only | split | (simp only [↓ok_mk]; with_reducible refine parts_ok ?_) | intro _)

theorem State.quarantineNow_ok {D : DevState → Prop} {s : State} (eid : Nat) (h : s.Ok D) : (State.quarantineNow s eid).Ok D := by
  unfold State.quarantineNow
  repeat' (first | with_reducible assumption | with_reducible apply State.quarantine_ok | with_reducible apply State.wrapDrop_ok | with_reducible apply State.stageFor_ok | with_reducible refine ok_foldl ?_ (fun _ _ _ => ?_) | with_reducible refine ok_step ?_ (fun _ => ?_) | dsimp only | split | intro _)

theorem State.blankPort_ok {D : DevState → Prop} {s : State} (e : Nat) (h : s.Ok D) : (State.blankPort s e).Ok D := by
  unfold State.blankPort
  repeat' (first | with_reducible assumption | with_reducible apply State.inc_ok | with_reducible apply State.directFast_ok | with_reducible apply State.softStart_ok | with_reducible refine ok_foldl ?_ (fun _ _ _ => ?_) | with_reducible refine ok_step ?_ (fun _ => ?_) | dsimp only | split | (simp only [↓ok_mk]; with_reducible refine parts_ok ?_) | intro _)

theorem State.setG_ok {D : DevState → Prop} {s : State} (g : Nat) (h : s.Ok D) : (State.setG s g).Ok D := by
  unfold State.setG
  repeat' (first | with_reducible assumption | with_reducible apply State.wr_ok | with_reducible refine ok_foldl ?_ (fun _ _ _ => ?_) | with_reducible refine ok_step ?_ (fun _ => ?_) | dsimp only | split | intro _)

theorem State.setNextT_ok {D : DevState → Prop} {s : State} (t : Option Nat) (h : s.Ok D) : (State.setNextT s t).Ok D := by
  unfold State.setNextT
  repeat' (first | with_reducible assumption | with_reducible apply State.wrTime_ok | with_reducible refine ok_foldl ?_ (fun _ _ _ => ?_) | with_reducible refine ok_step ?_ (fun _ => ?_) | dsimp only | split | (simp only [↓ok_mk]; with_reducible refine parts_ok ?_) | intro _)

theorem State.replan_ok {D : DevState → Prop} {s : State} (h : s.Ok D) : (State.replan s).Ok D := by
  unfold State.replan
  repeat' (first | with_reducible assumption | with_reducible apply State.setNextT_ok | with_reducible refine ok_foldl ?_ (fun _ _ _ => ?_) | with_reducible refine ok_step ?_ (fun _ => ?_) | dsimp only | split | intro _)

theorem State.setPlan_ok {D : DevState → Prop} {s : State} (t : Option Nat) (h : s.Ok D) : (State.setPlan s t).Ok D := by
  unfold State.setPlan
  repeat' (first | with_reducible assumption | with_reducible apply State.replan_ok | with_reducible refine ok_foldl ?_ (fun _ _ _ => ?_) | with_reducible refine ok_step ?_ (fun _ => ?_) | dsimp only | split | (simp only [↓ok_mk]; with_reducible refine parts_ok ?_) | intro _)

theorem State.closeWindow_ok {D : DevState → Prop} {s : State} (h : s.Ok D) : (State.closeWindow s).Ok D := by
  unfold State.closeWindow
  repeat' (first | with_reducible assumption | with_reducible apply State.directFast_ok | with_reducible refine ok_foldl ?_ (fun _ _ _ => ?_) | with_reducible refine ok_step ?_ (fun _ => ?_) | dsimp only | split | (simp only [↓ok_mk]; with_reducible refine parts_ok ?_) | intro _)

theorem State.clearReq_ok {D : DevState → Prop} {s : State} (h : s.Ok D) : (State.clearReq s).Ok D := by
  unfold State.clearReq
  repeat' (first | with_reducible assumption | with_reducible apply State.wr_ok | with_reducible apply State.wrW_ok | with_reducible refine ok_foldl ?_ (fun _ _ _ => ?_) | with_reducible refine ok_step ?_ (fun _ => ?_) | dsimp only | split | (simp only [↓ok_mk]; with_reducible refine parts_ok ?_) | intro _)

theorem State.gantryHalt_ok {D : DevState → Prop} {s : State} (g : Nat) (h : s.Ok D) : (State.gantryHalt s g).Ok D := by
  unfold State.gantryHalt
  repeat' (first | with_reducible assumption | with_reducible apply State.wr_ok | with_reducible apply State.setG_ok | with_reducible apply State.setPlan_ok | with_reducible apply State.clearReq_ok | with_reducible apply State.dropNext_ok | with_reducible refine ok_foldl ?_ (fun _ _ _ => ?_) | with_reducible refine ok_step ?_ (fun _ => ?_) | dsimp only | split | (simp only [↓ok_mk]; with_reducible refine parts_ok ?_) | intro _)

theorem State.gantryStopped_ok {D : DevState → Prop} {s : State} (h : s.Ok D) : (State.gantryStopped s).Ok D := by
  unfold State.gantryStopped
  repeat' (first | with_reducible assumption | with_reducible apply State.evt_ok | with_reducible apply State.gantryHalt_ok | with_reducible refine ok_foldl ?_ (fun _ _ _ => ?_) | with_reducible refine ok_step ?_ (fun _ => ?_) | dsimp only | split | intro _)

theorem State.gantryFreeze_ok {D : DevState → Prop} {s : State} (h : s.Ok D) : (State.gantryFreeze s).Ok D := by
  unfold State.gantryFreeze
  repeat' (first | with_reducible assumption | with_reducible apply State.evt_ok | with_reducible apply State.gantryHalt_ok | with_reducible refine ok_foldl ?_ (fun _ _ _ => ?_) | with_reducible refine ok_step ?_ (fun _ => ?_) | dsimp only | split | intro _)

theorem State.fireSafe_ok {D : DevState → Prop} {s : State} (h : s.Ok D) : (State.fireSafe s).Ok D := by
  unfold State.fireSafe
  repeat' (first | with_reducible assumption | with_reducible apply State.evt_ok | with_reducible apply State.inc_ok | with_reducible apply State.cancelRelease_ok | with_reducible apply State.safeStrobe_ok | with_reducible refine ok_foldl ?_ (fun _ _ _ => ?_) | with_reducible refine ok_step ?_ (fun _ => ?_) | dsimp only | split | intro _)

theorem State.softStartAll_ok {D : DevState → Prop} {s : State} (h : s.Ok D) : (State.softStartAll s).Ok D := by
  unfold State.softStartAll
  repeat' (first | with_reducible assumption | with_reducible apply State.softStart_ok | with_reducible refine ok_foldl ?_ (fun _ _ _ => ?_) | with_reducible refine ok_step ?_ (fun _ => ?_) | dsimp only | split | intro _)

theorem State.goto_edge {D : DevState → Prop} {s : State} {d : DevState} (h : s.Ok D) (hC : DevClosed D) (e : DevEdge s.dev d) : (s.goto d).Ok D :=
  s.goto_ok d h (hC _ _ e h.global)

theorem State.enterSafe_ok {D : DevState → Prop} {s : State} (src : Nat) (h : s.Ok D) (hC : DevClosed D) : (s.enterSafe src).Ok D := by
  unfold State.enterSafe
  split
  · rename_i hd
    have hg : (s.goto .safe).Ok D := hd.elim (fun e => s.goto_edge h hC (e ▸ .armedSafe)) (fun e => s.goto_edge h hC (e ▸ .runSafe))
    repeat' (first | with_reducible assumption | with_reducible apply State.draw_ok | with_reducible apply State.wr_ok | with_reducible apply State.softStartAll_ok | with_reducible apply State.closeWindow_ok | with_reducible apply State.fireSafe_ok | with_reducible apply State.gantryFreeze_ok | dsimp only)
  · exact h

theorem State.imageReport_ok {D : DevState → Prop} {s : State} (r : Nat) (u : Usable) (h : s.Ok D) : (State.imageReport s r u).Ok D := by
  unfold State.imageReport
  repeat' (first | with_reducible assumption | with_reducible apply State.raise_ok | with_reducible apply State.evt_ok | with_reducible apply State.inc_ok | with_reducible refine ok_foldl ?_ (fun _ _ _ => ?_) | with_reducible refine ok_step ?_ (fun _ => ?_) | dsimp only | split | intro _)

theorem State.benchHeld_ok {D : DevState → Prop} {s : State} (b : Bench) (h : s.Ok D) : (State.benchHeld s b).Ok D := by
  unfold State.benchHeld
  repeat' (first | with_reducible assumption | with_reducible apply State.evt_ok | with_reducible apply State.raise_ok | with_reducible refine ok_foldl ?_ (fun _ _ _ => ?_) | with_reducible refine ok_step ?_ (fun _ => ?_) | dsimp only | split | intro _)

theorem State.noteNext_ok {D : DevState → Prop} {s : State} (r : ImgRef) (m : Image) (subst : Bool) (h : s.Ok D) : (State.noteNext s r m subst).Ok D := by
  unfold State.noteNext
  repeat' (first | with_reducible assumption | with_reducible apply State.put_ok | with_reducible apply State.wr_ok | with_reducible refine ok_foldl ?_ (fun _ _ _ => ?_) | with_reducible refine ok_step ?_ (fun _ => ?_) | dsimp only | split | intro _)

theorem State.fixNext_ok {D : DevState → Prop} {s : State} (r : ImgRef) (m : Image) (sub : Bool) (held : Bool) (steps : List Nat) (pred : List Nat) (h : s.Ok D) : (State.fixNext s r m sub held steps pred).Ok D := by
  unfold State.fixNext
  repeat' (first | with_reducible assumption | with_reducible refine ok_foldl ?_ (fun _ _ _ => ?_) | with_reducible refine ok_step ?_ (fun _ => ?_) | dsimp only | split | (simp only [↓ok_mk]; with_reducible refine parts_ok ?_) | intro _)

theorem State.admitTake_ok {D : DevState → Prop} (res : State × Admit × List Nat) (b : Bench) (r : ImgRef) (m : Image) (subst : Bool) (alt : Option (ImgRef × Image)) (pred : Image → List Nat) (h : res.1.Ok D) : (State.admitTake res b r m subst alt pred).Ok D := by
  unfold State.admitTake
  split
  · exact State.fixNext_ok _ _ _ _ _ _ (State.inc_ok _ (State.noteNext_ok _ _ _ h))
  · exact State.benchHeld_ok _ (State.fixNext_ok _ _ _ _ _ _ h)
  · exact State.fixNext_ok _ _ _ _ _ _ h

theorem State.admitFix_ok {D : DevState → Prop} {s : State} (b : Bench) (r : ImgRef) (m : Image) (subst : Bool) (alt : Option (ImgRef × Image)) (h : s.Ok D) : (s.admitFix b r m subst alt).Ok D :=
  State.admitTake_ok _ _ _ _ _ _ _ (State.admission_ok _ _ _ (s.noteNext_ok _ _ _ h))

theorem State.takeImage_ok {D : DevState → Prop} {s : State} (b : Bench) (h : s.Ok D) : (State.takeImage s b).Ok D := by
  unfold State.takeImage
  repeat' (first | with_reducible assumption | with_reducible apply State.admitFix_ok | with_reducible apply State.imageReport_ok | with_reducible apply State.inc_ok | with_reducible apply State.put_ok | with_reducible apply State.benchHeld_ok | with_reducible refine ok_foldl ?_ (fun _ _ _ => ?_) | with_reducible refine ok_step ?_ (fun _ => ?_) | dsimp only | split | (simp only [↓ok_mk]; with_reducible refine parts_ok ?_) | intro _)

theorem State.prefetchFor_ok {D : DevState → Prop} {s : State} (b : Bench) (h : s.Ok D) : (State.prefetchFor s b).Ok D := by
  unfold State.prefetchFor
  repeat' (first | with_reducible assumption | with_reducible refine ok_foldl ?_ (fun _ _ _ => ?_) | with_reducible refine ok_step ?_ (fun _ => ?_) | dsimp only | split | (simp only [↓ok_mk]; with_reducible refine parts_ok ?_) | intro _)

theorem State.loopRegs_ok {D : DevState → Prop} {s : State} (h : s.Ok D) : (State.loopRegs s).Ok D := by
  unfold State.loopRegs
  repeat' (first | with_reducible assumption | with_reducible apply State.wr_ok | with_reducible apply State.put_ok | with_reducible apply State.wrW_ok | with_reducible refine ok_foldl ?_ (fun _ _ _ => ?_) | with_reducible refine ok_step ?_ (fun _ => ?_) | dsimp only | split | intro _)

theorem State.endEpisode_ok {D : DevState → Prop} {s : State} (t : Nat) (h : s.Ok D) : (State.endEpisode s t).Ok D := by
  unfold State.endEpisode
  repeat' (first | with_reducible assumption | with_reducible apply State.evt_ok | with_reducible apply State.put_ok | with_reducible apply State.add_ok | with_reducible refine ok_foldl ?_ (fun _ _ _ => ?_) | with_reducible refine ok_step ?_ (fun _ => ?_) | dsimp only | split | (simp only [↓ok_mk]; with_reducible refine parts_ok ?_) | intro _)

theorem State.releaseStream_ok {D : DevState → Prop} {s : State} (h : s.Ok D) : (State.releaseStream s).Ok D := by
  unfold State.releaseStream
  repeat' (first | with_reducible assumption | with_reducible refine ok_foldl ?_ (fun _ _ _ => ?_) | with_reducible refine ok_step ?_ (fun _ => ?_) | dsimp only | split | (simp only [↓ok_mk]; with_reducible refine parts_ok ?_) | intro _)

theorem State.takeStack_ok {D : DevState → Prop} {s : State} (p : List LoopLvl × Nat) (h : s.Ok D) : (State.takeStack s p).Ok D := by
  unfold State.takeStack
  repeat' (first | with_reducible assumption | with_reducible apply State.releaseStream_ok | with_reducible apply State.loopRegs_ok | with_reducible apply State.evt_ok | with_reducible apply State.add_ok | with_reducible refine ok_foldl ?_ (fun _ _ _ => ?_) | with_reducible refine ok_step ?_ (fun _ => ?_) | dsimp only | split | (simp only [↓ok_mk]; with_reducible refine parts_ok ?_) | intro _)

theorem State.fixTake_ok {D : DevState → Prop} {s : State} (b : Bench) (c : Choice) (h : s.Ok D) : (State.fixTake s b c).Ok D := by
  unfold State.fixTake
  repeat' (first | with_reducible assumption | with_reducible apply State.takeStack_ok | with_reducible refine ok_foldl ?_ (fun _ _ _ => ?_) | with_reducible refine ok_step ?_ (fun _ => ?_) | dsimp only | split | (simp only [↓ok_mk]; with_reducible refine parts_ok ?_) | intro _)

theorem State.fixJump_ok {D : DevState → Prop} {s : State} (h : s.Ok D) : (State.fixJump s).Ok D := by
  unfold State.fixJump
  repeat' (first | with_reducible assumption | with_reducible apply State.put_ok | with_reducible apply State.countEvt_ok | with_reducible refine ok_foldl ?_ (fun _ _ _ => ?_) | with_reducible refine ok_step ?_ (fun _ => ?_) | dsimp only | split | (simp only [↓ok_mk]; with_reducible refine parts_ok ?_) | intro _)

theorem State.fixNote_ok {D : DevState → Prop} {s : State} (b : Bench) (h : s.Ok D) : (State.fixNote s b).Ok D := by
  unfold State.fixNote
  repeat' (first | with_reducible assumption | with_reducible apply State.countEvt_ok | with_reducible apply State.err_ok | with_reducible refine ok_foldl ?_ (fun _ _ _ => ?_) | with_reducible refine ok_step ?_ (fun _ => ?_) | dsimp only | split | intro _)

theorem State.fixSwap_ok {D : DevState → Prop} {s : State} (h : s.Ok D) : (State.fixSwap s).Ok D := by
  unfold State.fixSwap
  repeat' (first | with_reducible assumption | with_reducible refine ok_foldl ?_ (fun _ _ _ => ?_) | with_reducible refine ok_step ?_ (fun _ => ?_) | dsimp only | split | (simp only [↓ok_mk]; with_reducible refine parts_ok ?_) | intro _)

theorem State.fixAt_ok {D : DevState → Prop} {s : State} (t : Nat) (h : s.Ok D) : (State.fixAt s t).Ok D := by
  unfold State.fixAt
  repeat' (first | with_reducible assumption | with_reducible apply State.setNextT_ok | with_reducible refine ok_foldl ?_ (fun _ _ _ => ?_) | with_reducible refine ok_step ?_ (fun _ => ?_) | dsimp only | split | (simp only [↓ok_mk]; with_reducible refine parts_ok ?_) | intro _)

theorem State.fixStart_ok {D : DevState → Prop} {s : State} (h : s.Ok D) : (State.fixStart s).Ok D := by
  unfold State.fixStart
  repeat' (first | with_reducible assumption | with_reducible apply State.evt_ok | with_reducible apply State.put_ok | with_reducible refine ok_foldl ?_ (fun _ _ _ => ?_) | with_reducible refine ok_step ?_ (fun _ => ?_) | dsimp only | split | intro _)

theorem State.fixEnd_ok {D : DevState → Prop} {s : State} (b : Bench) (t : Nat) (h : s.Ok D) : (State.fixEnd s b t).Ok D := by
  unfold State.fixEnd
  repeat' (first | with_reducible assumption | with_reducible apply State.fixAt_ok | with_reducible apply State.setG_ok | with_reducible apply State.endEpisode_ok | with_reducible apply State.fixSwap_ok | with_reducible apply State.prefetchFor_ok | with_reducible apply State.takeImage_ok | with_reducible apply State.fixStart_ok | with_reducible refine ok_foldl ?_ (fun _ _ _ => ?_) | with_reducible refine ok_step ?_ (fun _ => ?_) | dsimp only | split | intro _)

theorem State.fixBench_ok {D : DevState → Prop} {s : State} (b : Bench) (c : Choice) (t : Nat) (jumped : Bool) (h : s.Ok D) : (State.fixBench s b c t jumped).Ok D := by
  unfold State.fixBench
  repeat' (first | with_reducible assumption | with_reducible apply State.closeWindow_ok | with_reducible apply State.fixTake_ok | with_reducible apply State.fixJump_ok | with_reducible apply State.fixNote_ok | with_reducible apply State.evt_ok | with_reducible apply State.fixEnd_ok | with_reducible refine ok_foldl ?_ (fun _ _ _ => ?_) | with_reducible refine ok_step ?_ (fun _ => ?_) | dsimp only | split | intro _)

theorem State.underflowStop_ok {D : DevState → Prop} {s : State} (src : Nat) (h : s.Ok D) (hC : DevClosed D) : (State.underflowStop s src).Ok D := by
  unfold State.underflowStop
  repeat' (first | with_reducible assumption | with_reducible apply State.enterSafe_ok | with_reducible apply State.raiseDirect_ok | with_reducible apply State.gantryFreeze_ok | with_reducible refine ok_foldl ?_ (fun _ _ _ => ?_) | with_reducible refine ok_step ?_ (fun _ => ?_) | dsimp only | split | intro _)

theorem State.underflow_ok {D : DevState → Prop} {s : State} (t : Nat) (h : s.Ok D) (hC : DevClosed D) : (State.underflow s t).Ok D := by
  unfold State.underflow
  repeat' (first | with_reducible assumption | with_reducible apply State.countEvt_ok | with_reducible apply State.underflowStop_ok | with_reducible apply State.setG_ok | with_reducible apply State.raise_ok | with_reducible apply State.fixSwap_ok | with_reducible apply State.prefetchFor_ok | with_reducible apply State.takeImage_ok | with_reducible apply State.fixStart_ok | with_reducible apply State.fixAt_ok | with_reducible apply State.closeWindow_ok | with_reducible apply State.inc_ok | with_reducible refine ok_foldl ?_ (fun _ _ _ => ?_) | with_reducible refine ok_step ?_ (fun _ => ?_) | dsimp only | split | (simp only [↓ok_mk]; with_reducible refine parts_ok ?_) | intro _)

theorem State.takeTrig_ok {D : DevState → Prop} {s : State} (i : Nat) (h : s.Ok D) : (State.takeTrig s i).Ok D := by
  unfold State.takeTrig
  repeat' (first | with_reducible assumption | with_reducible apply State.wr_ok | with_reducible refine ok_foldl ?_ (fun _ _ _ => ?_) | with_reducible refine ok_step ?_ (fun _ => ?_) | dsimp only | split | (simp only [↓ok_mk]; with_reducible refine parts_ok ?_) | intro _)

theorem State.noNext_ok {D : DevState → Prop} {s : State} (eor : Bool) (c : Choice) (h : s.Ok D) : (State.noNext s eor c).Ok D := by
  unfold State.noNext
  repeat' (first | with_reducible assumption | with_reducible apply State.takeStack_ok | with_reducible apply State.evt_ok | with_reducible apply State.put_ok | with_reducible refine ok_foldl ?_ (fun _ _ _ => ?_) | with_reducible refine ok_step ?_ (fun _ => ?_) | dsimp only | split | (simp only [↓ok_mk]; with_reducible refine parts_ok ?_) | intro _)

theorem State.waitTrigger_ok {D : DevState → Prop} {s : State} (t : Nat) (h : s.Ok D) : (State.waitTrigger s t).Ok D := by
  unfold State.waitTrigger
  repeat' (first | with_reducible assumption | with_reducible apply State.setPlan_ok | with_reducible apply State.inc_ok | with_reducible apply State.setG_ok | with_reducible apply State.endEpisode_ok | with_reducible refine ok_foldl ?_ (fun _ _ _ => ?_) | with_reducible refine ok_step ?_ (fun _ => ?_) | dsimp only | split | intro _)

theorem State.commitFor_ok {D : DevState → Prop} {s : State} (t : Nat) (retry : Bool) (trig : Bool) (h : s.Ok D) (hC : DevClosed D) : (State.commitFor s t retry trig).Ok D := by
  unfold State.commitFor
  repeat' (first | with_reducible assumption | with_reducible apply State.noNext_ok | with_reducible apply State.underflow_ok | with_reducible apply State.waitTrigger_ok | with_reducible apply State.takeTrig_ok | with_reducible apply State.fixBench_ok | with_reducible refine ok_foldl ?_ (fun _ _ _ => ?_) | with_reducible refine ok_step ?_ (fun _ => ?_) | dsimp only | split | (simp only [↓ok_mk]; with_reducible refine parts_ok ?_) | intro _)

theorem State.commitPoint_ok {D : DevState → Prop} {s : State} (h : s.Ok D) (hC : DevClosed D) : (State.commitPoint s).Ok D := by
  unfold State.commitPoint
  repeat' (first | with_reducible assumption | with_reducible apply State.commitFor_ok | with_reducible refine ok_foldl ?_ (fun _ _ _ => ?_) | with_reducible refine ok_step ?_ (fun _ => ?_) | dsimp only | split | intro _)

theorem State.resyncDone_ok {D : DevState → Prop} {s : State} (h : s.Ok D) : (State.resyncDone s).Ok D := by
  unfold State.resyncDone
  repeat' (first | with_reducible assumption | with_reducible apply State.evt_ok | with_reducible apply State.put_ok | with_reducible apply State.wrW_ok | with_reducible refine ok_foldl ?_ (fun _ _ _ => ?_) | with_reducible refine ok_step ?_ (fun _ => ?_) | dsimp only | split | (simp only [↓ok_mk]; with_reducible refine parts_ok ?_) | intro _)

theorem State.resyncPass_ok {D : DevState → Prop} {s : State} (h : s.Ok D) : (State.resyncPass s).Ok D := by
  unfold State.resyncPass
  repeat' (first | with_reducible assumption | with_reducible apply State.resyncDone_ok | with_reducible refine ok_foldl ?_ (fun _ _ _ => ?_) | with_reducible refine ok_step ?_ (fun _ => ?_) | dsimp only | split | (simp only [↓ok_mk]; with_reducible refine parts_ok ?_) | intro _)

theorem State.extendRetry_ok {D : DevState → Prop} {s : State} (e : Episode) (t : Nat) (h : s.Ok D) (hC : DevClosed D) : (State.extendRetry s e t).Ok D := by
  unfold State.extendRetry
  repeat' (first | with_reducible assumption | with_reducible apply State.commitFor_ok | with_reducible apply State.inc_ok | with_reducible apply State.fixAt_ok | with_reducible apply State.setPlan_ok | with_reducible refine ok_foldl ?_ (fun _ _ _ => ?_) | with_reducible refine ok_step ?_ (fun _ => ?_) | dsimp only | split | (simp only [↓ok_mk]; with_reducible refine parts_ok ?_) | intro _)

theorem State.underflowRetry_ok {D : DevState → Prop} {s : State} (h : s.Ok D) (hC : DevClosed D) : (State.underflowRetry s).Ok D := by
  unfold State.underflowRetry
  repeat' (first | with_reducible assumption | with_reducible apply State.resyncPass_ok | with_reducible apply State.commitFor_ok | with_reducible apply State.extendRetry_ok | with_reducible refine ok_foldl ?_ (fun _ _ _ => ?_) | with_reducible refine ok_step ?_ (fun _ => ?_) | dsimp only | split | intro _)

theorem State.underflowLimit_ok {D : DevState → Prop} {s : State} (h : s.Ok D) (hC : DevClosed D) : (State.underflowLimit s).Ok D := by
  unfold State.underflowLimit
  repeat' (first | with_reducible assumption | with_reducible apply State.underflowStop_ok | with_reducible refine ok_foldl ?_ (fun _ _ _ => ?_) | with_reducible refine ok_step ?_ (fun _ => ?_) | dsimp only | split | intro _)

theorem State.triggerCommit_ok {D : DevState → Prop} {s : State} (h : s.Ok D) (hC : DevClosed D) : (State.triggerCommit s).Ok D := by
  unfold State.triggerCommit
  repeat' (first | with_reducible assumption | with_reducible apply State.commitFor_ok | with_reducible refine ok_foldl ?_ (fun _ _ _ => ?_) | with_reducible refine ok_step ?_ (fun _ => ?_) | dsimp only | split | intro _)

theorem State.liveRegs_ok {D : DevState → Prop} {s : State} (b : Bench) (t : Nat) (h : s.Ok D) : (State.liveRegs s b t).Ok D := by
  unfold State.liveRegs
  repeat' (first | with_reducible assumption | with_reducible apply State.wr_ok | with_reducible apply State.put_ok | with_reducible apply State.wrTime_ok | with_reducible refine ok_foldl ?_ (fun _ _ _ => ?_) | with_reducible refine ok_step ?_ (fun _ => ?_) | dsimp only | split | intro _)

theorem State.takePeriod_ok {D : DevState → Prop} {s : State} (h : s.Ok D) : (State.takePeriod s).Ok D := by
  unfold State.takePeriod
  repeat' (first | with_reducible assumption | with_reducible apply State.wr_ok | with_reducible refine ok_foldl ?_ (fun _ _ _ => ?_) | with_reducible refine ok_step ?_ (fun _ => ?_) | dsimp only | split | (simp only [↓ok_mk]; with_reducible refine parts_ok ?_) | intro _)

theorem State.modGan_ok {D : DevState → Prop} {s : State} (f : GanSt → GanSt) (h : s.Ok D) : (State.modGan s f).Ok D := by
  unfold State.modGan
  repeat' (first | with_reducible assumption | with_reducible refine ok_foldl ?_ (fun _ _ _ => ?_) | with_reducible refine ok_step ?_ (fun _ => ?_) | dsimp only | split | (simp only [↓ok_mk]; with_reducible refine parts_ok ?_) | intro _)

theorem State.modImg_ok {D : DevState → Prop} {s : State} (f : ImgSt → ImgSt) (h : s.Ok D) : (State.modImg s f).Ok D := by
  unfold State.modImg
  repeat' (first | with_reducible assumption | with_reducible refine ok_foldl ?_ (fun _ _ _ => ?_) | with_reducible refine ok_step ?_ (fun _ => ?_) | dsimp only | split | (simp only [↓ok_mk]; with_reducible refine parts_ok ?_) | intro _)

theorem State.beginCount_ok {D : DevState → Prop} {s : State} (strobed : Bool) (h : s.Ok D) : (State.beginCount s strobed).Ok D := by
  unfold State.beginCount
  repeat' (first | with_reducible assumption | with_reducible apply State.inc_ok | with_reducible apply State.incWrap_ok | with_reducible refine ok_foldl ?_ (fun _ _ _ => ?_) | with_reducible refine ok_step ?_ (fun _ => ?_) | dsimp only | split | intro _)

theorem State.beginClear_ok {D : DevState → Prop} {s : State} (h : s.Ok D) : (State.beginClear s).Ok D := by
  unfold State.beginClear
  repeat' (first | with_reducible assumption | with_reducible apply State.modImg_ok | with_reducible apply State.put_ok | with_reducible refine ok_foldl ?_ (fun _ _ _ => ?_) | with_reducible refine ok_step ?_ (fun _ => ?_) | dsimp only | split | intro _)

theorem State.beginResync_ok {D : DevState → Prop} {s : State} (h : s.Ok D) : (State.beginResync s).Ok D := by
  unfold State.beginResync
  repeat' (first | with_reducible assumption | with_reducible apply State.resyncDone_ok | with_reducible apply State.modGan_ok | with_reducible refine ok_foldl ?_ (fun _ _ _ => ?_) | with_reducible refine ok_step ?_ (fun _ => ?_) | dsimp only | split | intro _)

theorem State.beginBench_ok {D : DevState → Prop} {s : State} (b : Bench) (t : Nat) (strobed : Bool) (h : s.Ok D) (hC : DevClosed D) : (s.beginBench b t strobed).Ok D := by
  unfold State.beginBench
  dsimp only
  have key : ∀ x : State, x.Ok D → State.Ok D (if strobed = true ∧ x.dev = .armed then x.goto .run else x) := fun x hx => by
    split
    · rename_i e; exact State.goto_edge hx hC (e.2 ▸ .armedRun)
    · exact hx
  refine key _ ?_
  repeat' (first | with_reducible assumption | with_reducible apply State.setPlan_ok | with_reducible apply State.beginResync_ok | with_reducible apply State.releaseStream_ok | with_reducible apply State.takePeriod_ok | with_reducible apply State.liveRegs_ok | with_reducible apply State.modGan_ok | with_reducible apply State.beginClear_ok | with_reducible apply State.beginCount_ok | (simp only [↓ok_mk]; with_reducible refine parts_ok ?_) | split)

theorem State.boundary_ok {D : DevState → Prop} {s : State} (h : s.Ok D) (hC : DevClosed D) : (State.boundary s).Ok D := by
  unfold State.boundary
  repeat' (first | with_reducible assumption | with_reducible apply State.gantryStopped_ok | with_reducible apply State.wrTime_ok | with_reducible apply State.goLive_ok | with_reducible apply State.discardMarks_ok | with_reducible apply State.beginBench_ok | with_reducible apply State.setBallast_ok | with_reducible refine ok_foldl ?_ (fun _ _ _ => ?_) | with_reducible refine ok_step ?_ (fun _ => ?_) | dsimp only | split | (simp only [↓ok_mk]; with_reducible refine parts_ok ?_) | intro _)

theorem State.gantryStart_ok {D : DevState → Prop} {s : State} (mode : Nat) (t0 : Nat) (fromStream : Bool) (index : Nat) (h : s.Ok D) : (State.gantryStart s mode t0 fromStream index).Ok D := by
  unfold State.gantryStart
  repeat' (first | with_reducible assumption | with_reducible apply State.wr_ok | with_reducible apply State.evt_ok | with_reducible apply State.clearReq_ok | with_reducible apply State.put_ok | with_reducible apply State.wrW_ok | with_reducible apply State.setG_ok | with_reducible apply State.loopRegs_ok | with_reducible apply State.releaseStream_ok | with_reducible apply State.setPlan_ok | with_reducible refine ok_foldl ?_ (fun _ _ _ => ?_) | with_reducible refine ok_step ?_ (fun _ => ?_) | dsimp only | split | (simp only [↓ok_mk]; with_reducible refine parts_ok ?_) | intro _)

theorem State.gctlStart_ok {D : DevState → Prop} {s : State} (h : s.Ok D) : (State.gctlStart s).Ok D := by
  unfold State.gctlStart
  repeat' (first | with_reducible assumption | with_reducible apply State.gantryStart_ok | with_reducible refine ok_foldl ?_ (fun _ _ _ => ?_) | with_reducible refine ok_step ?_ (fun _ => ?_) | dsimp only | split | intro _)

theorem State.startByEvent_ok {D : DevState → Prop} {s : State} (t : Nat) (h : s.Ok D) : (State.startByEvent s t).Ok D := by
  unfold State.startByEvent
  repeat' (first | with_reducible assumption | with_reducible apply State.setPlan_ok | with_reducible refine ok_foldl ?_ (fun _ _ _ => ?_) | with_reducible refine ok_step ?_ (fun _ => ?_) | dsimp only | split | intro _)

theorem State.gantryStop_ok {D : DevState → Prop} {s : State} (h : s.Ok D) : (State.gantryStop s).Ok D := by
  unfold State.gantryStop
  repeat' (first | with_reducible assumption | with_reducible apply State.put_ok | with_reducible apply State.gantryStopped_ok | with_reducible refine ok_foldl ?_ (fun _ _ _ => ?_) | with_reducible refine ok_step ?_ (fun _ => ?_) | dsimp only | split | (simp only [↓ok_mk]; with_reducible refine parts_ok ?_) | intro _)

theorem State.gantryAbort_ok {D : DevState → Prop} {s : State} (h : s.Ok D) : (State.gantryAbort s).Ok D := by
  unfold State.gantryAbort
  repeat' (first | with_reducible assumption | with_reducible apply State.put_ok | with_reducible apply State.dropNext_ok | with_reducible apply State.gantryStop_ok | with_reducible refine ok_foldl ?_ (fun _ _ _ => ?_) | with_reducible refine ok_step ?_ (fun _ => ?_) | dsimp only | split | (simp only [↓ok_mk]; with_reducible refine parts_ok ?_) | intro _)

theorem State.gantryJump_ok {D : DevState → Prop} {s : State} (label : Nat) (h : s.Ok D) : (State.gantryJump s label).Ok D := by
  unfold State.gantryJump
  repeat' (first | with_reducible assumption | with_reducible apply State.wr_ok | with_reducible apply State.evt_ok | with_reducible apply State.put_ok | with_reducible apply State.countEvt_ok | with_reducible refine ok_foldl ?_ (fun _ _ _ => ?_) | with_reducible refine ok_step ?_ (fun _ => ?_) | dsimp only | split | (simp only [↓ok_mk]; with_reducible refine parts_ok ?_) | intro _)

theorem State.gantryResync_ok {D : DevState → Prop} {s : State} (tr : Nat) (label : Option Nat) (h : s.Ok D) : (State.gantryResync s tr label).Ok D := by
  unfold State.gantryResync
  repeat' (first | with_reducible assumption | with_reducible apply State.wr_ok | with_reducible apply State.evt_ok | with_reducible apply State.put_ok | with_reducible apply State.replan_ok | with_reducible refine ok_foldl ?_ (fun _ _ _ => ?_) | with_reducible refine ok_step ?_ (fun _ => ?_) | dsimp only | split | (simp only [↓ok_mk]; with_reducible refine parts_ok ?_) | intro _)

theorem State.gantryCancel_ok {D : DevState → Prop} {s : State} (h : s.Ok D) : (State.gantryCancel s).Ok D := by
  unfold State.gantryCancel
  repeat' (first | with_reducible assumption | with_reducible apply State.gantryStopped_ok | with_reducible apply State.put_ok | with_reducible apply State.replan_ok | with_reducible refine ok_foldl ?_ (fun _ _ _ => ?_) | with_reducible refine ok_step ?_ (fun _ => ?_) | dsimp only | split | (simp only [↓ok_mk]; with_reducible refine parts_ok ?_) | intro _)

theorem State.periodWrite_ok {D : DevState → Prop} {s : State} (v : Nat) (h : s.Ok D) : (State.periodWrite s v).Ok D := by
  unfold State.periodWrite
  repeat' (first | with_reducible assumption | with_reducible apply State.err_ok | with_reducible apply State.wr_ok | with_reducible refine ok_foldl ?_ (fun _ _ _ => ?_) | with_reducible refine ok_step ?_ (fun _ => ?_) | dsimp only | split | (simp only [↓ok_mk]; with_reducible refine parts_ok ?_) | intro _)

theorem State.lockApply_ok {D : DevState → Prop} {s : State} (h : s.Ok D) : (State.lockApply s).Ok D := by
  unfold State.lockApply
  repeat' (first | with_reducible assumption | with_reducible apply State.err_ok | with_reducible apply State.put_ok | with_reducible refine ok_foldl ?_ (fun _ _ _ => ?_) | with_reducible refine ok_step ?_ (fun _ => ?_) | dsimp only | split | (simp only [↓ok_mk]; with_reducible refine parts_ok ?_) | intro _)

theorem State.lockDone_ok {D : DevState → Prop} {s : State} (h : s.Ok D) : (State.lockDone s).Ok D := by
  unfold State.lockDone
  repeat' (first | with_reducible assumption | with_reducible apply State.put_ok | with_reducible apply State.evt_ok | with_reducible apply State.wr_ok | with_reducible refine ok_foldl ?_ (fun _ _ _ => ?_) | with_reducible refine ok_step ?_ (fun _ => ?_) | dsimp only | split | (simp only [↓ok_mk]; with_reducible refine parts_ok ?_) | intro _)

theorem State.benchWrite_ok {D : DevState → Prop} {s : State} (i : Nat) (ws : List Word) (h : s.Ok D) : (State.benchWrite s i ws).Ok D := by
  unfold State.benchWrite
  repeat' (first | with_reducible assumption | with_reducible apply State.err_ok | with_reducible apply State.wrW_ok | with_reducible refine ok_foldl ?_ (fun _ _ _ => ?_) | with_reducible refine ok_step ?_ (fun _ => ?_) | dsimp only | split | intro _)

theorem State.streamEnable_ok {D : DevState → Prop} {s : State} (h : s.Ok D) : (State.streamEnable s).Ok D := by
  unfold State.streamEnable
  repeat' (first | with_reducible assumption | with_reducible apply State.put_ok | with_reducible apply State.err_ok | with_reducible refine ok_foldl ?_ (fun _ _ _ => ?_) | with_reducible refine ok_step ?_ (fun _ => ?_) | dsimp only | split | (simp only [↓ok_mk]; with_reducible refine parts_ok ?_) | intro _)

theorem State.streamWr_ok {D : DevState → Prop} {s : State} (v : Nat) (h : s.Ok D) : (State.streamWr s v).Ok D := by
  unfold State.streamWr
  repeat' (first | with_reducible assumption | with_reducible apply State.err_ok | with_reducible apply State.wr_ok | with_reducible refine ok_foldl ?_ (fun _ _ _ => ?_) | with_reducible refine ok_step ?_ (fun _ => ?_) | dsimp only | split | intro _)

theorem State.streamFetch_ok {D : DevState → Prop} {s : State} (ecc : Ecc) (h : s.Ok D) : (State.streamFetch s ecc).Ok D := by
  unfold State.streamFetch
  repeat' (first | with_reducible assumption | with_reducible apply State.sdEcc_ok | with_reducible apply State.draw_ok | with_reducible apply State.raise_ok | with_reducible apply State.evt_ok | with_reducible apply State.wr_ok | with_reducible apply State.wrW_ok | with_reducible refine ok_foldl ?_ (fun _ _ _ => ?_) | with_reducible refine ok_step ?_ (fun _ => ?_) | dsimp only | split | (simp only [↓ok_mk]; with_reducible refine parts_ok ?_) | intro _)

theorem State.streamExpect_ok {D : DevState → Prop} {s : State} (v : Nat) (h : s.Ok D) : (State.streamExpect s v).Ok D := by
  unfold State.streamExpect
  repeat' (first | with_reducible assumption | with_reducible apply State.err_ok | with_reducible apply State.wr_ok | with_reducible refine ok_foldl ?_ (fun _ _ _ => ?_) | with_reducible refine ok_step ?_ (fun _ => ?_) | dsimp only | split | (simp only [↓ok_mk]; with_reducible refine parts_ok ?_) | intro _)

theorem State.trigEdge_ok {D : DevState → Prop} {s : State} (i : Nat) (h : s.Ok D) : (State.trigEdge s i).Ok D := by
  unfold State.trigEdge
  repeat' (first | with_reducible assumption | with_reducible apply State.inc_ok | with_reducible apply State.countEvt_ok | with_reducible apply State.wr_ok | with_reducible refine ok_foldl ?_ (fun _ _ _ => ?_) | with_reducible refine ok_step ?_ (fun _ => ?_) | dsimp only | split | intro _)

theorem State.pulse_ok {D : DevState → Prop} {s : State} (k : Nat) (stop : Nat) (h : s.Ok D) : (State.pulse s k stop).Ok D := by
  unfold State.pulse
  repeat' (first | with_reducible assumption | with_reducible apply State.put_ok | with_reducible apply State.incWrap_ok | with_reducible refine ok_foldl ?_ (fun _ _ _ => ?_) | with_reducible refine ok_step ?_ (fun _ => ?_) | dsimp only | split | (simp only [↓ok_mk]; with_reducible refine parts_ok ?_) | intro _)

theorem State.trigoAssert_ok {D : DevState → Prop} {s : State} (k : Nat) (h : s.Ok D) : (State.trigoAssert s k).Ok D := by
  unfold State.trigoAssert
  repeat' (first | with_reducible assumption | with_reducible apply State.countEvt_ok | with_reducible apply State.pulse_ok | with_reducible refine ok_foldl ?_ (fun _ _ _ => ?_) | with_reducible refine ok_step ?_ (fun _ => ?_) | dsimp only | split | (simp only [↓ok_mk]; with_reducible refine parts_ok ?_) | intro _)

theorem State.trigoRelease_ok {D : DevState → Prop} {s : State} (k : Nat) (h : s.Ok D) : (State.trigoRelease s k).Ok D := by
  unfold State.trigoRelease
  repeat' (first | with_reducible assumption | with_reducible apply State.put_ok | with_reducible refine ok_foldl ?_ (fun _ _ _ => ?_) | with_reducible refine ok_step ?_ (fun _ => ?_) | dsimp only | split | (simp only [↓ok_mk]; with_reducible refine parts_ok ?_) | intro _)

theorem State.moveBoundary_ok {D : DevState → Prop} {s : State} (t : Nat) (e : Int) (h : s.Ok D) : (State.moveBoundary s t e).Ok D := by
  unfold State.moveBoundary
  repeat' (first | with_reducible assumption | with_reducible apply State.setNextT_ok | with_reducible refine ok_foldl ?_ (fun _ _ _ => ?_) | with_reducible refine ok_step ?_ (fun _ => ?_) | dsimp only | split | (simp only [↓ok_mk]; with_reducible refine parts_ok ?_) | intro _)

theorem State.syncIn_ok {D : DevState → Prop} {s : State} (tin : Nat) (wide : Bool) (turn : Nat) (h : s.Ok D) : (State.syncIn s tin wide turn).Ok D := by
  unfold State.syncIn
  repeat' (first | with_reducible assumption | with_reducible apply State.evt_ok | with_reducible apply State.put_ok | with_reducible apply State.wr_ok | with_reducible apply State.emit_ok | with_reducible apply State.setPlan_ok | with_reducible apply State.gantryResync_ok | with_reducible apply State.moveBoundary_ok | with_reducible apply State.countEvt_ok | with_reducible refine ok_foldl ?_ (fun _ _ _ => ?_) | with_reducible refine ok_step ?_ (fun _ => ?_) | dsimp only | split | (simp only [↓ok_mk]; with_reducible refine parts_ok ?_) | intro _)

theorem State.echoGo_ok {D : DevState → Prop} {s : State} (h : s.Ok D) : (State.echoGo s).Ok D := by
  unfold State.echoGo
  repeat' (first | with_reducible assumption | with_reducible apply State.put_ok | with_reducible apply State.err_ok | with_reducible refine ok_foldl ?_ (fun _ _ _ => ?_) | with_reducible refine ok_step ?_ (fun _ => ?_) | dsimp only | split | (simp only [↓ok_mk]; with_reducible refine parts_ok ?_) | intro _)

theorem State.echoDone_ok {D : DevState → Prop} {s : State} (mean : Nat) (all : Bool) (h : s.Ok D) : (State.echoDone s mean all).Ok D := by
  unfold State.echoDone
  repeat' (first | with_reducible assumption | with_reducible apply State.evt_ok | with_reducible apply State.put_ok | with_reducible apply State.wr_ok | with_reducible refine ok_foldl ?_ (fun _ _ _ => ?_) | with_reducible refine ok_step ?_ (fun _ => ?_) | dsimp only | split | (simp only [↓ok_mk]; with_reducible refine parts_ok ?_) | intro _)

theorem State.syncOut_ok {D : DevState → Prop} {s : State} (wide : Bool) (h : s.Ok D) : (State.syncOut s wide).Ok D := by
  unfold State.syncOut
  repeat' (first | with_reducible assumption | with_reducible apply State.emit_ok | with_reducible refine ok_foldl ?_ (fun _ _ _ => ?_) | with_reducible refine ok_step ?_ (fun _ => ?_) | dsimp only | split | (simp only [↓ok_mk]; with_reducible refine parts_ok ?_) | intro _)

end Sys2Proof.Machine
end

