-- ==== Sys2Proof/Laws/KeepPlumb.lean ====
section
/-! SUPPORT. What every operation keeps (State.Ok): Seam, Plumb and the fuses. -/
namespace Sys2Proof.Machine

theorem State.modSeam_ok {D : DevState → Prop} {s : State} (f : SeamSt → SeamSt) (h : s.Ok D) : (State.modSeam s f).Ok D := by
  unfold State.modSeam
  repeat' (first | with_reducible assumption | with_reducible refine ok_foldl ?_ (fun _ _ _ => ?_) | with_reducible refine ok_step ?_ (fun _ => ?_) | dsimp only | split | (simp only [↓ok_mk]; with_reducible refine parts_ok ?_) | intro _)

theorem State.seamRegs_ok {D : DevState → Prop} {s : State} (h : s.Ok D) : (State.seamRegs s).Ok D := by
  unfold State.seamRegs
  repeat' (first | with_reducible assumption | with_reducible apply State.put_ok | with_reducible apply State.wr_ok | with_reducible refine ok_foldl ?_ (fun _ _ _ => ?_) | with_reducible refine ok_step ?_ (fun _ => ?_) | dsimp only | split | intro _)

theorem State.seamResult_ok {D : DevState → Prop} {s : State} (dest : SolveDest) (tag : Nat) (code : Nat) (flags : Nat) (lane : Nat) (ns : Nat) (rec : List Byte) (h : s.Ok D) : (State.seamResult s dest tag code flags lane ns rec).Ok D := by
  unfold State.seamResult
  repeat' (first | with_reducible assumption | with_reducible apply State.wr_ok | with_reducible apply State.inc_ok | with_reducible apply State.sdWrite_ok | with_reducible apply State.modSeam_ok | with_reducible apply State.evt_ok | with_reducible refine ok_foldl ?_ (fun _ _ _ => ?_) | with_reducible refine ok_step ?_ (fun _ => ?_) | dsimp only | split | intro _)

theorem State.seamFail_ok {D : DevState → Prop} {s : State} (dest : SolveDest) (tag : Nat) (target : Nat) (base : Nat) (code : Nat) (flags : Nat) (lane : Nat) (first : Nat) (h : s.Ok D) : (State.seamFail s dest tag target base code flags lane first).Ok D := by
  unfold State.seamFail
  repeat' (first | with_reducible assumption | with_reducible apply State.seamResult_ok | with_reducible refine ok_foldl ?_ (fun _ _ _ => ?_) | with_reducible refine ok_step ?_ (fun _ => ?_) | dsimp only | split | intro _)

theorem State.seamRaise_ok {D : DevState → Prop} {s : State} (h : s.Ok D) : (State.seamRaise s).Ok D := by
  unfold State.seamRaise
  repeat' (first | with_reducible assumption | with_reducible refine ok_foldl ?_ (fun _ _ _ => ?_) | with_reducible refine ok_step ?_ (fun _ => ?_) | dsimp only | split | (simp only [↓ok_mk]; with_reducible refine parts_ok ?_) | intro _)

theorem State.seamQueue_ok {D : DevState → Prop} {s : State} (r : SolveReq) (h : s.Ok D) : (State.seamQueue s r).Ok D := by
  unfold State.seamQueue
  repeat' (first | with_reducible assumption | with_reducible apply State.seamRegs_ok | with_reducible apply State.seamRaise_ok | with_reducible apply State.modSeam_ok | with_reducible refine ok_foldl ?_ (fun _ _ _ => ?_) | with_reducible refine ok_step ?_ (fun _ => ?_) | dsimp only | split | intro _)

theorem State.seamSubmit_ok {D : DevState → Prop} {s : State} (desc : Option (List Byte)) (dest : SolveDest) (h : s.Ok D) : (State.seamSubmit s desc dest).Ok D := by
  unfold State.seamSubmit
  repeat' (first | with_reducible assumption | with_reducible apply State.draw_ok | with_reducible apply State.seamRegs_ok | with_reducible apply State.seamFail_ok | with_reducible apply State.seamQueue_ok | with_reducible refine ok_foldl ?_ (fun _ _ _ => ?_) | with_reducible refine ok_step ?_ (fun _ => ?_) | dsimp only | split | intro _)

theorem State.seamProbe_ok {D : DevState → Prop} {s : State} (tag : Nat) (target : Nat) (base : Nat) (probe : Nat) (h : s.Ok D) : (State.seamProbe s tag target base probe).1.Ok D := by
  unfold State.seamProbe
  repeat' (first | with_reducible assumption | with_reducible apply State.modSeam_ok | with_reducible apply State.seamRegs_ok | with_reducible apply State.seamFail_ok | with_reducible apply State.seamQueue_ok | with_reducible refine ok_foldl ?_ (fun _ _ _ => ?_) | with_reducible refine ok_step ?_ (fun _ => ?_) | dsimp only | split | intro _)

theorem State.seamDoorbell_ok {D : DevState → Prop} {s : State} (h : s.Ok D) : (State.seamDoorbell s).Ok D := by
  unfold State.seamDoorbell
  repeat' (first | with_reducible assumption | with_reducible apply State.err_ok | with_reducible apply State.seamRegs_ok | with_reducible apply State.modSeam_ok | with_reducible refine ok_foldl ?_ (fun _ _ _ => ?_) | with_reducible refine ok_step ?_ (fun _ => ?_) | dsimp only | split | intro _)

theorem State.seamFetched_ok {D : DevState → Prop} {s : State} (ecc : Ecc) (h : s.Ok D) : (State.seamFetched s ecc).Ok D := by
  unfold State.seamFetched
  repeat' (first | with_reducible assumption | with_reducible apply State.modSeam_ok | with_reducible apply State.sdEcc_ok | with_reducible apply State.seamRegs_ok | with_reducible apply State.seamSubmit_ok | with_reducible refine ok_foldl ?_ (fun _ _ _ => ?_) | with_reducible refine ok_step ?_ (fun _ => ?_) | dsimp only | split | intro _)

theorem State.laneStart_ok {D : DevState → Prop} {s : State} (lane : Nat) (h : s.Ok D) : (State.laneStart s lane).Ok D := by
  unfold State.laneStart
  repeat' (first | with_reducible assumption | with_reducible apply State.seamRegs_ok | with_reducible apply State.seamRaise_ok | with_reducible apply State.modSeam_ok | with_reducible refine ok_foldl ?_ (fun _ _ _ => ?_) | with_reducible refine ok_step ?_ (fun _ => ?_) | dsimp only | split | intro _)

theorem State.laneFree_ok {D : DevState → Prop} {s : State} (lane : Nat) (h : s.Ok D) : (State.laneFree s lane).Ok D := by
  unfold State.laneFree
  repeat' (first | with_reducible assumption | with_reducible apply State.seamRegs_ok | with_reducible apply State.jobDone_ok | with_reducible apply State.modSeam_ok | with_reducible refine ok_foldl ?_ (fun _ _ _ => ?_) | with_reducible refine ok_step ?_ (fun _ => ?_) | dsimp only | split | intro _)

theorem State.lanePins_ok {D : DevState → Prop} {s : State} (l : LaneSt) (h : s.Ok D) : (State.lanePins s l).Ok D := by
  unfold State.lanePins
  repeat' (first | with_reducible assumption | with_reducible apply State.modSeam_ok | with_reducible apply State.countEvt_ok | with_reducible refine ok_foldl ?_ (fun _ _ _ => ?_) | with_reducible refine ok_step ?_ (fun _ => ?_) | dsimp only | split | intro _)

theorem State.seamPins_ok {D : DevState → Prop} {s : State} (h : s.Ok D) : (State.seamPins s).Ok D := by
  unfold State.seamPins
  repeat' (first | with_reducible assumption | with_reducible apply State.lanePins_ok | with_reducible refine ok_foldl ?_ (fun _ _ _ => ?_) | with_reducible refine ok_step ?_ (fun _ => ?_) | dsimp only | split | intro _)

theorem State.seamStale_ok {D : DevState → Prop} {s : State} (p : LaneSt → Bool) (h : s.Ok D) : (State.seamStale s p).Ok D := by
  unfold State.seamStale
  repeat' (first | with_reducible assumption | with_reducible apply State.modSeam_ok | with_reducible refine ok_foldl ?_ (fun _ _ _ => ?_) | with_reducible refine ok_step ?_ (fun _ => ?_) | dsimp only | split | intro _)

theorem State.seamLive_ok {D : DevState → Prop} {s : State} (h : s.Ok D) : (State.seamLive s).Ok D := by
  unfold State.seamLive
  repeat' (first | with_reducible assumption | with_reducible apply State.seamStale_ok | with_reducible refine ok_foldl ?_ (fun _ _ _ => ?_) | with_reducible refine ok_step ?_ (fun _ => ?_) | dsimp only | split | intro _)

theorem State.laneComplete_ok {D : DevState → Prop} {s : State} (lane : Nat) (h : s.Ok D) : (State.laneComplete s lane).Ok D := by
  unfold State.laneComplete
  repeat' (first | with_reducible assumption | with_reducible apply State.laneFree_ok | with_reducible apply State.seamFail_ok | with_reducible apply State.writeSlot_ok | with_reducible apply State.sdWrite_ok | with_reducible apply State.seamResult_ok | with_reducible refine ok_foldl ?_ (fun _ _ _ => ?_) | with_reducible refine ok_step ?_ (fun _ => ?_) | dsimp only | split | intro _)

theorem State.laneTimeout_ok {D : DevState → Prop} {s : State} (lane : Nat) (h : s.Ok D) : (State.laneTimeout s lane).Ok D := by
  unfold State.laneTimeout
  repeat' (first | with_reducible assumption | with_reducible apply State.raise_ok | with_reducible apply State.seamFail_ok | with_reducible apply State.laneFree_ok | with_reducible refine ok_foldl ?_ (fun _ _ _ => ?_) | with_reducible refine ok_step ?_ (fun _ => ?_) | dsimp only | split | intro _)

theorem State.seamAbort_ok {D : DevState → Prop} {s : State} (h : s.Ok D) : (State.seamAbort s).Ok D := by
  unfold State.seamAbort
  repeat' (first | with_reducible assumption | with_reducible apply State.withdraw_ok | with_reducible apply State.modSeam_ok | with_reducible apply State.seamFail_ok | with_reducible apply State.laneFree_ok | with_reducible apply State.seamRegs_ok | with_reducible refine ok_foldl ?_ (fun _ _ _ => ?_) | with_reducible refine ok_step ?_ (fun _ => ?_) | dsimp only | split | intro _)

theorem State.seamOffer_ok {D : DevState → Prop} {s : State} (lane : Nat) (h : s.Ok D) : (State.seamOffer s lane).Ok D := by
  unfold State.seamOffer
  repeat' (first | with_reducible assumption | with_reducible apply State.offer_ok | with_reducible refine ok_foldl ?_ (fun _ _ _ => ?_) | with_reducible refine ok_step ?_ (fun _ => ?_) | dsimp only | split | intro _)

theorem State.modPlumb_ok {D : DevState → Prop} {s : State} (f : PlumbSt → PlumbSt) (h : s.Ok D) : (State.modPlumb s f).Ok D := by
  unfold State.modPlumb
  repeat' (first | with_reducible assumption | with_reducible refine ok_foldl ?_ (fun _ _ _ => ?_) | with_reducible refine ok_step ?_ (fun _ => ?_) | dsimp only | split | (simp only [↓ok_mk]; with_reducible refine parts_ok ?_) | intro _)

theorem resetWord_bank {k : Nat} (h1 : 0x300000 ≤ k) (h2 : k < 0x400000) : resetWord k = 0 := by
  have hp : pageOf k = none := by
    simp only [pageOf, pageInfos, List.find?_eq_none, List.mem_cons, List.not_mem_nil, or_false]
    rintro p (rfl | rfl | rfl | rfl | rfl | rfl | rfl | rfl | rfl | rfl | rfl | rfl | rfl | rfl | rfl | rfl | rfl | rfl | rfl | rfl | rfl | rfl | rfl | rfl | rfl) <;> simp <;> omega
  have hw : ∀ w, windowOf k = some w → w.rows = [] := by
    intro w hw
    have hm := List.mem_of_find?_eq_some hw
    have hb := List.find?_some hw
    simp only [windowInfos, List.mem_cons, List.not_mem_nil, or_false] at hm
    rcases hm with rfl | rfl | rfl | rfl | rfl | rfl | rfl | rfl | rfl | rfl | rfl | rfl <;> first | rfl | (simp at hb; omega)
  simp only [resetWord, hp, fieldsAt]
  split
  · rename_i w e; simp [hw w e, hits, resetOf]
  · simp [resetOf]

theorem bank_split {D : DevState → Prop} {s : State} (h : s.Ok D) {l1 l2 : Tab Word} (h1 : tabWf resetWord l1) (h2 : tabWf resetWord l2) (b1 : ∀ e ∈ l1, 0x300000 ≤ e.1 ∧ e.1 < 0x380000) (b2 : ∀ e ∈ l2, 0x380000 ≤ e.1 ∧ e.1 < 0x400000) :
    tabWf resetWord ((s.regs.filter fun e => decide (e.1 < 0x300000)) ++ l1 ++ l2 ++ s.regs.filter fun e => decide (0x400000 ≤ e.1)) := by
  obtain ⟨hs, hd⟩ := h.words
  refine ⟨?_, fun e he => ?_⟩
  · refine List.pairwise_append.2 ⟨List.pairwise_append.2 ⟨List.pairwise_append.2 ⟨hs.filter _, h1.1, fun a ha b hb => ?_⟩, h2.1, fun a ha b hb => ?_⟩, hs.filter _, fun a ha b hb => ?_⟩
    · have := b1 b hb; simp only [List.mem_filter, decide_eq_true_eq] at ha; omega
    · have := b2 b hb
      rcases List.mem_append.1 ha with ha | ha
      · simp only [List.mem_filter, decide_eq_true_eq] at ha; omega
      · have := b1 a ha; omega
    · simp only [List.mem_filter, decide_eq_true_eq] at hb
      rcases List.mem_append.1 ha with ha | ha
      · rcases List.mem_append.1 ha with ha | ha
        · simp only [List.mem_filter, decide_eq_true_eq] at ha; omega
        · have := b1 a ha; omega
      · have := b2 a ha; omega
  · rcases List.mem_append.1 he with he | he
    · rcases List.mem_append.1 he with he | he
      · rcases List.mem_append.1 he with he | he
        · exact hd e (List.mem_filter.1 he).1
        · exact h1.2 e he
      · exact h2.2 e he
    · exact hd e (List.mem_filter.1 he).1

theorem bank_shift {l : Tab Word} {f : Nat → Nat} (h : tabWf resetWord l) (hf : ∀ a b, a < b → (∃ x ∈ l, x.1 = a) → f a < f b) (hl : ∀ e ∈ l, 0x300000 ≤ e.1 ∧ e.1 < 0x400000) (hr : ∀ e ∈ l, 0x300000 ≤ f e.1 ∧ f e.1 < 0x400000) : tabWf resetWord (l.map fun e => (f e.1, e.2)) := by
  refine ⟨List.pairwise_map.2 (h.1.imp_of_mem fun ha _ hab => hf _ _ hab ⟨_, ha, rfl⟩), fun e he => ?_⟩
  obtain ⟨x, hx, rfl⟩ := List.mem_map.1 he
  have := h.2 x hx
  rw [resetWord_bank (hl x hx).1 (hl x hx).2] at this
  simpa only [resetWord_bank (hr x hx).1 (hr x hx).2] using this

theorem State.swapBanks_ok {D : DevState → Prop} {s : State} (h : s.Ok D) : (s.swapBanks).Ok D := by
  have hw := tab_filter_wf (fun e => inBank 0x300000 e.1) h.words
  have hp := tab_filter_wf (fun e => inBank 0x380000 e.1) h.words
  have bw : ∀ e ∈ s.regs.filter (fun e => inBank 0x300000 e.1), 0x300000 ≤ e.1 ∧ e.1 < 0x380000 := fun e he => by
    have := (List.mem_filter.1 he).2; simp only [inBank, Bool.and_eq_true, decide_eq_true_eq] at this; omega
  have bp : ∀ e ∈ s.regs.filter (fun e => inBank 0x380000 e.1), 0x380000 ≤ e.1 ∧ e.1 < 0x400000 := fun e he => by
    have := (List.mem_filter.1 he).2; simp only [inBank, Bool.and_eq_true, decide_eq_true_eq] at this; omega
  have h1 := bank_shift (f := fun a => a - 0x80000) hp (fun a b hab ⟨x, hx, e⟩ => by have := bp x hx; omega) (fun e he => by have := bp e he; omega) (fun e he => by have := bp e he; omega)
  have h2 := bank_shift (f := fun a => a + 0x80000) hw (fun a b hab _ => by omega) (fun e he => by have := bw e he; omega) (fun e he => by have := bw e he; omega)
  refine Parts.withWords h (bank_split h h1 h2 (fun e he => ?_) (fun e he => ?_))
  · obtain ⟨x, hx, rfl⟩ := List.mem_map.1 he; have := bp x hx; simp only; omega
  · obtain ⟨x, hx, rfl⟩ := List.mem_map.1 he; have := bw x hx; simp only; omega

theorem State.copyBank_ok {D : DevState → Prop} {s : State} (h : s.Ok D) : (s.copyBank).Ok D := by
  have hw := tab_filter_wf (fun e => inBank 0x300000 e.1) h.words
  have bw : ∀ e ∈ s.regs.filter (fun e => inBank 0x300000 e.1), 0x300000 ≤ e.1 ∧ e.1 < 0x380000 := fun e he => by
    have := (List.mem_filter.1 he).2; simp only [inBank, Bool.and_eq_true, decide_eq_true_eq] at this; omega
  have h2 := bank_shift (f := fun a => a + 0x80000) hw (fun a b hab _ => by omega) (fun e he => by have := bw e he; omega) (fun e he => by have := bw e he; omega)
  have h3 := bank_split h hw h2 bw (fun e he => by obtain ⟨x, hx, rfl⟩ := List.mem_map.1 he; have := bw x hx; simp only; omega)
  refine Parts.withWords h ⟨?_, fun e he => ?_⟩
  · obtain ⟨hs, -⟩ := h.words
    refine List.pairwise_append.2 ⟨List.pairwise_append.2 ⟨hs.filter _, h2.1, fun a ha b hb => ?_⟩, hs.filter _, fun a ha b hb => ?_⟩
    · obtain ⟨x, hx, rfl⟩ := List.mem_map.1 hb; have := bw x hx
      simp only [List.mem_filter, decide_eq_true_eq] at ha; simp only; omega
    · simp only [List.mem_filter, decide_eq_true_eq] at hb
      rcases List.mem_append.1 ha with ha | ha
      · simp only [List.mem_filter, decide_eq_true_eq] at ha; omega
      · obtain ⟨x, hx, rfl⟩ := List.mem_map.1 ha; have := bw x hx; simp only; omega
  · rcases List.mem_append.1 he with he | he
    · rcases List.mem_append.1 he with he | he
      · exact h.words.2 e (List.mem_filter.1 he).1
      · exact h2.2 e he
    · exact h.words.2 e (List.mem_filter.1 he).1

theorem State.armSwap_ok {D : DevState → Prop} {s : State} (host : Bool) (h : s.Ok D) : (State.armSwap s host).Ok D := by
  unfold State.armSwap
  repeat' (first | with_reducible assumption | with_reducible apply State.modPlumb_ok | with_reducible apply State.put_ok | with_reducible refine ok_foldl ?_ (fun _ _ _ => ?_) | with_reducible refine ok_step ?_ (fun _ => ?_) | dsimp only | split | intro _)

theorem State.bankSwap_ok {D : DevState → Prop} {s : State} (t : Nat) (h : s.Ok D) : (State.bankSwap s t).Ok D := by
  unfold State.bankSwap
  repeat' (first | with_reducible assumption | with_reducible apply State.recomputePow_ok | with_reducible apply State.swapProbes_ok | with_reducible apply State.swapBanks_ok | with_reducible apply State.loadSafe_ok | with_reducible apply State.put_ok | with_reducible apply State.modPlumb_ok | with_reducible apply State.wrTime_ok | with_reducible apply State.incWrap_ok | with_reducible apply State.wr_ok | with_reducible apply State.checkHtrOver_ok | with_reducible apply State.evt_ok | with_reducible apply State.seamStale_ok | with_reducible refine ok_foldl ?_ (fun _ _ _ => ?_) | with_reducible refine ok_step ?_ (fun _ => ?_) | dsimp only | split | intro _)

theorem State.swapInstant_ok {D : DevState → Prop} {s : State} (h : s.Ok D) : (State.swapInstant s).Ok D := by
  unfold State.swapInstant
  repeat' (first | with_reducible assumption | with_reducible apply State.bankSwap_ok | with_reducible refine ok_foldl ?_ (fun _ _ _ => ?_) | with_reducible refine ok_step ?_ (fun _ => ?_) | dsimp only | split | intro _)

theorem State.pendingCopied_ok {D : DevState → Prop} {s : State} (h : s.Ok D) : (State.pendingCopied s).Ok D := by
  unfold State.pendingCopied
  repeat' (first | with_reducible assumption | with_reducible apply State.put_ok | with_reducible apply State.copyBank_ok | with_reducible refine ok_foldl ?_ (fun _ _ _ => ?_) | with_reducible refine ok_step ?_ (fun _ => ?_) | dsimp only | split | intro _)

theorem State.hostSwap_ok {D : DevState → Prop} {s : State} (h : s.Ok D) : (State.hostSwap s).Ok D := by
  unfold State.hostSwap
  repeat' (first | with_reducible assumption | with_reducible apply State.modPlumb_ok | with_reducible refine ok_foldl ?_ (fun _ _ _ => ?_) | with_reducible refine ok_step ?_ (fun _ => ?_) | dsimp only | split | intro _)

theorem State.hostSwapChecked_ok {D : DevState → Prop} {s : State} (h : s.Ok D) : (State.hostSwapChecked s).Ok D := by
  unfold State.hostSwapChecked
  repeat' (first | with_reducible assumption | with_reducible apply State.wr_ok | with_reducible apply State.modPlumb_ok | with_reducible apply State.armSwap_ok | with_reducible refine ok_foldl ?_ (fun _ _ _ => ?_) | with_reducible refine ok_step ?_ (fun _ => ?_) | dsimp only | split | intro _)

theorem State.bankAbandon_ok {D : DevState → Prop} {s : State} (h : s.Ok D) : (State.bankAbandon s).Ok D := by
  unfold State.bankAbandon
  repeat' (first | with_reducible assumption | with_reducible apply State.modPlumb_ok | with_reducible apply State.put_ok | with_reducible refine ok_foldl ?_ (fun _ _ _ => ?_) | with_reducible refine ok_step ?_ (fun _ => ?_) | dsimp only | split | intro _)

theorem State.runNext_ok {D : DevState → Prop} {s : State} (h : s.Ok D) : (State.runNext s).Ok D := by
  unfold State.runNext
  repeat' (first | with_reducible assumption | with_reducible apply State.wr_ok | with_reducible refine ok_foldl ?_ (fun _ _ _ => ?_) | with_reducible refine ok_step ?_ (fun _ => ?_) | dsimp only | split | intro _)

theorem State.modRun_ok {D : DevState → Prop} {s : State} (f : RunSt → RunSt) (h : s.Ok D) : (State.modRun s f).Ok D := by
  unfold State.modRun
  repeat' (first | with_reducible assumption | with_reducible apply State.modPlumb_ok | with_reducible refine ok_foldl ?_ (fun _ _ _ => ?_) | with_reducible refine ok_step ?_ (fun _ => ?_) | dsimp only | split | intro _)

theorem State.runRequest_ok {D : DevState → Prop} {s : State} (kinds : Nat) (h : s.Ok D) : (State.runRequest s kinds).1.Ok D := by
  unfold State.runRequest
  repeat' (first | with_reducible assumption | with_reducible apply State.wr_ok | with_reducible apply State.countEvt_ok | with_reducible apply State.put_ok | with_reducible refine ok_foldl ?_ (fun _ _ _ => ?_) | with_reducible refine ok_step ?_ (fun _ => ?_) | dsimp only | split | intro _)

theorem State.plumbOffer_ok {D : DevState → Prop} {s : State} (h : s.Ok D) : (State.plumbOffer s).Ok D := by
  unfold State.plumbOffer
  repeat' (first | with_reducible assumption | with_reducible apply State.offer_ok | with_reducible refine ok_foldl ?_ (fun _ _ _ => ?_) | with_reducible refine ok_step ?_ (fun _ => ?_) | dsimp only | split | intro _)

theorem State.plumbStart_ok {D : DevState → Prop} {s : State} (h : s.Ok D) : (State.plumbStart s).Ok D := by
  unfold State.plumbStart
  repeat' (first | with_reducible assumption | with_reducible apply State.inc_ok | with_reducible apply State.copyBank_ok | with_reducible apply State.put_ok | with_reducible apply State.runNext_ok | with_reducible apply State.wr_ok | with_reducible apply State.modPlumb_ok | with_reducible refine ok_foldl ?_ (fun _ _ _ => ?_) | with_reducible refine ok_step ?_ (fun _ => ?_) | dsimp only | split | intro _)

theorem State.plumbTake_ok {D : DevState → Prop} {s : State} (f : Fld) (old : Nat) (new : Nat) (within : Bool) (h : s.Ok D) : (State.plumbTake s f old new within).Ok D := by
  unfold State.plumbTake
  repeat' (first | with_reducible assumption | with_reducible apply State.modRun_ok | with_reducible apply State.wr_ok | with_reducible apply State.inc_ok | with_reducible refine ok_foldl ?_ (fun _ _ _ => ?_) | with_reducible refine ok_step ?_ (fun _ => ?_) | dsimp only | split | intro _)

theorem State.darkLeave_ok {D : DevState → Prop} {s : State} (h : s.Ok D) : (State.darkLeave s).Ok D := by
  unfold State.darkLeave
  repeat' (first | with_reducible assumption | with_reducible apply State.modRun_ok | with_reducible apply State.hostRange_ok | with_reducible refine ok_foldl ?_ (fun _ _ _ => ?_) | with_reducible refine ok_step ?_ (fun _ => ?_) | dsimp only | split | intro _)

theorem State.darkStore_ok {D : DevState → Prop} {s : State} (mid : Nat) (ofs : List Nat) (h : s.Ok D) : (State.darkStore s mid ofs).Ok D := by
  unfold State.darkStore
  repeat' (first | with_reducible assumption | with_reducible apply State.plumbTake_ok | with_reducible refine ok_foldl ?_ (fun _ _ _ => ?_) | with_reducible refine ok_step ?_ (fun _ => ?_) | dsimp only | split | intro _)

theorem State.darkRange_ok {D : DevState → Prop} {s : State} (d : DarkSt) (h : s.Ok D) : (State.darkRange s d).Ok D := by
  unfold State.darkRange
  repeat' (first | with_reducible assumption | with_reducible apply State.modRun_ok | with_reducible apply State.request_ok | with_reducible apply State.hostRange_ok | with_reducible refine ok_foldl ?_ (fun _ _ _ => ?_) | with_reducible refine ok_step ?_ (fun _ => ?_) | dsimp only | split | intro _)

theorem State.darkStep_ok {D : DevState → Prop} {s : State} (h : s.Ok D) : (State.darkStep s).Ok D := by
  unfold State.darkStep
  repeat' (first | with_reducible assumption | with_reducible apply State.runNext_ok | with_reducible apply State.darkRange_ok | with_reducible apply State.modRun_ok | with_reducible apply State.darkLeave_ok | with_reducible apply State.request_ok | with_reducible apply State.darkStore_ok | with_reducible refine ok_foldl ?_ (fun _ _ _ => ?_) | with_reducible refine ok_step ?_ (fun _ => ?_) | dsimp only | split | intro _)

theorem State.darkTake_ok {D : DevState → Prop} {s : State} (r : Result) (raw14 : Nat) (h : s.Ok D) : (State.darkTake s r raw14).Ok D := by
  unfold State.darkTake
  repeat' (first | with_reducible assumption | with_reducible apply State.request_ok | with_reducible apply State.darkLeave_ok | with_reducible apply State.modRun_ok | with_reducible refine ok_foldl ?_ (fun _ _ _ => ?_) | with_reducible refine ok_step ?_ (fun _ => ?_) | dsimp only | split | intro _)

theorem State.darkMode_ok {D : DevState → Prop} {s : State} (h : s.Ok D) : (State.darkMode s).Ok D := by
  unfold State.darkMode
  repeat' (first | with_reducible assumption | with_reducible apply State.darkLeave_ok | with_reducible refine ok_foldl ?_ (fun _ _ _ => ?_) | with_reducible refine ok_step ?_ (fun _ => ?_) | dsimp only | split | intro _)

theorem State.atlasNote_ok {D : DevState → Prop} {s : State} (eid : Nat) (ecc : Ecc) (h : s.Ok D) : (State.atlasNote s eid ecc).Ok D := by
  unfold State.atlasNote
  repeat' (first | with_reducible assumption | with_reducible apply State.sdEcc_ok | with_reducible apply State.sdWrite_ok | with_reducible apply State.draw_ok | with_reducible refine ok_foldl ?_ (fun _ _ _ => ?_) | with_reducible refine ok_step ?_ (fun _ => ?_) | dsimp only | split | intro _)

theorem State.recentreElem_ok {D : DevState → Prop} {s : State} (eid : Nat) (ecc : Ecc) (h : s.Ok D) : (State.recentreElem s eid ecc).Ok D := by
  unfold State.recentreElem
  repeat' (first | with_reducible assumption | with_reducible apply State.atlasNote_ok | with_reducible apply State.plumbTake_ok | with_reducible refine ok_foldl ?_ (fun _ _ _ => ?_) | with_reducible refine ok_step ?_ (fun _ => ?_) | dsimp only | split | intro _)

theorem State.recentre_ok {D : DevState → Prop} {s : State} (errs : List Nat) (corrs : List Nat) (h : s.Ok D) : (State.recentre s errs corrs).Ok D := by
  unfold State.recentre
  repeat' (first | with_reducible assumption | with_reducible apply State.recentreElem_ok | with_reducible apply State.runNext_ok | with_reducible refine ok_foldl ?_ (fun _ _ _ => ?_) | with_reducible refine ok_step ?_ (fun _ => ?_) | dsimp only | split | intro _)

theorem State.visitNext_ok {D : DevState → Prop} {s : State} (h : s.Ok D) : (State.visitNext s).Ok D := by
  unfold State.visitNext
  repeat' (first | with_reducible assumption | with_reducible apply State.modRun_ok | with_reducible apply State.wr_ok | with_reducible refine ok_foldl ?_ (fun _ _ _ => ?_) | with_reducible refine ok_step ?_ (fun _ => ?_) | dsimp only | split | intro _)

theorem State.visitSkip_ok {D : DevState → Prop} {s : State} (n : Nat) (h : s.Ok D) : (s.visitSkip n).Ok D := by
  induction n generalizing s with
  | zero => exact h
  | succ n ih =>
    unfold State.visitSkip
    split
    · split
      · exact ih (State.visitNext_ok (s.inc_ok _ h))
      · exact h
    · exact h

theorem State.sweepSubmit_ok {D : DevState → Prop} {s : State} (h : s.Ok D) : (State.sweepSubmit s).Ok D := by
  unfold State.sweepSubmit
  repeat' (first | with_reducible assumption | with_reducible apply State.runNext_ok | with_reducible apply State.visitSkip_ok | with_reducible apply State.draw_ok | with_reducible apply State.seamProbe_ok | with_reducible apply State.modRun_ok | with_reducible refine ok_foldl ?_ (fun _ _ _ => ?_) | with_reducible refine ok_step ?_ (fun _ => ?_) | dsimp only | split | intro _)

theorem State.probeSolved_ok {D : DevState → Prop} {s : State} (h : s.Ok D) : (State.probeSolved s).Ok D := by
  unfold State.probeSolved
  repeat' (first | with_reducible assumption | with_reducible apply State.modSeam_ok | with_reducible apply State.modRun_ok | with_reducible apply State.visitNext_ok | with_reducible apply State.inc_ok | with_reducible refine ok_foldl ?_ (fun _ _ _ => ?_) | with_reducible refine ok_step ?_ (fun _ => ?_) | dsimp only | split | intro _)

theorem State.pointLive_ok {D : DevState → Prop} {s : State} (w : Window) (j : Nat) (h : s.Ok D) : (State.pointLive s w j).Ok D := by
  unfold State.pointLive
  repeat' (first | with_reducible assumption | with_reducible apply State.modPlumb_ok | with_reducible apply State.directFast_ok | with_reducible refine ok_foldl ?_ (fun _ _ _ => ?_) | with_reducible refine ok_step ?_ (fun _ => ?_) | dsimp only | split | intro _)

theorem State.windowOpen_ok {D : DevState → Prop} {s : State} (timed : Bool) (h : s.Ok D) : (State.windowOpen s timed).Ok D := by
  unfold State.windowOpen
  repeat' (first | with_reducible assumption | with_reducible apply State.inc_ok | with_reducible apply State.evt_ok | with_reducible apply State.visitNext_ok | with_reducible apply State.modRun_ok | with_reducible apply State.pointLive_ok | with_reducible refine ok_foldl ?_ (fun _ _ _ => ?_) | with_reducible refine ok_step ?_ (fun _ => ?_) | dsimp only | split | intro _)

theorem State.sweepValue_ok {D : DevState → Prop} {s : State} (w : Window) (eid : Nat) (h : s.Ok D) : (State.sweepValue s w eid).Ok D := by
  unfold State.sweepValue
  repeat' (first | with_reducible assumption | with_reducible apply State.draw_ok | with_reducible apply State.plumbTake_ok | with_reducible refine ok_foldl ?_ (fun _ _ _ => ?_) | with_reducible refine ok_step ?_ (fun _ => ?_) | dsimp only | split | intro _)

theorem State.sweepPoint_ok {D : DevState → Prop} {s : State} (samples : List (Nat × Int × Int)) (h : s.Ok D) : (State.sweepPoint s samples).Ok D := by
  unfold State.sweepPoint
  repeat' (first | with_reducible assumption | with_reducible apply State.pointLive_ok | with_reducible apply State.closeWindow_ok | with_reducible apply State.sweepValue_ok | with_reducible apply State.visitNext_ok | with_reducible apply State.modRun_ok | with_reducible refine ok_foldl ?_ (fun _ _ _ => ?_) | with_reducible refine ok_step ?_ (fun _ => ?_) | dsimp only | split | intro _)

theorem State.windowEnd_ok {D : DevState → Prop} {s : State} (h : s.Ok D) : (State.windowEnd s).Ok D := by
  unfold State.windowEnd
  repeat' (first | with_reducible assumption | with_reducible apply State.closeWindow_ok | with_reducible refine ok_foldl ?_ (fun _ _ _ => ?_) | with_reducible refine ok_step ?_ (fun _ => ?_) | dsimp only | split | intro _)

theorem State.runEnd_ok {D : DevState → Prop} {s : State} (result : Nat) (h : s.Ok D) : (State.runEnd s result).Ok D := by
  unfold State.runEnd
  repeat' (first | with_reducible assumption | with_reducible apply State.closeWindow_ok | with_reducible apply State.darkLeave_ok | with_reducible apply State.jobDone_ok | with_reducible apply State.modPlumb_ok | with_reducible apply State.wr_ok | with_reducible apply State.put_ok | with_reducible apply State.armSwap_ok | with_reducible apply State.raise_ok | with_reducible apply State.evt_ok | with_reducible refine ok_foldl ?_ (fun _ _ _ => ?_) | with_reducible refine ok_step ?_ (fun _ => ?_) | dsimp only | split | intro _)

theorem State.plumbRunEnd_ok {D : DevState → Prop} {s : State} (h : s.Ok D) : (State.plumbRunEnd s).Ok D := by
  unfold State.plumbRunEnd
  repeat' (first | with_reducible assumption | with_reducible apply State.runEnd_ok | with_reducible refine ok_foldl ?_ (fun _ _ _ => ?_) | with_reducible refine ok_step ?_ (fun _ => ?_) | dsimp only | split | intro _)

theorem State.plumbAbort_ok {D : DevState → Prop} {s : State} (h : s.Ok D) : (State.plumbAbort s).Ok D := by
  unfold State.plumbAbort
  repeat' (first | with_reducible assumption | with_reducible apply State.withdraw_ok | with_reducible apply State.runEnd_ok | with_reducible apply State.put_ok | with_reducible refine ok_foldl ?_ (fun _ _ _ => ?_) | with_reducible refine ok_step ?_ (fun _ => ?_) | dsimp only | split | intro _)

theorem State.plumbDrain_ok {D : DevState → Prop} {s : State} (h : s.Ok D) : (State.plumbDrain s).Ok D := by
  unfold State.plumbDrain
  repeat' (first | with_reducible assumption | with_reducible apply State.modRun_ok | with_reducible apply State.runNext_ok | with_reducible apply State.plumbAbort_ok | with_reducible refine ok_foldl ?_ (fun _ _ _ => ?_) | with_reducible refine ok_step ?_ (fun _ => ?_) | dsimp only | split | intro _)

theorem State.drainCheck_ok {D : DevState → Prop} {s : State} (h : s.Ok D) : (State.drainCheck s).Ok D := by
  unfold State.drainCheck
  repeat' (first | with_reducible assumption | with_reducible apply State.runNext_ok | with_reducible refine ok_foldl ?_ (fun _ _ _ => ?_) | with_reducible refine ok_step ?_ (fun _ => ?_) | dsimp only | split | intro _)

theorem State.trigRun_ok {D : DevState → Prop} {s : State} (kinds : Nat) (h : s.Ok D) : (State.trigRun s kinds).Ok D := by
  unfold State.trigRun
  repeat' (first | with_reducible assumption | with_reducible apply State.runRequest_ok | with_reducible apply State.evt_ok | with_reducible refine ok_foldl ?_ (fun _ _ _ => ?_) | with_reducible refine ok_step ?_ (fun _ => ?_) | dsimp only | split | intro _)

theorem State.intervalTrigger_ok {D : DevState → Prop} {s : State} (h : s.Ok D) : (State.intervalTrigger s).Ok D := by
  unfold State.intervalTrigger
  repeat' (first | with_reducible assumption | with_reducible apply State.trigRun_ok | with_reducible refine ok_foldl ?_ (fun _ _ _ => ?_) | with_reducible refine ok_step ?_ (fun _ => ?_) | dsimp only | split | intro _)

theorem State.tempTrigger_ok {D : DevState → Prop} {s : State} (h : s.Ok D) : (State.tempTrigger s).Ok D := by
  unfold State.tempTrigger
  repeat' (first | with_reducible assumption | with_reducible apply State.trigRun_ok | with_reducible refine ok_foldl ?_ (fun _ _ _ => ?_) | with_reducible refine ok_step ?_ (fun _ => ?_) | dsimp only | split | intro _)

theorem State.atlasFreeze_ok {D : DevState → Prop} {s : State} (h : s.Ok D) : (State.atlasFreeze s).Ok D := by
  unfold State.atlasFreeze
  repeat' (first | with_reducible assumption | with_reducible apply State.modPlumb_ok | with_reducible apply State.put_ok | with_reducible refine ok_foldl ?_ (fun _ _ _ => ?_) | with_reducible refine ok_step ?_ (fun _ => ?_) | dsimp only | split | intro _)

theorem State.atlasFrozen_ok {D : DevState → Prop} {s : State} (h : s.Ok D) : (State.atlasFrozen s).Ok D := by
  unfold State.atlasFrozen
  repeat' (first | with_reducible assumption | with_reducible apply State.modPlumb_ok | with_reducible apply State.sdWrite_ok | with_reducible apply State.put_ok | with_reducible refine ok_foldl ?_ (fun _ _ _ => ?_) | with_reducible refine ok_step ?_ (fun _ => ?_) | dsimp only | split | intro _)

theorem State.atlasThaw_ok {D : DevState → Prop} {s : State} (h : s.Ok D) : (State.atlasThaw s).Ok D := by
  unfold State.atlasThaw
  repeat' (first | with_reducible assumption | with_reducible apply State.modPlumb_ok | with_reducible apply State.put_ok | with_reducible refine ok_foldl ?_ (fun _ _ _ => ?_) | with_reducible refine ok_step ?_ (fun _ => ?_) | dsimp only | split | intro _)

theorem State.atlasEnable_ok {D : DevState → Prop} {s : State} (h : s.Ok D) : (State.atlasEnable s).Ok D := by
  unfold State.atlasEnable
  repeat' (first | with_reducible assumption | with_reducible apply State.draw_ok | with_reducible apply State.put_ok | with_reducible apply State.evt_ok | with_reducible apply State.sdWrite_ok | with_reducible refine ok_foldl ?_ (fun _ _ _ => ?_) | with_reducible refine ok_step ?_ (fun _ => ?_) | dsimp only | split | intro _)

theorem State.burn_ok {D : DevState → Prop} {s : State} (a : Nat) (l : List Byte) (h : s.Ok D) : (State.burn s a l).Ok D := by
  unfold State.burn
  repeat' (first | with_reducible assumption | with_reducible apply State.wr_ok | with_reducible refine ok_foldl ?_ (fun _ _ _ => ?_) | with_reducible refine ok_step ?_ (fun _ => ?_) | dsimp only | split | intro _)

theorem State.fuseRegs_ok {D : DevState → Prop} {s : State} (h : s.Ok D) : (State.fuseRegs s).Ok D := by
  unfold State.fuseRegs
  repeat' (first | with_reducible assumption | with_reducible apply State.wr_ok | with_reducible apply State.put_ok | with_reducible refine ok_foldl ?_ (fun _ _ _ => ?_) | with_reducible refine ok_step ?_ (fun _ => ?_) | dsimp only | split | intro _)

theorem State.fuseCommit_ok {D : DevState → Prop} {s : State} (confirm : Nat) (local' : Bool) (h : s.Ok D) : (State.fuseCommit s confirm local').1.Ok D := by
  unfold State.fuseCommit
  repeat' (first | with_reducible assumption | with_reducible apply State.wr_ok | with_reducible apply State.wrW_ok | with_reducible apply State.put_ok | with_reducible apply State.modPlumb_ok | with_reducible refine ok_foldl ?_ (fun _ _ _ => ?_) | with_reducible refine ok_step ?_ (fun _ => ?_) | dsimp only | split | intro _)

theorem State.fuseEnd_ok {D : DevState → Prop} {s : State} (e : FuseEnd) (h : s.Ok D) : (State.fuseEnd s e).Ok D := by
  unfold State.fuseEnd
  repeat' (first | with_reducible assumption | with_reducible apply State.put_ok | with_reducible apply State.modPlumb_ok | with_reducible apply State.wr_ok | with_reducible apply State.burn_ok | with_reducible apply State.evt_ok | with_reducible apply State.fuseRegs_ok | with_reducible apply State.raise_ok | with_reducible refine ok_foldl ?_ (fun _ _ _ => ?_) | with_reducible refine ok_step ?_ (fun _ => ?_) | dsimp only | split | intro _)

theorem State.finishRevoke_ok {D : DevState → Prop} {s : State} (confirm : Nat) (h : s.Ok D) : (State.finishRevoke s confirm).Ok D := by
  unfold State.finishRevoke
  repeat' (first | with_reducible assumption | with_reducible apply State.err_ok | with_reducible apply State.burn_ok | with_reducible apply State.fuseRegs_ok | with_reducible refine ok_foldl ?_ (fun _ _ _ => ?_) | with_reducible refine ok_step ?_ (fun _ => ?_) | dsimp only | split | intro _)

theorem State.fuseLoad_ok {D : DevState → Prop} {s : State} (h : s.Ok D) : (State.fuseLoad s).Ok D := by
  unfold State.fuseLoad
  repeat' (first | with_reducible assumption | with_reducible apply State.evt_ok | with_reducible apply State.raise_ok | with_reducible apply State.clearRange_ok | with_reducible apply State.wrW_ok | with_reducible apply State.fuseRegs_ok | with_reducible apply State.wr_ok | with_reducible apply State.put_ok | with_reducible refine ok_foldl ?_ (fun _ _ _ => ?_) | with_reducible refine ok_step ?_ (fun _ => ?_) | dsimp only | split | intro _)

end Sys2Proof.Machine
end

