-- ==== Sys2Proof/Laws/KeepTime.lean ====
section
/-! SUPPORT. What every operation keeps (State.Ok): the thermal zones and network time. -/
namespace Sys2Proof.Machine

theorem State.modTherm_ok {D : DevState → Prop} {s : State} (f : ThermSt → ThermSt) (h : s.Ok D) : (State.modTherm s f).Ok D := by
  unfold State.modTherm
  repeat' (first | with_reducible assumption | with_reducible refine ok_foldl ?_ (fun _ _ _ => ?_) | with_reducible refine ok_step ?_ (fun _ => ?_) | dsimp only | split | (simp only [↓ok_mk]; with_reducible refine parts_ok ?_) | intro _)

theorem State.setFailed_ok {D : DevState → Prop} {s : State} (i : Nat) (f : Bool) (why : Nat) (h : s.Ok D) : (State.setFailed s i f why).Ok D := by
  unfold State.setFailed
  repeat' (first | with_reducible assumption | with_reducible apply State.wr_ok | with_reducible apply State.put_ok | with_reducible refine ok_foldl ?_ (fun _ _ _ => ?_) | with_reducible refine ok_step ?_ (fun _ => ?_) | dsimp only | split | intro _)

theorem State.sensorFail_ok {D : DevState → Prop} {s : State} (i : Nat) (why : Nat) (h : s.Ok D) : (State.sensorFail s i why).Ok D := by
  unfold State.sensorFail
  repeat' (first | with_reducible assumption | with_reducible apply State.modTherm_ok | with_reducible apply State.setFailed_ok | with_reducible apply State.raise_ok | with_reducible apply State.countEvt_ok | with_reducible refine ok_foldl ?_ (fun _ _ _ => ?_) | with_reducible refine ok_step ?_ (fun _ => ?_) | dsimp only | split | intro _)

theorem State.judge_ok {D : DevState → Prop} {s : State} (before : List (Nat × Int)) (i : Nat) (x : Sample) (h : s.Ok D) : (State.judge s before i x).Ok D := by
  unfold State.judge
  repeat' (first | with_reducible assumption | with_reducible apply State.modTherm_ok | with_reducible apply State.sensorFail_ok | with_reducible apply State.wr_ok | with_reducible apply State.evt_ok | with_reducible apply State.setFailed_ok | with_reducible refine ok_foldl ?_ (fun _ _ _ => ?_) | with_reducible refine ok_step ?_ (fun _ => ?_) | dsimp only | split | intro _)

theorem State.noteRound_ok {D : DevState → Prop} {s : State} (k : Nat) (r : Round) (hot : Option Nat) (h : s.Ok D) : (State.noteRound s k r hot).Ok D := by
  unfold State.noteRound
  repeat' (first | with_reducible assumption | with_reducible apply State.modTherm_ok | with_reducible apply State.put_ok | with_reducible apply State.wr_ok | with_reducible refine ok_foldl ?_ (fun _ _ _ => ?_) | with_reducible refine ok_step ?_ (fun _ => ?_) | dsimp only | split | intro _)

theorem State.setStage_ok {D : DevState → Prop} {s : State} (n : Nat) (h : s.Ok D) : (State.setStage s n).Ok D := by
  unfold State.setStage
  repeat' (first | with_reducible assumption | with_reducible apply State.wr_ok | with_reducible refine ok_foldl ?_ (fun _ _ _ => ?_) | with_reducible refine ok_step ?_ (fun _ => ?_) | dsimp only | split | intro _)

theorem State.throttleEdge_ok {D : DevState → Prop} {s : State} (k : Nat) (on : Bool) (h : s.Ok D) : (State.throttleEdge s k on).Ok D := by
  unfold State.throttleEdge
  repeat' (first | with_reducible assumption | with_reducible apply State.modTherm_ok | with_reducible apply State.ballastZero_ok | with_reducible apply State.setStage_ok | with_reducible apply State.ballastLive_ok | with_reducible apply State.checkHtrOver_ok | with_reducible refine ok_foldl ?_ (fun _ _ _ => ?_) | with_reducible refine ok_step ?_ (fun _ => ?_) | dsimp only | split | intro _)

theorem State.zoneShutdown_ok {D : DevState → Prop} {s : State} (k : Nat) (h : s.Ok D) (hC : DevClosed D) : (State.zoneShutdown s k).Ok D := by
  unfold State.zoneShutdown
  repeat' (first | with_reducible assumption | with_reducible apply State.evt_ok | with_reducible apply State.raiseDirect_ok | with_reducible apply State.enterSafe_ok | with_reducible apply State.raise_ok | with_reducible refine ok_foldl ?_ (fun _ _ _ => ?_) | with_reducible refine ok_step ?_ (fun _ => ?_) | dsimp only | split | intro _)

theorem State.zoneMove_ok {D : DevState → Prop} {s : State} (k : Nat) (l : Nat) (h : s.Ok D) (hC : DevClosed D) : (State.zoneMove s k l).Ok D := by
  unfold State.zoneMove
  repeat' (first | with_reducible assumption | with_reducible apply State.modTherm_ok | with_reducible apply State.wr_ok | with_reducible apply State.throttleEdge_ok | with_reducible apply State.evt_ok | with_reducible apply State.zoneShutdown_ok | with_reducible apply State.raise_ok | with_reducible apply State.inc_ok | with_reducible refine ok_foldl ?_ (fun _ _ _ => ?_) | with_reducible refine ok_step ?_ (fun _ => ?_) | dsimp only | split | intro _)

theorem State.zoneStep_ok {D : DevState → Prop} {s : State} (k : Nat) (was : List Nat) (h : s.Ok D) (hC : DevClosed D) : (State.zoneStep s k was).Ok D := by
  unfold State.zoneStep
  repeat' (first | with_reducible assumption | with_reducible apply State.noteRound_ok | with_reducible apply State.zoneMove_ok | with_reducible refine ok_foldl ?_ (fun _ _ _ => ?_) | with_reducible refine ok_step ?_ (fun _ => ?_) | dsimp only | split | intro _)

theorem State.sensorRound_ok {D : DevState → Prop} {s : State} (xs : List Sample) (h : s.Ok D) (hC : DevClosed D) : (State.sensorRound s xs).Ok D := by
  unfold State.sensorRound
  repeat' (first | with_reducible assumption | with_reducible apply State.judge_ok | with_reducible apply State.enterSafe_ok | with_reducible apply State.zoneStep_ok | with_reducible apply State.tempTrigger_ok | with_reducible refine ok_foldl ?_ (fun _ _ _ => ?_) | with_reducible refine ok_step ?_ (fun _ => ?_) | dsimp only | split | (simp only [↓ok_mk]; with_reducible refine parts_ok ?_) | intro _)

theorem State.picStage2_ok {D : DevState → Prop} {s : State} (h : s.Ok D) : (State.picStage2 s).Ok D := by
  unfold State.picStage2
  repeat' (first | with_reducible assumption | with_reducible apply State.checkHtrOver_ok | with_reducible apply State.setStage_ok | with_reducible refine ok_foldl ?_ (fun _ _ _ => ?_) | with_reducible refine ok_step ?_ (fun _ => ?_) | dsimp only | split | intro _)

theorem State.jobGrant_ok {D : DevState → Prop} {s : State} (h : s.Ok D) : (State.jobGrant s).Ok D := by
  unfold State.jobGrant
  repeat' (first | with_reducible assumption | with_reducible apply State.inc_ok | with_reducible apply State.dropJob_ok | with_reducible apply State.laneStart_ok | with_reducible apply State.plumbStart_ok | with_reducible apply State.wrapGo_ok | with_reducible refine ok_foldl ?_ (fun _ _ _ => ?_) | with_reducible refine ok_step ?_ (fun _ => ?_) | dsimp only | split | (simp only [↓ok_mk]; with_reducible refine parts_ok ?_) | intro _)

theorem State.jobEnd_ok {D : DevState → Prop} {s : State} (h : s.Ok D) : (State.jobEnd s).Ok D := by
  unfold State.jobEnd
  repeat' (first | with_reducible assumption | with_reducible refine ok_foldl ?_ (fun _ _ _ => ?_) | with_reducible refine ok_step ?_ (fun _ => ?_) | dsimp only | split | (simp only [↓ok_mk]; with_reducible refine parts_ok ?_) | intro _)

theorem State.jobAged_ok {D : DevState → Prop} {s : State} (heater : Bool) (h : s.Ok D) : (State.jobAged s heater).Ok D := by
  unfold State.jobAged
  repeat' (first | with_reducible assumption | with_reducible apply State.evt_ok | with_reducible refine ok_foldl ?_ (fun _ _ _ => ?_) | with_reducible refine ok_step ?_ (fun _ => ?_) | dsimp only | split | (simp only [↓ok_mk]; with_reducible refine parts_ok ?_) | intro _)

theorem State.jobOffer_ok {D : DevState → Prop} {s : State} (k : JobKind) (h : s.Ok D) : (State.jobOffer s k).Ok D := by
  unfold State.jobOffer
  repeat' (first | with_reducible assumption | with_reducible apply State.seamOffer_ok | with_reducible apply State.plumbOffer_ok | with_reducible apply State.wrapCheck_ok | with_reducible refine ok_foldl ?_ (fun _ _ _ => ?_) | with_reducible refine ok_step ?_ (fun _ => ?_) | dsimp only | split | intro _)

theorem State.avsSend_ok {D : DevState → Prop} {s : State} (c : AvsCmd) (h : s.Ok D) : (State.avsSend s c).Ok D := by
  unfold State.avsSend
  repeat' (first | with_reducible assumption | with_reducible apply State.emit_ok | with_reducible apply State.modTherm_ok | with_reducible refine ok_foldl ?_ (fun _ _ _ => ?_) | with_reducible refine ok_step ?_ (fun _ => ?_) | dsimp only | split | intro _)

theorem State.avsStep_ok {D : DevState → Prop} {s : State} (d : Int) (h : s.Ok D) : (State.avsStep s d).Ok D := by
  unfold State.avsStep
  repeat' (first | with_reducible assumption | with_reducible apply State.inc_ok | with_reducible apply State.wr_ok | with_reducible apply State.evt_ok | with_reducible apply State.avsSend_ok | with_reducible refine ok_foldl ?_ (fun _ _ _ => ?_) | with_reducible refine ok_step ?_ (fun _ => ?_) | dsimp only | split | intro _)

theorem State.avsAgain_ok {D : DevState → Prop} {s : State} (h : s.Ok D) : (State.avsAgain s).Ok D := by
  unfold State.avsAgain
  repeat' (first | with_reducible assumption | with_reducible apply State.avsSend_ok | with_reducible refine ok_foldl ?_ (fun _ _ _ => ?_) | with_reducible refine ok_step ?_ (fun _ => ?_) | dsimp only | split | intro _)

theorem State.avsPeriod_ok {D : DevState → Prop} {s : State} (m : Nat) (mon : Nat) (h : s.Ok D) : (State.avsPeriod s m mon).Ok D := by
  unfold State.avsPeriod
  repeat' (first | with_reducible assumption | with_reducible apply State.wr_ok | with_reducible apply State.modTherm_ok | with_reducible apply State.avsAgain_ok | with_reducible apply State.avsStep_ok | with_reducible refine ok_foldl ?_ (fun _ _ _ => ?_) | with_reducible refine ok_step ?_ (fun _ => ?_) | dsimp only | split | intro _)

theorem State.marginCrit_ok {D : DevState → Prop} {s : State} (m : Nat) (h : s.Ok D) : (State.marginCrit s m).Ok D := by
  unfold State.marginCrit
  repeat' (first | with_reducible assumption | with_reducible apply State.raise_ok | with_reducible apply State.evt_ok | with_reducible apply State.avsStep_ok | with_reducible refine ok_foldl ?_ (fun _ _ _ => ?_) | with_reducible refine ok_step ?_ (fun _ => ?_) | dsimp only | split | intro _)

theorem State.avsAnswer_ok {D : DevState → Prop} {s : State} (mv : Nat) (h : s.Ok D) : (State.avsAnswer s mv).Ok D := by
  unfold State.avsAnswer
  repeat' (first | with_reducible assumption | with_reducible apply State.modTherm_ok | with_reducible apply State.put_ok | with_reducible apply State.wr_ok | with_reducible refine ok_foldl ?_ (fun _ _ _ => ?_) | with_reducible refine ok_step ?_ (fun _ => ?_) | dsimp only | split | intro _)

theorem State.avsFail_ok {D : DevState → Prop} {s : State} (status : Nat) (h : s.Ok D) : (State.avsFail s status).Ok D := by
  unfold State.avsFail
  repeat' (first | with_reducible assumption | with_reducible apply State.modTherm_ok | with_reducible apply State.emit_ok | with_reducible apply State.put_ok | with_reducible apply State.raise_ok | with_reducible apply State.countEvt_ok | with_reducible apply State.avsSend_ok | with_reducible refine ok_foldl ?_ (fun _ _ _ => ?_) | with_reducible refine ok_step ?_ (fun _ => ?_) | dsimp only | split | intro _)

theorem State.modTime_ok {D : DevState → Prop} {s : State} (f : TimeSt → TimeSt) (h : s.Ok D) : (State.modTime s f).Ok D := by
  unfold State.modTime
  repeat' (first | with_reducible assumption | with_reducible refine ok_foldl ?_ (fun _ _ _ => ?_) | with_reducible refine ok_step ?_ (fun _ => ?_) | dsimp only | split | (simp only [↓ok_mk]; with_reducible refine parts_ok ?_) | intro _)

theorem State.setAdj_ok {D : DevState → Prop} {s : State} (a : Int) (h : s.Ok D) : (State.setAdj s a).Ok D := by
  unfold State.setAdj
  repeat' (first | with_reducible assumption | with_reducible apply State.wr_ok | with_reducible refine ok_foldl ?_ (fun _ _ _ => ?_) | with_reducible refine ok_step ?_ (fun _ => ?_) | dsimp only | split | intro _)

theorem State.slewTo_ok {D : DevState → Prop} {s : State} (d : Int) (h : s.Ok D) : (State.slewTo s d).Ok D := by
  unfold State.slewTo
  repeat' (first | with_reducible assumption | with_reducible apply State.modTime_ok | with_reducible refine ok_foldl ?_ (fun _ _ _ => ?_) | with_reducible refine ok_step ?_ (fun _ => ?_) | dsimp only | split | intro _)

theorem State.ppsCheck_ok {D : DevState → Prop} {s : State} (h : s.Ok D) : (State.ppsCheck s).Ok D := by
  unfold State.ppsCheck
  repeat' (first | with_reducible assumption | with_reducible apply State.modTime_ok | with_reducible refine ok_foldl ?_ (fun _ _ _ => ?_) | with_reducible refine ok_step ?_ (fun _ => ?_) | dsimp only | split | intro _)

theorem State.setServo_ok {D : DevState → Prop} {s : State} (n : Nat) (h : s.Ok D) : (State.setServo s n).Ok D := by
  unfold State.setServo
  repeat' (first | with_reducible assumption | with_reducible apply State.modTime_ok | with_reducible apply State.wr_ok | with_reducible apply State.evt_ok | with_reducible apply State.ppsCheck_ok | with_reducible refine ok_foldl ?_ (fun _ _ _ => ?_) | with_reducible refine ok_step ?_ (fun _ => ?_) | dsimp only | split | intro _)

theorem State.setTev_ok {D : DevState → Prop} {s : State} (k : Nat) (p : Option TevPlan) (h : s.Ok D) : (State.setTev s k p).Ok D := by
  unfold State.setTev
  repeat' (first | with_reducible assumption | with_reducible apply State.modTime_ok | with_reducible refine ok_foldl ?_ (fun _ _ _ => ?_) | with_reducible refine ok_step ?_ (fun _ => ?_) | dsimp only | split | intro _)

theorem State.tevDisarm_ok {D : DevState → Prop} {s : State} (k : Nat) (h : s.Ok D) : (State.tevDisarm s k).Ok D := by
  unfold State.tevDisarm
  repeat' (first | with_reducible assumption | with_reducible apply State.put_ok | with_reducible apply State.setTev_ok | with_reducible refine ok_foldl ?_ (fun _ _ _ => ?_) | with_reducible refine ok_step ?_ (fun _ => ?_) | dsimp only | split | intro _)

theorem State.tevNote_ok {D : DevState → Prop} {s : State} (p : TevPlan) (late : Bool) (n : Nat) (h : s.Ok D) : (State.tevNote s p late n).Ok D := by
  unfold State.tevNote
  repeat' (first | with_reducible assumption | with_reducible apply State.put_ok | with_reducible apply State.incWrap_ok | with_reducible apply State.evt_ok | with_reducible apply State.add_ok | with_reducible apply State.tevDisarm_ok | with_reducible apply State.setTev_ok | with_reducible refine ok_foldl ?_ (fun _ _ _ => ?_) | with_reducible refine ok_step ?_ (fun _ => ?_) | dsimp only | split | intro _)

theorem State.tevPulse_ok {D : DevState → Prop} {s : State} (k : Nat) (t : Nat) (h : s.Ok D) : (State.tevPulse s k t).Ok D := by
  unfold State.tevPulse
  repeat' (first | with_reducible assumption | with_reducible apply State.pulse_ok | with_reducible refine ok_foldl ?_ (fun _ _ _ => ?_) | with_reducible refine ok_step ?_ (fun _ => ?_) | dsimp only | split | intro _)

theorem State.restartAll_ok {D : DevState → Prop} {s : State} (h : s.Ok D) : (State.restartAll s).Ok D := by
  unfold State.restartAll
  repeat' (first | with_reducible assumption | with_reducible apply State.steerBack_ok | with_reducible apply State.converterRestart_ok | with_reducible refine ok_foldl ?_ (fun _ _ _ => ?_) | with_reducible refine ok_step ?_ (fun _ => ?_) | dsimp only | split | intro _)

theorem State.tevActs_ok {D : DevState → Prop} {s : State} (fs : List (Nat × Nat)) (h : s.Ok D) : (State.tevActs s fs).Ok D := by
  unfold State.tevActs
  repeat' (first | with_reducible assumption | with_reducible apply State.tevPulse_ok | with_reducible apply State.startByEvent_ok | with_reducible apply State.closeWindow_ok | with_reducible apply State.restartAll_ok | with_reducible apply State.loopEpoch_ok | with_reducible apply State.capRun_ok | with_reducible apply State.windowOpen_ok | with_reducible refine ok_foldl ?_ (fun _ _ _ => ?_) | with_reducible refine ok_step ?_ (fun _ => ?_) | dsimp only | split | intro _)

theorem State.tevFire_ok {D : DevState → Prop} {s : State} (ks : List Nat) (h : s.Ok D) : (State.tevFire s ks).Ok D := by
  unfold State.tevFire
  repeat' (first | with_reducible assumption | with_reducible apply State.tevNote_ok | with_reducible apply State.tevActs_ok | with_reducible refine ok_foldl ?_ (fun _ _ _ => ?_) | with_reducible refine ok_step ?_ (fun _ => ?_) | dsimp only | split | intro _)

theorem State.tevPassed_ok {D : DevState → Prop} {s : State} (old : Nat) (h : s.Ok D) : (State.tevPassed s old).Ok D := by
  unfold State.tevPassed
  repeat' (first | with_reducible assumption | with_reducible apply State.tevNote_ok | with_reducible apply State.tevActs_ok | with_reducible refine ok_foldl ?_ (fun _ _ _ => ?_) | with_reducible refine ok_step ?_ (fun _ => ?_) | dsimp only | split | intro _)

theorem State.now_keeps {D : DevState → Prop} {s : State} (h : s.Ok D) (t : Int) : State.Ok D { s with now := (t % (timeWrap : Int)).toNat } := by
  refine Parts.withClock h ?_
  have h1 : (0 : Int) < (timeWrap : Int) := by decide
  have h2 := Int.emod_lt_of_pos t h1
  have h3 := Int.emod_nonneg t (Int.ne_of_gt h1)
  show (t % (timeWrap : Int)).toNat < timeWrap
  omega

theorem State.stepBy_ok {D : DevState → Prop} {s : State} (d : Int) (h : s.Ok D) : (s.stepBy d).Ok D :=
  State.tevPassed_ok _ (State.countEvt_ok _ _ _ (State.wr_ok _ _ (State.modTime_ok _ (s.now_keeps h _))))

theorem State.hostStep_ok {D : DevState → Prop} {s : State} (d : Int) (h : s.Ok D) : (State.hostStep s d).Ok D := by
  unfold State.hostStep
  repeat' (first | with_reducible assumption | with_reducible apply State.stepBy_ok | with_reducible apply State.err_ok | with_reducible apply State.evt_ok | with_reducible refine ok_foldl ?_ (fun _ _ _ => ?_) | with_reducible refine ok_step ?_ (fun _ => ?_) | dsimp only | split | intro _)

theorem State.cmdStep_ok {D : DevState → Prop} {s : State} (h : s.Ok D) : (State.cmdStep s).Ok D := by
  unfold State.cmdStep
  repeat' (first | with_reducible assumption | with_reducible apply State.hostStep_ok | with_reducible refine ok_foldl ?_ (fun _ _ _ => ?_) | with_reducible refine ok_step ?_ (fun _ => ?_) | dsimp only | split | intro _)

theorem State.cmdOffset_ok {D : DevState → Prop} {s : State} (h : s.Ok D) : (State.cmdOffset s).Ok D := by
  unfold State.cmdOffset
  repeat' (first | with_reducible assumption | with_reducible apply State.hostStep_ok | with_reducible apply State.slewTo_ok | with_reducible refine ok_foldl ?_ (fun _ _ _ => ?_) | with_reducible refine ok_step ?_ (fun _ => ?_) | dsimp only | split | intro _)

theorem State.servoAct_ok {D : DevState → Prop} {s : State} (off : Int) (l : Nat) (h : s.Ok D) : (State.servoAct s off l).Ok D := by
  unfold State.servoAct
  repeat' (first | with_reducible assumption | with_reducible apply State.stepBy_ok | with_reducible apply State.raise_ok | with_reducible apply State.countEvt_ok | with_reducible apply State.put_ok | with_reducible apply State.slewTo_ok | with_reducible apply State.setAdj_ok | with_reducible refine ok_foldl ?_ (fun _ _ _ => ?_) | with_reducible refine ok_step ?_ (fun _ => ?_) | dsimp only | split | intro _)

theorem State.offsetSeen_ok {D : DevState → Prop} {s : State} (off : Int) (l : Nat) (h : s.Ok D) : (State.offsetSeen s off l).Ok D := by
  unfold State.offsetSeen
  repeat' (first | with_reducible assumption | with_reducible apply State.wr_ok | with_reducible apply State.setServo_ok | with_reducible apply State.modTime_ok | with_reducible apply State.servoAct_ok | with_reducible refine ok_foldl ?_ (fun _ _ _ => ?_) | with_reducible refine ok_step ?_ (fun _ => ?_) | dsimp only | split | intro _)

theorem State.portStates_ok {D : DevState → Prop} {s : State} (h : s.Ok D) : (State.portStates s).Ok D := by
  unfold State.portStates
  repeat' (first | with_reducible assumption | with_reducible apply State.wr_ok | with_reducible refine ok_foldl ?_ (fun _ _ _ => ?_) | with_reducible refine ok_step ?_ (fun _ => ?_) | dsimp only | split | intro _)

theorem State.setSource_ok {D : DevState → Prop} {s : State} (p : Nat) (h : s.Ok D) : (State.setSource s p).Ok D := by
  unfold State.setSource
  repeat' (first | with_reducible assumption | with_reducible apply State.portStates_ok | with_reducible apply State.wr_ok | with_reducible refine ok_foldl ?_ (fun _ _ _ => ?_) | with_reducible refine ok_step ?_ (fun _ => ?_) | dsimp only | split | intro _)

theorem State.switchSource_ok {D : DevState → Prop} {s : State} (p : Nat) (h : s.Ok D) : (State.switchSource s p).Ok D := by
  unfold State.switchSource
  repeat' (first | with_reducible assumption | with_reducible apply State.countEvt_ok | with_reducible apply State.setSource_ok | with_reducible refine ok_foldl ?_ (fun _ _ _ => ?_) | with_reducible refine ok_step ?_ (fun _ => ?_) | dsimp only | split | intro _)

theorem State.followPath_ok {D : DevState → Prop} {s : State} (h : s.Ok D) : (State.followPath s).Ok D := by
  unfold State.followPath
  repeat' (first | with_reducible assumption | with_reducible apply State.switchSource_ok | with_reducible refine ok_foldl ?_ (fun _ _ _ => ?_) | with_reducible refine ok_step ?_ (fun _ => ?_) | dsimp only | split | intro _)

theorem State.hear_ok {D : DevState → Prop} {s : State} (port : Nat) (log : Int) (h : s.Ok D) : (State.hear s port log).Ok D := by
  unfold State.hear
  repeat' (first | with_reducible assumption | with_reducible apply State.modTime_ok | with_reducible refine ok_foldl ?_ (fun _ _ _ => ?_) | with_reducible refine ok_step ?_ (fun _ => ?_) | dsimp only | split | intro _)

theorem State.syncDone_ok {D : DevState → Prop} {s : State} (m : SyncMsg) (h : s.Ok D) : (State.syncDone s m).Ok D := by
  unfold State.syncDone
  repeat' (first | with_reducible assumption | with_reducible apply State.modTime_ok | with_reducible apply State.wr_ok | with_reducible apply State.offsetSeen_ok | with_reducible refine ok_foldl ?_ (fun _ _ _ => ?_) | with_reducible refine ok_step ?_ (fun _ => ?_) | dsimp only | split | intro _)

theorem State.ptpSync_ok {D : DevState → Prop} {s : State} (port : Nat) (via : Nat) (gm : Nat) (dom : Nat) (t1 : Nat) (t2 : Nat) (corr : Int) (log : Int) (twoStep : Bool) (h : s.Ok D) : (State.ptpSync s port via gm dom t1 t2 corr log twoStep).Ok D := by
  unfold State.ptpSync
  repeat' (first | with_reducible assumption | with_reducible apply State.inc_ok | with_reducible apply State.hear_ok | with_reducible apply State.modTime_ok | with_reducible apply State.syncDone_ok | with_reducible refine ok_foldl ?_ (fun _ _ _ => ?_) | with_reducible refine ok_step ?_ (fun _ => ?_) | dsimp only | split | intro _)

theorem State.ptpFollowUp_ok {D : DevState → Prop} {s : State} (port : Nat) (via : Nat) (gm : Nat) (dom : Nat) (t1 : Nat) (corr : Int) (h : s.Ok D) : (State.ptpFollowUp s port via gm dom t1 corr).Ok D := by
  unfold State.ptpFollowUp
  repeat' (first | with_reducible assumption | with_reducible apply State.syncDone_ok | with_reducible apply State.modTime_ok | with_reducible refine ok_foldl ?_ (fun _ _ _ => ?_) | with_reducible refine ok_step ?_ (fun _ => ?_) | dsimp only | split | intro _)

theorem State.delayReq_ok {D : DevState → Prop} {s : State} (t3 : Nat) (h : s.Ok D) : (State.delayReq s t3).Ok D := by
  unfold State.delayReq
  repeat' (first | with_reducible assumption | with_reducible apply State.emit_ok | with_reducible apply State.modTime_ok | with_reducible refine ok_foldl ?_ (fun _ _ _ => ?_) | with_reducible refine ok_step ?_ (fun _ => ?_) | dsimp only | split | intro _)

theorem State.delayResp_ok {D : DevState → Prop} {s : State} (port : Nat) (via : Nat) (dom : Nat) (t4 : Nat) (corr : Int) (h : s.Ok D) : (State.delayResp s port via dom t4 corr).Ok D := by
  unfold State.delayResp
  repeat' (first | with_reducible assumption | with_reducible apply State.inc_ok | with_reducible apply State.modTime_ok | with_reducible apply State.wr_ok | with_reducible refine ok_foldl ?_ (fun _ _ _ => ?_) | with_reducible refine ok_step ?_ (fun _ => ?_) | dsimp only | split | intro _)

theorem State.profileDrop_ok {D : DevState → Prop} {s : State} (port : Nat) (via : Nat) (h : s.Ok D) : (State.profileDrop s port via).Ok D := by
  unfold State.profileDrop
  repeat' (first | with_reducible assumption | with_reducible apply State.inc_ok | with_reducible refine ok_foldl ?_ (fun _ _ _ => ?_) | with_reducible refine ok_step ?_ (fun _ => ?_) | dsimp only | split | intro _)

theorem State.pdelayReq_ok {D : DevState → Prop} {s : State} (port : Nat) (via : Nat) (corr : Int) (turn : Nat) (h : s.Ok D) : (State.pdelayReq s port via corr turn).Ok D := by
  unfold State.pdelayReq
  repeat' (first | with_reducible assumption | with_reducible apply State.profileDrop_ok | with_reducible apply State.emit_ok | with_reducible refine ok_foldl ?_ (fun _ _ _ => ?_) | with_reducible refine ok_step ?_ (fun _ => ?_) | dsimp only | split | intro _)

theorem State.pdelayDone_ok {D : DevState → Prop} {s : State} (port : Nat) (r : Option (Nat × Nat)) (h : s.Ok D) : (State.pdelayDone s port r).Ok D := by
  unfold State.pdelayDone
  repeat' (first | with_reducible assumption | with_reducible apply State.emit_ok | with_reducible apply State.wr_ok | with_reducible apply State.inc_ok | with_reducible refine ok_foldl ?_ (fun _ _ _ => ?_) | with_reducible refine ok_step ?_ (fun _ => ?_) | dsimp only | split | intro _)

theorem State.ptpAnnounce_ok {D : DevState → Prop} {s : State} (port : Nat) (via : Nat) (dom : Nat) (id : Nat) (data : List Nat) (h : s.Ok D) : (State.ptpAnnounce s port via dom id data).Ok D := by
  unfold State.ptpAnnounce
  repeat' (first | with_reducible assumption | with_reducible apply State.modTime_ok | with_reducible apply State.portStates_ok | with_reducible apply State.wr_ok | with_reducible apply State.evt_ok | with_reducible apply State.setServo_ok | with_reducible refine ok_foldl ?_ (fun _ _ _ => ?_) | with_reducible refine ok_step ?_ (fun _ => ?_) | dsimp only | split | intro _)

theorem State.holdover_ok {D : DevState → Prop} {s : State} (h : s.Ok D) : (State.holdover s).Ok D := by
  unfold State.holdover
  repeat' (first | with_reducible assumption | with_reducible apply State.setAdj_ok | with_reducible apply State.modTime_ok | with_reducible apply State.wr_ok | with_reducible apply State.raise_ok | with_reducible apply State.evt_ok | with_reducible apply State.setServo_ok | with_reducible refine ok_foldl ?_ (fun _ _ _ => ?_) | with_reducible refine ok_step ?_ (fun _ => ?_) | dsimp only | split | intro _)

theorem State.syncLoss_ok {D : DevState → Prop} {s : State} (h : s.Ok D) : (State.syncLoss s).Ok D := by
  unfold State.syncLoss
  repeat' (first | with_reducible assumption | with_reducible apply State.holdover_ok | with_reducible apply State.setServo_ok | with_reducible refine ok_foldl ?_ (fun _ _ _ => ?_) | with_reducible refine ok_step ?_ (fun _ => ?_) | dsimp only | split | intro _)

theorem State.servoOff_ok {D : DevState → Prop} {s : State} (h : s.Ok D) : (State.servoOff s).Ok D := by
  unfold State.servoOff
  repeat' (first | with_reducible assumption | with_reducible apply State.setServo_ok | with_reducible refine ok_foldl ?_ (fun _ _ _ => ?_) | with_reducible refine ok_step ?_ (fun _ => ?_) | dsimp only | split | intro _)

theorem State.timeCtrl_ok {D : DevState → Prop} {s : State} (w : Word) (h : s.Ok D) : (State.timeCtrl s w).Ok D := by
  unfold State.timeCtrl
  repeat' (first | with_reducible assumption | with_reducible apply State.wr_ok | with_reducible apply State.err_ok | with_reducible apply State.modTime_ok | with_reducible apply State.servoOff_ok | with_reducible apply State.setSource_ok | with_reducible refine ok_foldl ?_ (fun _ _ _ => ?_) | with_reducible refine ok_step ?_ (fun _ => ?_) | dsimp only | split | intro _)

theorem State.timestamp_ok {D : DevState → Prop} {s : State} (src : Nat) (t : Nat) (fall : Bool) (h : s.Ok D) : (State.timestamp s src t fall).Ok D := by
  unfold State.timestamp
  repeat' (first | with_reducible assumption | with_reducible apply State.countEvt_ok | with_reducible apply State.modTime_ok | with_reducible apply State.evt_ok | with_reducible refine ok_foldl ?_ (fun _ _ _ => ?_) | with_reducible refine ok_step ?_ (fun _ => ?_) | dsimp only | split | intro _)

theorem State.ppsIn_ok {D : DevState → Prop} {s : State} (t : Nat) (fall : Bool) (h : s.Ok D) : (State.ppsIn s t fall).Ok D := by
  unfold State.ppsIn
  repeat' (first | with_reducible assumption | with_reducible apply State.timestamp_ok | with_reducible apply State.hear_ok | with_reducible apply State.offsetSeen_ok | with_reducible refine ok_foldl ?_ (fun _ _ _ => ?_) | with_reducible refine ok_step ?_ (fun _ => ?_) | dsimp only | split | intro _)

theorem State.tevArm_ok {D : DevState → Prop} {s : State} (k : Nat) (h : s.Ok D) : (State.tevArm s k).Ok D := by
  unfold State.tevArm
  repeat' (first | with_reducible assumption | with_reducible apply State.err_ok | with_reducible apply State.put_ok | with_reducible apply State.setTev_ok | with_reducible refine ok_foldl ?_ (fun _ _ _ => ?_) | with_reducible refine ok_step ?_ (fun _ => ?_) | dsimp only | split | intro _)

theorem State.tevWrite_ok {D : DevState → Prop} {s : State} (k : Nat) (w : Word) (h : s.Ok D) : (State.tevWrite s k w).Ok D := by
  unfold State.tevWrite
  repeat' (first | with_reducible assumption | with_reducible apply State.tevDisarm_ok | with_reducible apply State.err_ok | with_reducible apply State.wr_ok | with_reducible apply State.tevArm_ok | with_reducible refine ok_foldl ?_ (fun _ _ _ => ?_) | with_reducible refine ok_step ?_ (fun _ => ?_) | dsimp only | split | intro _)

theorem State.latchPut_ok {D : DevState → Prop} {s : State} (path : HostPath) (off : Nat) (w : Word) (h : s.Ok D) : (State.latchPut s path off w).Ok D := by
  unfold State.latchPut
  repeat' (first | with_reducible assumption | with_reducible refine ok_foldl ?_ (fun _ _ _ => ?_) | with_reducible refine ok_step ?_ (fun _ => ?_) | dsimp only | split | (simp only [↓ok_mk]; with_reducible refine parts_ok ?_) | intro _)

theorem State.tsPop_ok {D : DevState → Prop} {s : State} (path : HostPath) (h : s.Ok D) : (State.tsPop s path).Ok D := by
  unfold State.tsPop
  repeat' (first | with_reducible assumption | with_reducible apply State.modTime_ok | with_reducible apply State.latchPut_ok | with_reducible apply State.emit_ok | with_reducible refine ok_foldl ?_ (fun _ _ _ => ?_) | with_reducible refine ok_step ?_ (fun _ => ?_) | dsimp only | split | intro _)

theorem State.ppsAssert_ok {D : DevState → Prop} {s : State} (h : s.Ok D) : (State.ppsAssert s).Ok D := by
  unfold State.ppsAssert
  repeat' (first | with_reducible assumption | with_reducible apply State.emit_ok | with_reducible apply State.modTime_ok | with_reducible refine ok_foldl ?_ (fun _ _ _ => ?_) | with_reducible refine ok_step ?_ (fun _ => ?_) | dsimp only | split | intro _)

theorem State.ppsEnd_ok {D : DevState → Prop} {s : State} (h : s.Ok D) : (State.ppsEnd s).Ok D := by
  unfold State.ppsEnd
  repeat' (first | with_reducible assumption | with_reducible apply State.modTime_ok | with_reducible refine ok_foldl ?_ (fun _ _ _ => ?_) | with_reducible refine ok_step ?_ (fun _ => ?_) | dsimp only | split | intro _)

theorem State.holdCount_ok {D : DevState → Prop} {s : State} (h : s.Ok D) : (State.holdCount s).Ok D := by
  unfold State.holdCount
  repeat' (first | with_reducible assumption | with_reducible apply State.wr_ok | with_reducible refine ok_foldl ?_ (fun _ _ _ => ?_) | with_reducible refine ok_step ?_ (fun _ => ?_) | dsimp only | split | intro _)

end Sys2Proof.Machine
end

