-- ==== Sys2Proof/Laws/KeepRing.lean ====
section
/-! SUPPORT. What every operation keeps (State.Ok): the control ring, the path and the parser. -/
namespace Sys2Proof.Machine

theorem State.modPath_ok {D : DevState → Prop} {s : State} (f : PathSt → PathSt) (h : s.Ok D) : (State.modPath s f).Ok D := by
  unfold State.modPath
  repeat' (first | with_reducible assumption | with_reducible refine ok_foldl ?_ (fun _ _ _ => ?_) | with_reducible refine ok_step ?_ (fun _ => ?_) | dsimp only | split | (simp only [↓ok_mk]; with_reducible refine parts_ok ?_) | intro _)

theorem State.setEngine_ok {D : DevState → Prop} {s : State} (e : Nat) (x : Engine) (h : s.Ok D) : (State.setEngine s e x).Ok D := by
  unfold State.setEngine
  repeat' (first | with_reducible assumption | with_reducible apply State.modPath_ok | with_reducible refine ok_foldl ?_ (fun _ _ _ => ?_) | with_reducible refine ok_step ?_ (fun _ => ?_) | dsimp only | split | intro _)

theorem State.setEng_ok {D : DevState → Prop} {s : State} (e : Nat) (n : Nat) (h : s.Ok D) : (State.setEng s e n).Ok D := by
  unfold State.setEng
  repeat' (first | with_reducible assumption | with_reducible apply State.wr_ok | with_reducible apply State.evt_ok | with_reducible apply State.setEngine_ok | with_reducible refine ok_foldl ?_ (fun _ _ _ => ?_) | with_reducible refine ok_step ?_ (fun _ => ?_) | dsimp only | split | intro _)

theorem State.txFrame_ok {D : DevState → Prop} {s : State} (p : Nat) (d : List Byte) (stomped : Bool) (h : s.Ok D) : (State.txFrame s p d stomped).Ok D := by
  unfold State.txFrame
  repeat' (first | with_reducible assumption | with_reducible apply State.inc_ok | with_reducible apply State.emit_ok | with_reducible refine ok_foldl ?_ (fun _ _ _ => ?_) | with_reducible refine ok_step ?_ (fun _ => ?_) | dsimp only | split | intro _)

theorem State.txLocal_ok {D : DevState → Prop} {s : State} (p : Nat) (d : List Byte) (h : s.Ok D) : (State.txLocal s p d).Ok D := by
  unfold State.txLocal
  repeat' (first | with_reducible assumption | with_reducible apply State.inc_ok | with_reducible apply State.txFrame_ok | with_reducible refine ok_foldl ?_ (fun _ _ _ => ?_) | with_reducible refine ok_step ?_ (fun _ => ?_) | dsimp only | split | intro _)

theorem State.sendOwn_ok {D : DevState → Prop} {s : State} (ports : List Nat) (da : Nat) (flags : Nat) (payload : List Byte) (h : s.Ok D) : (State.sendOwn s ports da flags payload).Ok D := by
  unfold State.sendOwn
  repeat' (first | with_reducible assumption | with_reducible apply State.txLocal_ok | with_reducible apply State.modPath_ok | with_reducible refine ok_foldl ?_ (fun _ _ _ => ?_) | with_reducible refine ok_step ?_ (fun _ => ?_) | dsimp only | split | intro _)

theorem State.pathNotice_ok {D : DevState → Prop} {s : State} (old : Nat) (new : Nat) (act : Nat) (reason : Nat) (t : Nat) (h : s.Ok D) : (State.pathNotice s old new act reason t).Ok D := by
  unfold State.pathNotice
  repeat' (first | with_reducible assumption | with_reducible apply State.sendOwn_ok | with_reducible refine ok_foldl ?_ (fun _ _ _ => ?_) | with_reducible refine ok_step ?_ (fun _ => ?_) | dsimp only | split | intro _)

theorem State.copyEngine_ok {D : DevState → Prop} {s : State} (from' : Nat) (to' : Nat) (h : s.Ok D) : (State.copyEngine s from' to').Ok D := by
  unfold State.copyEngine
  repeat' (first | with_reducible assumption | with_reducible apply State.inc_ok | with_reducible apply State.setEngine_ok | with_reducible refine ok_foldl ?_ (fun _ _ _ => ?_) | with_reducible refine ok_step ?_ (fun _ => ?_) | dsimp only | split | intro _)

theorem State.loseBatches_ok {D : DevState → Prop} {s : State} (old : Nat) (new : Nat) (h : s.Ok D) : (State.loseBatches s old new).Ok D := by
  unfold State.loseBatches
  repeat' (first | with_reducible assumption | with_reducible apply State.setEngine_ok | with_reducible refine ok_foldl ?_ (fun _ _ _ => ?_) | with_reducible refine ok_step ?_ (fun _ => ?_) | dsimp only | split | intro _)

theorem State.takeOver_ok {D : DevState → Prop} {s : State} (old : Nat) (planned : Bool) (parity : Bool) (h : s.Ok D) : (State.takeOver s old planned parity).Ok D := by
  unfold State.takeOver
  repeat' (first | with_reducible assumption | with_reducible apply State.loseBatches_ok | with_reducible apply State.copyEngine_ok | with_reducible apply State.setEng_ok | with_reducible apply State.wr_ok | with_reducible apply State.put_ok | with_reducible apply State.wrTime_ok | with_reducible apply State.inc_ok | with_reducible apply State.raise_ok | with_reducible apply State.evt_ok | with_reducible apply State.followPath_ok | with_reducible apply State.pathNotice_ok | with_reducible refine ok_foldl ?_ (fun _ _ _ => ?_) | with_reducible refine ok_step ?_ (fun _ => ?_) | dsimp only | split | intro _)

theorem State.lateTakeOver_ok {D : DevState → Prop} {s : State} (h : s.Ok D) : (State.lateTakeOver s).Ok D := by
  unfold State.lateTakeOver
  repeat' (first | with_reducible assumption | with_reducible apply State.takeOver_ok | with_reducible refine ok_foldl ?_ (fun _ _ _ => ?_) | with_reducible refine ok_step ?_ (fun _ => ?_) | dsimp only | split | intro _)

theorem State.planned_ok {D : DevState → Prop} {s : State} (h : s.Ok D) : (State.planned s).1.Ok D := by
  unfold State.planned
  repeat' (first | with_reducible assumption | with_reducible apply State.takeOver_ok | with_reducible refine ok_foldl ?_ (fun _ _ _ => ?_) | with_reducible refine ok_step ?_ (fun _ => ?_) | dsimp only | split | intro _)

theorem State.engineRise_ok {D : DevState → Prop} {s : State} (e : Nat) (h : s.Ok D) : (State.engineRise s e).Ok D := by
  unfold State.engineRise
  repeat' (first | with_reducible assumption | with_reducible apply State.setEng_ok | with_reducible apply State.followPath_ok | with_reducible apply State.wr_ok | with_reducible refine ok_foldl ?_ (fun _ _ _ => ?_) | with_reducible refine ok_step ?_ (fun _ => ?_) | dsimp only | split | intro _)

theorem State.portUp_ok {D : DevState → Prop} {s : State} (p : Nat) (train : List Nat) (h : s.Ok D) : (State.portUp s p train).Ok D := by
  unfold State.portUp
  repeat' (first | with_reducible assumption | with_reducible apply State.put_ok | with_reducible apply State.wr_ok | with_reducible apply State.modPath_ok | with_reducible apply State.wrW_ok | with_reducible apply State.setEngine_ok | with_reducible apply State.portStates_ok | with_reducible apply State.evt_ok | with_reducible refine ok_foldl ?_ (fun _ _ _ => ?_) | with_reducible refine ok_step ?_ (fun _ => ?_) | dsimp only | split | intro _)

theorem State.linksUp_ok {D : DevState → Prop} {s : State} (l : List (Nat × List Nat)) (h : s.Ok D) : (State.linksUp s l).Ok D := by
  unfold State.linksUp
  repeat' (first | with_reducible assumption | with_reducible apply State.portUp_ok | with_reducible apply State.engineRise_ok | with_reducible refine ok_foldl ?_ (fun _ _ _ => ?_) | with_reducible refine ok_step ?_ (fun _ => ?_) | dsimp only | split | intro _)

theorem State.linkDown_ok {D : DevState → Prop} {s : State} (p : Nat) (h : s.Ok D) : (State.linkDown s p).Ok D := by
  unfold State.linkDown
  repeat' (first | with_reducible assumption | with_reducible apply State.setEngine_ok | with_reducible apply State.wr_ok | with_reducible apply State.evt_ok | with_reducible apply State.inc_ok | with_reducible apply State.setEng_ok | with_reducible apply State.portStates_ok | with_reducible refine ok_foldl ?_ (fun _ _ _ => ?_) | with_reducible refine ok_step ?_ (fun _ => ?_) | dsimp only | split | intro _)

theorem State.diagCount_ok {D : DevState → Prop} {s : State} (e : Nat) (f : Engine → Engine) (h : s.Ok D) : (State.diagCount s e f).Ok D := by
  unfold State.diagCount
  repeat' (first | with_reducible assumption | with_reducible apply State.setEngine_ok | with_reducible refine ok_foldl ?_ (fun _ _ _ => ?_) | with_reducible refine ok_step ?_ (fun _ => ?_) | dsimp only | split | intro _)

theorem State.diagTrip_ok {D : DevState → Prop} {s : State} (e : Nat) (check : Nat) (h : s.Ok D) : (State.diagTrip s e check).Ok D := by
  unfold State.diagTrip
  repeat' (first | with_reducible assumption | with_reducible apply State.put_ok | with_reducible apply State.setEngine_ok | with_reducible apply State.evt_ok | with_reducible apply State.setEng_ok | with_reducible apply State.takeOver_ok | with_reducible apply State.raise_ok | with_reducible refine ok_foldl ?_ (fun _ _ _ => ?_) | with_reducible refine ok_step ?_ (fun _ => ?_) | dsimp only | split | intro _)

theorem State.pathTakeover_ok {D : DevState → Prop} {s : State} (h : s.Ok D) : (State.pathTakeover s).Ok D := by
  unfold State.pathTakeover
  repeat' (first | with_reducible assumption | with_reducible apply State.planned_ok | with_reducible apply State.err_ok | with_reducible refine ok_foldl ?_ (fun _ _ _ => ?_) | with_reducible refine ok_step ?_ (fun _ => ?_) | dsimp only | split | intro _)

theorem State.revert_ok {D : DevState → Prop} {s : State} (h : s.Ok D) : (State.revert s).Ok D := by
  unfold State.revert
  repeat' (first | with_reducible assumption | with_reducible apply State.planned_ok | with_reducible apply State.inc_ok | with_reducible refine ok_foldl ?_ (fun _ _ _ => ?_) | with_reducible refine ok_step ?_ (fun _ => ?_) | dsimp only | split | intro _)

theorem State.abdicatedBack_ok {D : DevState → Prop} {s : State} (e : Nat) (h : s.Ok D) : (State.abdicatedBack s e).Ok D := by
  unfold State.abdicatedBack
  repeat' (first | with_reducible assumption | with_reducible apply State.setEng_ok | with_reducible apply State.engineRise_ok | with_reducible refine ok_foldl ?_ (fun _ _ _ => ?_) | with_reducible refine ok_step ?_ (fun _ => ?_) | dsimp only | split | intro _)

theorem State.copyDone_ok {D : DevState → Prop} {s : State} (e : Nat) (ok : Bool) (h : s.Ok D) : (State.copyDone s e ok).Ok D := by
  unfold State.copyDone
  repeat' (first | with_reducible assumption | with_reducible apply State.lateTakeOver_ok | with_reducible apply State.setEng_ok | with_reducible apply State.copyEngine_ok | with_reducible apply State.inc_ok | with_reducible refine ok_foldl ?_ (fun _ _ _ => ?_) | with_reducible refine ok_step ?_ (fun _ => ?_) | dsimp only | split | intro _)

theorem State.pathCycle_ok {D : DevState → Prop} {s : State} (same : Bool) (ok : Bool) (h : s.Ok D) : (State.pathCycle s same ok).Ok D := by
  unfold State.pathCycle
  repeat' (first | with_reducible assumption | with_reducible apply State.modPath_ok | with_reducible apply State.setEngine_ok | with_reducible apply State.setEng_ok | with_reducible apply State.copyEngine_ok | with_reducible apply State.inc_ok | with_reducible apply State.engineRise_ok | with_reducible apply State.put_ok | with_reducible apply State.lateTakeOver_ok | with_reducible refine ok_foldl ?_ (fun _ _ _ => ?_) | with_reducible refine ok_step ?_ (fun _ => ?_) | dsimp only | split | intro _)

theorem State.markTwin_ok {D : DevState → Prop} {s : State} (t : Twin) (h : s.Ok D) : (State.markTwin s t).Ok D := by
  unfold State.markTwin
  repeat' (first | with_reducible assumption | with_reducible apply State.modPath_ok | with_reducible refine ok_foldl ?_ (fun _ _ _ => ?_) | with_reducible refine ok_step ?_ (fun _ => ?_) | dsimp only | split | intro _)

theorem State.dupCheck_ok {D : DevState → Prop} {s : State} (e : Nat) (t : Twin) (h : s.Ok D) : (State.dupCheck s e t).1.Ok D := by
  unfold State.dupCheck
  repeat' (first | with_reducible assumption | with_reducible apply State.inc_ok | with_reducible apply State.evt_ok | with_reducible refine ok_foldl ?_ (fun _ _ _ => ?_) | with_reducible refine ok_step ?_ (fun _ => ?_) | dsimp only | split | intro _)

theorem State.dupRelease_ok {D : DevState → Prop} {s : State} (e : Nat) (sa : Nat) (h : s.Ok D) : (State.dupRelease s e sa).Ok D := by
  unfold State.dupRelease
  repeat' (first | with_reducible assumption | with_reducible apply State.setEngine_ok | with_reducible refine ok_foldl ?_ (fun _ _ _ => ?_) | with_reducible refine ok_step ?_ (fun _ => ?_) | dsimp only | split | intro _)

theorem State.rseqSeen_ok {D : DevState → Prop} {s : State} (p : Nat) (sa : Nat) (rseq : Nat) (h : s.Ok D) : (State.rseqSeen s p sa rseq).Ok D := by
  unfold State.rseqSeen
  repeat' (first | with_reducible assumption | with_reducible apply State.setEngine_ok | with_reducible apply State.diagCount_ok | with_reducible refine ok_foldl ?_ (fun _ _ _ => ?_) | with_reducible refine ok_step ?_ (fun _ => ?_) | dsimp only | split | intro _)

theorem State.tcFrame_ok {D : DevState → Prop} {s : State} (p : Nat) (d : List Byte) (res : Nat) (h : s.Ok D) : (State.tcFrame s p d res).1.Ok D := by
  unfold State.tcFrame
  repeat' (first | with_reducible assumption | with_reducible apply State.inc_ok | with_reducible refine ok_foldl ?_ (fun _ _ _ => ?_) | with_reducible refine ok_step ?_ (fun _ => ?_) | dsimp only | split | intro _)

theorem State.setInQueue_ok {D : DevState → Prop} {s : State} (p : Nat) (l : List RxFrame) (h : s.Ok D) : (State.setInQueue s p l).Ok D := by
  unfold State.setInQueue
  repeat' (first | with_reducible assumption | with_reducible refine ok_foldl ?_ (fun _ _ _ => ?_) | with_reducible refine ok_step ?_ (fun _ => ?_) | dsimp only | split | (simp only [↓ok_mk]; with_reducible refine parts_ok ?_) | intro _)

theorem State.localRx_ok {D : DevState → Prop} {s : State} (f : RxFrame) (h : s.Ok D) : (State.localRx s f).Ok D := by
  unfold State.localRx
  repeat' (first | with_reducible assumption | with_reducible apply State.inc_ok | with_reducible apply State.countEvt_ok | with_reducible apply State.setInQueue_ok | with_reducible refine ok_foldl ?_ (fun _ _ _ => ?_) | with_reducible refine ok_step ?_ (fun _ => ?_) | dsimp only | split | intro _)

theorem State.forward_ok {D : DevState → Prop} {s : State} (p : Nat) (d : List Byte) (stomped : Bool) (full : Bool) (res : Nat) (h : s.Ok D) : (State.forward s p d stomped full res).Ok D := by
  unfold State.forward
  repeat' (first | with_reducible assumption | with_reducible apply State.countEvt_ok | with_reducible apply State.tcFrame_ok | with_reducible apply State.txFrame_ok | with_reducible apply State.wr_ok | with_reducible refine ok_foldl ?_ (fun _ _ _ => ?_) | with_reducible refine ok_step ?_ (fun _ => ?_) | dsimp only | split | intro _)

theorem State.ringRx_ok {D : DevState → Prop} {s : State} (p : Nat) (data : List Byte) (fcs : Fcs) (cut : Bool) (res : Nat) (full : Bool) (h : s.Ok D) : (State.ringRx s p data fcs cut res full).Ok D := by
  unfold State.ringRx
  repeat' (first | with_reducible assumption | with_reducible apply State.inc_ok | with_reducible apply State.diagCount_ok | with_reducible apply State.countEvt_ok | with_reducible apply State.localRx_ok | with_reducible apply State.rseqSeen_ok | with_reducible apply State.evt_ok | with_reducible apply State.forward_ok | with_reducible refine ok_foldl ?_ (fun _ _ _ => ?_) | with_reducible refine ok_step ?_ (fun _ => ?_) | dsimp only | split | intro _)

theorem State.modParser_ok {D : DevState → Prop} {s : State} (f : ParserSt → ParserSt) (h : s.Ok D) : (State.modParser s f).Ok D := by
  unfold State.modParser
  repeat' (first | with_reducible assumption | with_reducible refine ok_foldl ?_ (fun _ _ _ => ?_) | with_reducible refine ok_step ?_ (fun _ => ?_) | dsimp only | split | (simp only [↓ok_mk]; with_reducible refine parts_ok ?_) | intro _)

theorem State.hit_ok {D : DevState → Prop} {s : State} (r : Nat × Nat) (h : s.Ok D) : (State.hit s r).Ok D := by
  unfold State.hit
  repeat' (first | with_reducible assumption | with_reducible apply State.wr64_ok | with_reducible refine ok_foldl ?_ (fun _ _ _ => ?_) | with_reducible refine ok_step ?_ (fun _ => ?_) | dsimp only | split | intro _)

theorem State.punt_ok {D : DevState → Prop} {s : State} (f : RxFrame) (reason : Nat) (rule : Nat) (gen : Nat) (mirror : Bool) (data : List Byte) (h : s.Ok D) : (State.punt s f reason rule gen mirror data).Ok D := by
  unfold State.punt
  repeat' (first | with_reducible assumption | with_reducible apply State.countEvt_ok | with_reducible apply State.qWrite_ok | with_reducible apply State.wr_ok | with_reducible apply State.msix_ok | with_reducible refine ok_foldl ?_ (fun _ _ _ => ?_) | with_reducible refine ok_step ?_ (fun _ => ?_) | dsimp only | split | (simp only [↓ok_mk]; with_reducible refine parts_ok ?_) | intro _)

theorem State.mirrorCopy_ok {D : DevState → Prop} {s : State} (l : Looked) (h : s.Ok D) : (State.mirrorCopy s l).Ok D := by
  unfold State.mirrorCopy
  repeat' (first | with_reducible assumption | with_reducible apply State.punt_ok | with_reducible apply State.inc_ok | with_reducible refine ok_foldl ?_ (fun _ _ _ => ?_) | with_reducible refine ok_step ?_ (fun _ => ?_) | dsimp only | split | intro _)

theorem State.looked_ok {D : DevState → Prop} {s : State} (l : Looked) (h : s.Ok D) : (State.looked s l).Ok D := by
  unfold State.looked
  repeat' (first | with_reducible assumption | with_reducible apply State.modParser_ok | with_reducible apply State.mirrorCopy_ok | with_reducible apply State.inc_ok | with_reducible refine ok_foldl ?_ (fun _ _ _ => ?_) | with_reducible refine ok_step ?_ (fun _ => ?_) | dsimp only | split | intro _)

theorem State.firstPass_ok {D : DevState → Prop} {s : State} (port : Nat) (h : s.Ok D) : (State.firstPass s port).Ok D := by
  unfold State.firstPass
  repeat' (first | with_reducible assumption | with_reducible apply State.setInQueue_ok | with_reducible apply State.looked_ok | with_reducible apply State.hit_ok | with_reducible refine ok_foldl ?_ (fun _ _ _ => ?_) | with_reducible refine ok_step ?_ (fun _ => ?_) | dsimp only | split | intro _)

theorem State.secondPass_ok {D : DevState → Prop} {s : State} (h : s.Ok D) : (State.secondPass s).Ok D := by
  unfold State.secondPass
  repeat' (first | with_reducible assumption | with_reducible apply State.modParser_ok | with_reducible apply State.looked_ok | with_reducible apply State.hit_ok | with_reducible refine ok_foldl ?_ (fun _ _ _ => ?_) | with_reducible refine ok_step ?_ (fun _ => ?_) | dsimp only | split | intro _)

theorem State.forwardOut_ok {D : DevState → Prop} {s : State} (f : RxFrame) (h : s.Ok D) : (State.forwardOut s f).Ok D := by
  unfold State.forwardOut
  repeat' (first | with_reducible assumption | with_reducible apply State.inc_ok | with_reducible apply State.txLocal_ok | with_reducible refine ok_foldl ?_ (fun _ _ _ => ?_) | with_reducible refine ok_step ?_ (fun _ => ?_) | dsimp only | split | intro _)

theorem State.portDefault_ok {D : DevState → Prop} {s : State} (l : Looked) (h : s.Ok D) : (State.portDefault s l).Ok D := by
  unfold State.portDefault
  repeat' (first | with_reducible assumption | with_reducible apply State.inc_ok | with_reducible apply State.wr_ok | with_reducible apply State.put_ok | with_reducible apply State.evt_ok | with_reducible apply State.punt_ok | with_reducible apply State.forwardOut_ok | with_reducible refine ok_foldl ?_ (fun _ _ _ => ?_) | with_reducible refine ok_step ?_ (fun _ => ?_) | dsimp only | split | intro _)

theorem State.ptpAction_ok {D : DevState → Prop} {s : State} (f : RxFrame) (rule : Nat) (gen : Nat) (h : s.Ok D) : (State.ptpAction s f rule gen).Ok D := by
  unfold State.ptpAction
  repeat' (first | with_reducible assumption | with_reducible apply State.profileDrop_ok | with_reducible apply State.ptpSync_ok | with_reducible apply State.pdelayReq_ok | with_reducible apply State.ptpFollowUp_ok | with_reducible apply State.delayResp_ok | with_reducible apply State.ptpAnnounce_ok | with_reducible apply State.punt_ok | with_reducible refine ok_foldl ?_ (fun _ _ _ => ?_) | with_reducible refine ok_step ?_ (fun _ => ?_) | dsimp only | split | intro _)

theorem State.takeEntry_ok {D : DevState → Prop} {s : State} (w : Work) (h : s.Ok D) : (State.takeEntry s w).Ok D := by
  unfold State.takeEntry
  repeat' (first | with_reducible assumption | with_reducible apply State.modParser_ok | with_reducible refine ok_foldl ?_ (fun _ _ _ => ?_) | with_reducible refine ok_step ?_ (fun _ => ?_) | dsimp only | split | intro _)

theorem State.execAction_ok {D : DevState → Prop} {s : State} (l : Looked) (auth : Bool) (h : s.Ok D) : (State.execAction s l auth).Ok D := by
  unfold State.execAction
  repeat' (first | with_reducible assumption | with_reducible apply State.inc_ok | with_reducible apply State.takeEntry_ok | with_reducible refine ok_foldl ?_ (fun _ _ _ => ?_) | with_reducible refine ok_step ?_ (fun _ => ?_) | dsimp only | split | intro _)

theorem State.actOn_ok {D : DevState → Prop} {s : State} (l : Looked) (h : s.Ok D) : (State.actOn s l).Ok D := by
  unfold State.actOn
  repeat' (first | with_reducible assumption | with_reducible apply State.mirrorCopy_ok | with_reducible apply State.portDefault_ok | with_reducible apply State.inc_ok | with_reducible apply State.execAction_ok | with_reducible apply State.ptpAction_ok | with_reducible apply State.forwardOut_ok | with_reducible apply State.punt_ok | with_reducible refine ok_foldl ?_ (fun _ _ _ => ?_) | with_reducible refine ok_step ?_ (fun _ => ?_) | dsimp only | split | intro _)

theorem State.frameAction_ok {D : DevState → Prop} {s : State} (h : s.Ok D) : (State.frameAction s).Ok D := by
  unfold State.frameAction
  repeat' (first | with_reducible assumption | with_reducible apply State.actOn_ok | with_reducible apply State.modParser_ok | with_reducible refine ok_foldl ?_ (fun _ _ _ => ?_) | with_reducible refine ok_step ?_ (fun _ => ?_) | dsimp only | split | intro _)

theorem State.modEntry_ok {D : DevState → Prop} {s : State} (no : Nat) (f : Entry → Entry) (h : s.Ok D) : (State.modEntry s no f).Ok D := by
  unfold State.modEntry
  repeat' (first | with_reducible assumption | with_reducible apply State.modParser_ok | with_reducible refine ok_foldl ?_ (fun _ _ _ => ?_) | with_reducible refine ok_step ?_ (fun _ => ?_) | dsimp only | split | intro _)

theorem State.dispatchOne_ok {D : DevState → Prop} {s : State} (h : s.Ok D) : (State.dispatchOne s).Ok D := by
  unfold State.dispatchOne
  repeat' (first | with_reducible assumption | with_reducible apply State.modParser_ok | with_reducible apply State.modEntry_ok | with_reducible refine ok_foldl ?_ (fun _ _ _ => ?_) | with_reducible refine ok_step ?_ (fun _ => ?_) | dsimp only | split | intro _)

theorem State.execTimeout_ok {D : DevState → Prop} {s : State} (x : Nat) (h : s.Ok D) : (State.execTimeout s x).Ok D := by
  unfold State.execTimeout
  repeat' (first | with_reducible assumption | with_reducible apply State.modEntry_ok | with_reducible apply State.wr_ok | with_reducible apply State.raise_ok | with_reducible apply State.countEvt_ok | with_reducible refine ok_foldl ?_ (fun _ _ _ => ?_) | with_reducible refine ok_step ?_ (fun _ => ?_) | dsimp only | split | intro _)

theorem State.parserAbort_ok {D : DevState → Prop} {s : State} (h : s.Ok D) : (State.parserAbort s).Ok D := by
  unfold State.parserAbort
  repeat' (first | with_reducible assumption | with_reducible apply State.add_ok | with_reducible apply State.modParser_ok | with_reducible refine ok_foldl ?_ (fun _ _ _ => ?_) | with_reducible refine ok_step ?_ (fun _ => ?_) | dsimp only | split | intro _)

theorem State.commitWords_ok {D : DevState → Prop} {s : State} (base : Nat) (n : Nat) (h : s.Ok D) : (State.commitWords s base n).Ok D :=
  ok_foldl h fun _ _ h => State.live_ok _ _ h

theorem State.setLiveValid_ok {D : DevState → Prop} {s : State} (off : Nat) (v : Bool) (h : s.Ok D) : (State.setLiveValid s off v).Ok D :=
  have hp := State.put_ok ⟨off, 0, 1⟩ v h
  Parts.withParser hp (tabPut_wf h.parser off _)

theorem State.nodeCommit_ok {D : DevState → Prop} {s : State} (n : Nat) (v : Bool) (h : s.Ok D) : (State.nodeCommit s n v).Ok D := by
  unfold State.nodeCommit
  repeat' (first | with_reducible assumption | with_reducible apply State.err_ok | with_reducible apply State.setLiveValid_ok | with_reducible apply State.commitWords_ok | with_reducible refine ok_foldl ?_ (fun _ _ _ => ?_) | with_reducible refine ok_step ?_ (fun _ => ?_) | dsimp only | split | intro _)

theorem State.ruleCommit_ok {D : DevState → Prop} {s : State} (i : Nat) (v : Bool) (h : s.Ok D) : (State.ruleCommit s i v).Ok D := by
  unfold State.ruleCommit
  repeat' (first | with_reducible assumption | with_reducible apply State.setLiveValid_ok | with_reducible apply State.commitWords_ok | with_reducible refine ok_foldl ?_ (fun _ _ _ => ?_) | with_reducible refine ok_step ?_ (fun _ => ?_) | dsimp only | split | intro _)

theorem State.hitsClear_ok {D : DevState → Prop} {s : State} (i : Nat) (h : s.Ok D) : (State.hitsClear s i).Ok D := by
  unfold State.hitsClear
  repeat' (first | with_reducible assumption | with_reducible apply State.wr64_ok | with_reducible refine ok_foldl ?_ (fun _ _ _ => ?_) | with_reducible refine ok_step ?_ (fun _ => ?_) | dsimp only | split | intro _)

end Sys2Proof.Machine
end

