-- ==== Sys2Proof/Laws/KeepHost.lean ====
section
/-! SUPPORT. What every operation keeps (State.Ok): the host interface, tiles, tests and the page header. -/
namespace Sys2Proof.Machine

theorem State.trainChan_ok {D : DevState → Prop} {s : State} (c : Nat) (r : Nat × Nat × Option Nat) (time : Nat) (h : s.Ok D) : (State.trainChan s c r time).Ok D := by
  unfold State.trainChan
  repeat' (first | with_reducible assumption | with_reducible apply State.wr_ok | with_reducible apply State.put_ok | with_reducible apply State.evt_ok | with_reducible refine ok_foldl ?_ (fun _ _ _ => ?_) | with_reducible refine ok_step ?_ (fun _ => ?_) | dsimp only | split | intro _)

theorem State.trainStart_ok {D : DevState → Prop} {s : State} (h : s.Ok D) : (State.trainStart s).Ok D := by
  unfold State.trainStart
  repeat' (first | with_reducible assumption | with_reducible apply State.put_ok | with_reducible refine ok_foldl ?_ (fun _ _ _ => ?_) | with_reducible refine ok_step ?_ (fun _ => ?_) | dsimp only | split | intro _)

theorem State.trainGo_ok {D : DevState → Prop} {s : State} (c : Nat) (h : s.Ok D) : (State.trainGo s c).Ok D := by
  unfold State.trainGo
  repeat' (first | with_reducible assumption | with_reducible apply State.err_ok | with_reducible apply State.trainStart_ok | with_reducible refine ok_foldl ?_ (fun _ _ _ => ?_) | with_reducible refine ok_step ?_ (fun _ => ?_) | dsimp only | split | intro _)

theorem State.trainEnd_ok {D : DevState → Prop} {s : State} (res : List (Nat × Nat × Option Nat)) (time : Nat) (h : s.Ok D) : (State.trainEnd s res time).Ok D := by
  unfold State.trainEnd
  repeat' (first | with_reducible assumption | with_reducible apply State.trainChan_ok | with_reducible apply State.put_ok | with_reducible refine ok_foldl ?_ (fun _ _ _ => ?_) | with_reducible refine ok_step ?_ (fun _ => ?_) | dsimp only | split | intro _)

theorem State.bar2Read_ok {D : DevState → Prop} {s : State} (a : Nat) (n : Nat) (ecc : Ecc) (h : s.Ok D) : (State.bar2Read s a n ecc).Ok D := by
  unfold State.bar2Read
  repeat' (first | with_reducible assumption | with_reducible apply State.emit_ok | with_reducible apply State.draw_ok | with_reducible apply State.inc_ok | with_reducible apply State.sdEcc_ok | with_reducible refine ok_foldl ?_ (fun _ _ _ => ?_) | with_reducible refine ok_step ?_ (fun _ => ?_) | dsimp only | split | intro _)

theorem State.bar2Write_ok {D : DevState → Prop} {s : State} (a : Nat) (data : List Byte) (poisoned : Bool) (h : s.Ok D) : (State.bar2Write s a data poisoned).Ok D := by
  unfold State.bar2Write
  repeat' (first | with_reducible assumption | with_reducible apply State.inc_ok | with_reducible apply State.sdWrite_ok | with_reducible refine ok_foldl ?_ (fun _ _ _ => ?_) | with_reducible refine ok_step ?_ (fun _ => ?_) | dsimp only | split | intro _)

theorem State.scrubLine_ok {D : DevState → Prop} {s : State} (c : Nat) (a : Nat) (ecc : Ecc) (raced : Bool) (h : s.Ok D) : (State.scrubLine s c a ecc raced).Ok D := by
  unfold State.scrubLine
  repeat' (first | with_reducible assumption | with_reducible apply State.wr_ok | with_reducible apply State.sdEcc_ok | with_reducible apply State.inc_ok | with_reducible refine ok_foldl ?_ (fun _ _ _ => ?_) | with_reducible refine ok_step ?_ (fun _ => ?_) | dsimp only | split | intro _)

theorem State.scrubPass_ok {D : DevState → Prop} {s : State} (c : Nat) (h : s.Ok D) : (State.scrubPass s c).Ok D := by
  unfold State.scrubPass
  repeat' (first | with_reducible assumption | with_reducible apply State.evt_ok | with_reducible apply State.wr_ok | with_reducible apply State.incWrap_ok | with_reducible refine ok_foldl ?_ (fun _ _ _ => ?_) | with_reducible refine ok_step ?_ (fun _ => ?_) | dsimp only | split | intro _)

theorem State.hostQueuesOff_ok {D : DevState → Prop} {s : State} (h : s.Ok D) : (State.hostQueuesOff s).Ok D := by
  unfold State.hostQueuesOff
  repeat' (first | with_reducible assumption | with_reducible apply State.put_ok | with_reducible refine ok_foldl ?_ (fun _ _ _ => ?_) | with_reducible refine ok_step ?_ (fun _ => ?_) | dsimp only | split | intro _)

theorem State.modPcie_ok {D : DevState → Prop} {s : State} (f : PcieSt → PcieSt) (h : s.Ok D) : (State.modPcie s f).Ok D := by
  unfold State.modPcie
  repeat' (first | with_reducible assumption | with_reducible refine ok_foldl ?_ (fun _ _ _ => ?_) | with_reducible refine ok_step ?_ (fun _ => ?_) | dsimp only | split | (simp only [↓ok_mk]; with_reducible refine parts_ok ?_) | intro _)

theorem State.linkRate_ok {D : DevState → Prop} {s : State} (speed : Nat) (width : Nat) (h : s.Ok D) : (State.linkRate s speed width).Ok D := by
  unfold State.linkRate
  repeat' (first | with_reducible assumption | with_reducible apply State.wr_ok | with_reducible apply State.evt_ok | with_reducible refine ok_foldl ?_ (fun _ _ _ => ?_) | with_reducible refine ok_step ?_ (fun _ => ?_) | dsimp only | split | intro _)

theorem State.pcieUp_ok {D : DevState → Prop} {s : State} (speed : Nat) (width : Nat) (ltssm : Nat) (h : s.Ok D) : (State.pcieUp s speed width ltssm).Ok D := by
  unfold State.pcieUp
  repeat' (first | with_reducible assumption | with_reducible apply State.wr_ok | with_reducible apply State.modPcie_ok | with_reducible apply State.evt_ok | with_reducible apply State.linkRate_ok | with_reducible refine ok_foldl ?_ (fun _ _ _ => ?_) | with_reducible refine ok_step ?_ (fun _ => ?_) | dsimp only | split | intro _)

theorem State.pcieDown_ok {D : DevState → Prop} {s : State} (ltssm : Nat) (hot : Bool) (h : s.Ok D) : (State.pcieDown s ltssm hot).Ok D := by
  unfold State.pcieDown
  repeat' (first | with_reducible assumption | with_reducible apply State.add_ok | with_reducible apply State.modPcie_ok | with_reducible apply State.inc_ok | with_reducible apply State.wr_ok | with_reducible apply State.raise_ok | with_reducible apply State.evt_ok | with_reducible apply State.hostQueuesOff_ok | with_reducible refine ok_foldl ?_ (fun _ _ _ => ?_) | with_reducible refine ok_step ?_ (fun _ => ?_) | dsimp only | split | intro _)

theorem State.flr_ok {D : DevState → Prop} {s : State} (h : s.Ok D) : (State.flr s).Ok D := by
  unfold State.flr
  repeat' (first | with_reducible assumption | with_reducible apply State.add_ok | with_reducible apply State.evt_ok | with_reducible apply State.hostQueuesOff_ok | with_reducible apply State.modPcie_ok | with_reducible refine ok_foldl ?_ (fun _ _ _ => ?_) | with_reducible refine ok_step ?_ (fun _ => ?_) | dsimp only | split | intro _)

theorem State.d3Enter_ok {D : DevState → Prop} {s : State} (h : s.Ok D) : (State.d3Enter s).Ok D := by
  unfold State.d3Enter
  repeat' (first | with_reducible assumption | with_reducible apply State.modPcie_ok | with_reducible refine ok_foldl ?_ (fun _ _ _ => ?_) | with_reducible refine ok_step ?_ (fun _ => ?_) | dsimp only | split | intro _)

theorem State.d0Return_ok {D : DevState → Prop} {s : State} (h : s.Ok D) : (State.d0Return s).Ok D := by
  unfold State.d0Return
  repeat' (first | with_reducible assumption | with_reducible apply State.qWrite_ok | with_reducible apply State.modPcie_ok | with_reducible apply State.postWaiting_ok | with_reducible apply State.msix_ok | with_reducible refine ok_foldl ?_ (fun _ _ _ => ?_) | with_reducible refine ok_step ?_ (fun _ => ?_) | dsimp only | split | intro _)

theorem State.perst_ok {D : DevState → Prop} {s : State} (low : Bool) (ltssm : Nat) (h : s.Ok D) : (State.perst s low ltssm).Ok D := by
  unfold State.perst
  repeat' (first | with_reducible assumption | with_reducible apply State.modPcie_ok | with_reducible apply State.pcieDown_ok | with_reducible refine ok_foldl ?_ (fun _ _ _ => ?_) | with_reducible refine ok_step ?_ (fun _ => ?_) | dsimp only | split | intro _)

theorem State.retrain_ok {D : DevState → Prop} {s : State} (speed : Nat) (width : Nat) (h : s.Ok D) : (State.retrain s speed width).Ok D := by
  unfold State.retrain
  repeat' (first | with_reducible assumption | with_reducible apply State.linkRate_ok | with_reducible refine ok_foldl ?_ (fun _ _ _ => ?_) | with_reducible refine ok_step ?_ (fun _ => ?_) | dsimp only | split | intro _)

theorem State.watchSdram_ok {D : DevState → Prop} {s : State} (was : Bool) (h : s.Ok D) : (State.watchSdram s was).Ok D := by
  unfold State.watchSdram
  repeat' (first | with_reducible assumption | with_reducible apply State.evt_ok | with_reducible apply State.postWaiting_ok | with_reducible refine ok_foldl ?_ (fun _ _ _ => ?_) | with_reducible refine ok_step ?_ (fun _ => ?_) | dsimp only | split | intro _)

theorem State.shortDetect_ok {D : DevState → Prop} {s : State} (t : Nat) (kind : Nat) (k : Nat) (h : s.Ok D) : (State.shortDetect s t kind k).Ok D := by
  unfold State.shortDetect
  repeat' (first | with_reducible assumption | with_reducible apply State.raise_ok | with_reducible apply State.evt_ok | with_reducible apply State.put_ok | with_reducible refine ok_foldl ?_ (fun _ _ _ => ?_) | with_reducible refine ok_step ?_ (fun _ => ?_) | dsimp only | split | intro _)

theorem State.rbFail_ok {D : DevState → Prop} {s : State} (kind : Nat) (t : Nat) (k : Nat) (h : s.Ok D) : (State.rbFail s kind t k).Ok D := by
  unfold State.rbFail
  repeat' (first | with_reducible assumption | with_reducible apply State.evt_ok | with_reducible apply State.put_ok | with_reducible apply State.setLive_ok | with_reducible apply State.dropHeld_ok | with_reducible apply State.raise_ok | with_reducible refine ok_foldl ?_ (fun _ _ _ => ?_) | with_reducible refine ok_step ?_ (fun _ => ?_) | dsimp only | split | (simp only [↓ok_mk]; with_reducible refine parts_ok ?_) | intro _)

theorem State.rbChannel_ok {D : DevState → Prop} {s : State} (t : Nat) (j : Nat) (kind : Nat) (k : Nat) (v : Int) (h : s.Ok D) : (State.rbChannel s t j kind k v).Ok D := by
  unfold State.rbChannel
  repeat' (first | with_reducible assumption | with_reducible apply State.put_ok | with_reducible apply State.inc_ok | with_reducible apply State.wr_ok | with_reducible apply State.rbFail_ok | with_reducible refine ok_foldl ?_ (fun _ _ _ => ?_) | with_reducible refine ok_step ?_ (fun _ => ?_) | dsimp only | split | intro _)

theorem State.rbRef_ok {D : DevState → Prop} {s : State} (t : Nat) (j : Nat) (v : Int) (h : s.Ok D) : (State.rbRef s t j v).Ok D := by
  unfold State.rbRef
  repeat' (first | with_reducible assumption | with_reducible apply State.raise_ok | with_reducible apply State.evt_ok | with_reducible refine ok_foldl ?_ (fun _ _ _ => ?_) | with_reducible refine ok_step ?_ (fun _ => ?_) | dsimp only | split | intro _)

theorem State.readback_ok {D : DevState → Prop} {s : State} (t : Nat) (v : Int) (h : s.Ok D) : (State.readback s t v).Ok D := by
  unfold State.readback
  repeat' (first | with_reducible assumption | with_reducible apply State.wr_ok | with_reducible apply State.rbChannel_ok | with_reducible apply State.rbRef_ok | with_reducible refine ok_foldl ?_ (fun _ _ _ => ?_) | with_reducible refine ok_step ?_ (fun _ => ?_) | dsimp only | split | intro _)

theorem State.rangeForce_ok {D : DevState → Prop} {s : State} (t : Nat) (kind : Nat) (range : Nat) (h : s.Ok D) : (State.rangeForce s t kind range).Ok D := by
  unfold State.rangeForce
  repeat' (first | with_reducible assumption | with_reducible apply State.wr_ok | with_reducible apply State.stopPlay_ok | with_reducible apply State.dropHeld_ok | with_reducible apply State.setLive_ok | with_reducible refine ok_foldl ?_ (fun _ _ _ => ?_) | with_reducible refine ok_step ?_ (fun _ => ?_) | dsimp only | split | intro _)

theorem State.rangeStart_ok {D : DevState → Prop} {s : State} (t : Nat) (h : s.Ok D) : (State.rangeStart s t).Ok D := by
  unfold State.rangeStart
  repeat' (first | with_reducible assumption | with_reducible apply State.elemHold_ok | with_reducible apply State.wrapDrop_ok | with_reducible apply State.abortProbe_ok | with_reducible apply State.rangeForce_ok | with_reducible refine ok_foldl ?_ (fun _ _ _ => ?_) | with_reducible refine ok_step ?_ (fun _ => ?_) | dsimp only | split | (simp only [↓ok_mk]; with_reducible refine parts_ok ?_) | intro _)

theorem State.rangeStarts_ok {D : DevState → Prop} {s : State} (h : s.Ok D) : (State.rangeStarts s).Ok D := by
  unfold State.rangeStarts
  repeat' (first | with_reducible assumption | with_reducible apply State.rangeStart_ok | with_reducible refine ok_foldl ?_ (fun _ _ _ => ?_) | with_reducible refine ok_step ?_ (fun _ => ?_) | dsimp only | split | intro _)

theorem State.rangeGo_ok {D : DevState → Prop} {s : State} (t : Nat) (reqF : Nat) (reqH : Nat) (nearCommit : Bool) (h : s.Ok D) : (State.rangeGo s t reqF reqH nearCommit).Ok D := by
  unfold State.rangeGo
  repeat' (first | with_reducible assumption | with_reducible apply State.wr_ok | with_reducible apply State.evt_ok | with_reducible refine ok_foldl ?_ (fun _ _ _ => ?_) | with_reducible refine ok_step ?_ (fun _ => ?_) | dsimp only | split | (simp only [↓ok_mk]; with_reducible refine parts_ok ?_) | intro _)

theorem State.rangeEnd_ok {D : DevState → Prop} {s : State} (t : Nat) (kind : Nat) (h : s.Ok D) : (State.rangeEnd s t kind).Ok D := by
  unfold State.rangeEnd
  repeat' (first | with_reducible assumption | with_reducible refine ok_foldl ?_ (fun _ _ _ => ?_) | with_reducible refine ok_step ?_ (fun _ => ?_) | dsimp only | split | (simp only [↓ok_mk]; with_reducible refine parts_ok ?_) | intro _)

theorem State.rangeLive_ok {D : DevState → Prop} {s : State} (t : Nat) (kind : Nat) (safed : Bool) (h : s.Ok D) : (State.rangeLive s t kind safed).Ok D := by
  unfold State.rangeLive
  repeat' (first | with_reducible assumption | with_reducible apply State.loadSafe_ok | with_reducible apply State.rangeEnd_ok | with_reducible apply State.safeChan_ok | with_reducible apply State.setLive_ok | with_reducible refine ok_foldl ?_ (fun _ _ _ => ?_) | with_reducible refine ok_step ?_ (fun _ => ?_) | dsimp only | split | intro _)

theorem State.rangeDone_ok {D : DevState → Prop} {s : State} (t : Nat) (h : s.Ok D) : (State.rangeDone s t).Ok D := by
  unfold State.rangeDone
  repeat' (first | with_reducible assumption | with_reducible apply State.clearHist_ok | with_reducible apply State.acquire_ok | with_reducible apply State.elemOff_ok | with_reducible apply State.checkHtrOver_ok | with_reducible apply State.recomputePow_ok | with_reducible apply State.evt_ok | with_reducible apply State.wr_ok | with_reducible refine ok_foldl ?_ (fun _ _ _ => ?_) | with_reducible refine ok_step ?_ (fun _ => ?_) | dsimp only | split | (simp only [↓ok_mk]; with_reducible refine parts_ok ?_) | intro _)

theorem State.rangeSettle_ok {D : DevState → Prop} {s : State} (t : Nat) (kind : Nat) (h : s.Ok D) : (State.rangeSettle s t kind).Ok D := by
  unfold State.rangeSettle
  repeat' (first | with_reducible assumption | with_reducible apply State.rangeStart_ok | with_reducible apply State.rangeLive_ok | with_reducible apply State.rangeDone_ok | with_reducible refine ok_foldl ?_ (fun _ _ _ => ?_) | with_reducible refine ok_step ?_ (fun _ => ?_) | dsimp only | split | intro _)

theorem State.deglitch_ok {D : DevState → Prop} {s : State} (kind : Nat) (t : Nat) (k : Nat) (h : s.Ok D) : (State.deglitch s kind t k).Ok D := by
  unfold State.deglitch
  repeat' (first | with_reducible assumption | with_reducible refine ok_foldl ?_ (fun _ _ _ => ?_) | with_reducible refine ok_step ?_ (fun _ => ?_) | dsimp only | split | (simp only [↓ok_mk]; with_reducible refine parts_ok ?_) | intro _)

theorem State.pacedRelease_ok {D : DevState → Prop} {s : State} (t : Nat) (k : Nat) (h : s.Ok D) : (State.pacedRelease s t k).Ok D := by
  unfold State.pacedRelease
  repeat' (first | with_reducible assumption | with_reducible apply State.checkHtrOver_ok | with_reducible apply State.jobDone_ok | with_reducible apply State.directLive_ok | with_reducible apply State.put_ok | with_reducible refine ok_foldl ?_ (fun _ _ _ => ?_) | with_reducible refine ok_step ?_ (fun _ => ?_) | dsimp only | split | (simp only [↓ok_mk]; with_reducible refine parts_ok ?_) | intro _)

theorem State.directUpdate_ok {D : DevState → Prop} {s : State} (t : Nat) (kind : Nat) (k : Nat) (code : Nat) (beaten : Bool) (bus : Ecc) (h : s.Ok D) : (State.directUpdate s t kind k code beaten bus).Ok D := by
  unfold State.directUpdate
  repeat' (first | with_reducible assumption | with_reducible apply State.busCheck_ok | with_reducible apply State.checkHtrOver_ok | with_reducible apply State.direct_ok | with_reducible refine ok_foldl ?_ (fun _ _ _ => ?_) | with_reducible refine ok_step ?_ (fun _ => ?_) | dsimp only | split | intro _)

theorem State.modTest_ok {D : DevState → Prop} {s : State} (f : BenchSt → BenchSt) (h : s.Ok D) : (State.modTest s f).Ok D := by
  unfold State.modTest
  repeat' (first | with_reducible assumption | with_reducible refine ok_foldl ?_ (fun _ _ _ => ?_) | with_reducible refine ok_step ?_ (fun _ => ?_) | dsimp only | split | (simp only [↓ok_mk]; with_reducible refine parts_ok ?_) | intro _)

theorem State.testRun_ok {D : DevState → Prop} {s : State} (test : Nat) (target : Nat) (h : s.Ok D) : (State.testRun s test target).Ok D := by
  unfold State.testRun
  repeat' (first | with_reducible assumption | with_reducible apply State.wr_ok | with_reducible apply State.put_ok | with_reducible apply State.modTest_ok | with_reducible apply State.evt_ok | with_reducible refine ok_foldl ?_ (fun _ _ _ => ?_) | with_reducible refine ok_step ?_ (fun _ => ?_) | dsimp only | split | intro _)

theorem State.testGo_ok {D : DevState → Prop} {s : State} (test : Nat) (target : Nat) (h : s.Ok D) : (State.testGo s test target).Ok D := by
  unfold State.testGo
  repeat' (first | with_reducible assumption | with_reducible apply State.err_ok | with_reducible apply State.testRun_ok | with_reducible refine ok_foldl ?_ (fun _ _ _ => ?_) | with_reducible refine ok_step ?_ (fun _ => ?_) | dsimp only | split | intro _)

theorem State.testRestore_ok {D : DevState → Prop} {s : State} (t : TestSt) (h : s.Ok D) : (State.testRestore s t).Ok D := by
  unfold State.testRestore
  repeat' (first | with_reducible assumption | with_reducible apply State.wr_ok | with_reducible refine ok_foldl ?_ (fun _ _ _ => ?_) | with_reducible refine ok_step ?_ (fun _ => ?_) | dsimp only | split | intro _)

theorem State.testFinish_ok {D : DevState → Prop} {s : State} (t : TestSt) (result : Nat) (h : s.Ok D) : (State.testFinish s t result).Ok D := by
  unfold State.testFinish
  repeat' (first | with_reducible assumption | with_reducible apply State.modTest_ok | with_reducible apply State.testRestore_ok | with_reducible apply State.wr_ok | with_reducible apply State.put_ok | with_reducible apply State.evt_ok | with_reducible refine ok_foldl ?_ (fun _ _ _ => ?_) | with_reducible refine ok_step ?_ (fun _ => ?_) | dsimp only | split | intro _)

theorem State.testStop_ok {D : DevState → Prop} {s : State} (h : s.Ok D) : (State.testStop s).Ok D := by
  unfold State.testStop
  repeat' (first | with_reducible assumption | with_reducible apply State.testFinish_ok | with_reducible refine ok_foldl ?_ (fun _ _ _ => ?_) | with_reducible refine ok_step ?_ (fun _ => ?_) | dsimp only | split | intro _)

theorem State.testCheck_ok {D : DevState → Prop} {s : State} (h : s.Ok D) : (State.testCheck s).Ok D := by
  unfold State.testCheck
  repeat' (first | with_reducible assumption | with_reducible apply State.testFinish_ok | with_reducible refine ok_foldl ?_ (fun _ _ _ => ?_) | with_reducible refine ok_step ?_ (fun _ => ?_) | dsimp only | split | intro _)

theorem State.testCtrl_ok {D : DevState → Prop} {s : State} (w : Word) (h : s.Ok D) : (State.testCtrl s w).Ok D := by
  unfold State.testCtrl
  repeat' (first | with_reducible assumption | with_reducible apply State.wr_ok | with_reducible apply State.err_ok | with_reducible apply State.testStop_ok | with_reducible apply State.evt_ok | with_reducible apply State.testRun_ok | with_reducible refine ok_foldl ?_ (fun _ _ _ => ?_) | with_reducible refine ok_step ?_ (fun _ => ?_) | dsimp only | split | intro _)

theorem State.ringTestEnd_ok {D : DevState → Prop} {s : State} (t : TestSt) (errs : List Nat) (h : s.Ok D) : (State.ringTestEnd s t errs).Ok D := by
  unfold State.ringTestEnd
  repeat' (first | with_reducible assumption | with_reducible apply State.add_ok | with_reducible apply State.testFinish_ok | with_reducible refine ok_foldl ?_ (fun _ _ _ => ?_) | with_reducible refine ok_step ?_ (fun _ => ?_) | dsimp only | split | intro _)

theorem State.busTestEnd_ok {D : DevState → Prop} {s : State} (t : TestSt) (errs : List Nat) (h : s.Ok D) : (State.busTestEnd s t errs).Ok D := by
  unfold State.busTestEnd
  repeat' (first | with_reducible assumption | with_reducible apply State.add_ok | with_reducible apply State.testFinish_ok | with_reducible refine ok_foldl ?_ (fun _ _ _ => ?_) | with_reducible refine ok_step ?_ (fun _ => ?_) | dsimp only | split | intro _)

theorem State.sdTestEnd_ok {D : DevState → Prop} {s : State} (t : TestSt) (fails : List (Nat × Nat)) (h : s.Ok D) : (s.sdTestEnd t fails).Ok D := by
  have hs : ∀ p, State.Ok D { s with sd := s.sd.filter p } := fun p => Parts.withMemory h (memory_filter_wf p h.memory)
  unfold State.sdTestEnd
  repeat' (first | with_reducible apply hs | with_reducible apply State.testFinish_ok | with_reducible apply State.add_ok | with_reducible apply State.wr_ok | with_reducible apply State.draw_ok | dsimp only | split)

theorem State.dacTestEnd_ok {D : DevState → Prop} {s : State} (t : TestSt) (samples : List (Nat × Int)) (h : s.Ok D) : (State.dacTestEnd s t samples).Ok D := by
  unfold State.dacTestEnd
  repeat' (first | with_reducible assumption | with_reducible apply State.wr_ok | with_reducible apply State.testFinish_ok | with_reducible refine ok_foldl ?_ (fun _ _ _ => ?_) | with_reducible refine ok_step ?_ (fun _ => ?_) | dsimp only | split | intro _)

theorem State.tcTestEnd_ok {D : DevState → Prop} {s : State} (t : TestSt) (pairs : List (Nat × Nat × Nat × Nat)) (h : s.Ok D) : (State.tcTestEnd s t pairs).Ok D := by
  unfold State.tcTestEnd
  repeat' (first | with_reducible assumption | with_reducible apply State.wr_ok | with_reducible apply State.testFinish_ok | with_reducible refine ok_foldl ?_ (fun _ _ _ => ?_) | with_reducible refine ok_step ?_ (fun _ => ?_) | dsimp only | split | intro _)

theorem State.optTestEnd_ok {D : DevState → Prop} {s : State} (t : TestSt) (ingress : Int) (planes : List (List Int × Int × Int)) (h : s.Ok D) : (State.optTestEnd s t ingress planes).Ok D := by
  unfold State.optTestEnd
  repeat' (first | with_reducible assumption | with_reducible apply State.testFinish_ok | with_reducible apply State.wr_ok | with_reducible refine ok_foldl ?_ (fun _ _ _ => ?_) | with_reducible refine ok_step ?_ (fun _ => ?_) | dsimp only | split | intro _)

theorem State.testEnd_ok {D : DevState → Prop} {s : State} (f : Findings) (h : s.Ok D) : (State.testEnd s f).Ok D := by
  unfold State.testEnd
  repeat' (first | with_reducible assumption | with_reducible apply State.ringTestEnd_ok | with_reducible apply State.busTestEnd_ok | with_reducible apply State.sdTestEnd_ok | with_reducible apply State.dacTestEnd_ok | with_reducible apply State.tcTestEnd_ok | with_reducible apply State.optTestEnd_ok | with_reducible refine ok_foldl ?_ (fun _ _ _ => ?_) | with_reducible refine ok_step ?_ (fun _ => ?_) | dsimp only | split | intro _)

theorem State.modTestRun_ok {D : DevState → Prop} {s : State} (f : TestSt → TestSt) (h : s.Ok D) : (State.modTestRun s f).Ok D := by
  unfold State.modTestRun
  repeat' (first | with_reducible assumption | with_reducible apply State.modTest_ok | with_reducible refine ok_foldl ?_ (fun _ _ _ => ?_) | with_reducible refine ok_step ?_ (fun _ => ?_) | dsimp only | split | intro _)

theorem State.checkerLock_ok {D : DevState → Prop} {s : State} (l : Nat) (h : s.Ok D) : (State.checkerLock s l).Ok D := by
  unfold State.checkerLock
  repeat' (first | with_reducible assumption | with_reducible apply State.modTestRun_ok | with_reducible apply State.wr_ok | with_reducible refine ok_foldl ?_ (fun _ _ _ => ?_) | with_reducible refine ok_step ?_ (fun _ => ?_) | dsimp only | split | intro _)

theorem State.checkerLost_ok {D : DevState → Prop} {s : State} (l : Nat) (h : s.Ok D) : (State.checkerLost s l).Ok D := by
  unfold State.checkerLost
  repeat' (first | with_reducible assumption | with_reducible apply State.evt_ok | with_reducible apply State.modTestRun_ok | with_reducible apply State.wr_ok | with_reducible refine ok_foldl ?_ (fun _ _ _ => ?_) | with_reducible refine ok_step ?_ (fun _ => ?_) | dsimp only | split | intro _)

theorem State.linkInject_ok {D : DevState → Prop} {s : State} (h : s.Ok D) : (State.linkInject s).Ok D := by
  unfold State.linkInject
  repeat' (first | with_reducible assumption | with_reducible apply State.modTestRun_ok | with_reducible apply State.inc_ok | with_reducible refine ok_foldl ?_ (fun _ _ _ => ?_) | with_reducible refine ok_step ?_ (fun _ => ?_) | dsimp only | split | intro _)

theorem State.setCells_ok {D : DevState → Prop} {s : State} (b : Ball) (c : Cells) (h : s.Ok D) : (State.setCells s b c).Ok D := by
  unfold State.setCells
  repeat' (first | with_reducible assumption | with_reducible apply State.modTest_ok | with_reducible refine ok_foldl ?_ (fun _ _ _ => ?_) | with_reducible refine ok_step ?_ (fun _ => ?_) | dsimp only | split | intro _)

theorem State.scan_ok {D : DevState → Prop} {s : State} (x : Scan) (h : s.Ok D) : (State.scan s x).Ok D := by
  unfold State.scan
  repeat' (first | with_reducible assumption | with_reducible apply State.setCells_ok | with_reducible apply State.emit_ok | with_reducible refine ok_foldl ?_ (fun _ _ _ => ?_) | with_reducible refine ok_step ?_ (fun _ => ?_) | dsimp only | split | intro _)

theorem State.jtagPins_ok {D : DevState → Prop} {s : State} (op : Nat) (h : s.Ok D) : (State.jtagPins s op).Ok D := by
  unfold State.jtagPins
  repeat' (first | with_reducible assumption | with_reducible apply State.modTest_ok | with_reducible apply State.inc_ok | with_reducible refine ok_foldl ?_ (fun _ _ _ => ?_) | with_reducible refine ok_step ?_ (fun _ => ?_) | dsimp only | split | intro _)

theorem State.jtagExtest_ok {D : DevState → Prop} {s : State} (op : Nat) (x : Scan) (h : s.Ok D) : (State.jtagExtest s op x).Ok D := by
  unfold State.jtagExtest
  repeat' (first | with_reducible assumption | with_reducible apply State.jtagPins_ok | with_reducible apply State.scan_ok | with_reducible refine ok_foldl ?_ (fun _ _ _ => ?_) | with_reducible refine ok_step ?_ (fun _ => ?_) | dsimp only | split | intro _)

theorem State.jtagSelect_ok {D : DevState → Prop} {s : State} (op : Nat) (h : s.Ok D) : (State.jtagSelect s op).Ok D := by
  unfold State.jtagSelect
  repeat' (first | with_reducible assumption | with_reducible apply State.modTest_ok | with_reducible refine ok_foldl ?_ (fun _ _ _ => ?_) | with_reducible refine ok_step ?_ (fun _ => ?_) | dsimp only | split | intro _)

theorem State.jtagReset_ok {D : DevState → Prop} {s : State} (h : s.Ok D) : (State.jtagReset s).Ok D := by
  unfold State.jtagReset
  repeat' (first | with_reducible assumption | with_reducible apply State.modTest_ok | with_reducible refine ok_foldl ?_ (fun _ _ _ => ?_) | with_reducible refine ok_step ?_ (fun _ => ?_) | dsimp only | split | intro _)

theorem State.clearPage_ok {D : DevState → Prop} {s : State} (pg lo : Nat) (keep : List (Nat × Nat)) (h : s.Ok D) : (s.clearPage pg lo keep).Ok D := Parts.withWords h (tab_filter_wf _ h.words)

theorem State.sqAbort_ok {D : DevState → Prop} {s : State} (h : s.Ok D) : (State.sqAbort s).Ok D := by
  unfold State.sqAbort
  repeat' (first | with_reducible assumption | with_reducible apply State.modParser_ok | with_reducible refine ok_foldl ?_ (fun _ _ _ => ?_) | with_reducible refine ok_step ?_ (fun _ => ?_) | dsimp only | split | (simp only [↓ok_mk]; with_reducible refine parts_ok ?_) | intro _)

theorem State.pathAbort_ok {D : DevState → Prop} {s : State} (h : s.Ok D) : (State.pathAbort s).Ok D := by
  unfold State.pathAbort
  repeat' (first | with_reducible assumption | with_reducible apply State.modParser_ok | with_reducible refine ok_foldl ?_ (fun _ _ _ => ?_) | with_reducible refine ok_step ?_ (fun _ => ?_) | dsimp only | split | intro _)

theorem State.pageStop_ok {D : DevState → Prop} {s : State} (p : PageInfo) (pg : Nat) (abort : Bool) (h : s.Ok D) : (State.pageStop s p pg abort).Ok D := by
  unfold State.pageStop
  repeat' (first | with_reducible assumption | with_reducible apply State.servoOff_ok | with_reducible apply State.gantryAbort_ok | with_reducible apply State.gantryStop_ok | with_reducible apply State.seamAbort_ok | with_reducible apply State.plumbAbort_ok | with_reducible apply State.plumbDrain_ok | with_reducible apply State.capFlush_ok | with_reducible apply State.capTake_ok | with_reducible apply State.sqAbort_ok | with_reducible apply State.parserAbort_ok | with_reducible apply State.setEng_ok | with_reducible apply State.linkDown_ok | with_reducible apply State.pathAbort_ok | with_reducible apply State.testStop_ok | with_reducible apply State.clusterStop_ok | with_reducible refine ok_foldl ?_ (fun _ _ _ => ?_) | with_reducible refine ok_step ?_ (fun _ => ?_) | dsimp only | split | intro _)

theorem State.pageHalted_ok {D : DevState → Prop} {s : State} (p : PageInfo) (h : s.Ok D) : (State.pageHalted s p).Ok D := by
  unfold State.pageHalted
  repeat' (first | with_reducible assumption | with_reducible apply State.pcieDown_ok | with_reducible refine ok_foldl ?_ (fun _ _ _ => ?_) | with_reducible refine ok_step ?_ (fun _ => ?_) | dsimp only | split | intro _)

theorem State.tileStart_ok {D : DevState → Prop} {s : State} (m : Nat) (h : s.Ok D) : (State.tileStart s m).Ok D := by
  unfold State.tileStart
  repeat' (first | with_reducible assumption | with_reducible apply State.steerBack_ok | with_reducible apply State.beginConv_ok | with_reducible apply State.put_ok | with_reducible refine ok_foldl ?_ (fun _ _ _ => ?_) | with_reducible refine ok_step ?_ (fun _ => ?_) | dsimp only | split | intro _)

theorem State.pageReady_ok {D : DevState → Prop} {s : State} (p : PageInfo) (pg : Nat) (h : s.Ok D) : (State.pageReady s p pg).Ok D := by
  unfold State.pageReady
  repeat' (first | with_reducible assumption | with_reducible apply State.syncAll_ok | with_reducible apply State.clusterStart_ok | with_reducible apply State.tileStart_ok | with_reducible refine ok_foldl ?_ (fun _ _ _ => ?_) | with_reducible refine ok_step ?_ (fun _ => ?_) | dsimp only | split | (simp only [↓ok_mk]; with_reducible refine parts_ok ?_) | intro _)

theorem State.setPage_ok {D : DevState → Prop} {s : State} (pg : Nat) (n : Nat) (h : s.Ok D) : (State.setPage s pg n).Ok D := by
  unfold State.setPage
  repeat' (first | with_reducible assumption | with_reducible apply State.wr_ok | with_reducible refine ok_foldl ?_ (fun _ _ _ => ?_) | with_reducible refine ok_step ?_ (fun _ => ?_) | dsimp only | split | intro _)

theorem State.enableClear_ok {D : DevState → Prop} {s : State} (p : PageInfo) (pg : Nat) (abort : Bool) (h : s.Ok D) : (State.enableClear s p pg abort).Ok D := by
  unfold State.enableClear
  repeat' (first | with_reducible assumption | with_reducible apply State.pageStop_ok | with_reducible apply State.setPage_ok | with_reducible apply State.put_ok | with_reducible apply State.planned_ok | with_reducible apply State.err_ok | with_reducible refine ok_foldl ?_ (fun _ _ _ => ?_) | with_reducible refine ok_step ?_ (fun _ => ?_) | dsimp only | split | intro _)

theorem State.blockReady_ok {D : DevState → Prop} {s : State} (pg : Nat) (h : s.Ok D) : (State.blockReady s pg).Ok D := by
  unfold State.blockReady
  repeat' (first | with_reducible assumption | with_reducible apply State.pageReady_ok | with_reducible apply State.setPage_ok | with_reducible apply State.enableClear_ok | with_reducible refine ok_foldl ?_ (fun _ _ _ => ?_) | with_reducible refine ok_step ?_ (fun _ => ?_) | dsimp only | split | intro _)

theorem State.drainComplete_ok {D : DevState → Prop} {s : State} (pg : Nat) (h : s.Ok D) : (State.drainComplete s pg).Ok D := by
  unfold State.drainComplete
  repeat' (first | with_reducible assumption | with_reducible apply State.pageHalted_ok | with_reducible apply State.setPage_ok | with_reducible apply State.put_ok | with_reducible refine ok_foldl ?_ (fun _ _ _ => ?_) | with_reducible refine ok_step ?_ (fun _ => ?_) | dsimp only | split | (simp only [↓ok_mk]; with_reducible refine parts_ok ?_) | intro _)

theorem State.freshMon_ok {D : DevState → Prop} {s : State} (m : Nat) (h : s.Ok D) : (State.freshMon s m).Ok D := by
  unfold State.freshMon
  repeat' (first | with_reducible assumption | with_reducible refine ok_foldl ?_ (fun _ _ _ => ?_) | with_reducible refine ok_step ?_ (fun _ => ?_) | dsimp only | split | (simp only [↓ok_mk]; with_reducible refine parts_ok ?_) | intro _)

theorem State.freshCapture_ok {D : DevState → Prop} {s : State} (h : s.Ok D) : (State.freshCapture s).Ok D :=
  Parts.withCapture h tabWf_nil

theorem State.freshCmd_ok {D : DevState → Prop} {s : State} (h : s.Ok D) : (State.freshCmd s).Ok D := by
  unfold State.freshCmd
  repeat' (first | with_reducible assumption | with_reducible refine ok_foldl ?_ (fun _ _ _ => ?_) | with_reducible refine ok_step ?_ (fun _ => ?_) | dsimp only | split | (simp only [↓ok_mk]; with_reducible refine parts_ok ?_) | intro _)

theorem State.loadStation_ok {D : DevState → Prop} {s : State} (p : Nat) (h : s.Ok D) : (State.loadStation s p).Ok D := by
  unfold State.loadStation
  repeat' (first | with_reducible assumption | with_reducible apply State.wr_ok | with_reducible refine ok_foldl ?_ (fun _ _ _ => ?_) | with_reducible refine ok_step ?_ (fun _ => ?_) | dsimp only | split | intro _)

theorem State.freshTrig_ok {D : DevState → Prop} {s : State} (h : s.Ok D) : (State.freshTrig s).Ok D := by
  unfold State.freshTrig
  repeat' (first | with_reducible assumption | with_reducible refine ok_foldl ?_ (fun _ _ _ => ?_) | with_reducible refine ok_step ?_ (fun _ => ?_) | dsimp only | split | (simp only [↓ok_mk]; with_reducible refine parts_ok ?_) | intro _)

theorem State.noteSoft_ok {D : DevState → Prop} {s : State} (i : Nat) (h : s.Ok D) : (State.noteSoft s i).Ok D := by
  unfold State.noteSoft
  repeat' (first | with_reducible assumption | with_reducible refine ok_foldl ?_ (fun _ _ _ => ?_) | with_reducible refine ok_step ?_ (fun _ => ?_) | dsimp only | split | (simp only [↓ok_mk]; with_reducible refine parts_ok ?_) | intro _)

theorem State.softStop_ok {D : DevState → Prop} {s : State} (p : PageInfo) (pg : Nat) (h : s.Ok D) : (State.softStop s p pg).Ok D := by
  unfold State.softStop
  repeat' (first | with_reducible assumption | with_reducible apply State.modTime_ok | with_reducible apply State.servoOff_ok | with_reducible apply State.gantryAbort_ok | with_reducible apply State.freshTrig_ok | with_reducible apply State.seamAbort_ok | with_reducible apply State.bankAbandon_ok | with_reducible apply State.plumbAbort_ok | with_reducible apply State.freshCapture_ok | with_reducible apply State.freshCmd_ok | with_reducible apply State.sqAbort_ok | with_reducible apply State.parserAbort_ok | with_reducible apply State.setEng_ok | with_reducible apply State.linkDown_ok | with_reducible apply State.pathAbort_ok | with_reducible apply State.testStop_ok | with_reducible apply State.noteSoft_ok | with_reducible apply State.clusterStop_ok | with_reducible apply State.freshMon_ok | with_reducible refine ok_foldl ?_ (fun _ _ _ => ?_) | with_reducible refine ok_step ?_ (fun _ => ?_) | dsimp only | split | intro _)

theorem State.softAfter_ok {D : DevState → Prop} {s : State} (p : PageInfo) (pg : Nat) (h : s.Ok D) : (State.softAfter s p pg).Ok D := by
  unfold State.softAfter
  repeat' (first | with_reducible assumption | with_reducible apply State.put_ok | with_reducible apply State.ppsCheck_ok | with_reducible apply State.setSource_ok | with_reducible apply State.periodWrite_ok | with_reducible apply State.seamRegs_ok | with_reducible apply State.loadStation_ok | with_reducible refine ok_foldl ?_ (fun _ _ _ => ?_) | with_reducible refine ok_step ?_ (fun _ => ?_) | dsimp only | split | intro _)

theorem State.softRegs_ok {D : DevState → Prop} {s : State} (p : PageInfo) (pg : Nat) (h : s.Ok D) : (State.softRegs s p pg).Ok D := by
  unfold State.softRegs
  repeat' (first | with_reducible assumption | with_reducible apply State.clearPage_ok | with_reducible refine ok_foldl ?_ (fun _ _ _ => ?_) | with_reducible refine ok_step ?_ (fun _ => ?_) | dsimp only | split | intro _)

theorem State.softReset_ok {D : DevState → Prop} {s : State} (p : PageInfo) (pg : Nat) (h : s.Ok D) : (State.softReset s p pg).Ok D := by
  unfold State.softReset
  repeat' (first | with_reducible assumption | with_reducible apply State.recomputePow_ok | with_reducible apply State.clearPage_ok | with_reducible apply State.tileFresh_ok | with_reducible apply State.err_ok | with_reducible apply State.softAfter_ok | with_reducible apply State.softRegs_ok | with_reducible apply State.softStop_ok | with_reducible apply State.setPage_ok | with_reducible apply State.planned_ok | with_reducible refine ok_foldl ?_ (fun _ _ _ => ?_) | with_reducible refine ok_step ?_ (fun _ => ?_) | dsimp only | split | (simp only [↓ok_mk]; with_reducible refine parts_ok ?_) | intro _)

theorem State.pgCtrl_ok {D : DevState → Prop} {s : State} (path : HostPath) (pg : Nat) (w : Word) (h : s.Ok D) : (State.pgCtrl s path pg w).Ok D := by
  unfold State.pgCtrl
  repeat' (first | with_reducible assumption | with_reducible apply State.err_ok | with_reducible apply State.softReset_ok | with_reducible apply State.enableClear_ok | with_reducible apply State.put_ok | with_reducible apply State.setPage_ok | with_reducible refine ok_foldl ?_ (fun _ _ _ => ?_) | with_reducible refine ok_step ?_ (fun _ => ?_) | dsimp only | split | (simp only [↓ok_mk]; with_reducible refine parts_ok ?_) | intro _)

theorem State.evtClear_ok {D : DevState → Prop} {s : State} (pg : Nat) (w : Word) (h : s.Ok D) : (State.evtClear s pg w).Ok D := by
  unfold State.evtClear
  repeat' (first | with_reducible assumption | with_reducible apply State.wrW_ok | with_reducible refine ok_foldl ?_ (fun _ _ _ => ?_) | with_reducible refine ok_step ?_ (fun _ => ?_) | dsimp only | split | intro _)

theorem State.evtEnable_ok {D : DevState → Prop} {s : State} (pg : Nat) (w : Word) (h : s.Ok D) : (State.evtEnable s pg w).Ok D := by
  unfold State.evtEnable
  repeat' (first | with_reducible assumption | with_reducible apply State.postNew_ok | with_reducible apply State.wrW_ok | with_reducible refine ok_foldl ?_ (fun _ _ _ => ?_) | with_reducible refine ok_step ?_ (fun _ => ?_) | dsimp only | split | intro _)

theorem State.evtSet_ok {D : DevState → Prop} {s : State} (pg : Nat) (w : Word) (h : s.Ok D) : (State.evtSet s pg w).Ok D := by
  unfold State.evtSet
  repeat' (first | with_reducible assumption | with_reducible apply State.postNew_ok | with_reducible apply State.wrW_ok | with_reducible apply State.msix_ok | with_reducible refine ok_foldl ?_ (fun _ _ _ => ?_) | with_reducible refine ok_step ?_ (fun _ => ?_) | dsimp only | split | intro _)

theorem State.errClear_ok {D : DevState → Prop} {s : State} (pg : Nat) (h : s.Ok D) : (State.errClear s pg).Ok D := by
  unfold State.errClear
  repeat' (first | with_reducible assumption | with_reducible apply State.wrW_ok | with_reducible refine ok_foldl ?_ (fun _ _ _ => ?_) | with_reducible refine ok_step ?_ (fun _ => ?_) | dsimp only | split | intro _)

theorem State.lockKey_ok {D : DevState → Prop} {s : State} (pg : Nat) (key : Nat) (h : s.Ok D) : (State.lockKey s pg key).Ok D := by
  unfold State.lockKey
  repeat' (first | with_reducible assumption | with_reducible apply State.err_ok | with_reducible apply State.put_ok | with_reducible apply State.raise_ok | with_reducible refine ok_foldl ?_ (fun _ _ _ => ?_) | with_reducible refine ok_step ?_ (fun _ => ?_) | dsimp only | split | intro _)

theorem State.regsFilter_keeps {D : DevState → Prop} {s : State} (p : Nat × Word → Bool) (h : s.Ok D) : State.Ok D { s with regs := s.regs.filter p } :=
  Parts.withWords h (tab_filter_wf _ h.words)

theorem State.clearExtra_ok {D : DevState → Prop} {s : State} (p : PageInfo) (pg : Nat) (h : s.Ok D) : (s.clearExtra p pg).Ok D := by
  unfold State.clearExtra
  split
  · exact ok_foldl h fun s k hs => s.wr_ok _ _ hs
  · exact State.regsFilter_keeps _ h
  · exact State.regsFilter_keeps _ h
  · exact State.wr_ok _ _ (s.wr_ok _ _ h)
  · exact h
  · exact h

theorem State.cntClear_ok {D : DevState → Prop} {s : State} (pg : Nat) (rel : Nat) (h : s.Ok D) : (State.cntClear s pg rel).Ok D := by
  unfold State.cntClear
  repeat' (first | with_reducible assumption | with_reducible apply State.clearRange_ok | with_reducible apply State.clearExtra_ok | with_reducible refine ok_foldl ?_ (fun _ _ _ => ?_) | with_reducible refine ok_step ?_ (fun _ => ?_) | dsimp only | split | intro _)

end Sys2Proof.Machine
end

