-- ==== Sys2Proof/Laws/KeepPower.lean ====
section
/-! SUPPORT. What every operation keeps (State.Ok): power, boot, commissioning and Sump. -/
namespace Sys2Proof.Machine

theorem State.pageOnState_ok {D : DevState → Prop} {s : State} (p : PageInfo) (pg : Nat) (h : s.Ok D) : (State.pageOnState s p pg).Ok D := by
  unfold State.pageOnState
  repeat' (first | with_reducible assumption | with_reducible apply State.setPage_ok | with_reducible refine ok_foldl ?_ (fun _ _ _ => ?_) | with_reducible refine ok_step ?_ (fun _ => ?_) | dsimp only | split | intro _)

theorem State.noLive_keeps {D : DevState → Prop} {s : State} (h : s.Ok D) : State.Ok D { s with live := [] } :=
  Parts.withParser h tabWf_nil

theorem State.clearWindows_ok {D : DevState → Prop} {s : State} (d : Nat) (h : s.Ok D) : (State.clearWindows s d).Ok D := by
  unfold State.clearWindows
  repeat' (first | with_reducible assumption | with_reducible apply State.noLive_keeps | with_reducible apply State.clearRange_ok | with_reducible refine ok_foldl ?_ (fun _ _ _ => ?_) | with_reducible refine ok_step ?_ (fun _ => ?_) | dsimp only | split | (simp only [↓ok_mk]; with_reducible refine parts_ok ?_) | intro _)

theorem State.elemsFilter_keeps {D : DevState → Prop} {s : State} (p : Nat × ElemSt → Bool) (ages ramps : Tab Nat) (h : s.Ok D) :
    State.Ok D { s with bram := { s.bram with elems := s.bram.elems.filter p, ages := ages, ramps := ramps } } :=
  Parts.withElements h (tab_filter_wf _ h.elements)

theorem State.forgetDomain_ok {D : DevState → Prop} {s : State} (d : Nat) (h : s.Ok D) : (State.forgetDomain s d).Ok D := by
  unfold State.forgetDomain
  repeat' (first | with_reducible assumption | with_reducible apply State.elemsFilter_keeps | with_reducible apply State.recomputePow_ok | with_reducible apply State.tileFresh_ok | with_reducible apply State.freshMon_ok | with_reducible apply State.setEng_ok | with_reducible apply State.linkDown_ok | with_reducible apply State.pcieDown_ok | with_reducible apply State.discardMarks_ok | with_reducible apply State.freshCmd_ok | with_reducible apply State.freshCapture_ok | with_reducible refine ok_foldl ?_ (fun _ _ _ => ?_) | with_reducible refine ok_step ?_ (fun _ => ?_) | dsimp only | split | (simp only [↓ok_mk]; with_reducible refine parts_ok ?_) | intro _)

theorem State.clearDomain_ok {D : DevState → Prop} {s : State} (d : Nat) (h : s.Ok D) : (State.clearDomain s d).Ok D := by
  unfold State.clearDomain
  repeat' (first | with_reducible assumption | with_reducible apply State.clearWindows_ok | with_reducible apply State.clearPage_ok | with_reducible refine ok_foldl ?_ (fun _ _ _ => ?_) | with_reducible refine ok_step ?_ (fun _ => ?_) | dsimp only | split | intro _)

theorem State.pageLoad_ok {D : DevState → Prop} {s : State} (p : PageInfo) (pg : Nat) (h : s.Ok D) : (State.pageLoad s p pg).Ok D := by
  unfold State.pageLoad
  repeat' (first | with_reducible assumption | with_reducible apply State.fuseRegs_ok | with_reducible apply State.periodWrite_ok | with_reducible apply State.loadStation_ok | with_reducible refine ok_foldl ?_ (fun _ _ _ => ?_) | with_reducible refine ok_step ?_ (fun _ => ?_) | dsimp only | split | intro _)

theorem State.domainOn_ok {D : DevState → Prop} {s : State} (d : Nat) (h : s.Ok D) : (State.domainOn s d).Ok D := by
  unfold State.domainOn
  repeat' (first | with_reducible assumption | with_reducible apply State.clearDomain_ok | with_reducible apply State.setDomain_ok | with_reducible apply State.recomputePow_ok | with_reducible apply State.tileFresh_ok | with_reducible apply State.pageLoad_ok | with_reducible apply State.pageOnState_ok | with_reducible apply State.evt_ok | with_reducible refine ok_foldl ?_ (fun _ _ _ => ?_) | with_reducible refine ok_step ?_ (fun _ => ?_) | dsimp only | split | intro _)

theorem State.startWaiting_ok {D : DevState → Prop} {s : State} (h : s.Ok D) : (State.startWaiting s).Ok D := by
  unfold State.startWaiting
  repeat' (first | with_reducible assumption | with_reducible apply State.setDomain_ok | with_reducible refine ok_foldl ?_ (fun _ _ _ => ?_) | with_reducible refine ok_step ?_ (fun _ => ?_) | dsimp only | split | intro _)

theorem State.domainQuiesce_ok {D : DevState → Prop} {s : State} (d : Nat) (h : s.Ok D) : (State.domainQuiesce s d).Ok D := by
  unfold State.domainQuiesce
  repeat' (first | with_reducible assumption | with_reducible apply State.tileQuiesce_ok | with_reducible apply State.setDomain_ok | with_reducible refine ok_foldl ?_ (fun _ _ _ => ?_) | with_reducible refine ok_step ?_ (fun _ => ?_) | dsimp only | split | intro _)

theorem State.judgeDown_ok {D : DevState → Prop} {s : State} (d : Nat) (viaPcie : Bool) (h : s.Ok D) : (State.judgeDown s d viaPcie).Ok D := by
  unfold State.judgeDown
  repeat' (first | with_reducible assumption | with_reducible apply State.domainQuiesce_ok | with_reducible apply State.inc_ok | with_reducible apply State.setDomain_ok | with_reducible apply State.evt_ok | with_reducible refine ok_foldl ?_ (fun _ _ _ => ?_) | with_reducible refine ok_step ?_ (fun _ => ?_) | dsimp only | split | intro _)

theorem State.powerDown_ok {D : DevState → Prop} {s : State} (path : HostPath) (pg : Nat) (h : s.Ok D) : (State.powerDown s path pg).Ok D := by
  unfold State.powerDown
  repeat' (first | with_reducible assumption | with_reducible apply State.err_ok | with_reducible apply State.judgeDown_ok | with_reducible apply State.setDomain_ok | with_reducible refine ok_foldl ?_ (fun _ _ _ => ?_) | with_reducible refine ok_step ?_ (fun _ => ?_) | dsimp only | split | intro _)

theorem State.powerUp_ok {D : DevState → Prop} {s : State} (pg : Nat) (h : s.Ok D) : (State.powerUp s pg).Ok D := by
  unfold State.powerUp
  repeat' (first | with_reducible assumption | with_reducible apply State.err_ok | with_reducible apply State.startWaiting_ok | with_reducible apply State.setDomain_ok | with_reducible refine ok_foldl ?_ (fun _ _ _ => ?_) | with_reducible refine ok_step ?_ (fun _ => ?_) | dsimp only | split | intro _)

theorem State.domainDown_ok {D : DevState → Prop} {s : State} (d : Nat) (h : s.Ok D) : (State.domainDown s d).Ok D := by
  unfold State.domainDown
  repeat' (first | with_reducible assumption | with_reducible apply State.setDomain_ok | with_reducible apply State.clearDomain_ok | with_reducible apply State.forgetDomain_ok | with_reducible apply State.startWaiting_ok | with_reducible apply State.evt_ok | with_reducible refine ok_foldl ?_ (fun _ _ _ => ?_) | with_reducible refine ok_step ?_ (fun _ => ?_) | dsimp only | split | intro _)

theorem State.domainUp_ok {D : DevState → Prop} {s : State} (d : Nat) (h : s.Ok D) : (State.domainUp s d).Ok D := by
  unfold State.domainUp
  repeat' (first | with_reducible assumption | with_reducible apply State.domainOn_ok | with_reducible apply State.judgeDown_ok | with_reducible apply State.startWaiting_ok | with_reducible refine ok_foldl ?_ (fun _ _ _ => ?_) | with_reducible refine ok_step ?_ (fun _ => ?_) | dsimp only | split | intro _)

theorem State.pageFault_ok {D : DevState → Prop} {s : State} (pg : Nat) (h : s.Ok D) : (State.pageFault s pg).Ok D := by
  unfold State.pageFault
  repeat' (first | with_reducible assumption | with_reducible apply State.setPage_ok | with_reducible refine ok_foldl ?_ (fun _ _ _ => ?_) | with_reducible refine ok_step ?_ (fun _ => ?_) | dsimp only | split | intro _)

theorem State.haltCluster_ok {D : DevState → Prop} {s : State} (k : Nat) (h : s.Ok D) : (State.haltCluster s k).Ok D := by
  unfold State.haltCluster
  repeat' (first | with_reducible assumption | with_reducible apply State.pageFault_ok | with_reducible apply State.clusterStop_ok | with_reducible refine ok_foldl ?_ (fun _ _ _ => ?_) | with_reducible refine ok_step ?_ (fun _ => ?_) | dsimp only | split | intro _)

theorem State.haltDomain_ok {D : DevState → Prop} {s : State} (d : Nat) (h : s.Ok D) : (State.haltDomain s d).Ok D := by
  unfold State.haltDomain
  repeat' (first | with_reducible assumption | with_reducible apply State.domainQuiesce_ok | with_reducible apply State.setDomain_ok | with_reducible refine ok_foldl ?_ (fun _ _ _ => ?_) | with_reducible refine ok_step ?_ (fun _ => ?_) | dsimp only | split | intro _)

theorem State.haltZone_ok {D : DevState → Prop} {s : State} (k : Nat) (h : s.Ok D) : (s.haltZone k).Ok D := by
  have noRamps : ∀ x : State, x.Ok D → State.Ok D { x with bram := { x.bram with ramps := [] } } := fun _ h => h
  have clusters : ∀ (l : List Nat) (x : State), State.Ok D x → State.Ok D (l.foldl State.haltCluster x) := fun _ _ h => ok_foldl h fun _ k h => State.haltCluster_ok k h
  have domains : ∀ (l : List Nat) (x : State), State.Ok D x → State.Ok D (l.foldl State.haltDomain x) := fun _ _ h => ok_foldl h fun _ d h => State.haltDomain_ok d h
  unfold State.haltZone
  split
  · exact clusters _ _ (noRamps _ (ok_foldl h fun _ t h => ok_foldl h fun _ c h => State.setLive_ok _ _ _ _ _ (State.dropHeld_ok t c h)))
  · exact domains _ _ (clusters _ _ h)
  · exact domains _ _ (clusters _ _ h)
  · exact State.pageFault_ok _ (State.pageFault_ok _ (ok_foldl (State.pageFault_ok _ (State.plumbAbort_ok (clusters _ _ (State.pageFault_ok _ (State.seamAbort_ok h))))) fun _ r h => State.capFlush_ok r h))
  · exact h

theorem State.checkDrop_ok {D : DevState → Prop} {s : State} (h : s.Ok D) : (State.checkDrop s).Ok D := by
  unfold State.checkDrop
  repeat' (first | with_reducible assumption | with_reducible apply State.wr_ok | with_reducible apply State.put_ok | with_reducible refine ok_foldl ?_ (fun _ _ _ => ?_) | with_reducible refine ok_step ?_ (fun _ => ?_) | dsimp only | split | (simp only [↓ok_mk]; with_reducible refine parts_ok ?_) | intro _)

theorem State.enterHalt_ok {D : DevState → Prop} {s : State} (zones : List Nat) (h : s.Ok D) (hH : D .halt) : (s.enterHalt zones).Ok D :=
  ok_foldl (State.checkDrop_ok (State.closeWindow_ok (State.gantryFreeze_ok (s.goto_ok .halt h hH)))) fun s k hs => s.haltZone_ok k hs

theorem State.shutdownPersist_ok {D : DevState → Prop} {s : State} (k : Nat) (h : s.Ok D) (hC : DevClosed D) : (s.shutdownPersist k).Ok D := by
  have hH : s.dev ≠ .off → D .halt := fun e => hC _ _ (.halt e) h.global
  unfold State.shutdownPersist
  split
  · exact h
  · split <;> rename_i e
    · exact State.raiseDirect_ok _ _ (s.enterHalt_ok _ h (hH (by rw [e]; decide)))
    · exact State.raiseDirect_ok _ _ (State.wr_ok _ _ (s.enterHalt_ok _ h (hH (by rw [e]; decide))))
    · exact State.raiseDirect_ok _ _ (State.evt_ok _ _ (State.inc_ok _ (State.enterHalt_ok _ (State.fireSafe_ok h) (hH (by rw [e]; decide)))))
    · exact State.raiseDirect_ok _ _ (State.evt_ok _ _ (State.inc_ok _ (State.enterHalt_ok _ (State.fireSafe_ok h) (hH (by rw [e]; decide)))))
    · exact State.raiseDirect_ok _ _ (State.evt_ok _ _ (State.inc_ok _ (State.enterHalt_ok _ (State.fireSafe_ok h) (hH (by rw [e]; decide)))))
    · exact s.haltZone_ok k h
    · exact h

theorem State.interruptCommit_ok {D : DevState → Prop} {s : State} (burnt : List (Nat × Byte)) (h : s.Ok D) : (State.interruptCommit s burnt).Ok D := by
  unfold State.interruptCommit
  repeat' (first | with_reducible assumption | with_reducible apply State.burn_ok | with_reducible refine ok_foldl ?_ (fun _ _ _ => ?_) | with_reducible refine ok_step ?_ (fun _ => ?_) | dsimp only | split | intro _)

theorem tabWf_range {α : Type} {d v : α} (p : Nat → Bool) (f : Nat → α) (n : Nat) (hd : ∀ i, f i ≠ d) : tabWf (fun _ => d) (((List.range n).filter p).map fun i => (i, f i)) := by
  refine ⟨List.pairwise_map.2 (List.Pairwise.filter _ List.pairwise_lt_range), fun e he => ?_⟩
  obtain ⟨i, -, rfl⟩ := List.mem_map.1 he
  exact hd i

theorem bootDomains_wf : tabWf (fun _ => Dom.onIdle) bootDomains :=
  tabWf_range (v := Dom.onIdle) _ (fun d => if d < 16 then ⟨1, true, false, 0, false⟩ else ⟨0, true, false, 1, false⟩) 224 fun i => by split <;> decide

theorem allDomainsOff_wf : tabWf (fun _ => Dom.onIdle) allDomainsOff := by
  have h := tabWf_range (d := Dom.onIdle) (v := Dom.onIdle) (fun _ => true) (fun _ => Dom.unpowered) 224 (fun _ => by decide)
  rwa [List.filter_eq_self.2 (fun _ _ => rfl)] at h

theorem State.powerOnReset_ok {D : DevState → Prop} {s : State} (burnt : List (Nat × Byte)) (h : s.Ok D) (hO : D .off) : (s.powerOnReset burnt).Ok D :=
  ⟨rfl, tab_filter_wf _ (s.interruptCommit_ok burnt h).words, allDomainsOff_wf, (by decide : 0 < timeWrap), hO, tabWf_nil, tabWf_nil, tabWf_nil⟩

theorem State.bootPages_ok {D : DevState → Prop} {s : State} (h : s.Ok D) : (State.bootPages s).Ok D := by
  unfold State.bootPages
  repeat' (first | with_reducible assumption | with_reducible apply State.pageLoad_ok | with_reducible apply State.pageOnState_ok | with_reducible refine ok_foldl ?_ (fun _ _ _ => ?_) | with_reducible refine ok_step ?_ (fun _ => ?_) | dsimp only | split | intro _)

theorem State.sysReset_ok {D : DevState → Prop} {s : State} (burnt : List (Nat × Byte)) (h : s.Ok D) (hB : D .boot) : (s.sysReset burnt).Ok D := by
  unfold State.sysReset
  split
  · exact h
  · have hi := s.interruptCommit_ok burnt h
    have hk : tabWf resetWord ((s.interruptCommit burnt).keepRegs sysKept) := tab_filter_wf _ hi.words
    dsimp only
    repeat' (first | with_reducible apply State.bootPages_ok | with_reducible refine ok_step ?_ (fun _ => ?_) | with_reducible refine State.goto_ok _ ?_ hB | with_reducible assumption | with_reducible apply State.zero_ok | with_reducible apply State.put_ok | with_reducible apply State.wr_ok)
    all_goals exact ⟨hi.memory, hk, bootDomains_wf, (by decide : 0 < timeWrap), hi.global, tabWf_nil, tabWf_nil, tabWf_nil⟩

theorem State.poresetRise_ok {D : DevState → Prop} {s : State} (mode : Nat) (h : s.Ok D) (hB : D .boot) : (s.poresetRise mode).Ok D := by
  have hd : State.Ok D { s with dom := bootDomains } := Parts.withDomains h bootDomains_wf
  unfold State.poresetRise
  split
  · exact h
  · exact State.bootPages_ok (State.wr_ok _ _ (State.goto_ok _ hd hB))

theorem State.clampWith_ok {D : DevState → Prop} {s : State} (r : Nat) (on : Bool) (h : s.Ok D) : (State.clampWith s r on).Ok D := by
  unfold State.clampWith
  repeat' (first | with_reducible assumption | with_reducible refine ok_foldl ?_ (fun _ _ _ => ?_) | with_reducible refine ok_step ?_ (fun _ => ?_) | dsimp only | split | (simp only [↓ok_mk]; with_reducible refine parts_ok ?_) | intro _)

theorem State.railLost_ok {D : DevState → Prop} {s : State} (r : Nat) (burnt : List (Nat × Byte)) (h : s.Ok D) (hO : D .off) : (State.railLost s r burnt).Ok D := by
  unfold State.railLost
  repeat' (first | with_reducible assumption | with_reducible apply State.powerOnReset_ok | with_reducible apply State.wrW_ok | with_reducible apply State.clampWith_ok | with_reducible apply State.evt_ok | with_reducible apply State.inc_ok | with_reducible apply State.linkDown_ok | with_reducible refine ok_foldl ?_ (fun _ _ _ => ?_) | with_reducible refine ok_step ?_ (fun _ => ?_) | dsimp only | split | intro _)

theorem State.railBack_ok {D : DevState → Prop} {s : State} (r : Nat) (h : s.Ok D) : (State.railBack s r).Ok D := by
  unfold State.railBack
  repeat' (first | with_reducible assumption | with_reducible apply State.clampWith_ok | with_reducible apply State.wrW_ok | with_reducible apply State.wr_ok | with_reducible apply State.put_ok | with_reducible refine ok_foldl ?_ (fun _ _ _ => ?_) | with_reducible refine ok_step ?_ (fun _ => ?_) | dsimp only | split | intro _)

theorem State.phaseDone_ok {D : DevState → Prop} {s : State} (n : Nat) (f : BootSt → BootSt) (h : s.Ok D) : (State.phaseDone s n f).Ok D := by
  unfold State.phaseDone
  repeat' (first | with_reducible assumption | with_reducible apply State.wr_ok | with_reducible refine ok_foldl ?_ (fun _ _ _ => ?_) | with_reducible refine ok_step ?_ (fun _ => ?_) | dsimp only | split | (simp only [↓ok_mk]; with_reducible refine parts_ok ?_) | intro _)

theorem State.holdCheck_ok {D : DevState → Prop} {s : State} (h : s.Ok D) (hC : DevClosed D) : (s.holdCheck).Ok D := by
  unfold State.holdCheck
  dsimp only
  split
  · rename_i e
    have hb : s.dev = .boot := by simp only [Bool.and_eq_true, beq_iff_eq] at e; exact e.1.1.1.1.1.1
    exact State.evt_ok _ _ (State.goto_ok _ (State.wr_ok _ _ (s.phaseDone_ok 6 id h)) (hC _ _ .bootHold (hb ▸ h.global)))
  · exact h

theorem State.pllLock_ok {D : DevState → Prop} {s : State} (t : Nat) (h : s.Ok D) (hC : DevClosed D) : (State.pllLock s t).Ok D := by
  unfold State.pllLock
  repeat' (first | with_reducible assumption | with_reducible apply State.wr_ok | with_reducible apply State.phaseDone_ok | with_reducible apply State.holdCheck_ok | with_reducible refine ok_foldl ?_ (fun _ _ _ => ?_) | with_reducible refine ok_step ?_ (fun _ => ?_) | dsimp only | split | (simp only [↓ok_mk]; with_reducible refine parts_ok ?_) | intro _)

theorem State.bootFuse_ok {D : DevState → Prop} {s : State} (h : s.Ok D) (hC : DevClosed D) : (State.bootFuse s).Ok D := by
  unfold State.bootFuse
  repeat' (first | with_reducible assumption | with_reducible apply State.fuseLoad_ok | with_reducible apply State.holdCheck_ok | with_reducible apply State.phaseDone_ok | with_reducible refine ok_foldl ?_ (fun _ _ _ => ?_) | with_reducible refine ok_step ?_ (fun _ => ?_) | dsimp only | split | intro _)

theorem State.selfTest_ok {D : DevState → Prop} {s : State} (failing : List Nat) (h : s.Ok D) (hC : DevClosed D) : (s.selfTest failing).Ok D := by
  unfold State.selfTest
  split
  · exact h
  · rename_i e
    have hb : s.dev = .boot := by simp only [Bool.or_eq_true, bne_iff_ne, not_or, ne_eq, Decidable.not_not] at e; exact e.1.1
    have hH : D .halt := hC _ _ (.halt (by rw [hb]; decide)) h.global
    dsimp only
    split
    · exact State.holdCheck_ok (State.avsSend_ok _ (State.put_ok _ _ (s.phaseDone_ok _ _ h))) hC
    · exact State.raiseDirect_ok _ _ (State.goto_ok _ (State.phaseDone_ok _ _ (State.evt_ok _ _ (s.wr_ok _ _ h))) hH)

theorem State.bootDomainsOn_ok {D : DevState → Prop} {s : State} (h : s.Ok D) (hC : DevClosed D) : (State.bootDomainsOn s).Ok D := by
  unfold State.bootDomainsOn
  repeat' (first | with_reducible assumption | with_reducible apply State.domainOn_ok | with_reducible apply State.phaseDone_ok | with_reducible apply State.trainStart_ok | with_reducible apply State.holdCheck_ok | with_reducible refine ok_foldl ?_ (fun _ _ _ => ?_) | with_reducible refine ok_step ?_ (fun _ => ?_) | dsimp only | split | intro _)

theorem State.trainingDone_ok {D : DevState → Prop} {s : State} (res : List (Nat × Nat × Option Nat)) (time : Nat) (h : s.Ok D) (hC : DevClosed D) : (State.trainingDone s res time).Ok D := by
  unfold State.trainingDone
  repeat' (first | with_reducible assumption | with_reducible apply State.trainEnd_ok | with_reducible apply State.holdCheck_ok | with_reducible apply State.phaseDone_ok | with_reducible refine ok_foldl ?_ (fun _ _ _ => ?_) | with_reducible refine ok_step ?_ (fun _ => ?_) | dsimp only | split | intro _)

theorem State.bootContinue_ok {D : DevState → Prop} {s : State} (h : s.Ok D) (hC : DevClosed D) : (State.bootContinue s).Ok D := by
  unfold State.bootContinue
  repeat' (first | with_reducible assumption | with_reducible apply State.holdCheck_ok | with_reducible apply State.put_ok | with_reducible refine ok_foldl ?_ (fun _ _ _ => ?_) | with_reducible refine ok_step ?_ (fun _ => ?_) | dsimp only | split | intro _)

theorem State.readyRelease_ok {D : DevState → Prop} {s : State} (h : s.Ok D) : (State.readyRelease s).Ok D := by
  unfold State.readyRelease
  repeat' (first | with_reducible assumption | with_reducible refine ok_foldl ?_ (fun _ _ _ => ?_) | with_reducible refine ok_step ?_ (fun _ => ?_) | dsimp only | split | (simp only [↓ok_mk]; with_reducible refine parts_ok ?_) | intro _)

theorem State.commitStart_ok {D : DevState → Prop} {s : State} (crc : Nat) (h : s.Ok D) : (State.commitStart s crc).Ok D := by
  unfold State.commitStart
  repeat' (first | with_reducible assumption | with_reducible apply State.put_ok | with_reducible apply State.phaseDone_ok | with_reducible apply State.inc_ok | with_reducible refine ok_foldl ?_ (fun _ _ _ => ?_) | with_reducible refine ok_step ?_ (fun _ => ?_) | dsimp only | split | intro _)

theorem State.commissionGo_ok {D : DevState → Prop} {s : State} (h : s.Ok D) : (State.commissionGo s).Ok D := by
  unfold State.commissionGo
  repeat' (first | with_reducible assumption | with_reducible apply State.err_ok | with_reducible apply State.commitStart_ok | with_reducible refine ok_foldl ?_ (fun _ _ _ => ?_) | with_reducible refine ok_step ?_ (fun _ => ?_) | dsimp only | split | intro _)

theorem State.armedCodes_ok {D : DevState → Prop} {s : State} (eid : Nat) (h : s.Ok D) : (State.armedCodes s eid).Ok D := by
  unfold State.armedCodes
  repeat' (first | with_reducible assumption | with_reducible apply State.directHtr_ok | with_reducible apply State.directFast_ok | with_reducible refine ok_foldl ?_ (fun _ _ _ => ?_) | with_reducible refine ok_step ?_ (fun _ => ?_) | dsimp only | split | intro _)

theorem State.armElem_ok {D : DevState → Prop} {s : State} (listed : List Nat) (eid : Nat) (h : s.Ok D) : (State.armElem s listed eid).Ok D := by
  unfold State.armElem
  repeat' (first | with_reducible assumption | with_reducible apply State.elemStart_ok | with_reducible apply State.armedCodes_ok | with_reducible apply State.quarantine_ok | with_reducible apply State.inc_ok | with_reducible refine ok_foldl ?_ (fun _ _ _ => ?_) | with_reducible refine ok_step ?_ (fun _ => ?_) | dsimp only | split | intro _)

theorem State.armTile_ok {D : DevState → Prop} {s : State} (t : Nat) (h : s.Ok D) : (State.armTile s t).Ok D := by
  unfold State.armTile
  repeat' (first | with_reducible assumption | with_reducible apply State.loadSafe_ok | with_reducible apply State.wr_ok | with_reducible refine ok_foldl ?_ (fun _ _ _ => ?_) | with_reducible refine ok_step ?_ (fun _ => ?_) | dsimp only | split | intro _)

theorem State.armedEntry_ok {D : DevState → Prop} {s : State} (h : s.Ok D) (hA : D .armed) : (s.armedEntry).Ok D := by
  have hg := s.goto_ok .armed h hA
  unfold State.armedEntry
  repeat' (first | with_reducible assumption | with_reducible apply State.checkHtrOver_ok | with_reducible apply State.seamPins_ok | with_reducible apply State.wr_ok | with_reducible apply State.clearRange_ok | with_reducible refine ok_foldl ?_ (fun _ _ _ => ?_) | with_reducible apply State.armElem_ok | with_reducible apply State.armTile_ok | dsimp only)

theorem State.checkRefuse_ok {D : DevState → Prop} {s : State} (rs : List (Nat × Nat)) (h : s.Ok D) : (State.checkRefuse s rs).Ok D := by
  unfold State.checkRefuse
  repeat' (first | with_reducible assumption | with_reducible apply State.wr_ok | with_reducible apply State.phaseDone_ok | with_reducible apply State.checkDrop_ok | with_reducible apply State.evt_ok | with_reducible apply State.inc_ok | with_reducible refine ok_foldl ?_ (fun _ _ _ => ?_) | with_reducible refine ok_step ?_ (fun _ => ?_) | dsimp only | split | intro _)

theorem State.checkPass_ok {D : DevState → Prop} {s : State} (h : s.Ok D) (hA : D .armed) : (s.checkPass).Ok D := by
  unfold State.checkPass
  refine State.armedEntry_ok ?_ hA
  repeat' (first | with_reducible assumption | with_reducible apply State.evt_ok | with_reducible apply State.put_ok | with_reducible apply State.wr_ok | with_reducible apply State.phaseDone_ok | with_reducible apply State.checkDrop_ok)

theorem State.checkDone_ok {D : DevState → Prop} {s : State} (h : s.Ok D) (hC : DevClosed D) : (s.checkDone).Ok D := by
  unfold State.checkDone
  split
  · rename_i e
    split
    · exact h
    · exact s.checkPass_ok h (hC _ _ .holdArmed (e ▸ h.global))
    · exact s.checkRefuse_ok _ h
  · exact h

theorem State.wrBytes_ok {D : DevState → Prop} {s : State} (off : Nat) (l : List Byte) (h : s.Ok D) : (State.wrBytes s off l).Ok D := by
  unfold State.wrBytes
  repeat' (first | with_reducible assumption | with_reducible apply State.wrW_ok | with_reducible refine ok_foldl ?_ (fun _ _ _ => ?_) | with_reducible refine ok_step ?_ (fun _ => ?_) | dsimp only | split | intro _)

theorem State.sumpQuarantine_ok {D : DevState → Prop} {s : State} (eid : Nat) (h : s.Ok D) : (State.sumpQuarantine s eid).Ok D := by
  unfold State.sumpQuarantine
  repeat' (first | with_reducible assumption | with_reducible apply State.seamPins_ok | with_reducible apply State.quarantineNow_ok | with_reducible apply State.inc_ok | with_reducible apply State.put_ok | with_reducible apply State.wr_ok | with_reducible apply State.raise_ok | with_reducible refine ok_foldl ?_ (fun _ _ _ => ?_) | with_reducible refine ok_step ?_ (fun _ => ?_) | dsimp only | split | intro _)

theorem State.faultEvent_ok {D : DevState → Prop} {s : State} (h : s.Ok D) : (State.faultEvent s).Ok D := by
  unfold State.faultEvent
  repeat' (first | with_reducible assumption | with_reducible apply State.evt_ok | with_reducible apply State.msix_ok | with_reducible refine ok_foldl ?_ (fun _ _ _ => ?_) | with_reducible refine ok_step ?_ (fun _ => ?_) | dsimp only | split | intro _)

theorem State.showRecord_ok {D : DevState → Prop} {s : State} (b : List Byte) (h : s.Ok D) : (State.showRecord s b).Ok D := by
  unfold State.showRecord
  repeat' (first | with_reducible assumption | with_reducible apply State.wr_ok | with_reducible apply State.put_ok | with_reducible apply State.wrBytes_ok | with_reducible refine ok_foldl ?_ (fun _ _ _ => ?_) | with_reducible refine ok_step ?_ (fun _ => ?_) | dsimp only | split | intro _)

theorem State.recordUpdate_ok {D : DevState → Prop} {s : State} (h : s.Ok D) : (State.recordUpdate s).Ok D := by
  unfold State.recordUpdate
  repeat' (first | with_reducible assumption | with_reducible apply State.showRecord_ok | with_reducible apply State.evt_ok | with_reducible apply State.add_ok | with_reducible apply State.inc_ok | with_reducible apply State.wr_ok | with_reducible refine ok_foldl ?_ (fun _ _ _ => ?_) | with_reducible refine ok_step ?_ (fun _ => ?_) | dsimp only | split | (simp only [↓ok_mk]; with_reducible refine parts_ok ?_) | intro _)

theorem State.recordPut_ok {D : DevState → Prop} {s : State} (r : RecReq) (h : s.Ok D) : (State.recordPut s r).Ok D := by
  unfold State.recordPut
  repeat' (first | with_reducible assumption | with_reducible apply State.raise_ok | with_reducible refine ok_foldl ?_ (fun _ _ _ => ?_) | with_reducible refine ok_step ?_ (fun _ => ?_) | dsimp only | split | (simp only [↓ok_mk]; with_reducible refine parts_ok ?_) | intro _)

theorem State.sumpBlank_ok {D : DevState → Prop} {s : State} (src : Nat) (ports : List Nat) (h : s.Ok D) : (State.sumpBlank s src ports).Ok D := by
  unfold State.sumpBlank
  repeat' (first | with_reducible assumption | with_reducible apply State.blankPort_ok | with_reducible refine ok_foldl ?_ (fun _ _ _ => ?_) | with_reducible refine ok_step ?_ (fun _ => ?_) | dsimp only | split | (simp only [↓ok_mk]; with_reducible refine parts_ok ?_) | intro _)

theorem State.checkBroken_ok {D : DevState → Prop} {s : State} (h : s.Ok D) : (State.checkBroken s).Ok D := by
  unfold State.checkBroken
  repeat' (first | with_reducible assumption | with_reducible apply State.checkRefuse_ok | with_reducible refine ok_foldl ?_ (fun _ _ _ => ?_) | with_reducible refine ok_step ?_ (fun _ => ?_) | dsimp only | split | intro _)

theorem State.updateAll_ok {D : DevState → Prop} {s : State} (n : Nat) (h : s.Ok D) : (s.updateAll n).Ok D := by
  induction n generalizing s with
  | zero => exact h
  | succ n ih =>
    unfold State.updateAll
    split
    · exact h
    · exact ih (s.recordUpdate_ok h)

theorem State.resetReaction_ok {D : DevState → Prop} {s : State} (burnt : List (Nat × Byte)) (h : s.Ok D) (hB : D .boot) : (State.resetReaction s burnt).Ok D := by
  unfold State.resetReaction
  repeat' (first | with_reducible assumption | with_reducible apply State.updateAll_ok | with_reducible apply State.fireSafe_ok | with_reducible apply State.sysReset_ok | with_reducible apply State.wrBytes_ok | with_reducible refine ok_foldl ?_ (fun _ _ _ => ?_) | with_reducible refine ok_step ?_ (fun _ => ?_) | dsimp only | split | intro _)

theorem State.react_ok {D : DevState → Prop} {s : State} (src data r prior : Nat) (burnt : List (Nat × Byte)) (h : s.Ok D) (hC : DevClosed D) (hB : D .boot) (hd : s.dev ≠ .off) : (s.react src data r prior burnt).Ok D := by
  have hH : D .halt := hC _ _ (.halt hd) h.global
  have hf := s.faultEvent_ok h
  unfold State.react
  split
  · exact h
  · dsimp only
    split
    · split
      · exact State.sumpQuarantine_ok _ hf
      · exact hf
    · exact State.sumpBlank_ok _ _ hf
    · split
      · exact State.fireSafe_ok (State.testStop_ok (State.checkBroken_ok hf))
      · exact State.enterSafe_ok _ (State.testStop_ok (State.checkBroken_ok hf)) hC
    · exact State.evt_ok _ _ (State.inc_ok _ (State.enterHalt_ok _ (State.fireSafe_ok (State.testStop_ok hf)) hH))
    · exact State.resetReaction_ok _ hf hB
    · exact hf

theorem State.classify_ok {D : DevState → Prop} {s : State} (src : Nat) (h : s.Ok D) : (State.classify s src).1.Ok D := by
  unfold State.classify
  repeat' (first | with_reducible assumption | with_reducible apply State.put_ok | with_reducible apply State.wr_ok | with_reducible apply State.inc_ok | with_reducible apply State.evt_ok | with_reducible refine ok_foldl ?_ (fun _ _ _ => ?_) | with_reducible refine ok_step ?_ (fun _ => ?_) | dsimp only | split | (simp only [↓ok_mk]; with_reducible refine parts_ok ?_) | intro _)

theorem State.memFault_ok {D : DevState → Prop} {s : State} (e : MemErr) (h : s.Ok D) : (s.memFault e).Ok D := by
  cases e <;> exact State.raise_ok _ _ h

theorem State.classifyAt_ok {D : DevState → Prop} {s : State} (i : Nat) (burnt : List (Nat × Byte)) (h : s.Ok D) (hC : DevClosed D) (hB : D .boot) : (s.classifyAt i burnt).Ok D := by
  unfold State.classifyAt
  split
  · exact h
  · rename_i f _
    have h0 : State.Ok D { s with inbox := s.inbox.eraseIdx i } := h
    dsimp only
    split
    · exact h0
    · rename_i hd
      have key : ∀ x : State, x.Ok D → x.dev = s.dev → ∀ src data r prior, (x.react src data r prior burnt).Ok D := fun x hx e src data r prior => x.react_ok _ _ _ _ _ hx hC hB (e ▸ hd)
      have hc := State.classify_ok f.src h0
      have hc' := State.classify_ok f.src h0.same
      refine key _ (ok_step (State.recordPut_ok _ hc) fun _ => hc) ?_ _ _ _ _
      exact (ok_step (State.recordPut_ok _ hc') fun _ => hc').global

theorem State.faultClassify_ok {D : DevState → Prop} {s : State} (i : Nat) (burnt : List (Nat × Byte)) (mem : Option MemErr) (h : s.Ok D) (hC : DevClosed D) (hB : D .boot) : (State.faultClassify s i burnt mem).Ok D := by
  unfold State.faultClassify
  repeat' (first | with_reducible assumption | with_reducible apply State.classifyAt_ok | with_reducible apply State.memFault_ok | with_reducible refine ok_foldl ?_ (fun _ _ _ => ?_) | with_reducible refine ok_step ?_ (fun _ => ?_) | dsimp only | split | intro _)

theorem State.ackRecord_ok {D : DevState → Prop} {s : State} (h : s.Ok D) : (State.ackRecord s).Ok D := by
  unfold State.ackRecord
  repeat' (first | with_reducible assumption | with_reducible apply State.clearRange_ok | with_reducible apply State.wrBytes_ok | with_reducible apply State.wr_ok | with_reducible apply State.put_ok | with_reducible apply State.softStart_ok | with_reducible apply State.evt_ok | with_reducible refine ok_foldl ?_ (fun _ _ _ => ?_) | with_reducible refine ok_step ?_ (fun _ => ?_) | dsimp only | split | (simp only [↓ok_mk]; with_reducible refine parts_ok ?_) | intro _)

theorem State.ackWrite_ok {D : DevState → Prop} {s : State} (id : Nat) (h : s.Ok D) : (State.ackWrite s id).Ok D := by
  unfold State.ackWrite
  repeat' (first | with_reducible assumption | with_reducible apply State.ackRecord_ok | with_reducible apply State.evt_ok | with_reducible apply State.err_ok | with_reducible refine ok_foldl ?_ (fun _ _ _ => ?_) | with_reducible refine ok_step ?_ (fun _ => ?_) | dsimp only | split | intro _)

theorem State.logWrite_ok {D : DevState → Prop} {s : State} (h : s.Ok D) : (State.logWrite s).Ok D := by
  unfold State.logWrite
  repeat' (first | with_reducible assumption | with_reducible apply State.wr_ok | with_reducible apply State.sdWrite_ok | with_reducible apply State.raise_ok | with_reducible refine ok_foldl ?_ (fun _ _ _ => ?_) | with_reducible refine ok_step ?_ (fun _ => ?_) | dsimp only | split | (simp only [↓ok_mk]; with_reducible refine parts_ok ?_) | intro _)

theorem State.safeExit_ok {D : DevState → Prop} {s : State} (h : s.Ok D) (hC : DevClosed D) : (s.safeExit).Ok D := by
  unfold State.safeExit
  split
  · rename_i e
    have hA : D .armed := hC _ _ .safeArmed (e ▸ h.global)
    split
    · exact State.armedEntry_ok (s.gantryStopped_ok h) hA
    · exact s.armedEntry_ok h hA
  · exact h

theorem State.safeCtrl_ok {D : DevState → Prop} {s : State} (h : s.Ok D) (hC : DevClosed D) : (State.safeCtrl s).Ok D := by
  unfold State.safeCtrl
  repeat' (first | with_reducible assumption | with_reducible apply State.safeExit_ok | with_reducible apply State.err_ok | with_reducible refine ok_foldl ?_ (fun _ _ _ => ?_) | with_reducible refine ok_step ?_ (fun _ => ?_) | dsimp only | split | intro _)

theorem State.inject_ok {D : DevState → Prop} {s : State} (src : Nat) (h : s.Ok D) : (State.inject s src).Ok D := by
  unfold State.inject
  repeat' (first | with_reducible assumption | with_reducible apply State.err_ok | with_reducible refine ok_foldl ?_ (fun _ _ _ => ?_) | with_reducible refine ok_step ?_ (fun _ => ?_) | dsimp only | split | (simp only [↓ok_mk]; with_reducible refine parts_ok ?_) | intro _)

theorem State.logCfg_ok {D : DevState → Prop} {s : State} (w : Word) (h : s.Ok D) : (State.logCfg s w).Ok D := by
  unfold State.logCfg
  repeat' (first | with_reducible assumption | with_reducible apply State.err_ok | with_reducible apply State.wr_ok | with_reducible apply State.put_ok | with_reducible refine ok_foldl ?_ (fun _ _ _ => ?_) | with_reducible refine ok_step ?_ (fun _ => ?_) | dsimp only | split | intro _)

end Sys2Proof.Machine
end

