-- ==== Sys2Proof/Laws/KeepBus.lean ====
section
/-! SUPPORT. What every operation keeps (State.Ok): register accesses and commands. -/
namespace Sys2Proof.Machine

theorem State.errAt_ok {D : DevState → Prop} {s : State} (pg : Nat) (rel : Nat) (h : s.Ok D) : (State.errAt s pg rel).Ok D := by
  unfold State.errAt
  repeat' (first | with_reducible assumption | with_reducible apply State.evt_ok | with_reducible apply State.err_ok | with_reducible refine ok_foldl ?_ (fun _ _ _ => ?_) | with_reducible refine ok_step ?_ (fun _ => ?_) | dsimp only | split | intro _)

theorem State.offAccess_ok {D : DevState → Prop} {s : State} (h : s.Ok D) : (State.offAccess s).Ok D := by
  unfold State.offAccess
  repeat' (first | with_reducible assumption | with_reducible apply State.inc_ok | with_reducible refine ok_foldl ?_ (fun _ _ _ => ?_) | with_reducible refine ok_step ?_ (fun _ => ?_) | dsimp only | split | intro _)

theorem State.writeField_ok {D : DevState → Prop} {s : State} (off : Nat) (w : Word) (locked : Bool) (r : FRow) (h : s.Ok D) : (State.writeField s off w locked r).Ok D := by
  unfold State.writeField
  repeat' (first | with_reducible assumption | with_reducible apply State.wr_ok | with_reducible refine ok_foldl ?_ (fun _ _ _ => ?_) | with_reducible refine ok_step ?_ (fun _ => ?_) | dsimp only | split | intro _)

theorem State.plain_ok {D : DevState → Prop} {s : State} (pg : Nat) (rel : Nat) (off : Nat) (w : Word) (h : s.Ok D) : (State.plain s pg rel off w).Ok D := by
  unfold State.plain
  repeat' (first | with_reducible assumption | with_reducible apply State.errAt_ok | with_reducible apply State.writeField_ok | with_reducible refine ok_foldl ?_ (fun _ _ _ => ?_) | with_reducible refine ok_step ?_ (fun _ => ?_) | dsimp only | split | intro _)

theorem State.chselWrite_ok {D : DevState → Prop} {s : State} (n : Nat) (byBramble : Bool) (sel : Nat) (h : s.Ok D) : (State.chselWrite s n byBramble sel).Ok D := by
  unfold State.chselWrite
  repeat' (first | with_reducible assumption | with_reducible apply State.steer_ok | with_reducible apply State.convNote_ok | with_reducible apply State.inc_ok | with_reducible apply State.err_ok | with_reducible apply State.wr_ok | with_reducible refine ok_foldl ?_ (fun _ _ _ => ?_) | with_reducible refine ok_step ?_ (fun _ => ?_) | dsimp only | split | intro _)

theorem State.convMode_ok {D : DevState → Prop} {s : State} (n : Nat) (mode : Nat) (h : s.Ok D) : (State.convMode s n mode).Ok D := by
  unfold State.convMode
  repeat' (first | with_reducible assumption | with_reducible apply State.wr_ok | with_reducible apply State.convNote_ok | with_reducible apply State.darkMode_ok | with_reducible apply State.steerLost_ok | with_reducible refine ok_foldl ?_ (fun _ _ _ => ?_) | with_reducible refine ok_step ?_ (fun _ => ?_) | dsimp only | split | intro _)

theorem State.scanMask_ok {D : DevState → Prop} {s : State} (n : Nat) (w : Word) (h : s.Ok D) : (State.scanMask s n w).Ok D := by
  unfold State.scanMask
  repeat' (first | with_reducible assumption | with_reducible apply State.wr_ok | with_reducible apply State.convNote_ok | with_reducible refine ok_foldl ?_ (fun _ _ _ => ?_) | with_reducible refine ok_step ?_ (fun _ => ?_) | dsimp only | split | intro _)

theorem State.rangeWrite_ok {D : DevState → Prop} {s : State} (t : Nat) (w : Word) (h : s.Ok D) : (State.rangeWrite s t w).Ok D := by
  unfold State.rangeWrite
  repeat' (first | with_reducible assumption | with_reducible apply State.rangeGo_ok | with_reducible apply State.wr_ok | with_reducible refine ok_foldl ?_ (fun _ _ _ => ?_) | with_reducible refine ok_step ?_ (fun _ => ?_) | dsimp only | split | intro _)

theorem State.gctl_ok {D : DevState → Prop} {s : State} (w : Word) (h : s.Ok D) : (State.gctl s w).Ok D := by
  unfold State.gctl
  repeat' (first | with_reducible assumption | with_reducible apply State.gctlStart_ok | with_reducible apply State.gantryStop_ok | with_reducible apply State.gantryJump_ok | with_reducible apply State.gantryResync_ok | with_reducible apply State.gantryCancel_ok | with_reducible refine ok_foldl ?_ (fun _ _ _ => ?_) | with_reducible refine ok_step ?_ (fun _ => ?_) | dsimp only | split | intro _)

theorem State.lockLimit_ok {D : DevState → Prop} {s : State} (w : Word) (h : s.Ok D) : (State.lockLimit s w).Ok D := by
  unfold State.lockLimit
  repeat' (first | with_reducible assumption | with_reducible apply State.err_ok | with_reducible apply State.plain_ok | with_reducible refine ok_foldl ?_ (fun _ _ _ => ?_) | with_reducible refine ok_step ?_ (fun _ => ?_) | dsimp only | split | intro _)

theorem State.trigoCfg_ok {D : DevState → Prop} {s : State} (k : Nat) (w : Word) (h : s.Ok D) : (State.trigoCfg s k w).Ok D := by
  unfold State.trigoCfg
  repeat' (first | with_reducible assumption | with_reducible apply State.plain_ok | with_reducible apply State.put_ok | with_reducible refine ok_foldl ?_ (fun _ _ _ => ?_) | with_reducible refine ok_step ?_ (fun _ => ?_) | dsimp only | split | (simp only [↓ok_mk]; with_reducible refine parts_ok ?_) | intro _)

theorem State.syncCfg_ok {D : DevState → Prop} {s : State} (w : Word) (h : s.Ok D) : (State.syncCfg s w).Ok D := by
  unfold State.syncCfg
  repeat' (first | with_reducible assumption | with_reducible apply State.plain_ok | with_reducible apply State.put_ok | with_reducible refine ok_foldl ?_ (fun _ _ _ => ?_) | with_reducible refine ok_step ?_ (fun _ => ?_) | dsimp only | split | intro _)

theorem State.streamCfg_ok {D : DevState → Prop} {s : State} (w : Word) (h : s.Ok D) : (State.streamCfg s w).Ok D := by
  unfold State.streamCfg
  repeat' (first | with_reducible assumption | with_reducible apply State.plain_ok | with_reducible apply State.put_ok | with_reducible apply State.streamEnable_ok | with_reducible refine ok_foldl ?_ (fun _ _ _ => ?_) | with_reducible refine ok_step ?_ (fun _ => ?_) | dsimp only | split | intro _)

theorem State.atlasCtrl_ok {D : DevState → Prop} {s : State} (w : Word) (h : s.Ok D) : (State.atlasCtrl s w).Ok D := by
  unfold State.atlasCtrl
  repeat' (first | with_reducible assumption | with_reducible apply State.atlasEnable_ok | with_reducible apply State.put_ok | with_reducible apply State.atlasFreeze_ok | with_reducible apply State.atlasThaw_ok | with_reducible refine ok_foldl ?_ (fun _ _ _ => ?_) | with_reducible refine ok_step ?_ (fun _ => ?_) | dsimp only | split | intro _)

theorem State.capCtrl_ok {D : DevState → Prop} {s : State} (r : Nat) (w : Word) (h : s.Ok D) : (State.capCtrl s r w).Ok D := by
  unfold State.capCtrl
  repeat' (first | with_reducible assumption | with_reducible apply State.wr_ok | with_reducible apply State.err_ok | with_reducible apply State.capEnable_ok | with_reducible apply State.capDisable_ok | with_reducible apply State.capRun_ok | with_reducible refine ok_foldl ?_ (fun _ _ _ => ?_) | with_reducible refine ok_step ?_ (fun _ => ?_) | dsimp only | split | intro _)

theorem State.capBase_ok {D : DevState → Prop} {s : State} (r : Nat) (rel : Nat) (w : Word) (h : s.Ok D) : (State.capBase s r rel w).Ok D := by
  unfold State.capBase
  repeat' (first | with_reducible assumption | with_reducible apply State.err_ok | with_reducible apply State.plain_ok | with_reducible refine ok_foldl ?_ (fun _ _ _ => ?_) | with_reducible refine ok_step ?_ (fun _ => ?_) | dsimp only | split | intro _)

theorem State.qCfg_ok {D : DevState → Prop} {s : State} (k : Nat) (w : Word) (h : s.Ok D) : (State.qCfg s k w).Ok D := by
  unfold State.qCfg
  repeat' (first | with_reducible assumption | with_reducible apply State.plain_ok | with_reducible apply State.wrW_ok | with_reducible apply State.err_ok | with_reducible apply State.put_ok | with_reducible refine ok_foldl ?_ (fun _ _ _ => ?_) | with_reducible refine ok_step ?_ (fun _ => ?_) | dsimp only | split | (simp only [↓ok_mk]; with_reducible refine parts_ok ?_) | intro _)

theorem State.eqCfg_ok {D : DevState → Prop} {s : State} (w : Word) (h : s.Ok D) : (State.eqCfg s w).Ok D := by
  unfold State.eqCfg
  repeat' (first | with_reducible assumption | with_reducible apply State.plain_ok | with_reducible apply State.wr_ok | with_reducible apply State.err_ok | with_reducible apply State.put_ok | with_reducible refine ok_foldl ?_ (fun _ _ _ => ?_) | with_reducible refine ok_step ?_ (fun _ => ?_) | dsimp only | split | (simp only [↓ok_mk]; with_reducible refine parts_ok ?_) | intro _)

theorem State.pqCfg_ok {D : DevState → Prop} {s : State} (w : Word) (h : s.Ok D) : (State.pqCfg s w).Ok D := by
  unfold State.pqCfg
  repeat' (first | with_reducible assumption | with_reducible apply State.plain_ok | with_reducible apply State.wr_ok | with_reducible apply State.err_ok | with_reducible apply State.put_ok | with_reducible refine ok_foldl ?_ (fun _ _ _ => ?_) | with_reducible refine ok_step ?_ (fun _ => ?_) | dsimp only | split | (simp only [↓ok_mk]; with_reducible refine parts_ok ?_) | intro _)

theorem State.linkCfg_ok {D : DevState → Prop} {s : State} (w : Word) (h : s.Ok D) : (State.linkCfg s w).Ok D := by
  unfold State.linkCfg
  repeat' (first | with_reducible assumption | with_reducible apply State.plain_ok | with_reducible apply State.retrain_ok | with_reducible refine ok_foldl ?_ (fun _ _ _ => ?_) | with_reducible refine ok_step ?_ (fun _ => ?_) | dsimp only | split | intro _)

theorem State.portCfg_ok {D : DevState → Prop} {s : State} (p : Nat) (w : Word) (h : s.Ok D) : (State.portCfg s p w).Ok D := by
  unfold State.portCfg
  repeat' (first | with_reducible assumption | with_reducible apply State.portStates_ok | with_reducible apply State.plain_ok | with_reducible apply State.err_ok | with_reducible refine ok_foldl ?_ (fun _ _ _ => ?_) | with_reducible refine ok_step ?_ (fun _ => ?_) | dsimp only | split | intro _)

theorem State.zoneThr_ok {D : DevState → Prop} {s : State} (k : Nat) (w : Word) (h : s.Ok D) : (State.zoneThr s k w).Ok D := by
  unfold State.zoneThr
  repeat' (first | with_reducible assumption | with_reducible apply State.plain_ok | with_reducible apply State.err_ok | with_reducible refine ok_foldl ?_ (fun _ _ _ => ?_) | with_reducible refine ok_step ?_ (fun _ => ?_) | dsimp only | split | intro _)

theorem State.parseCfg_ok {D : DevState → Prop} {s : State} (w : Word) (h : s.Ok D) : (State.parseCfg s w).Ok D := by
  unfold State.parseCfg
  repeat' (first | with_reducible assumption | with_reducible apply State.plain_ok | with_reducible apply State.err_ok | with_reducible refine ok_foldl ?_ (fun _ _ _ => ?_) | with_reducible refine ok_step ?_ (fun _ => ?_) | dsimp only | split | intro _)

theorem State.sweepSlots_ok {D : DevState → Prop} {s : State} (w : Word) (h : s.Ok D) : (State.sweepSlots s w).Ok D := by
  unfold State.sweepSlots
  repeat' (first | with_reducible assumption | with_reducible apply State.plain_ok | with_reducible apply State.runNext_ok | with_reducible apply State.closeWindow_ok | with_reducible refine ok_foldl ?_ (fun _ _ _ => ?_) | with_reducible refine ok_step ?_ (fun _ => ?_) | dsimp only | split | intro _)

theorem State.ballastCtrl_ok {D : DevState → Prop} {s : State} (w : Word) (h : s.Ok D) : (State.ballastCtrl s w).Ok D := by
  unfold State.ballastCtrl
  repeat' (first | with_reducible assumption | with_reducible apply State.plain_ok | with_reducible apply State.ballastLive_ok | with_reducible refine ok_foldl ?_ (fun _ _ _ => ?_) | with_reducible refine ok_step ?_ (fun _ => ?_) | dsimp only | split | intro _)

theorem State.special_ok {D : DevState → Prop} {s : State} (path : HostPath) (p : PageInfo) (pg : Nat) (rel : Nat) (w : Word) (h : s.Ok D) (hC : DevClosed D) : OptOk D (State.special s path p pg rel w) := by
  unfold State.special
  repeat' (first | with_reducible assumption | with_reducible refine optOk_some ?_ | with_reducible exact optOk_none | with_reducible apply State.cntClear_ok | with_reducible apply State.errAt_ok | with_reducible apply State.bootContinue_ok | with_reducible apply State.commissionGo_ok | with_reducible apply State.wrW_ok | with_reducible apply State.err_ok | with_reducible apply State.fuseCommit_ok | with_reducible apply State.finishRevoke_ok | with_reducible apply State.zoneThr_ok | with_reducible apply State.plain_ok | with_reducible apply State.ackWrite_ok | with_reducible apply State.safeCtrl_ok | with_reducible apply State.inject_ok | with_reducible apply State.logCfg_ok | with_reducible apply State.timeCtrl_ok | with_reducible apply State.cmdStep_ok | with_reducible apply State.cmdOffset_ok | with_reducible apply State.setAdj_ok | with_reducible apply State.ppsCheck_ok | with_reducible apply State.portCfg_ok | with_reducible apply State.tevWrite_ok | with_reducible apply State.gctl_ok | with_reducible apply State.periodWrite_ok | with_reducible apply State.wr_ok | with_reducible apply State.lockLimit_ok | with_reducible apply State.lockApply_ok | with_reducible apply State.streamCfg_ok | with_reducible apply State.streamWr_ok | with_reducible apply State.streamExpect_ok | with_reducible apply State.slotCheck_ok | with_reducible apply State.echoGo_ok | with_reducible apply State.trigoCfg_ok | with_reducible apply State.syncCfg_ok | with_reducible apply State.seamDoorbell_ok | with_reducible apply State.runRequest_ok | with_reducible apply State.sweepSlots_ok | with_reducible apply State.hostSwap_ok | with_reducible apply State.bankAbandon_ok | with_reducible apply State.atlasCtrl_ok | with_reducible apply State.capCtrl_ok | with_reducible apply State.capBase_ok | with_reducible apply State.qCfg_ok | with_reducible apply State.eqCfg_ok | with_reducible apply State.pqCfg_ok | with_reducible apply State.parseCfg_ok | with_reducible apply State.pathTakeover_ok | with_reducible apply State.linkCfg_ok | with_reducible apply State.trainGo_ok | with_reducible apply State.testCtrl_ok | with_reducible apply State.linkInject_ok | with_reducible apply State.ballastCtrl_ok | with_reducible apply State.modeReq_ok | with_reducible apply State.rangeWrite_ok | with_reducible apply State.checkHtrOver_ok | with_reducible apply State.hostDirect_ok | with_reducible apply State.shapeWrite_ok | with_reducible apply State.hostShadow_ok | with_reducible apply State.convMode_ok | with_reducible apply State.chselWrite_ok | with_reducible apply State.scanMask_ok | with_reducible apply State.hostRange_ok | with_reducible apply State.put_ok | with_reducible refine ok_foldl ?_ (fun _ _ _ => ?_) | with_reducible refine ok_step ?_ (fun _ => ?_) | dsimp only | split | intro _)

theorem State.headerWrite_ok {D : DevState → Prop} {s : State} (path : HostPath) (p : PageInfo) (pg : Nat) (rel : Nat) (w : Word) (h : s.Ok D) : (State.headerWrite s path p pg rel w).Ok D := by
  unfold State.headerWrite
  repeat' (first | with_reducible assumption | with_reducible apply State.pgCtrl_ok | with_reducible apply State.evtClear_ok | with_reducible apply State.evtEnable_ok | with_reducible apply State.evtSet_ok | with_reducible apply State.errClear_ok | with_reducible apply State.lockKey_ok | with_reducible apply State.checkHtrOver_ok | with_reducible apply State.commitCodes_ok | with_reducible apply State.commitShapes_ok | with_reducible apply State.errAt_ok | with_reducible apply State.powerUp_ok | with_reducible apply State.powerDown_ok | with_reducible refine ok_foldl ?_ (fun _ _ _ => ?_) | with_reducible refine ok_step ?_ (fun _ => ?_) | dsimp only | split | intro _)

theorem State.elemWrite_ok {D : DevState → Prop} {s : State} (off : Nat) (w : Word) (h : s.Ok D) : (State.elemWrite s off w).Ok D := by
  unfold State.elemWrite
  repeat' (first | with_reducible assumption | with_reducible apply State.err_ok | with_reducible apply State.put_ok | with_reducible apply State.elemEn_ok | with_reducible apply State.quarantineNow_ok | with_reducible apply State.quarClear_ok | with_reducible apply State.seamPins_ok | with_reducible refine ok_foldl ?_ (fun _ _ _ => ?_) | with_reducible refine ok_step ?_ (fun _ => ?_) | dsimp only | split | intro _)

theorem State.bankWrite_ok {D : DevState → Prop} {s : State} (off : Nat) (w : Word) (h : s.Ok D) : (State.bankWrite s off w).Ok D := by
  unfold State.bankWrite
  repeat' (first | with_reducible assumption | with_reducible apply State.err_ok | with_reducible apply State.put_ok | with_reducible apply State.wrW_ok | with_reducible refine ok_foldl ?_ (fun _ _ _ => ?_) | with_reducible refine ok_step ?_ (fun _ => ?_) | dsimp only | split | intro _)

theorem State.msixWrite_ok {D : DevState → Prop} {s : State} (off : Nat) (w : Word) (h : s.Ok D) : (State.msixWrite s off w).Ok D := by
  unfold State.msixWrite
  repeat' (first | with_reducible assumption | with_reducible apply State.plain_ok | with_reducible apply State.msix_ok | with_reducible apply State.put_ok | with_reducible refine ok_foldl ?_ (fun _ _ _ => ?_) | with_reducible refine ok_step ?_ (fun _ => ?_) | dsimp only | split | intro _)

theorem State.capMaskWrite_ok {D : DevState → Prop} {s : State} (off : Nat) (w : Word) (h : s.Ok D) : (State.capMaskWrite s off w).Ok D := by
  unfold State.capMaskWrite
  repeat' (first | with_reducible assumption | with_reducible apply State.wrW_ok | with_reducible apply State.err_ok | with_reducible refine ok_foldl ?_ (fun _ _ _ => ?_) | with_reducible refine ok_step ?_ (fun _ => ?_) | dsimp only | split | intro _)

theorem State.windowWrite_ok {D : DevState → Prop} {s : State} (wi : WindowInfo) (off : Nat) (w : Word) (h : s.Ok D) : (State.windowWrite s wi off w).Ok D := by
  unfold State.windowWrite
  repeat' (first | with_reducible assumption | with_reducible apply State.offAccess_ok | with_reducible apply State.elemWrite_ok | with_reducible apply State.bankWrite_ok | with_reducible apply State.slotWord_ok | with_reducible apply State.capMaskWrite_ok | with_reducible apply State.nodeCommit_ok | with_reducible apply State.plain_ok | with_reducible apply State.ruleCommit_ok | with_reducible apply State.hitsClear_ok | with_reducible apply State.err_ok | with_reducible apply State.msixWrite_ok | with_reducible refine ok_foldl ?_ (fun _ _ _ => ?_) | with_reducible refine ok_step ?_ (fun _ => ?_) | dsimp only | split | intro _)

theorem State.wordWrite_ok {D : DevState → Prop} {s : State} (path : HostPath) (off : Nat) (w : Word) (h : s.Ok D) (hC : DevClosed D) : (s.wordWrite path off w).Ok D := by
  unfold State.wordWrite
  split
  · dsimp only
    split
    · exact s.headerWrite_ok _ _ _ _ _ h
    · split
      · rename_i e; exact s.special_ok _ _ _ _ _ h hC _ e
      · exact s.plain_ok _ _ _ _ h
  · split
    · exact s.windowWrite_ok _ _ _ h
    · exact State.evt_ok _ _ (s.err_ok _ _ h)

theorem State.hold_ok {D : DevState → Prop} {s : State} (path : HostPath) (off : Nat) (v : Nat) (h : s.Ok D) : (State.hold s path off v).Ok D := by
  unfold State.hold
  repeat' (first | with_reducible assumption | with_reducible refine ok_foldl ?_ (fun _ _ _ => ?_) | with_reducible refine ok_step ?_ (fun _ => ?_) | dsimp only | split | (simp only [↓ok_mk]; with_reducible refine parts_ok ?_) | intro _)

theorem State.quantWrite_ok {D : DevState → Prop} {s : State} (path : HostPath) (lowest : Nat) (n : Nat) (off : Nat) (w : Word) (h : s.Ok D) (hC : DevClosed D) : (State.quantWrite s path lowest n off w).Ok D := by
  unfold State.quantWrite
  repeat' (first | with_reducible assumption | with_reducible apply State.hold_ok | with_reducible apply State.benchWrite_ok | with_reducible apply State.capRdWrite_ok | with_reducible apply State.err_ok | with_reducible apply State.wordWrite_ok | with_reducible refine ok_foldl ?_ (fun _ _ _ => ?_) | with_reducible refine ok_step ?_ (fun _ => ?_) | dsimp only | split | intro _)

theorem State.writeNow_ok {D : DevState → Prop} {s : State} (path : HostPath) (off : Nat) (w : Word) (h : s.Ok D) (hC : DevClosed D) : (State.writeNow s path off w).Ok D := by
  unfold State.writeNow
  repeat' (first | with_reducible assumption | with_reducible apply State.wordWrite_ok | with_reducible apply State.offAccess_ok | with_reducible apply State.quantWrite_ok | with_reducible apply State.hold_ok | with_reducible refine ok_foldl ?_ (fun _ _ _ => ?_) | with_reducible refine ok_step ?_ (fun _ => ?_) | dsimp only | split | intro _)

theorem State.busWrite_ok {D : DevState → Prop} {s : State} (path : HostPath) (off : Nat) (w : Word) (h : s.Ok D) (hC : DevClosed D) : (State.busWrite s path off w).Ok D := by
  unfold State.busWrite
  repeat' (first | with_reducible assumption | with_reducible apply State.writeNow_ok | with_reducible refine ok_foldl ?_ (fun _ _ _ => ?_) | with_reducible refine ok_step ?_ (fun _ => ?_) | dsimp only | split | (simp only [↓ok_mk]; with_reducible refine parts_ok ?_) | intro _)

theorem State.partWrite_ok {D : DevState → Prop} {s : State} (off : Nat) (h : s.Ok D) : (State.partWrite s off).Ok D := by
  unfold State.partWrite
  repeat' (first | with_reducible assumption | with_reducible apply State.errAt_ok | with_reducible apply State.err_ok | with_reducible apply State.evt_ok | with_reducible refine ok_foldl ?_ (fun _ _ _ => ?_) | with_reducible refine ok_step ?_ (fun _ => ?_) | dsimp only | split | intro _)

theorem State.applyHeld_ok {D : DevState → Prop} {s : State} (n : Nat) (h : s.Ok D) (hC : DevClosed D) : (s.applyHeld n).Ok D := by
  induction n generalizing s with
  | zero => exact h
  | succ n ih =>
    unfold State.applyHeld
    split
    · exact h
    · split
      · exact h
      · exact ih (State.writeNow_ok _ _ _ h hC)

theorem State.flushHeld_ok {D : DevState → Prop} {s : State} (h : s.Ok D) (hC : DevClosed D) : (State.flushHeld s).Ok D := by
  unfold State.flushHeld
  repeat' (first | with_reducible assumption | with_reducible apply State.applyHeld_ok | with_reducible refine ok_foldl ?_ (fun _ _ _ => ?_) | with_reducible refine ok_step ?_ (fun _ => ?_) | dsimp only | split | intro _)

theorem State.busRead_ok {D : DevState → Prop} {s : State} (path : HostPath) (off : Nat) (h : s.Ok D) : (State.busRead s path off).1.Ok D := by
  unfold State.busRead
  repeat' (first | with_reducible assumption | with_reducible apply State.tsPop_ok | with_reducible apply State.latchPut_ok | with_reducible apply State.shapeNext_ok | with_reducible refine ok_foldl ?_ (fun _ _ _ => ?_) | with_reducible refine ok_step ?_ (fun _ => ?_) | dsimp only | split | (simp only [↓ok_mk]; with_reducible refine parts_ok ?_) | intro _)

theorem State.readOut_ok {D : DevState → Prop} {s : State} (path : HostPath) (off : Nat) (h : s.Ok D) : (State.readOut s path off).Ok D := by
  unfold State.readOut
  repeat' (first | with_reducible assumption | with_reducible apply State.busRead_ok | with_reducible apply State.emit_ok | with_reducible refine ok_foldl ?_ (fun _ _ _ => ?_) | with_reducible refine ok_step ?_ (fun _ => ?_) | dsimp only | split | intro _)

theorem State.smbCmd_ok {D : DevState → Prop} {s : State} (pec : Option Bool) (f : State → State) (h : s.Ok D) (hf : ∀ s, State.Ok D s → State.Ok D (f s)) : (State.smbCmd s pec f).Ok D := by
  unfold State.smbCmd
  repeat' (first | with_reducible assumption | with_reducible apply hf | with_reducible apply State.emit_ok | with_reducible apply State.inc_ok | with_reducible refine ok_foldl ?_ (fun _ _ _ => ?_) | with_reducible refine ok_step ?_ (fun _ => ?_) | dsimp only | split | intro _)

theorem State.smbIdent_ok {D : DevState → Prop} {s : State} (h : s.Ok D) : (State.smbIdent s).Ok D := by
  unfold State.smbIdent
  repeat' (first | with_reducible assumption | with_reducible apply State.emit_ok | with_reducible refine ok_foldl ?_ (fun _ _ _ => ?_) | with_reducible refine ok_step ?_ (fun _ => ?_) | dsimp only | split | intro _)

theorem State.smbStatus_ok {D : DevState → Prop} {s : State} (h : s.Ok D) : (State.smbStatus s).Ok D := by
  unfold State.smbStatus
  repeat' (first | with_reducible assumption | with_reducible apply State.emit_ok | with_reducible refine ok_foldl ?_ (fun _ _ _ => ?_) | with_reducible refine ok_step ?_ (fun _ => ?_) | dsimp only | split | intro _)

theorem State.smbZones_ok {D : DevState → Prop} {s : State} (h : s.Ok D) : (State.smbZones s).Ok D := by
  unfold State.smbZones
  repeat' (first | with_reducible assumption | with_reducible apply State.emit_ok | with_reducible refine ok_foldl ?_ (fun _ _ _ => ?_) | with_reducible refine ok_step ?_ (fun _ => ?_) | dsimp only | split | intro _)

theorem State.smbSelect_ok {D : DevState → Prop} {s : State} (n : Nat) (h : s.Ok D) : (State.smbSelect s n).Ok D := by
  unfold State.smbSelect
  repeat' (first | with_reducible assumption | with_reducible refine ok_foldl ?_ (fun _ _ _ => ?_) | with_reducible refine ok_step ?_ (fun _ => ?_) | dsimp only | split | (simp only [↓ok_mk]; with_reducible refine parts_ok ?_) | intro _)

theorem State.smbSensor_ok {D : DevState → Prop} {s : State} (h : s.Ok D) : (State.smbSensor s).Ok D := by
  unfold State.smbSensor
  repeat' (first | with_reducible assumption | with_reducible apply State.emit_ok | with_reducible refine ok_foldl ?_ (fun _ _ _ => ?_) | with_reducible refine ok_step ?_ (fun _ => ?_) | dsimp only | split | intro _)

theorem State.smbCause_ok {D : DevState → Prop} {s : State} (h : s.Ok D) : (State.smbCause s).Ok D := by
  unfold State.smbCause
  repeat' (first | with_reducible assumption | with_reducible apply State.emit_ok | with_reducible refine ok_foldl ?_ (fun _ _ _ => ?_) | with_reducible refine ok_step ?_ (fun _ => ?_) | dsimp only | split | intro _)

theorem State.smbAddr_ok {D : DevState → Prop} {s : State} (off : Nat) (h : s.Ok D) : (State.smbAddr s off).Ok D := by
  unfold State.smbAddr
  repeat' (first | with_reducible assumption | with_reducible refine ok_foldl ?_ (fun _ _ _ => ?_) | with_reducible refine ok_step ?_ (fun _ => ?_) | dsimp only | split | (simp only [↓ok_mk]; with_reducible refine parts_ok ?_) | intro _)

theorem State.smbRead_ok {D : DevState → Prop} {s : State} (h : s.Ok D) : (State.smbRead s).Ok D := by
  unfold State.smbRead
  repeat' (first | with_reducible assumption | with_reducible apply State.busRead_ok | with_reducible apply State.emit_ok | with_reducible refine ok_foldl ?_ (fun _ _ _ => ?_) | with_reducible refine ok_step ?_ (fun _ => ?_) | dsimp only | split | intro _)

theorem State.smbTimeout_ok {D : DevState → Prop} {s : State} (code : Nat) (h : s.Ok D) : (State.smbTimeout s code).Ok D := by
  unfold State.smbTimeout
  repeat' (first | with_reducible assumption | with_reducible apply State.raise_ok | with_reducible apply State.inc_ok | with_reducible refine ok_foldl ?_ (fun _ _ _ => ?_) | with_reducible refine ok_step ?_ (fun _ => ?_) | dsimp only | split | intro _)

theorem State.smbArp_ok {D : DevState → Prop} {s : State} (addr : Nat) (h : s.Ok D) : (State.smbArp s addr).Ok D := by
  unfold State.smbArp
  repeat' (first | with_reducible assumption | with_reducible apply State.wr_ok | with_reducible refine ok_foldl ?_ (fun _ _ _ => ?_) | with_reducible refine ok_step ?_ (fun _ => ?_) | dsimp only | split | intro _)

theorem State.host_ok {D : DevState → Prop} {s : State} (pg : Nat) (f : State → State) (h : s.Ok D) (hf : ∀ s, State.Ok D s → State.Ok D (f s)) : (State.host s pg f).Ok D := by
  unfold State.host
  repeat' (first | with_reducible assumption | with_reducible apply hf | with_reducible apply State.offAccess_ok | with_reducible refine ok_foldl ?_ (fun _ _ _ => ?_) | with_reducible refine ok_step ?_ (fun _ => ?_) | dsimp only | split | intro _)

theorem State.modCmd_ok {D : DevState → Prop} {s : State} (f : CmdSt → CmdSt) (h : s.Ok D) : (State.modCmd s f).Ok D := by
  unfold State.modCmd
  repeat' (first | with_reducible assumption | with_reducible refine ok_foldl ?_ (fun _ _ _ => ?_) | with_reducible refine ok_step ?_ (fun _ => ?_) | dsimp only | split | (simp only [↓ok_mk]; with_reducible refine parts_ok ?_) | intro _)

theorem State.response_ok {D : DevState → Prop} {s : State} (head : List Byte) (status : Nat) (items : List Item) (h : s.Ok D) : (State.response s head status items).1.Ok D := by
  unfold State.response
  repeat' (first | with_reducible assumption | with_reducible apply State.modCmd_ok | with_reducible refine ok_foldl ?_ (fun _ _ _ => ?_) | with_reducible refine ok_step ?_ (fun _ => ?_) | dsimp only | split | intro _)

theorem State.responsePayload_ok {D : DevState → Prop} {s : State} (c : Carrier) (l : List Byte) (h : s.Ok D) : (State.responsePayload s c l).1.Ok D := by
  unfold State.responsePayload
  repeat' (first | with_reducible assumption | with_reducible apply State.draw_ok | with_reducible refine ok_foldl ?_ (fun _ _ _ => ?_) | with_reducible refine ok_step ?_ (fun _ => ?_) | dsimp only | split | intro _)

theorem State.sqWrite_ok {D : DevState → Prop} {s : State} (c : SqCmd) (inSd : Bool) (a : Nat) (l : List Byte) (h : s.Ok D) : (State.sqWrite s c inSd a l).Ok D := by
  unfold State.sqWrite
  repeat' (first | with_reducible assumption | with_reducible apply State.qWrite_ok | with_reducible apply State.inc_ok | with_reducible refine ok_foldl ?_ (fun _ _ _ => ?_) | with_reducible refine ok_step ?_ (fun _ => ?_) | dsimp only | split | intro _)

theorem State.cqPut_ok {D : DevState → Prop} {s : State} (c : SqCmd) (entry : Bool → List Byte) (h : s.Ok D) : (State.cqPut s c entry).Ok D := by
  unfold State.cqPut
  repeat' (first | with_reducible assumption | with_reducible apply State.sqWrite_ok | with_reducible apply State.wr_ok | with_reducible apply State.msix_ok | with_reducible refine ok_foldl ?_ (fun _ _ _ => ?_) | with_reducible refine ok_step ?_ (fun _ => ?_) | dsimp only | split | (simp only [↓ok_mk]; with_reducible refine parts_ok ?_) | intro _)

theorem State.respWrite_ok {D : DevState → Prop} {s : State} (c : SqCmd) (l : List Byte) (h : s.Ok D) : (State.respWrite s c l).1.Ok D := by
  unfold State.respWrite
  repeat' (first | with_reducible assumption | with_reducible apply State.sqWrite_ok | with_reducible refine ok_foldl ?_ (fun _ _ _ => ?_) | with_reducible refine ok_step ?_ (fun _ => ?_) | dsimp only | split | intro _)

theorem State.respond_ok {D : DevState → Prop} {s : State} (dest : ReplyTo) (head : List Byte) (status : Nat) (at' : Nat) (items : List Item) (h : s.Ok D) : (State.respond s dest head status at' items).Ok D := by
  unfold State.respond
  repeat' (first | with_reducible assumption | with_reducible apply State.response_ok | with_reducible apply State.responsePayload_ok | with_reducible apply State.sendOwn_ok | with_reducible apply State.respWrite_ok | with_reducible apply State.cqPut_ok | with_reducible refine ok_foldl ?_ (fun _ _ _ => ?_) | with_reducible refine ok_step ?_ (fun _ => ?_) | dsimp only | split | intro _)

theorem State.answer_ok {D : DevState → Prop} {s : State} (no : Nat) (dest : ReplyTo) (head : List Byte) (status : Nat) (at' : Nat) (items : List Item) (places : List Nat) (h : s.Ok D) : (State.answer s no dest head status at' items places).Ok D := by
  unfold State.answer
  repeat' (first | with_reducible assumption | with_reducible apply State.modCmd_ok | with_reducible refine ok_foldl ?_ (fun _ _ _ => ?_) | with_reducible refine ok_step ?_ (fun _ => ?_) | dsimp only | split | intro _)

theorem State.answersOut_ok {D : DevState → Prop} {s : State} (h : s.Ok D) : (State.answersOut s).Ok D := by
  unfold State.answersOut
  repeat' (first | with_reducible assumption | with_reducible apply State.modCmd_ok | with_reducible apply State.modSeam_ok | with_reducible apply State.respond_ok | with_reducible refine ok_foldl ?_ (fun _ _ _ => ?_) | with_reducible refine ok_step ?_ (fun _ => ?_) | dsimp only | split | intro _)

theorem State.opRegWrite_ok {D : DevState → Prop} {s : State} (path : HostPath) (v : List Byte) (h : s.Ok D) (hC : DevClosed D) : (State.opRegWrite s path v).Ok D := by
  unfold State.opRegWrite
  repeat' (first | with_reducible assumption | with_reducible apply State.busWrite_ok | with_reducible refine ok_foldl ?_ (fun _ _ _ => ?_) | with_reducible refine ok_step ?_ (fun _ => ?_) | dsimp only | split | intro _)

theorem fold_keeps {D : DevState → Prop} {α β : Type} {f : State × β → α → State × β} {l : List α} {r : State × β} (h : r.1.Ok D) (hf : ∀ r a, State.Ok D r.1 → State.Ok D (f r a).1) : State.Ok D (l.foldl f r).1 := by
  induction l generalizing r with
  | nil => exact h
  | cons a l ih => exact ih (hf _ _ h)

theorem State.opRegRead_ok {D : DevState → Prop} {s : State} (path : HostPath) (v : List Byte) (h : s.Ok D) : (s.opRegRead path v).1.Ok D := by
  unfold State.opRegRead
  exact fold_keeps h fun r a hr => State.busRead_ok _ _ hr

theorem State.opAppend_ok {D : DevState → Prop} {s : State} (v : List Byte) (h : s.Ok D) : (State.opAppend s v).Ok D := by
  unfold State.opAppend
  repeat' (first | with_reducible assumption | with_reducible apply State.sdWrite_ok | with_reducible apply State.wr_ok | with_reducible refine ok_foldl ?_ (fun _ _ _ => ?_) | with_reducible refine ok_step ?_ (fun _ => ?_) | dsimp only | split | intro _)

theorem State.opGantry_ok {D : DevState → Prop} {s : State} (v : List Byte) (h : s.Ok D) : (State.opGantry s v).1.Ok D := by
  unfold State.opGantry
  repeat' (first | with_reducible assumption | with_reducible apply State.gantryStart_ok | with_reducible apply State.gantryStop_ok | with_reducible apply State.gantryJump_ok | with_reducible apply State.gantryResync_ok | with_reducible apply State.gantryCancel_ok | with_reducible refine ok_foldl ?_ (fun _ _ _ => ?_) | with_reducible refine ok_step ?_ (fun _ => ?_) | dsimp only | split | intro _)

theorem State.opTimeEvent_ok {D : DevState → Prop} {s : State} (v : List Byte) (h : s.Ok D) : (State.opTimeEvent s v).Ok D := by
  unfold State.opTimeEvent
  repeat' (first | with_reducible assumption | with_reducible apply State.tevDisarm_ok | with_reducible apply State.wr_ok | with_reducible apply State.wrTime_ok | with_reducible apply State.tevWrite_ok | with_reducible refine ok_foldl ?_ (fun _ _ _ => ?_) | with_reducible refine ok_step ?_ (fun _ => ?_) | dsimp only | split | intro _)

theorem State.opKey_ok {D : DevState → Prop} {s : State} (v : List Byte) (h : s.Ok D) : (State.opKey s v).Ok D := by
  unfold State.opKey
  repeat' (first | with_reducible assumption | with_reducible apply State.evt_ok | with_reducible apply State.modCmd_ok | with_reducible apply State.put_ok | with_reducible apply State.wr_ok | with_reducible apply State.modPath_ok | with_reducible refine ok_foldl ?_ (fun _ _ _ => ?_) | with_reducible refine ok_step ?_ (fun _ => ?_) | dsimp only | split | intro _)

theorem State.opApply_ok {D : DevState → Prop} {s : State} (path : HostPath) (session : Nat) (no : Nat) (place : Nat) (code : Nat) (v : List Byte) (h : s.Ok D) (hC : DevClosed D) : (State.opApply s path session no place code v).1.Ok D := by
  unfold State.opApply
  repeat' (first | with_reducible assumption | with_reducible apply State.opRegWrite_ok | with_reducible apply State.opRegRead_ok | with_reducible apply State.host_ok | with_reducible apply State.writeSlot_ok | with_reducible apply State.seamSubmit_ok | with_reducible apply State.opAppend_ok | with_reducible apply State.opGantry_ok | with_reducible apply State.offAccess_ok | with_reducible apply State.opTimeEvent_ok | with_reducible apply State.capRun_ok | with_reducible apply State.runRequest_ok | with_reducible apply State.ackRecord_ok | with_reducible apply State.safeExit_ok | with_reducible apply State.commitStart_ok | with_reducible apply State.fuseCommit_ok | with_reducible apply State.opKey_ok | with_reducible refine ok_foldl ?_ (fun _ _ _ => ?_) | with_reducible refine ok_step ?_ (fun _ => ?_) | dsimp only | split | intro _)

theorem State.seqMark_ok {D : DevState → Prop} {s : State} (session : Nat) (seq : Nat) (h : s.Ok D) : (State.seqMark s session seq).Ok D := by
  unfold State.seqMark
  repeat' (first | with_reducible assumption | with_reducible apply State.modCmd_ok | with_reducible apply State.wr_ok | with_reducible refine ok_foldl ?_ (fun _ _ _ => ?_) | with_reducible refine ok_step ?_ (fun _ => ?_) | dsimp only | split | intro _)

theorem State.applyBatch_ok {D : DevState → Prop} {s : State} (dest : ReplyTo) (head : List Byte) (ops : List (Nat × List Byte)) (h : s.Ok D) (hC : DevClosed D) : (s.applyBatch dest head ops).Ok D :=
  State.answersOut_ok (State.answer_ok _ _ _ _ _ _ _ (fold_keeps (State.modCmd_ok _ (s.inc_ok _ h)) fun r p hr => State.opApply_ok _ _ _ _ _ _ hr hC))

theorem State.refuse_ok {D : DevState → Prop} {s : State} (dest : ReplyTo) (head : List Byte) (status : Nat) (h : s.Ok D) : (State.refuse s dest head status).Ok D := by
  unfold State.refuse
  repeat' (first | with_reducible assumption | with_reducible apply State.answersOut_ok | with_reducible apply State.answer_ok | with_reducible refine ok_foldl ?_ (fun _ _ _ => ?_) | with_reducible refine ok_step ?_ (fun _ => ?_) | dsimp only | split | intro _)

theorem State.refusedCheck_ok {D : DevState → Prop} {s : State} (r : Nat × Nat × Nat × Nat) (ops : List (Nat × List Byte)) (h : s.Ok D) : (State.refusedCheck s r ops).Ok D := by
  unfold State.refusedCheck
  repeat' (first | with_reducible assumption | with_reducible apply State.commitStart_ok | with_reducible refine ok_foldl ?_ (fun _ _ _ => ?_) | with_reducible refine ok_step ?_ (fun _ => ?_) | dsimp only | split | intro _)

theorem State.commitBatch_ok {D : DevState → Prop} {s : State} (b : Batch) (dest : ReplyTo) (h : s.Ok D) (hC : DevClosed D) : (State.commitBatch s b dest).Ok D := by
  unfold State.commitBatch
  repeat' (first | with_reducible assumption | with_reducible apply State.refuse_ok | with_reducible apply State.inc_ok | with_reducible apply State.refusedCheck_ok | with_reducible apply State.countEvt_ok | with_reducible apply State.answersOut_ok | with_reducible apply State.answer_ok | with_reducible apply State.applyBatch_ok | with_reducible apply State.seqMark_ok | with_reducible refine ok_foldl ?_ (fun _ _ _ => ?_) | with_reducible refine ok_step ?_ (fun _ => ?_) | dsimp only | split | intro _)

theorem State.commitFrame_ok {D : DevState → Prop} {s : State} (f : RxFrame) (data : List Byte) (r : Result') (h : s.Ok D) (hC : DevClosed D) : (State.commitFrame s f data r).Ok D := by
  unfold State.commitFrame
  repeat' (first | with_reducible assumption | with_reducible apply State.dupCheck_ok | with_reducible apply State.commitBatch_ok | with_reducible apply State.markTwin_ok | with_reducible apply State.refuse_ok | with_reducible refine ok_foldl ?_ (fun _ _ _ => ?_) | with_reducible refine ok_step ?_ (fun _ => ?_) | dsimp only | split | intro _)

theorem State.commitSq_ok {D : DevState → Prop} {s : State} (c : SqCmd) (r : Result') (h : s.Ok D) (hC : DevClosed D) : (State.commitSq s c r).Ok D := by
  unfold State.commitSq
  repeat' (first | with_reducible assumption | with_reducible apply State.commitBatch_ok | with_reducible apply State.refuse_ok | with_reducible refine ok_foldl ?_ (fun _ _ _ => ?_) | with_reducible refine ok_step ?_ (fun _ => ?_) | dsimp only | split | intro _)

theorem State.entryCommit_ok {D : DevState → Prop} {s : State} (h : s.Ok D) (hC : DevClosed D) : (State.entryCommit s).Ok D := by
  unfold State.entryCommit
  repeat' (first | with_reducible assumption | with_reducible apply State.modParser_ok | with_reducible apply State.commitFrame_ok | with_reducible apply State.commitSq_ok | with_reducible refine ok_foldl ?_ (fun _ _ _ => ?_) | with_reducible refine ok_step ?_ (fun _ => ?_) | dsimp only | split | intro _)

theorem State.validate_ok {D : DevState → Prop} {s : State} (b : Batch) (last : Twin) (h : s.Ok D) : (State.validate s b last).1.Ok D := by
  unfold State.validate
  repeat' (first | with_reducible assumption | with_reducible apply State.raise_ok | with_reducible apply State.countEvt_ok | with_reducible refine ok_foldl ?_ (fun _ _ _ => ?_) | with_reducible refine ok_step ?_ (fun _ => ?_) | dsimp only | split | intro _)

theorem State.setReasm_ok {D : DevState → Prop} {s : State} (e : Nat) (l : List Batch) (h : s.Ok D) : (State.setReasm s e l).Ok D := by
  unfold State.setReasm
  repeat' (first | with_reducible assumption | with_reducible apply State.setEngine_ok | with_reducible refine ok_foldl ?_ (fun _ _ _ => ?_) | with_reducible refine ok_step ?_ (fun _ => ?_) | dsimp only | split | intro _)

theorem State.fragment_ok {D : DevState → Prop} {s : State} (f : RxFrame) (c : Found) (auth : Bool) (head : List Byte) (rest : List Byte) (ops : List Byte) (h : s.Ok D) : (State.fragment s f c auth head rest ops).1.Ok D := by
  unfold State.fragment
  repeat' (first | with_reducible assumption | with_reducible apply State.setReasm_ok | with_reducible apply State.validate_ok | with_reducible apply State.countEvt_ok | with_reducible apply State.inc_ok | with_reducible refine ok_foldl ?_ (fun _ _ _ => ?_) | with_reducible refine ok_step ?_ (fun _ => ?_) | dsimp only | split | intro _)

theorem State.frameWork_ok {D : DevState → Prop} {s : State} (f : RxFrame) (data : List Byte) (auth : Bool) (h : s.Ok D) : (State.frameWork s f data auth).1.Ok D := by
  unfold State.frameWork
  repeat' (first | with_reducible assumption | with_reducible apply State.fragment_ok | with_reducible refine ok_foldl ?_ (fun _ _ _ => ?_) | with_reducible refine ok_step ?_ (fun _ => ?_) | dsimp only | split | intro _)

theorem State.fragmentArrival_ok {D : DevState → Prop} {s : State} (x : Nat) (h : s.Ok D) : (State.fragmentArrival s x).Ok D := by
  unfold State.fragmentArrival
  repeat' (first | with_reducible assumption | with_reducible apply State.frameWork_ok | with_reducible apply State.modEntry_ok | with_reducible refine ok_foldl ?_ (fun _ _ _ => ?_) | with_reducible refine ok_step ?_ (fun _ => ?_) | dsimp only | split | intro _)

theorem State.execComplete_ok {D : DevState → Prop} {s : State} (x : Nat) (h : s.Ok D) : (State.execComplete s x).Ok D := by
  unfold State.execComplete
  repeat' (first | with_reducible assumption | with_reducible apply State.modEntry_ok | with_reducible apply State.fragmentArrival_ok | with_reducible refine ok_foldl ?_ (fun _ _ _ => ?_) | with_reducible refine ok_step ?_ (fun _ => ?_) | dsimp only | split | intro _)

theorem State.batchTimeout_ok {D : DevState → Prop} {s : State} (e : Nat) (h : s.Ok D) : (State.batchTimeout s e).Ok D := by
  unfold State.batchTimeout
  repeat' (first | with_reducible assumption | with_reducible apply State.setEngine_ok | with_reducible apply State.refuse_ok | with_reducible apply State.countEvt_ok | with_reducible refine ok_foldl ?_ (fun _ _ _ => ?_) | with_reducible refine ok_step ?_ (fun _ => ?_) | dsimp only | split | intro _)

theorem State.deadExpiry_ok {D : DevState → Prop} {s : State} (e : Nat) (h : s.Ok D) : (State.deadExpiry s e).Ok D := by
  unfold State.deadExpiry
  repeat' (first | with_reducible assumption | with_reducible apply State.setEngine_ok | with_reducible refine ok_foldl ?_ (fun _ _ _ => ?_) | with_reducible refine ok_step ?_ (fun _ => ?_) | dsimp only | split | intro _)

theorem State.queueFetch_ok {D : DevState → Prop} {s : State} (inSd : Bool) (mem : HostMem) (a : Nat) (n : Nat) (h : s.Ok D) : (State.queueFetch s inSd mem a n).1.Ok D := by
  unfold State.queueFetch
  repeat' (first | with_reducible assumption | with_reducible apply State.draw_ok | with_reducible refine ok_foldl ?_ (fun _ _ _ => ?_) | with_reducible refine ok_step ?_ (fun _ => ?_) | dsimp only | split | intro _)

theorem State.sqCmd_ok {D : DevState → Prop} {s : State} (k : Nat) (head : Nat) (mem : HostMem) (d : List Byte) (poisoned : Bool) (h : s.Ok D) : (State.sqCmd s k head mem d poisoned).1.Ok D := by
  unfold State.sqCmd
  repeat' (first | with_reducible assumption | with_reducible apply State.draw_ok | with_reducible apply State.queueFetch_ok | with_reducible refine ok_foldl ?_ (fun _ _ _ => ?_) | with_reducible refine ok_step ?_ (fun _ => ?_) | dsimp only | split | intro _)

theorem State.sqTake_ok {D : DevState → Prop} {s : State} (k : Nat) (mem : HostMem) (ecc : Ecc) (h : s.Ok D) : (s.sqTake k mem ecc).1.Ok D := by
  unfold State.sqTake
  dsimp only
  split
  · exact h
  · rename_i s' d e
    have hs' : s'.Ok D := by have := s.queueFetch_ok (s.flag (Reg.CMD.Q_CFG.LOCATION k)) mem ((s.rd64 (0xE200 + 0x20 * k)) + 64 * s.rd (Reg.CMD.Q_STATUS.SQ_HEAD k)) 64 h; rw [e] at this; exact this
    split
    · exact h
    · refine State.takeEntry_ok _ ?_
      simp only [↓ok_mk]
      refine parts_ok (State.sqCmd_ok _ _ _ _ _ (State.wr_ok _ _ ?_))
      exact ok_step hs' fun _ => State.sdEcc_ok _ _ hs'

theorem State.sqServe_ok {D : DevState → Prop} {s : State} (mem : HostMem) (n : Nat) (ecc : Ecc) (h : s.Ok D) : (State.sqServe mem n ecc s).Ok D := by
  induction n generalizing s ecc with
  | zero => exact h
  | succ n ih =>
    unfold State.sqServe
    dsimp only
    split
    · exact h
    · split
      · rename_i e
        obtain ⟨k, -, hk⟩ := List.exists_of_findSome?_eq_some e
        refine ih _ ?_
        split at hk
        · split at hk
          · cases hk; exact s.sqTake_ok _ _ _ h
          · cases hk
        · cases hk
      · exact h

theorem State.sqDoorbell_ok {D : DevState → Prop} {s : State} (k : Nat) (tail : Nat) (mem : HostMem) (ecc : Ecc) (h : s.Ok D) : (State.sqDoorbell s k tail mem ecc).Ok D := by
  unfold State.sqDoorbell
  repeat' (first | with_reducible assumption | with_reducible apply State.sqServe_ok | with_reducible refine ok_foldl ?_ (fun _ _ _ => ?_) | with_reducible refine ok_step ?_ (fun _ => ?_) | dsimp only | split | (simp only [↓ok_mk]; with_reducible refine parts_ok ?_) | intro _)

theorem State.cqDoorbell_ok {D : DevState → Prop} {s : State} (k : Nat) (head : Nat) (mem : HostMem) (ecc : Ecc) (h : s.Ok D) : (State.cqDoorbell s k head mem ecc).Ok D := by
  unfold State.cqDoorbell
  repeat' (first | with_reducible assumption | with_reducible apply State.sqServe_ok | with_reducible refine ok_foldl ?_ (fun _ _ _ => ?_) | with_reducible refine ok_step ?_ (fun _ => ?_) | dsimp only | split | (simp only [↓ok_mk]; with_reducible refine parts_ok ?_) | intro _)

theorem State.execDispatch_ok {D : DevState → Prop} {s : State} (mem : HostMem) (ecc : Ecc) (h : s.Ok D) : (State.execDispatch s mem ecc).Ok D := by
  unfold State.execDispatch
  repeat' (first | with_reducible assumption | with_reducible apply State.dispatchOne_ok | with_reducible apply State.sqServe_ok | with_reducible refine ok_foldl ?_ (fun _ _ _ => ?_) | with_reducible refine ok_step ?_ (fun _ => ?_) | dsimp only | split | intro _)

theorem State.eqDoorbell_ok {D : DevState → Prop} {s : State} (head : Nat) (h : s.Ok D) : (State.eqDoorbell s head).Ok D := by
  unfold State.eqDoorbell
  repeat' (first | with_reducible assumption | with_reducible refine ok_foldl ?_ (fun _ _ _ => ?_) | with_reducible refine ok_step ?_ (fun _ => ?_) | dsimp only | split | (simp only [↓ok_mk]; with_reducible refine parts_ok ?_) | intro _)

theorem State.pqDoorbell_ok {D : DevState → Prop} {s : State} (head : Nat) (h : s.Ok D) : (State.pqDoorbell s head).Ok D := by
  unfold State.pqDoorbell
  repeat' (first | with_reducible assumption | with_reducible refine ok_foldl ?_ (fun _ _ _ => ?_) | with_reducible refine ok_step ?_ (fun _ => ?_) | dsimp only | split | (simp only [↓ok_mk]; with_reducible refine parts_ok ?_) | intro _)

theorem State.settle_ok {D : DevState → Prop} {s : State} (was : Bool) (h : s.Ok D) (hC : DevClosed D) : (State.settle s was).Ok D := by
  unfold State.settle
  repeat' (first | with_reducible assumption | with_reducible apply State.drainCheck_ok | with_reducible apply State.testCheck_ok | with_reducible apply State.seamPins_ok | with_reducible apply State.flushHeld_ok | with_reducible apply State.probeSolved_ok | with_reducible apply State.answersOut_ok | with_reducible apply State.watchSdram_ok | with_reducible refine ok_foldl ?_ (fun _ _ _ => ?_) | with_reducible refine ok_step ?_ (fun _ => ?_) | dsimp only | split | intro _)

theorem State.where'_ok {D : DevState → Prop} {s : State} (c : Bool) (f : State → State) (h : s.Ok D) (hf : ∀ s, State.Ok D s → State.Ok D (f s)) : (State.where' s c f).Ok D := by
  unfold State.where'
  repeat' (first | with_reducible assumption | with_reducible apply hf | with_reducible refine ok_foldl ?_ (fun _ _ _ => ?_) | with_reducible refine ok_step ?_ (fun _ => ?_) | dsimp only | split | intro _)

theorem State.regActs_ok {D : DevState → Prop} {s : State} (path : HostPath) (l : List (Nat × Word)) (f : State → State) (h : s.Ok D) (hf : ∀ s, State.Ok D s → State.Ok D (f s)) : (State.regActs s path l f).Ok D := by
  unfold State.regActs
  repeat' (first | with_reducible assumption | with_reducible apply hf | with_reducible apply State.offAccess_ok | with_reducible refine ok_foldl ?_ (fun _ _ _ => ?_) | with_reducible refine ok_step ?_ (fun _ => ?_) | dsimp only | split | (simp only [↓ok_mk]; with_reducible refine parts_ok ?_) | intro _)

theorem State.regAct_ok {D : DevState → Prop} {s : State} (path : HostPath) (off : Nat) (w : Nat) (f : State → State) (h : s.Ok D) (hf : ∀ s, State.Ok D s → State.Ok D (f s)) : (State.regAct s path off w f).Ok D := by
  unfold State.regAct
  repeat' (first | with_reducible assumption | with_reducible apply hf | with_reducible apply State.regActs_ok | with_reducible refine ok_foldl ?_ (fun _ _ _ => ?_) | with_reducible refine ok_step ?_ (fun _ => ?_) | dsimp only | split | intro _)

theorem State.pageAct_ok {D : DevState → Prop} {s : State} (path : HostPath) (pg : Nat) (rel : Nat) (w : Nat) (f : State → State) (h : s.Ok D) (hf : ∀ s, State.Ok D s → State.Ok D (f s)) : (State.pageAct s path pg rel w f).Ok D := by
  unfold State.pageAct
  repeat' (first | with_reducible assumption | with_reducible apply hf | with_reducible apply State.regAct_ok | with_reducible refine ok_foldl ?_ (fun _ _ _ => ?_) | with_reducible refine ok_step ?_ (fun _ => ?_) | dsimp only | split | intro _)

theorem State.hardSet_ok {D : DevState → Prop} {s : State} (pg : Nat) (set : Word) (h : s.Ok D) : (State.hardSet s pg set).Ok D := by
  unfold State.hardSet
  repeat' (first | with_reducible assumption | with_reducible apply State.evtSet_ok | with_reducible refine ok_foldl ?_ (fun _ _ _ => ?_) | with_reducible refine ok_step ?_ (fun _ => ?_) | dsimp only | split | intro _)

theorem State.powerAct_ok {D : DevState → Prop} {s : State} (path : HostPath) (pg : Nat) (w : Nat) (f : State → State) (h : s.Ok D) (hf : ∀ s, State.Ok D s → State.Ok D (f s)) : (State.powerAct s path pg w f).Ok D := by
  unfold State.powerAct
  repeat' (first | with_reducible assumption | with_reducible apply hf | with_reducible apply State.regAct_ok | with_reducible refine ok_foldl ?_ (fun _ _ _ => ?_) | with_reducible refine ok_step ?_ (fun _ => ?_) | dsimp only | split | intro _)

theorem State.pllLoss_ok {D : DevState → Prop} {s : State} (k : Nat) (h : s.Ok D) : (State.pllLoss s k).Ok D := by
  unfold State.pllLoss
  repeat' (first | with_reducible assumption | with_reducible apply State.inc_ok | with_reducible apply State.wr_ok | with_reducible apply State.raise_ok | with_reducible apply State.evt_ok | with_reducible refine ok_foldl ?_ (fun _ _ _ => ?_) | with_reducible refine ok_step ?_ (fun _ => ?_) | dsimp only | split | intro _)

theorem State.pllRelock_ok {D : DevState → Prop} {s : State} (k : Nat) (h : s.Ok D) : (State.pllRelock s k).Ok D := by
  unfold State.pllRelock
  repeat' (first | with_reducible assumption | with_reducible apply State.evt_ok | with_reducible apply State.wr_ok | with_reducible refine ok_foldl ?_ (fun _ _ _ => ?_) | with_reducible refine ok_step ?_ (fun _ => ?_) | dsimp only | split | intro _)

theorem State.stageBoundary_ok {D : DevState → Prop} {s : State} (errs : List Nat) (corrs : List Nat) (h : s.Ok D) : (State.stageBoundary s errs corrs).Ok D := by
  unfold State.stageBoundary
  repeat' (first | with_reducible assumption | with_reducible apply State.swapBanks_ok | with_reducible apply State.stagingStart_ok | with_reducible refine ok_foldl ?_ (fun _ _ _ => ?_) | with_reducible refine ok_step ?_ (fun _ => ?_) | dsimp only | split | intro _)

theorem State.benchBoundary_ok {D : DevState → Prop} {s : State} (h : s.Ok D) (hC : DevClosed D) : (State.benchBoundary s).Ok D := by
  unfold State.benchBoundary
  repeat' (first | with_reducible assumption | with_reducible apply State.boundary_ok | with_reducible apply State.seamLive_ok | with_reducible apply State.bankSwap_ok | with_reducible refine ok_foldl ?_ (fun _ _ _ => ?_) | with_reducible refine ok_step ?_ (fun _ => ?_) | dsimp only | split | intro _)

theorem State.resultOut_ok {D : DevState → Prop} {s : State} (n : Nat) (raw14 : Nat) (r : Result) (lost : List Nat) (h : s.Ok D) : (State.resultOut s n raw14 r lost).Ok D := by
  unfold State.resultOut
  repeat' (first | with_reducible assumption | with_reducible apply State.recordResult_ok | with_reducible apply State.resultTimeout_ok | with_reducible apply State.deliver_ok | with_reducible apply State.darkTake_ok | with_reducible apply State.capResult_ok | with_reducible refine ok_foldl ?_ (fun _ _ _ => ?_) | with_reducible refine ok_step ?_ (fun _ => ?_) | dsimp only | split | intro _)

theorem State.nextConv_ok {D : DevState → Prop} {s : State} (n : Nat) (h : s.Ok D) : (State.nextConv s n).Ok D := by
  unfold State.nextConv
  repeat' (first | with_reducible assumption | with_reducible apply State.put_ok | with_reducible apply State.steerBack_ok | with_reducible apply State.beginConv_ok | with_reducible refine ok_foldl ?_ (fun _ _ _ => ?_) | with_reducible refine ok_step ?_ (fun _ => ?_) | dsimp only | split | intro _)

theorem State.conversionEnd_ok {D : DevState → Prop} {s : State} (n : Nat) (raw14 : Nat) (bus : Ecc) (h : s.Ok D) : (State.conversionEnd s n raw14 bus).Ok D := by
  unfold State.conversionEnd
  repeat' (first | with_reducible assumption | with_reducible apply State.busCheck_ok | with_reducible apply State.openSettle_ok | with_reducible apply State.resultOut_ok | with_reducible apply State.overpower_ok | with_reducible apply State.nextConv_ok | with_reducible apply State.autoRange_ok | with_reducible refine ok_foldl ?_ (fun _ _ _ => ?_) | with_reducible refine ok_step ?_ (fun _ => ?_) | dsimp only | split | intro _)

theorem State.trigIn_ok {D : DevState → Prop} {s : State} (i : Nat) (t : Nat) (fall : Bool) (held : Bool) (h : s.Ok D) : (State.trigIn s i t fall held).Ok D := by
  unfold State.trigIn
  repeat' (first | with_reducible assumption | with_reducible apply State.wr_ok | with_reducible apply State.timestamp_ok | with_reducible apply State.trigEdge_ok | with_reducible refine ok_foldl ?_ (fun _ _ _ => ?_) | with_reducible refine ok_step ?_ (fun _ => ?_) | dsimp only | split | intro _)

theorem State.frameIn_ok {D : DevState → Prop} {s : State} (p : Nat) (data : List Byte) (fcs : Fcs) (cut : Bool) (corr : Nat) (res : Nat) (full : Bool) (h : s.Ok D) : (State.frameIn s p data fcs cut corr res full).Ok D := by
  unfold State.frameIn
  repeat' (first | with_reducible assumption | with_reducible apply State.ringRx_ok | with_reducible apply State.add_ok | with_reducible refine ok_foldl ?_ (fun _ _ _ => ?_) | with_reducible refine ok_step ?_ (fun _ => ?_) | dsimp only | split | intro _)

theorem State.sourceLost_ok {D : DevState → Prop} {s : State} (h : s.Ok D) : (State.sourceLost s).Ok D := by
  unfold State.sourceLost
  repeat' (first | with_reducible assumption | with_reducible apply State.switchSource_ok | with_reducible refine ok_foldl ?_ (fun _ _ _ => ?_) | with_reducible refine ok_step ?_ (fun _ => ?_) | dsimp only | split | intro _)

theorem State.compliance_ok {D : DevState → Prop} {s : State} (ltssm : Nat) (h : s.Ok D) : (State.compliance s ltssm).Ok D := by
  unfold State.compliance
  repeat' (first | with_reducible assumption | with_reducible apply State.pcieDown_ok | with_reducible refine ok_foldl ?_ (fun _ _ _ => ?_) | with_reducible refine ok_step ?_ (fun _ => ?_) | dsimp only | split | intro _)

theorem State.tick_ok {D : DevState → Prop} {s : State} (h : s.Ok D) : (s.tick).Ok D := by
  unfold State.tick
  split
  · exact h
  · have h0 : State.Ok D s.start.capTake := State.capTake_ok (State.start_ok h)
    generalize s.start.capTake = t at h0 ⊢
    have h1 : ∀ n g p f, State.Ok D (State.modTime { t with now := n % timeWrap, granAcc := g, phase := p } f) := fun n g p f =>
      State.modTime_ok f (Parts.withClock h0 (Nat.mod_lt n (by decide)))
    dsimp only
    repeat' (first | with_reducible apply h1 | with_reducible apply State.playTick_ok | with_reducible apply State.holdCount_ok | with_reducible apply State.rangeStarts_ok | (simp only [↓ok_mk]; with_reducible refine parts_ok ?_) | split)

theorem State.slewDone_ok {D : DevState → Prop} {s : State} (h : s.Ok D) : (State.slewDone s).Ok D := by
  unfold State.slewDone
  repeat' (first | with_reducible assumption | with_reducible apply State.tick_ok | with_reducible refine ok_foldl ?_ (fun _ _ _ => ?_) | with_reducible refine ok_step ?_ (fun _ => ?_) | dsimp only | split | intro _)

end Sys2Proof.Machine
end

