-- ==== Sys2Proof/Tests/Slice0.lean ====
section
/-! SUPPORT. The session's own tests: well-formedness, one step of some commands, and for each statement with hypotheses a state and operands that meet them. -/
namespace Sys2Proof.Tests
open Sys2Proof.Machine
set_option Elab.async false
set_option linter.unusedVariables false

/-- A table's canonical form, as a test. -/
def tabOk {α : Type} [DecidableEq α] (d : Nat → α) (t : Tab α) : Bool := decide (t.Pairwise fun a b => a.1 < b.1) && t.all fun e => e.2 != d e.1

theorem tabWf_of {α : Type} [DecidableEq α] {d : Nat → α} {t : Tab α} (h : tabOk d t = true) : tabWf d t := by
  simp only [tabOk, Bool.and_eq_true, decide_eq_true_eq, List.all_eq_true, bne_iff_ne] at h
  exact h

theorem sound_of {s : State} (h : (Memory.wf s.sd && (tabOk resetWord s.regs && (tabOk (fun _ => Dom.onIdle) s.dom && (decide (s.now < timeWrap) &&
    (tabOk resetWord s.live && (tabOk (fun _ => ElemSt.idle) s.bram.elems && tabOk (fun _ => RingSt.idle) s.mon.rings)))))) = true) : s.Sound := by
  simp only [Bool.and_eq_true, decide_eq_true_eq] at h
  obtain ⟨memory, words, domains, clock, parser, elements, capture⟩ := h
  exact { memory, words := tabWf_of words, domains := tabWf_of domains, clock, parser := tabWf_of parser, elements := tabWf_of elements, capture := tabWf_of capture }

theorem calm_of {s : State} (h : s.boot.held = [] ∧ s.seam.lanes = [] ∧ s.seam.probe = none ∧ s.seam.done = [] ∧ s.cmd.wait = [] ∧ s.test.run = none ∧ s.plumb.run = none) : s.Calm := h
theorem quiet_of {s : State} (h : s.boot.held = [] ∧ s.seam.lanes = [] ∧ s.seam.probe = none ∧ s.seam.done = [] ∧ s.cmd.wait = [] ∧ s.test.run = none ∧ s.plumb.run.all (fun r => !r.ending) = true) : s.Quiet := h
theorem open_of {s : State} {off : Nat} (h : s.dev ≠ .off ∧ s.boot.check = none ∧ s.reachable off = true) : s.Open off := h

/-- CRC-32C with the running value forced at each byte, so that Lean's kernel evaluates it step by step. -/
def crcForce : List Byte → Nat → Nat
  | [], c => c
  | b :: r, c =>
    match crcByte c b with
    | 0 => crcForce r 0
    | n + 1 => crcForce r (n + 1)

theorem crcForce_eq (l : List Byte) (c : Nat) : crcForce l c = l.foldl crcByte c := by
  induction l generalizing c with
  | nil => rfl
  | cons b r ih =>
    show (match crcByte c b with | 0 => crcForce r 0 | n + 1 => crcForce r (n + 1)) = r.foldl crcByte (crcByte c b)
    generalize crcByte c b = x
    cases x <;> exact ih _

theorem crc_eq (l : List Byte) : crc32c l = crcForce l 0xFFFFFFFF ^^^ 0xFFFFFFFF := by rw [crcForce_eq]; rfl

theorem imageCheck_of {b : List Byte} (h : leAt b 0 2 = 0x5A50) (h1 : leAt b 2 1 = 1) (h2 : leAt b 0x7FC 4 = crcForce (bytesAt b 0 0x7FC) 0xFFFFFFFF ^^^ 0xFFFFFFFF)
    (h3 : imageReservedBad b = false) (h4 : ((bytesAt b 0x260 1024).any fun v => decide (0xA0 < v.toNat) && decide (v.toNat < 0xFF)) = false)
    (h5 : imageOvrBad b = false) (h6 : leAt b 8 4 = sumN (parseImage b).heat) : imageCheck b = 0 := by
  rw [← crc_eq] at h2
  simp [imageCheck, h, h1, h2, h3, h4, h5, h6]

/-- The state of the witnesses: ARMED after a reset, with every domain ON and the clock running. -/
def base : State := { State.reset with dev := .armed, dom := [], clkRun := true }

/-- A state with board SDRAM online. -/
def withSdram (s : State) : State :=
  [0, 1, 2, 3].foldl (fun s c => (s.put (Reg.SDRAM.TRAIN_STATUS.TRAINED c) true).wr (Reg.HDR.PG_STATE.STATE (0x14000 + 0x1000 * c)) 2) s

/-- The cells that hold bytes from an address on. -/
def cellsAt (a : Nat) : List Byte → List Host.Cell
  | [] => []
  | b :: r => (a, b) :: cellsAt (a + 1) r

/-- A solve descriptor of R48: tag 09090909H, no target, base the live image, every port none. -/
def seamDesc : List Byte := ([0x52, 0x53, 1, 0, 9, 9, 9, 9, 255, 255, 255, 255, 2, 0, 160, 255] ++ List.replicate 48 0) ++ List.replicate 1024 255

/-- A state in which Seam is open and the descriptor stands in board SDRAM. -/
def seamState : State :=
  let s := base
  let s := (((withSdram s).wr (Reg.SDRAM.GEOMETRY.CAP_GIB 0) 16).wr (Reg.SDRAM.GEOMETRY.CAP_GIB 1) 16) 
  let s := ((s.wr (Reg.SDRAM.GEOMETRY.CAP_GIB 2) 16).wr (Reg.SDRAM.GEOMETRY.CAP_GIB 3) 16)
  let s := (s.wr (Reg.HDR.PG_STATE.STATE 0xB000) 2).put (Reg.HDR.PG_CTRL.ENABLE 0xB000) true
  { s with sd := cellsAt 8192 seamDesc, seam := { s.seam with fetch := some (8192, 4096) } }

theorem memGet_cells : ∀ (l : List Byte) (a i : Nat), i < l.length → memGet (cellsAt a l) (a + i) = some (l.getD i 0)
  | [], _, _, h => by simp at h
  | b :: r, a, 0, _ => by simp [cellsAt, memGet, alGet]
  | b :: r, a, i + 1, h => by
    have ih := memGet_cells r (a + 1) i (by simpa using h)
    have hk : ((a, b).1 == a + (i + 1)) = false := by simp
    rw [show a + 1 + i = a + (i + 1) by omega] at ih
    unfold memGet alGet at ih ⊢
    rw [cellsAt, List.find?_cons, hk, ih]
    simp

theorem sdBytes_cells (s : State) (a : Nat) (l : List Byte) (h : s.sd = cellsAt a l) : s.sdBytes a l.length = l := by
  apply List.ext_getElem
  · simp [State.sdBytes]
  · intro i h1 h2
    simp [State.sdBytes, State.sdByte, h, memGet_cells l a i h2, h2]

theorem seamDesc_length : seamDesc.length = 1088 := by decide +kernel

theorem seamState_bytes : seamState.sdBytes 8192 1088 = seamDesc := by
  have h := sdBytes_cells seamState 8192 seamDesc rfl
  rwa [seamDesc_length] at h

theorem seamState_sound : seamState.Sound := sound_of (by decide +kernel)

theorem seamDesc_perm (d : SolveDest) : (parseSolve seamDesc d).perm = List.replicate 512 0xFFFF := by
  have h : ∀ e < 512, leAt seamDesc (0x40 + 2 * e) 2 = 0xFFFF := by
    intro e he
    have h2 : (seamDesc.drop (0x40 + 2 * e)).take 2 = [255, 255] := by
      have hh : ∀ h : List Byte, h.length = 64 → ((h ++ List.replicate 1024 255).drop (0x40 + 2 * e)).take 2 = [255, 255] := by
        intro h hl
        rw [List.drop_append, List.drop_eq_nil_of_le (by omega), hl, List.drop_replicate, List.nil_append, List.take_replicate,
          show min 2 (1024 - (64 + 2 * e - 64)) = 2 by omega]
        rfl
      exact hh _ (by simp)
    unfold leAt bytesAt
    rw [h2]
    decide
  unfold parseSolve
  dsimp only
  rw [List.map_congr_left (g := fun _ => 0xFFFF) fun e he => h e (List.mem_range.mp he), List.map_const', List.length_range]

theorem seamDesc_fault : solveFault seamDesc = none := by
  unfold solveFault
  dsimp only
  rw [seamDesc_perm]
  decide +kernel

theorem seamState_base : seamState.baseImage (parseSolve seamDesc (.reg 4096)).base = none := by decide +kernel

theorem seamState_dup : firstDup (resolvePerm (parseSolve (seamState.sdBytes 8192 1088) (.reg 4096)).perm
    (match seamState.baseImage (parseSolve (seamState.sdBytes 8192 1088) (.reg 4096)).base with | some m => m.assignment | none => [])) 0 [] = none := by
  rw [seamState_bytes, seamState_base]
  rw [seamDesc_perm]
  decide +kernel

theorem seamState_slot : seamState.slotPending (parseSolve (seamState.sdBytes 8192 1088) (.reg 4096)).target = false := by
  rw [seamState_bytes]; decide +kernel


theorem smoke_illFormed_0 : [(.poresetNRise 4 : Instr), .pllLossOfLock 4, .sdramTrainingDone [] 0, .railExcursion 11 [], .powerDownRequest .pcie 1, .powerUpRequest .pcie 1, .domainPoweredDown 224, .domainPoweredUp 224, .pgEnableClear .pcie 1 false, .pgEnableSet .pcie 1, .pgSoftReset .pcie 1, .pgDrainComplete 1, .pgBlockReady 1, .pgEvtRawClear .pcie 1 0#32 0#32, .pgEvtEnWrite .pcie 1 0#32, .pgEvtSet .pcie 1 0#32, .pgErrcntClear .pcie 1, .pgLockKey .pcie 1 0, .pgLockKey .pcie 0 65536, .cntClear .pcie 1 0, .multiwordLowRead .pcie 2, .multiwordHighWrite .pcie 2 0#32, .registerWrite .pcie 2 0#32 false, .seamSolveComplete 4, .seamTimeout 4, .slotWindowWrite .pcie 512 0 0#32, .slotWindowWrite .pcie 0 512 0#32, .slotCheck .pcie 512, .groupStrobe 16, .shapeEnd 128 0].all (fun c => !c.wf) = true := by decide +kernel

theorem smoke_illFormed_1 : [(.shapeEnd 0 76 : Instr), .holdoffEnd 9728, .tileModeReq .pcie 128 0, .tileModeReq .pcie 0 4, .driveShortDetect 0 2 0, .driveShortDetect 128 0 0, .driveShortDetect 0 0 76, .hostShadowWrite .pcie 0 2 0 0, .hostShadowWrite .pcie 128 0 0 0, .hostShadowWrite .pcie 0 0 76 0, .hostShadowWrite .pcie 0 0 0 4096, .hostDirectWrite .pcie 128 0 0 0, .hostDirectWrite .pcie 0 128 0 0, .hostDirectWrite .pcie 0 0 2 0, .hostDirectWrite .pcie 0 0 0 65536, .commitCodes .pcie 128, .commitShapes .pcie 128, .shapeDataAccess .pcie 128 none, .directUpdate 0 2 0 0 false .ok, .directUpdate 128 0 0 0 false .ok, .directUpdate 0 0 76 0 false .ok, .directUpdate 0 0 0 4096 false .ok, .pacedUpdateRelease 128 0, .pacedUpdateRelease 0 77, .deglitchRelease 0 2 0, .deglitchRelease 128 0 0, .deglitchRelease 0 0 76, .readbackSample 128 0, .rangeChangeGo .pcie 128 false false, .rangeSettleEnd 128 0].all (fun c => !c.wf) = true := by decide +kernel

theorem smoke_illFormed_2 : [(.rangeSettleEnd 0 2 : Instr), .chselWrite 624 false 0, .chselWrite 0 false 32, .convModeWrite .pcie 624 0, .convModeWrite .pcie 0 4, .monRangeWrite .pcie 19968 0, .monRangeWrite .pcie 0 4, .conversionEnd 624 0 .ok, .conversionEnd 0 16384 .ok, .captureRingEnable .pcie 16, .captureRunWrite .pcie 16 false, .captureFlush 16, .captureBurstWritten 16, .captureRdPtrWrite .pcie 16 0, .captureRdPtrWrite .pcie 0 (2 ^ 35), .probePairStep 9728 0, .probePairStep 0 3, .estimate 9728, .wrapSettleEnd 9728, .loopSaturated 9728, .quarSet .pcie 9728, .quarClr .pcie 9728, .elemEnWrite .pcie 9728 false, .shutterMeasurement 9728, .ballastRampStep 128, .guardRequest 19968, .loopStarve 19968, .resultTimeout 19968, .granulePeriodWrite .pcie (2 ^ 18), .benchMemoryWrite .pcie 8192 (List.replicate 8 0#32)].all (fun c => !c.wf) = true := by decide +kernel

theorem smoke_illFormed_3 : [(.benchMemoryWrite .pcie 0 [] : Instr), .streamWrPtrWrite .pcie (2 ^ 31), .streamSeqExpectWrite .pcie 65536, .triginEdge 4 0 false false, .trigoAssert 16, .trigoRelease 16, .ptpSync 2 0 0 0 0 0 0 0 false, .ptpSync 0 3 0 0 0 0 0 0 false, .ptpFollowUp 2 0 0 0 0 0, .ptpFollowUp 0 3 0 0 0 0, .ptpDelayResp 2 0 0 0 0, .ptpDelayResp 0 3 0 0 0, .ptpPdelayReq 2 0 0 0, .ptpPdelayReq 0 3 0 0, .ptpPdelayExchange 2 none, .ptpAnnounce 2 0 0 0 [], .ptpAnnounce 0 3 0 0 [], .timeEventArm .pcie 16 0#32, .timeEventFire [16], .sensorRound [], .shutdownPersist 4, .runReqGo .pcie 8, .recentre [9728] [], .recentre [] [9728], .fuseCmdCommit .pcie 65536, .finishRevoke .pcie 65536, .linkUp [(2, [])], .linkDown 2, .ringFrameRx 2 (List.replicate 20 0#8) .ok false 0 0 false, .ringFrameRx 0 [] .ok false 0 0 false].all (fun c => !c.wf) = true := by decide +kernel

theorem smoke_illFormed_4 : [(.dupSourceRelease 2 0 : Instr), .stateCopyDone 2 false, .diagTrip 2 0, .diagTrip 0 7, .abdicatedRecovery 2, .parseFirstPass 2, .nodeCommit .pcie 48 false, .ruleCommit .pcie 1024 false, .hitsClr .pcie 1024, .execComplete 8, .execTimeout 8, .fragmentArrival 8, .batchTimeout 2, .deadListExpiry 2, .sqDoorbell 8 0 [] .ok, .cqHeadDoorbell 8 0 [] .ok, .faultClassify 0 [] (some (.workingSet 0x70000)), .faultClassify 0 [] (some (.sram 4 0)), .faultClassify 0 [] (some (.sram 0 (2 ^ 24))), .sumpAck .pcie (2 ^ 32), .inject .pcie 256, .scrubLine 4 0 .ok false, .scrubPass 4, .trainGo .pcie 4, .smbRegAddr (2 ^ 32) none, .ringTest .pcie 256, .tilebusTest .pcie 256, .sdramTest .pcie 256, .dacTest .pcie 256, .tcurrentTest .pcie 256].all (fun c => !c.wf) = true := by decide +kernel

theorem smoke_illFormed_5 : [(.opticalTest .pcie 256 : Instr), .jtagExtest ⟨[(.sdram 4 0, true)], []⟩, .jtagExtest ⟨[(.sdram 0 138, true)], []⟩, .jtagExtest ⟨[(.pcieTx 8, true)], []⟩, .jtagExtest ⟨[(.pcieRx 8, true)], []⟩, .jtagExtest ⟨[(.ringTx 2 0, true)], []⟩, .jtagExtest ⟨[(.ringTx 0 2, true)], []⟩, .jtagExtest ⟨[(.ringRx 2 0, true)], []⟩, .jtagExtest ⟨[(.ringRx 0 2, true)], []⟩, .jtagExtest ⟨[(.ref 3, true)], []⟩, .jtagExtest ⟨[(.trigo 16, true)], []⟩, .jtagExtest ⟨[(.trigin 4, true)], []⟩, .jtagExtest ⟨[(.gpio 8, true)], []⟩, .jtagExtest ⟨[(.bootmode 2, true)], []⟩, .jtagExtest ⟨[], [(.ref 0, true, true)]⟩, .jtagExtest ⟨[], [(.gpio 8, true, true)]⟩, .jtagSamplePreload ⟨[(.sdram 4 0, true)], []⟩, .jtagSamplePreload ⟨[(.sdram 0 138, true)], []⟩, .jtagSamplePreload ⟨[(.pcieTx 8, true)], []⟩, .jtagSamplePreload ⟨[(.pcieRx 8, true)], []⟩, .jtagSamplePreload ⟨[(.ringTx 2 0, true)], []⟩, .jtagSamplePreload ⟨[(.ringTx 0 2, true)], []⟩, .jtagSamplePreload ⟨[(.ringRx 2 0, true)], []⟩, .jtagSamplePreload ⟨[(.ringRx 0 2, true)], []⟩, .jtagSamplePreload ⟨[(.ref 3, true)], []⟩, .jtagSamplePreload ⟨[(.trigo 16, true)], []⟩, .jtagSamplePreload ⟨[(.trigin 4, true)], []⟩, .jtagSamplePreload ⟨[(.gpio 8, true)], []⟩, .jtagSamplePreload ⟨[(.bootmode 2, true)], []⟩, .jtagSamplePreload ⟨[], [(.ref 0, true, true)]⟩].all (fun c => !c.wf) = true := by decide +kernel

theorem smoke_illFormed_6 : [(.jtagSamplePreload ⟨[], [(.gpio 8, true, true)]⟩ : Instr), .jtagExtestPulse ⟨[(.sdram 4 0, true)], []⟩, .jtagExtestPulse ⟨[(.sdram 0 138, true)], []⟩, .jtagExtestPulse ⟨[(.pcieTx 8, true)], []⟩, .jtagExtestPulse ⟨[(.pcieRx 8, true)], []⟩, .jtagExtestPulse ⟨[(.ringTx 2 0, true)], []⟩, .jtagExtestPulse ⟨[(.ringTx 0 2, true)], []⟩, .jtagExtestPulse ⟨[(.ringRx 2 0, true)], []⟩, .jtagExtestPulse ⟨[(.ringRx 0 2, true)], []⟩, .jtagExtestPulse ⟨[(.ref 3, true)], []⟩, .jtagExtestPulse ⟨[(.trigo 16, true)], []⟩, .jtagExtestPulse ⟨[(.trigin 4, true)], []⟩, .jtagExtestPulse ⟨[(.gpio 8, true)], []⟩, .jtagExtestPulse ⟨[(.bootmode 2, true)], []⟩, .jtagExtestPulse ⟨[], [(.ref 0, true, true)]⟩, .jtagExtestPulse ⟨[], [(.gpio 8, true, true)]⟩, .jtagExtestTrain ⟨[(.sdram 4 0, true)], []⟩, .jtagExtestTrain ⟨[(.sdram 0 138, true)], []⟩, .jtagExtestTrain ⟨[(.pcieTx 8, true)], []⟩, .jtagExtestTrain ⟨[(.pcieRx 8, true)], []⟩, .jtagExtestTrain ⟨[(.ringTx 2 0, true)], []⟩, .jtagExtestTrain ⟨[(.ringTx 0 2, true)], []⟩, .jtagExtestTrain ⟨[(.ringRx 2 0, true)], []⟩, .jtagExtestTrain ⟨[(.ringRx 0 2, true)], []⟩, .jtagExtestTrain ⟨[(.ref 3, true)], []⟩, .jtagExtestTrain ⟨[(.trigo 16, true)], []⟩, .jtagExtestTrain ⟨[(.trigin 4, true)], []⟩, .jtagExtestTrain ⟨[(.gpio 8, true)], []⟩, .jtagExtestTrain ⟨[(.bootmode 2, true)], []⟩, .jtagExtestTrain ⟨[], [(.ref 0, true, true)]⟩].all (fun c => !c.wf) = true := by decide +kernel

theorem smoke_illFormed_7 : [(.jtagExtestTrain ⟨[], [(.gpio 8, true, true)]⟩ : Instr), .pllRelock 0, .pllRelock 4, .railBackInTolerance 11, .checkerLock 2, .checkerLockLost 2].all (fun c => !c.wf) = true := by decide +kernel

theorem smoke_wellFormed_0 : [(.poresetNRise 0 : Instr), .pllLossOfLock 0, .sdramTrainingDone (List.replicate 4 (0, 0, none)) 0, .railExcursion 0 [], .powerDownRequest .pcie 0, .powerUpRequest .pcie 0, .domainPoweredDown 0, .domainPoweredUp 0, .pgEnableClear .pcie 0 false, .pgEnableSet .pcie 0, .pgSoftReset .pcie 0, .pgDrainComplete 0, .pgBlockReady 0, .pgEvtRawClear .pcie 0 0#32 0#32, .pgEvtEnWrite .pcie 0 0#32, .pgEvtSet .pcie 0 0#32, .pgErrcntClear .pcie 0, .pgLockKey .pcie 0 0, .cntClear .pcie 0 0, .multiwordLowRead .pcie 0, .multiwordHighWrite .pcie 0 0#32, .registerWrite .pcie 0 0#32 false, .seamSolveComplete 0, .seamTimeout 0, .slotWindowWrite .pcie 0 0 0#32, .slotCheck .pcie 0, .groupStrobe 0, .shapeEnd 0 0, .holdoffEnd 0, .tileModeReq .pcie 0 0, .driveShortDetect 0 0 0, .hostShadowWrite .pcie 0 0 0 0, .hostDirectWrite .pcie 0 0 0 0, .commitCodes .pcie 0, .commitShapes .pcie 0, .shapeDataAccess .pcie 0 none, .directUpdate 0 0 0 0 false .ok, .pacedUpdateRelease 0 0, .deglitchRelease 0 0 0, .readbackSample 0 0].all Instr.wf = true := by decide +kernel

theorem smoke_wellFormed_1 : [(.rangeChangeGo .pcie 0 false false : Instr), .rangeSettleEnd 0 0, .chselWrite 0 false 0, .convModeWrite .pcie 0 0, .monRangeWrite .pcie 0 0, .conversionEnd 0 0 .ok, .captureRingEnable .pcie 0, .captureRunWrite .pcie 0 false, .captureFlush 0, .captureBurstWritten 0, .captureRdPtrWrite .pcie 0 0, .probePairStep 0 0, .estimate 0, .wrapSettleEnd 0, .loopSaturated 0, .quarSet .pcie 0, .quarClr .pcie 0, .elemEnWrite .pcie 0 false, .shutterMeasurement 0, .ballastRampStep 0, .guardRequest 0, .loopStarve 0, .resultTimeout 0, .granulePeriodWrite .pcie 0, .benchMemoryWrite .pcie 0 (List.replicate 8 0#32), .streamWrPtrWrite .pcie 0, .streamSeqExpectWrite .pcie 0, .triginEdge 0 0 false false, .trigoAssert 0, .trigoRelease 0, .ptpSync 0 0 0 0 0 0 0 0 false, .ptpFollowUp 0 0 0 0 0 0, .ptpDelayResp 0 0 0 0 0, .ptpPdelayReq 0 0 0 0, .ptpPdelayExchange 0 none, .ptpAnnounce 0 0 0 0 [], .timeEventArm .pcie 0 0#32, .timeEventFire [], .sensorRound (List.replicate 120 .silent), .shutdownPersist 0].all Instr.wf = true := by decide +kernel

theorem smoke_wellFormed_2 : [(.runReqGo .pcie 0 : Instr), .recentre [] [], .fuseCmdCommit .pcie 0, .finishRevoke .pcie 0, .linkUp [], .linkDown 0, .ringFrameRx 0 (List.replicate 20 0#8) .ok false 0 0 false, .dupSourceRelease 0 0, .stateCopyDone 0 false, .diagTrip 0 0, .abdicatedRecovery 0, .parseFirstPass 0, .nodeCommit .pcie 0 false, .ruleCommit .pcie 0 false, .hitsClr .pcie 0, .execComplete 0, .execTimeout 0, .fragmentArrival 0, .batchTimeout 0, .deadListExpiry 0, .sqDoorbell 0 0 [] .ok, .cqHeadDoorbell 0 0 [] .ok, .faultClassify 0 [] none, .sumpAck .pcie 0, .inject .pcie 0, .scrubLine 0 0 .ok false, .scrubPass 0, .trainGo .pcie 0, .smbRegAddr 0 none, .ringTest .pcie 0, .tilebusTest .pcie 0, .sdramTest .pcie 0, .dacTest .pcie 0, .tcurrentTest .pcie 0, .opticalTest .pcie 0, .jtagExtest ⟨[], []⟩, .jtagSamplePreload ⟨[], []⟩, .jtagExtestPulse ⟨[], []⟩, .jtagExtestTrain ⟨[], []⟩, .pllRelock 1].all Instr.wf = true := by decide +kernel

theorem smoke_wellFormed_3 : [(.railBackInTolerance 0 : Instr), .checkerLock 0, .checkerLockLost 0].all Instr.wf = true := by decide +kernel

/-- The nine ASCII bytes of R81. -/
theorem test_crc_check_value : crcForce [0x31, 0x32, 0x33, 0x34, 0x35, 0x36, 0x37, 0x38, 0x39] 0xFFFFFFFF ^^^ 0xFFFFFFFF = 0xE3069283 := by decide +kernel

/-- A step of a state, and a test of what it leads to. -/
def after (s : State) (c : Instr) (p : State → Bool) : Bool := match step { s with pending := [c] } with | .next t => p t && t.pending.isEmpty | _ => false

theorem test_reset_off : State.reset.dev = .off := by decide

theorem test_nominal_tick : State.reset.timeInc = 1717986918400 := by decide +kernel

theorem test_poreset_boots : after State.reset (.poresetNRise 3) (fun t => t.dev == .boot && t.rd Reg.BOOT.BOOT_STATUS.BOOTMODE == 3) = true := by decide +kernel

theorem test_sysreset_keeps_off : after State.reset (.sysresetN []) (fun t => t.dev == .off) = true := by decide +kernel

theorem test_evt_raw_hardware_wins : after (base.wrW 0x3010 0xF) (.pgEvtRawClear .pcie 0x3000 0x3 0x1) (fun t => t.rdW 0x3010 == 0xD) = true := by decide +kernel

theorem test_lock_key : after base (.pgLockKey .pcie 0x7000 0x4F5A) (fun t => !t.flag (Reg.HDR.PG_LOCK.LOCKED 0x7000)) = true := by decide +kernel

theorem test_idcode_shifts_out : after base .jtagIdcode (fun t => t.out == [.idcode 0x051229AB]) = true := by decide +kernel

theorem test_shape_end_plays_new : after { base with drv := { base.drv with plays := [⟨fastKey 1 2, 0, 0x123, 0, 62⟩] } } (.shapeEnd 1 2) (fun t => t.rd (Reg.DRIVE.FAST_CODE.LIVE 1 2) == 0x123) = true := by decide +kernel

theorem test_unknown_tile_does_nothing : after base (.commitCodes .pcie 128) (fun t => t.regs == base.regs) = true := by decide +kernel

theorem test_idle_off_is_still : step State.reset = .next State.reset := by rfl


theorem witness_IdleStepTicksTime :
    (∃ s : State, s.pending = [] ∧ s.clkRun = true ∧ ∃ z : State, z.pending = [] ∧ z.clkRun = false) ∧
    ∃ (s : State) (r : RangeCh), s.Sound ∧ s.pending = [] ∧ s.clkRun = true ∧ s.rangeCh 5 = some r ∧ r.forced = false ∧ 380 ∈ tileElems 5 ∧ s.status 380 ≠ stOff ∧ s.status 380 ≠ stQuar :=
  ⟨⟨base, by decide +kernel, by decide +kernel, State.reset, by decide +kernel, by decide +kernel⟩, { (base.wr (Reg.ELEM.ELEM_STATUS.STATUS 380) stTrack) with drv := { base.drv with range := [⟨5, true, false, false, false⟩] } }, ⟨5, true, false, false, false⟩, sound_of (by decide +kernel), by decide +kernel, by decide +kernel, by decide +kernel, by decide +kernel, by decide +kernel, by decide +kernel, by decide +kernel⟩

theorem witness_StepKeepsWellFormed :
    ∃ s t : State, s.Wf ∧ step s = .next t ∧ s.pending ≠ [] :=
  ⟨{ base with pending := [.jtagTrst] }, _, ⟨sound_of (by decide +kernel), by decide +kernel⟩, rfl, by decide +kernel⟩

theorem witness_DevStateMovesAlongTransitions :
    ∃ (c : Instr) (s t : State), s.Sound ∧ exec c s = .next t ∧ (∀ m, c ≠ .poresetNRise m) ∧ (∀ b, c ≠ .powerOnReset b) ∧ (∀ b, c ≠ .sysresetN b) ∧
    (∀ r b, c ≠ .railExcursion r b) ∧ ∀ i b z, c ≠ .faultClassify i b z :=
  ⟨.jtagTrst, base, _, sound_of (by decide +kernel), rfl, nofun, nofun, nofun, nofun, nofun⟩

theorem witness_OffAndHaltAreLeftOnlyThroughReset :
    (∃ (c : Instr) (s t : State), s.Sound ∧ exec c s = .next t ∧ s.dev = .off ∧ t.dev ≠ .off) ∧ ∃ (c : Instr) (s t : State), s.Sound ∧ exec c s = .next t ∧ s.dev = .halt ∧ t.dev ≠ .halt :=
  ⟨⟨.poresetNRise 0, State.reset, _, sound_of (by decide +kernel), rfl, rfl, by decide +kernel⟩, .powerOnReset [], { base with dev := .halt }, _, sound_of (by decide +kernel), rfl, rfl, by decide +kernel⟩

theorem witness_ElementNumbering :
    (∃ eid, eid % 4864 < 4352 ∧ eid = 4864 + 4351) ∧ (∃ eid, 4352 ≤ eid % 4864 ∧ eid = 9727) ∧ (∃ s c, s < 17 ∧ c < 256 ∧ s = 16 ∧ c = 255) ∧ ∃ e, e < 512 ∧ e = 511 :=
  ⟨⟨_, by decide +kernel, rfl⟩, ⟨_, by decide +kernel, rfl⟩, ⟨_, _, by decide, by decide, rfl, rfl⟩, _, by decide, rfl⟩

theorem witness_CellTapNumbering :
    ∃ s w, s < 17 ∧ w < 512 ∧ s = 16 ∧ w = 511 :=
  ⟨_, _, by decide, by decide, rfl, rfl⟩

theorem witness_ImageBitmapGivesCells :
    ∃ (b : List Byte) (s : State) (p st c : Nat), b.length = 2048 ∧ p < 2 ∧ st < 17 ∧ c < 256 ∧ s.img.liveCells = (parseImage b).cells :=
  ⟨List.replicate 2048 255, { base with img := { base.img with liveCells := (parseImage (List.replicate 2048 255)).cells } }, 1, 16, 255, by decide +kernel, by decide, by decide, by decide, rfl⟩

theorem witness_CaptureLosesNothingUncounted :
    ∃ (s t : State) (r : Nat) (rec : List Byte), s.Sound ∧ r < 16 ∧ rec.length = 8 ∧ t = s.capOffer r rec false :=
  ⟨base, _, 15, syncRecord 5, sound_of (by decide +kernel), by decide, by decide +kernel, rfl⟩

theorem witness_ResetsLead :
    (∃ (s : State) (mode : Nat), s.Sound ∧ s.Calm ∧ s.dev = .off ∧ s.railOk 0 = true) ∧
    (∃ (s : State) (burnt : List (Nat × Byte)), s.Sound ∧ s.dev ≠ .off) :=
  ⟨⟨(let s := base; let s := s.wrW 0x2040 1; { s with dev := .off } : State), 2, sound_of (by decide +kernel), calm_of (by decide +kernel), by decide +kernel, by decide +kernel⟩,
   ⟨(let s := base; s : State), [], sound_of (by decide +kernel), by decide +kernel⟩⟩

theorem witness_BootPhasesLead :
    (∃ (s : State) (us : Nat), s.Sound ∧ s.Calm ∧ s.dev = .boot ∧ s.boot.pll = false ∧ s.boot.fuse = false) ∧
    (∃ (s : State), s.Sound ∧ s.Calm ∧ s.dev = .boot ∧ s.boot.pll = true ∧ s.boot.fuse = false ∧ s.boot.cold = false ∧ s.boot.self = false) ∧
    (∃ (s : State), s.Sound ∧ s.Calm ∧ s.dev = .boot ∧ s.boot.pll = true ∧ s.boot.fuse = false ∧ s.boot.cold = true ∧ s.boot.self = false) ∧
    (∃ (s : State) (failing : List Nat), s.Sound ∧ s.Calm ∧ s.dev = .boot ∧ s.boot.fuse = true ∧ s.boot.self = false ∧ s.boot.doms = false ∧ ((∀ b ∈ failing, 10 ≤ b))) ∧
    (∃ (s : State) (b : Nat), s.Sound ∧ s.Calm ∧ s.dev = .boot ∧ s.boot.fuse = true ∧ s.boot.self = false ∧ b < 10) ∧
    (∃ (s : State), s.Sound ∧ s.Calm ∧ s.dev = .boot ∧ s.boot.self = true ∧ s.boot.doms = false ∧ s.boot.cold = false ∧ s.flag Reg.BOOT.BOOT_STATUS.WAIT = true ∧ ((∀ d ∈ List.range 224, s.domOn d = true))) ∧
    (∃ (s : State) (res : List (Nat × Nat × Option Nat)) (time : Nat), s.Sound ∧ s.Calm ∧ s.dev = .hold ∧ s.flag (Reg.SDRAM.TRAIN_STATUS.BUSY 0) = true ∧ res.length = 4 ∧ ((∀ r ∈ res, r.2.2 = none))) ∧
    (∃ (s : State) (path : HostPath), s.Sound ∧ s.Calm ∧ s.Open 0x304C ∧ s.dev = .boot ∧ s.boot.pll = true ∧ s.boot.fuse = true ∧ s.boot.self = true ∧ s.boot.doms = true ∧ s.boot.cold = false) ∧
    (∃ (s : State), s.Sound ∧ s.Calm ∧ s.dev = .boot ∧ s.boot.doms = false) ∧
    (∃ (s : State), s.Sound ∧ s.Calm ∧ s.dev = .boot ∧ s.boot.doms = false) :=
  ⟨⟨(let s := base; { s with dev := .boot, boot := { s.boot with pll := false, fuse := false } } : State), 44, sound_of (by decide +kernel), calm_of (by decide +kernel), by decide +kernel, by decide +kernel, by decide +kernel⟩,
   ⟨(let s := base; { s with dev := .boot, boot := { s.boot with pll := true, fuse := false, cold := false, self := false } } : State), sound_of (by decide +kernel), calm_of (by decide +kernel), by decide +kernel, by decide +kernel, by decide +kernel, by decide +kernel, by decide +kernel⟩,
   ⟨(let s := base; { s with dev := .boot, boot := { s.boot with pll := true, fuse := false, cold := true, self := false } } : State), sound_of (by decide +kernel), calm_of (by decide +kernel), by decide +kernel, by decide +kernel, by decide +kernel, by decide +kernel, by decide +kernel⟩,
   ⟨(let s := base; let k := 1; let s := s.wr Reg.BOOT.BOOT_STATUS.BOOTMODE (1 + k % 2); { s with dev := .boot, boot := { s.boot with pll := true, fuse := true, self := false, doms := false } } : State), ([10, 12]), sound_of (by decide +kernel), calm_of (by decide +kernel), by decide +kernel, by decide +kernel, by decide +kernel, by decide +kernel, by decide +kernel⟩,
   ⟨(let s := base; { s with dev := .boot, boot := { s.boot with pll := true, fuse := true, self := false, doms := false } } : State), 9, sound_of (by decide +kernel), calm_of (by decide +kernel), by decide +kernel, by decide +kernel, by decide +kernel, by decide +kernel⟩,
   ⟨(let s := base; let s := s.put Reg.BOOT.BOOT_STATUS.WAIT true; { s with dev := .boot, boot := { s.boot with pll := true, fuse := true, self := true, doms := false, cold := false } } : State), sound_of (by decide +kernel), calm_of (by decide +kernel), by decide +kernel, by decide +kernel, by decide +kernel, by decide +kernel, by decide +kernel, by decide +kernel⟩,
   ⟨(let s := base; let s := s.put (Reg.SDRAM.TRAIN_STATUS.BUSY 0) true; { s with dev := .hold } : State), ([(1, 2, none), (2, 0, none), (3, 1, none), (5, 2, none)]), 99, sound_of (by decide +kernel), calm_of (by decide +kernel), by decide +kernel, by decide +kernel, by decide +kernel, by decide +kernel⟩,
   ⟨(let s := base; { s with dev := .boot, boot := { s.boot with pll := true, fuse := true, self := true, doms := true, cold := false } } : State), .pcie, sound_of (by decide +kernel), calm_of (by decide +kernel), open_of (by decide +kernel), by decide +kernel, by decide +kernel, by decide +kernel, by decide +kernel, by decide +kernel, by decide +kernel⟩,
   ⟨(let s := base; { s with dev := .boot, boot := { s.boot with doms := false } } : State), sound_of (by decide +kernel), calm_of (by decide +kernel), by decide +kernel, by decide +kernel⟩,
   ⟨(let s := base; { s with dev := .boot, boot := { s.boot with doms := false } } : State), sound_of (by decide +kernel), calm_of (by decide +kernel), by decide +kernel, by decide +kernel⟩⟩

theorem witness_ClocksAndRailsLead :
    (∃ (s : State) (k : Nat), s.Sound ∧ k < 4 ∧ bitOf (s.rd Reg.CLOCK.PLL_STATUS.LOCK) k = true) ∧
    (∃ (s : State) (k : Nat), s.Sound ∧ (1 ≤ k ∧ k < 4) ∧ s.dev ≠ .off ∧ bitOf (s.rd Reg.CLOCK.PLL_STATUS.LOCK) k = false) ∧
    (∃ (s : State) (r : Nat) (burnt : List (Nat × Byte)), s.Sound ∧ s.Calm ∧ (1 ≤ r ∧ r < 9) ∧ s.railOk r = true ∧ s.dev ≠ .off) ∧
    (∃ (s : State) (r : Nat) (burnt : List (Nat × Byte)), s.Sound ∧ s.Calm ∧ (r = 9 ∨ r = 10) ∧ s.railOk r = true ∧ s.dev ≠ .off) ∧
    (∃ (s : State) (burnt : List (Nat × Byte)), s.Sound ∧ s.railOk 0 = true) ∧
    (∃ (s : State) (r : Nat), s.Sound ∧ s.Calm ∧ r < 11 ∧ s.railOk r = false ∧ s.dev ≠ .off) :=
  ⟨⟨(let s := base; let s := s.wr ⟨0x1040, 0, 4⟩ 6; s : State), 2, sound_of (by decide +kernel), by decide +kernel, by decide +kernel⟩,
   ⟨(let s := base; let s := s.wr ⟨0x1040, 0, 4⟩ 6; s : State), 3, sound_of (by decide +kernel), by decide +kernel, by decide +kernel, by decide +kernel⟩,
   ⟨(let s := base; s.wr ⟨0x2040, 5, 1⟩ 1 : State), 5, [], sound_of (by decide +kernel), calm_of (by decide +kernel), by decide +kernel, by decide +kernel, by decide +kernel⟩,
   ⟨(let s := base; s.wr ⟨0x2040, 10, 1⟩ 1 : State), 10, [], sound_of (by decide +kernel), calm_of (by decide +kernel), by decide +kernel, by decide +kernel, by decide +kernel⟩,
   ⟨(let s := base; s.wr ⟨0x2040, 0, 1⟩ 1 : State), [], sound_of (by decide +kernel), by decide +kernel⟩,
   ⟨(let s := base; let s := s.wr ⟨0x2040, 7, 1⟩ 0; { s with drv := { s.drv with clamp := 3 } } : State), 7, sound_of (by decide +kernel), calm_of (by decide +kernel), by decide +kernel, by decide +kernel, by decide +kernel⟩⟩

theorem witness_PowerDomainsLead :
    (∃ (s : State) (path : HostPath) (pg d : Nat), s.Sound ∧ s.Calm ∧ isPage pg = true ∧ s.Open (pg + 0x2C) ∧ domOfPage pg = some d ∧ (s.domain d).pstate = 2 ∧ s.powerPermits d (path == .pcie || path == .opPcie) = true) ∧
    (∃ (s : State) (path : HostPath) (pg d : Nat), s.Sound ∧ s.Calm ∧ isPage pg = true ∧ s.Open (pg + 0x2C) ∧ domOfPage pg = some d ∧ (s.domain d).pstate = 2 ∧ 128 ≤ d ∧ s.powerPermits d (path == .pcie || path == .opPcie) = false) ∧
    (∃ (s : State) (path : HostPath) (pg d : Nat), s.Sound ∧ s.Calm ∧ isPage pg = true ∧ (s.dev ≠ .off ∧ s.boot.check = none) ∧ domOfPage pg = some d ∧ d < 224 ∧ (s.domain d).pstate = 0 ∧ s.poweringUp < 16 ∧ ((∀ e ∈ List.range 224, e ≠ d → (s.domain e).wait ≠ 1))) ∧
    (∃ (s : State) (d : Nat), s.Sound ∧ s.Calm ∧ d < 224 ∧ (s.domain d).pstate = 3 ∧ ((∀ e ∈ List.range 224, (s.domain e).wait ≠ 1))) ∧
    (∃ (s : State) (d : Nat), s.Sound ∧ s.Calm ∧ d < 224 ∧ (s.domain d).pstate = 1 ∧ (s.domain d).wait ≠ 2 ∧ ((∀ e ∈ List.range 224, e ≠ d → (s.domain e).wait ≠ 1))) :=
  ⟨⟨(let s := base; let s := (s.wr (Reg.HDR.PG_STATE.STATE 0xC0000) 4); { s with dev := .hold } : State), .pcie, 0xC0000, 128, sound_of (by decide +kernel), calm_of (by decide +kernel), by decide +kernel, open_of (by decide +kernel), by decide +kernel, by decide +kernel, by decide +kernel⟩,
   ⟨(let s := base; let s := (s.wr (Reg.HDR.PG_STATE.STATE 0xC0000) 2); { s with dev := .armed } : State), .smbus, 0xC0000, 128, sound_of (by decide +kernel), calm_of (by decide +kernel), by decide +kernel, open_of (by decide +kernel), by decide +kernel, by decide +kernel, by decide +kernel, by decide +kernel⟩,
   ⟨(let s := base; s.setDomain 128 ⟨0, true, false, 0, false⟩ : State), .pcie, 0xC0000, 128, sound_of (by decide +kernel), calm_of (by decide +kernel), by decide +kernel, by decide +kernel, by decide +kernel, by decide +kernel, by decide +kernel, by decide +kernel, by decide +kernel⟩,
   ⟨(let s := base; s.setDomain 129 ⟨3, true, false, 0, false⟩ : State), 129, sound_of (by decide +kernel), calm_of (by decide +kernel), by decide +kernel, by decide +kernel, by decide +kernel⟩,
   ⟨(let s := base; s.setDomain 129 ⟨1, true, false, 0, false⟩ : State), 129, sound_of (by decide +kernel), calm_of (by decide +kernel), by decide +kernel, by decide +kernel, by decide +kernel, by decide +kernel⟩⟩

theorem witness_CommissioningLeads :
    (∃ (s : State) (path : HostPath), s.Sound ∧ s.Calm ∧ s.Open 0x3054 ∧ s.dev = .hold) ∧
    (∃ (s : State), s.Sound ∧ s.Calm ∧ s.dev = .hold ∧ s.boot.check = some []) ∧
    (∃ (s : State) (a : Nat × Nat) (l : List (Nat × Nat)), s.Sound ∧ s.Calm ∧ s.dev = .hold ∧ s.boot.check = some (a :: l)) ∧
    (∃ (s : State), s.up < s.boot.readyAt + 100 * ns) ∧
    (∃ (s : State), s.boot.readyAt + 100 * ns ≤ s.up) :=
  ⟨⟨(let s := base; { s with dev := .hold } : State), .pcie, sound_of (by decide +kernel), calm_of (by decide +kernel), open_of (by decide +kernel), by decide +kernel⟩,
   ⟨(let s := base; { s with dev := .hold, boot := { s.boot with check := some [] } } : State), sound_of (by decide +kernel), calm_of (by decide +kernel), by decide +kernel, by decide +kernel⟩,
   ⟨(let s := base; { s with dev := .hold, boot := { s.boot with check := some [(7, 99), (8, 5)] } } : State), ((7, 99)), ([(8, 5)]), sound_of (by decide +kernel), calm_of (by decide +kernel), by decide +kernel, by decide +kernel⟩,
   ⟨(let s := base; { s with dev := .armed, boot := { s.boot with readyLow := true, readyAt := s.up } } : State), by decide +kernel⟩,
   ⟨(let s := base; let s : State := { s with mon := { s.mon with clock := 10 ^ 9 } }; { s with dev := .armed, boot := { s.boot with readyLow := true, readyAt := 5 } } : State), by decide +kernel⟩⟩

theorem witness_PageControlLeads :
    (∃ (s : State) (path : HostPath) (pg : Nat) (p : PageInfo) (abort : Bool), s.Sound ∧ s.Calm ∧ isPage pg = true ∧ s.Open (pg + 8) ∧ pageOf pg = some p ∧ ctrlCounted p.type = false ∧ ctrlIdle p.type = false ∧ p.enActs = true ∧ (p.type ∈ [0x14, 0x22] ∨ abort = false ∧ p.type ∈ [0xC, 0xF, 0x10, 0x12]) ∧ s.flag (Reg.HDR.PG_CTRL.ENABLE pg) = true ∧ s.rd (Reg.HDR.PG_STATE.STATE pg) = 2) ∧
    (∃ (s : State) (path : HostPath) (pg : Nat) (p : PageInfo), s.Sound ∧ s.Calm ∧ isPage pg = true ∧ s.Open (pg + 8) ∧ pageOf pg = some p ∧ ctrlCounted p.type = false ∧ ctrlIdle p.type = false ∧ p.enActs = true ∧ s.rd (Reg.HDR.PG_STATE.STATE pg) = 4 ∧ s.flag (Reg.HDR.PG_CTRL.ENABLE pg) = false) ∧
    (∃ (s : State) (path : HostPath) (pg : Nat) (p : PageInfo), s.Sound ∧ s.Calm ∧ isPage pg = true ∧ s.Open (pg + 8) ∧ pageOf pg = some p ∧ ctrlCounted p.type = false ∧ ctrlIdle p.type = false ∧ p.type = 0x22 ∧ p.enActs = true ∧ s.rd (Reg.HDR.PG_STATE.STATE pg) ≠ 5) ∧
    (∃ (s : State) (pg : Nat) (p : PageInfo), s.Sound ∧ s.Calm ∧ pageOf pg = some p ∧ isPage pg = true ∧ pageBase pg = pg ∧ s.pageOn pg = true ∧ p.enActs = true ∧ s.rd (Reg.HDR.PG_STATE.STATE pg) = 3 ∧ s.pageDrained p (pageInst p pg) = true ∧ p.type ≠ 0x13 ∧ s.enHeld.contains pg = false) ∧
    (∃ (s : State) (pg : Nat) (p : PageInfo), s.Sound ∧ s.Calm ∧ pageOf pg = some p ∧ isPage pg = true ∧ pageBase pg = pg ∧ s.pageOn pg = true ∧ p.enActs = true ∧ s.rd (Reg.HDR.PG_STATE.STATE pg) = 3 ∧ s.pageDrained p (pageInst p pg) = true ∧ p.type ≠ 0x13 ∧ s.enHeld.contains pg = true) ∧
    (∃ (s : State) (pg : Nat) (p : PageInfo), s.Sound ∧ s.Calm ∧ pageOf pg = some p ∧ isPage pg = true ∧ pageBase pg = pg ∧ s.pageOn pg = true ∧ p.enActs = true ∧ s.rd (Reg.HDR.PG_STATE.STATE pg) = 1 ∧ p.type ≠ 0x20 ∧ p.type ≠ 0x22 ∧ s.flag (Reg.HDR.PG_CTRL.ENABLE pg) = true) :=
  ⟨⟨(let s := base; let s := (s.wr (Reg.HDR.PG_STATE.STATE 0xC5000) 2).put (Reg.HDR.PG_CTRL.ENABLE 0xC5000) true; s : State), .pcie, 0xC5000, ((pageOf 0xC5000).get (by decide)), true, sound_of (by decide +kernel), calm_of (by decide +kernel), by decide +kernel, open_of (by decide +kernel), rfl, by decide +kernel, by decide +kernel, by decide +kernel, by decide +kernel, by decide +kernel, by decide +kernel⟩,
   ⟨(let s := base; let s := (s.wr (Reg.HDR.PG_STATE.STATE 0xC5000) 4).put (Reg.HDR.PG_CTRL.ENABLE 0xC5000) false; s : State), .pcie, 0xC5000, ((pageOf 0xC5000).get (by decide)), sound_of (by decide +kernel), calm_of (by decide +kernel), by decide +kernel, open_of (by decide +kernel), rfl, by decide +kernel, by decide +kernel, by decide +kernel, by decide +kernel, by decide +kernel⟩,
   ⟨(let s := base; let s := (s.wr (Reg.HDR.PG_STATE.STATE 0xC5000) 2).put (Reg.HDR.PG_CTRL.ENABLE 0xC5000) true; (s.wrW 0xC5040 7).wrW 0xC5104 9 : State), .pcie, 0xC5000, ((pageOf 0xC5000).get (by decide)), sound_of (by decide +kernel), calm_of (by decide +kernel), by decide +kernel, open_of (by decide +kernel), rfl, by decide +kernel, by decide +kernel, by decide +kernel, by decide +kernel, by decide +kernel⟩,
   ⟨(let s := base; let s := (s.wr (Reg.HDR.PG_STATE.STATE 0xC5000) 3).put (Reg.HDR.PG_CTRL.ENABLE 0xC5000) false; let s := (List.range 8).foldl (fun s u => s.put (Reg.MONITOR.CONV_STATUS.RUNNING 5 u) false) s; s : State), 0xC5000, ((pageOf 0xC5000).get (by decide)), sound_of (by decide +kernel), calm_of (by decide +kernel), rfl, by decide +kernel, by decide +kernel, by decide +kernel, by decide +kernel, by decide +kernel, by decide +kernel, by decide +kernel, by decide +kernel⟩,
   ⟨(let s := base; let s := (s.wr (Reg.HDR.PG_STATE.STATE 0xC5000) 3).put (Reg.HDR.PG_CTRL.ENABLE 0xC5000) false; let s := (List.range 8).foldl (fun s u => s.put (Reg.MONITOR.CONV_STATUS.RUNNING 5 u) false) s; { s with enHeld := [0x9000, 0xC5000] } : State), 0xC5000, ((pageOf 0xC5000).get (by decide)), sound_of (by decide +kernel), calm_of (by decide +kernel), rfl, by decide +kernel, by decide +kernel, by decide +kernel, by decide +kernel, by decide +kernel, by decide +kernel, by decide +kernel, by decide +kernel⟩,
   ⟨(let s := base; let s := (s.wr (Reg.HDR.PG_STATE.STATE 0xE000) 1).put (Reg.HDR.PG_CTRL.ENABLE 0xE000) true; s : State), 0xE000, ((pageOf 0xE000).get (by decide)), sound_of (by decide +kernel), calm_of (by decide +kernel), rfl, by decide +kernel, by decide +kernel, by decide +kernel, by decide +kernel, by decide +kernel, by decide +kernel, by decide +kernel, by decide +kernel⟩⟩

theorem witness_PageEventsLead :
    (∃ (s : State) (path : HostPath) (pg : Nat) (w set : Word), s.Sound ∧ isPage pg = true ∧ s.Open (pg + 0x10)) ∧
    (∃ (s : State) (path : HostPath) (pg : Nat) (w : Word), s.Sound ∧ isPage pg = true ∧ s.Open (pg + 0x14)) ∧
    (∃ (s : State) (path : HostPath) (pg : Nat) (w : Word), s.Sound ∧ isPage pg = true ∧ s.Open (pg + 0x1C)) ∧
    (∃ (s : State) (path : HostPath) (pg : Nat), s.Sound ∧ isPage pg = true ∧ s.Open (pg + 0x20)) :=
  ⟨⟨(let s := base; s : State), .pcie, 0x9000, 0xF0F0F0F0, 0xC0000033, sound_of (by decide +kernel), by decide +kernel, open_of (by decide +kernel)⟩,
   ⟨(let s := base; s : State), .pcie, 0x9000, 0xF0F0F0F0, sound_of (by decide +kernel), by decide +kernel, open_of (by decide +kernel)⟩,
   ⟨(let s := base; s : State), .pcie, 0x9000, 0xF0F0F0F0, sound_of (by decide +kernel), by decide +kernel, open_of (by decide +kernel)⟩,
   ⟨(let s := base; s.wr (Reg.HDR.PG_ERRCNT.COUNT 0x9000) 5 : State), .pcie, 0x9000, sound_of (by decide +kernel), by decide +kernel, open_of (by decide +kernel)⟩⟩

theorem witness_LocksAndWritesLead :
    (∃ (s : State) (path : HostPath) (pg key : Nat) (p : PageInfo), s.Sound ∧ s.Calm ∧ isPage pg = true ∧ s.Open (pg + 0x24) ∧ pageOf pg = some p ∧ p.lock = true ∧ key % 2 ^ 16 = 0x4F5A) ∧
    (∃ (s : State) (path : HostPath) (pg key : Nat) (p : PageInfo), s.Sound ∧ s.Calm ∧ isPage pg = true ∧ s.Open (pg + 0x24) ∧ pageOf pg = some p ∧ p.lock = true ∧ key % 2 ^ 16 = 0) ∧
    (∃ (s : State) (path : HostPath) (pg key : Nat) (p : PageInfo), s.Sound ∧ s.Calm ∧ isPage pg = true ∧ s.Open (pg + 0x24) ∧ pageOf pg = some p ∧ p.lock = true ∧ key % 2 ^ 16 ≠ 0x4F5A ∧ key % 2 ^ 16 ≠ 0) ∧
    (∃ (s : State) (path : HostPath) (pg rel : Nat) (p : PageInfo) (l : List (Nat × Nat)), s.Sound ∧ isPage pg = true ∧ s.Open (pg + rel) ∧ pageOf pg = some p ∧ clearRanges p.type rel = some l ∧ p.type ∉ [6, 8, 0x10, 0x15, 0x20]) ∧
    (∃ (s : State) (path : HostPath) (off n : Nat), s.Sound ∧ quantAt off = some (off, n, 0) ∧ off % 4 = 0 ∧ s.dev ≠ .off ∧ off < 0x1000000 ∧ off ≠ 0x80D0) ∧
    (∃ (s : State) (path : HostPath) (k : Nat) (lo w : Word), s.Sound ∧ s.Calm ∧ k < 8 ∧ s.dev ≠ .off ∧ s.boot.check = none ∧ s.pageOn 0xE000 = true ∧ s.heldWord path (0xE200 + 0x20 * k) = some lo) ∧
    (∃ (s : State) (path : HostPath) (w : Word), s.Sound ∧ s.Calm ∧ s.dev ≠ .off ∧ s.pageOn 0x3000 = true) ∧
    (∃ (s : State) (path : HostPath) (off : Nat) (w : Word), s.Sound ∧ s.Calm ∧ s.dev ≠ .off ∧ 0x1000 ≤ off ∧ off < 0x1000000 ∧ (pageOf off).isSome = true) ∧
    (∃ (s : State) (path : HostPath) (off lo len : Nat) (w : Word) (p : PageInfo) (a : Acc) (rg : Option (Nat × Nat)), s.Sound ∧ s.Calm ∧ s.Open off ∧ off < 0x1000000 ∧ off % 4 = 0 ∧ pageOf off = some p ∧ 0x40 ≤ off - pageBase off ∧ quantAt off = none ∧ State.special s.start path p (pageBase off) (off - pageBase off) w = none ∧ ((fieldsAt off).map (fun r => (r.1.fld.lo, r.1.fld.len, r.1.acc, r.1.range)) = [(lo, len, a, rg)]) ∧ (a = .rw ∨ a = .rws)) ∧
    (∃ (s : State) (path : HostPath) (a b w : Word), s.Sound ∧ s.Calm ∧ s.Open 0x8060 ∧ s.heldWord path 0x8058 = some a ∧ s.heldWord path 0x805C = some b) :=
  ⟨⟨(let s := base; s.put (Reg.HDR.PG_LOCK.LOCKED 0x18000) true : State), .pcie, 0x18000, 0x14F5A, ((pageOf 0x18000).get (by decide)), sound_of (by decide +kernel), calm_of (by decide +kernel), by decide +kernel, open_of (by decide +kernel), rfl, by decide +kernel, by decide +kernel⟩,
   ⟨(let s := base; s.put (Reg.HDR.PG_LOCK.LOCKED 0x18000) false : State), .pcie, 0x18000, 0x10000, ((pageOf 0x18000).get (by decide)), sound_of (by decide +kernel), calm_of (by decide +kernel), by decide +kernel, open_of (by decide +kernel), rfl, by decide +kernel, by decide +kernel⟩,
   ⟨(let s := base; let k := 1; s.put (Reg.HDR.PG_LOCK.LOCKED 0x18000) (decide (k = 1)) : State), .pcie, 0x18000, 7, ((pageOf 0x18000).get (by decide)), sound_of (by decide +kernel), calm_of (by decide +kernel), by decide +kernel, open_of (by decide +kernel), rfl, by decide +kernel, by decide +kernel, by decide +kernel⟩,
   ⟨(let s := base; s.wrW 0x9104 5 : State), .pcie, 0x9000, 0x128, ((pageOf 0x9000).get (by decide)), ([(0x100, 0x28)]), sound_of (by decide +kernel), by decide +kernel, open_of (by decide +kernel), rfl, by decide +kernel, by decide +kernel⟩,
   ⟨(let s := base; s : State), .smbus, 0x8058, 3, sound_of (by decide +kernel), by decide +kernel, by decide +kernel, by decide +kernel, by decide +kernel, by decide +kernel⟩,
   ⟨(let s := base; { s with heldW := [(2 ^ 24 + 0xE260, 0x12345679)] } : State), .smbus, 3, 0x12345678, 0x9ABC, sound_of (by decide +kernel), calm_of (by decide +kernel), by decide +kernel, by decide +kernel, by decide +kernel, by decide +kernel, by decide +kernel⟩,
   ⟨(let s := base; s : State), .pcie, 0x77665544, sound_of (by decide +kernel), calm_of (by decide +kernel), by decide +kernel, by decide +kernel⟩,
   ⟨(let s := base; s : State), .pcie, 0x9044, 1, sound_of (by decide +kernel), calm_of (by decide +kernel), by decide +kernel, by decide +kernel, by decide +kernel, by decide +kernel⟩,
   ⟨(let s := base; s : State), .pcie, 0xB044, 0, 16, 0x12345678, ((pageOf 0xB044).get (by decide)), .rw, none, sound_of (by decide +kernel), calm_of (by decide +kernel), open_of (by decide +kernel), by decide +kernel, by decide +kernel, rfl, by decide +kernel, by decide +kernel, by decide +kernel, by decide +kernel, by decide +kernel⟩,
   ⟨(let s := base; { s with heldW := [(2 ^ 24 + 0x8058, 2 ^ 32), (2 ^ 24 + 0x805C, 0x1234ABCE)] } : State), .smbus, 0xFFFFFFFF, 0x1234ABCD, 0xFFFF0007, sound_of (by decide +kernel), calm_of (by decide +kernel), open_of (by decide +kernel), by decide +kernel, by decide +kernel⟩⟩

theorem witness_ImageSlotsLead :
    (∃ (s : State) (path : HostPath) (n i : Nat) (w : Word), s.Sound ∧ n < 512 ∧ i < 512 ∧ s.Open (0x400000 + 0x800 * n + 4 * i) ∧ s.slotInUse n = false) ∧
    (∃ (s : State) (path : HostPath) (n : Nat), s.Sound ∧ s.Open 0x9404 ∧ s.flag Reg.GANTRY.SLOT_CHECK_STATUS.BUSY = false) ∧
    (∃ (s : State) (n : Nat), s.Sound ∧ s.img.checking = some n ∧ n < 512 ∧ imageCheck (s.slotBytes n) ≠ 0) ∧
    (∃ (s : State) (n : Nat), s.Sound ∧ s.img.checking = some n ∧ n < 512 ∧ imageCheck (s.slotBytes n) = 0) ∧
    (∃ (s : State) (addr : Nat), s.sdOnline = true) :=
  ⟨⟨(let s := base; s.wr ⟨(Reg.GANTRY.SLOT_VALID.VALID 10).off, 13, 1⟩ 1 : State), .pcie, 333, 17, 7, sound_of (by decide +kernel), by decide +kernel, by decide +kernel, open_of (by decide +kernel), by decide +kernel⟩,
   ⟨(let s := base; s.put Reg.GANTRY.SLOT_CHECK_STATUS.BUSY false : State), .pcie, 700, sound_of (by decide +kernel), open_of (by decide +kernel), by decide +kernel⟩,
   ⟨(let s := base; { s with img := { s.img with checking := some 3 } } : State), 3, sound_of (by decide +kernel), by decide +kernel, by decide +kernel, by decide +kernel⟩,
   ⟨(let s := base; let s := s.wrW 0x401800 0x15A50; let s := s.wrW 0x401FFC 1729327314; { s with img := { s.img with checking := some 3 } } : State), 3, sound_of (by decide +kernel), by decide +kernel, by decide +kernel, imageCheck_of (by decide +kernel) (by decide +kernel) (by decide +kernel) (by decide +kernel) (by decide +kernel) (by decide +kernel) (by decide +kernel)⟩,
   ⟨(let s := base; let s := withSdram s; { s with img := { s.img with prefetch := [⟨2048, false, false, none⟩, ⟨4096, true, false, none⟩] } } : State), 4096, by decide +kernel⟩⟩

theorem witness_StagingLeads :
    (∃ (s : State) (errs corrs : List Nat) (f : NextFix), s.img.next = some f ∧ f.held = false ∧ s.img.staged = none ∧ s.plumb.swapFix = false) ∧
    (∃ (s : State) (g : Staged), s.Sound ∧ s.img.staged = some g ∧ g.complete = false) ∧
    (∃ (s : State) (g : Staged), s.img.staged = some g ∧ g.armed = false ∧ g.complete = true) ∧
    (∃ (s : State) (g : Staged), s.Sound ∧ s.img.staged = some g ∧ g.armed = false ∧ g.complete = false ∧ g.marks = []) :=
  ⟨⟨(let s := base; { s with img := { s.img with next := some ⟨.slot 3, ⟨0, 5, 11, List.replicate 1024 3, [], []⟩, false, [], false, []⟩ } } : State), ([3, 99]), [4], (⟨.slot 3, ⟨0, 5, 11, List.replicate 1024 3, [], []⟩, false, [], false, []⟩), by decide +kernel, by decide +kernel, by decide +kernel, by decide +kernel⟩,
   ⟨(let s := base; let s := { s with mon := { s.mon with clock := 3000000 } }; { s with img := { s.img with staged := some ⟨5, [], [], [1], [], [2], [], 3, [], [], 1000000, false, false⟩ } } : State), (⟨5, [], [], [1], [], [2], [], 3, [], [], 1000000, false, false⟩), sound_of (by decide +kernel), by decide +kernel, by decide +kernel⟩,
   ⟨(let s := base; { s with img := { s.img with staged := some ⟨5, [], [], [1], [], [2], [], 3, [], [], 1000000, true, false⟩ } } : State), (⟨5, [], [], [1], [], [2], [], 3, [], [], 1000000, true, false⟩), by decide +kernel, by decide +kernel, by decide +kernel⟩,
   ⟨(let s := base; { s with img := { s.img with staged := some ⟨5, [], [], [1], [], [2], [], 3, [], [], 1000000, false, false⟩ } } : State), (⟨5, [], [], [1], [], [2], [], 3, [], [], 1000000, false, false⟩), sound_of (by decide +kernel), by decide +kernel, by decide +kernel, by decide +kernel, by decide +kernel⟩⟩

theorem witness_BenchesAndStrobesLead :
    (∃ (s : State) (T i : Nat), s.Calm ∧ s.gan.nextT = some T ∧ s.gan.fixed = none ∧ s.gstate = 1 ∧ s.gan.first = (false, i) ∧ s.gan.live = none ∧ s.gan.jump = none ∧ s.gan.ended = false ∧ s.gan.resync = none ∧ s.gan.resyncT = false) ∧
    (∃ (s : State) (T : Nat) (b : Bench), s.Sound ∧ s.Calm ∧ s.gan.nextT = some T ∧ s.gan.fixed = some b ∧ s.gstate = 2 ∧ s.img.staged = none ∧ s.plumb.swapFix = false ∧ s.gan.ep = none ∧ s.gan.stop = false ∧ s.gan.resync = none ∧ s.gan.resyncT = false ∧ s.gan.period = []) ∧
    (∃ (s : State) (T : Nat) (b : Bench) (g : Staged) (f : NextFix), s.Sound ∧ s.Calm ∧ s.gan.nextT = some T ∧ s.gan.fixed = some b ∧ s.gstate = 2 ∧ s.img.staged = some g ∧ g.armed = true ∧ s.img.next = some f ∧ s.plumb.swapFix = false ∧ s.gan.ep = none ∧ s.gan.stop = false ∧ s.gan.resync = none ∧ s.gan.resyncT = false ∧ s.gan.period = [] ∧ (s.dev = .armed ∨ s.dev = .run)) ∧
    (∃ (s : State) (g τ k shape : Nat), s.Sound ∧ τ < 128 ∧ k < 76 ∧ s.img.groups.contains g = true ∧ s.settling 1 τ = false ∧ s.img.firing = [(htrKey τ k, shape)] ∧ s.rd (groupFld 1 τ k) = g ∧ s.flag (markFld 1 τ k) = true) ∧
    (∃ (s : State) (g : Nat), s.img.groups.contains g = false) ∧
    (∃ (s : State) (τ k : Nat) (p : Play), s.Sound ∧ τ < 128 ∧ k < 76 ∧ s.settling 0 τ = false ∧ (s.drv.plays.find? (fun q => q.key == fastKey τ k) = some p)) ∧
    (∃ (s : State) (e : Nat), s.Sound ∧ e < numElem ∧ s.status e = stHold ∧ s.reason e = whyHoldoff ∧ s.img.live = none ∧ s.clusterRun (clusterOf e) = true ∧ s.playing (tileOf e) (chanOf e) = false ∧ s.marked e = false) ∧
    (∃ (s : State) (e : Nat), s.playing (tileOf e) (chanOf e) = true) ∧
    (∃ (s : State) (m : Image) (e : Nat), s.Sound ∧ s.img.live = some m ∧ s.img.release = [e] ∧ e < 512 ∧ s.awaits (shutEid 0 e) = true ∧ s.awaits (shutEid 1 e) = true ∧ s.status (shutEid 0 e) ≠ stQuar ∧ s.status (shutEid 1 e) ≠ stQuar ∧ s.tileMode (tileOf (shutEid 0 e)) ≠ 0 ∧ s.tileMode (tileOf (shutEid 1 e)) ≠ 0) :=
  ⟨⟨(let s := base; let s := s.wr Reg.GANTRY.STATE.GSTATE 1; { s with gan := { s.gan with nextT := some (10 ^ 9), fixed := none, first := (false, 3) } } : State), (10 ^ 9), 3, calm_of (by decide +kernel), by decide +kernel, by decide +kernel, by decide +kernel, by decide +kernel, by decide +kernel, by decide +kernel, by decide +kernel, by decide +kernel, by decide +kernel⟩,
   ⟨(let s := base; let s := s.wr Reg.GANTRY.STATE.GSTATE 2; { s with gan := { s.gan with nextT := some (10 ^ 9), fixed := some ⟨false, 3, 0xFFFF, 0xFFFF, 1000, 0, 7, 0, 5⟩ } } : State), (10 ^ 9), (⟨false, 3, 0xFFFF, 0xFFFF, 1000, 0, 7, 0, 5⟩), sound_of (by decide +kernel), calm_of (by decide +kernel), by decide +kernel, by decide +kernel, by decide +kernel, by decide +kernel, by decide +kernel, by decide +kernel, by decide +kernel, by decide +kernel, by decide +kernel, by decide +kernel⟩,
   ⟨(let s := base; let s := s.wr Reg.GANTRY.STATE.GSTATE 2; { s with dev := .armed, img := { s.img with staged := some ⟨5, [], [], [1], [], [2], [], 3, [], [], 1000000, true, true⟩, next := some ⟨.slot 3, ⟨0, 5, 11, List.replicate 1024 3, [], []⟩, false, [], false, []⟩ }, gan := { s.gan with nextT := some (10 ^ 9), fixed := some ⟨false, 3, 0xFFFF, 0xFFFF, 1000, 0, 7, 0, 5⟩ } } : State), (10 ^ 9), (⟨false, 3, 0xFFFF, 0xFFFF, 1000, 0, 7, 0, 5⟩), (⟨5, [], [], [1], [], [2], [], 3, [], [], 1000000, true, true⟩), (⟨.slot 3, ⟨0, 5, 11, List.replicate 1024 3, [], []⟩, false, [], false, []⟩), sound_of (by decide +kernel), calm_of (by decide +kernel), by decide +kernel, by decide +kernel, by decide +kernel, by decide +kernel, by decide +kernel, by decide +kernel, by decide +kernel, by decide +kernel, by decide +kernel, by decide +kernel, by decide +kernel, by decide +kernel, by decide +kernel⟩,
   ⟨(let s := base; let s := (s.wr (groupFld 1 7 75) 5).put (markFld 1 7 75) true; { s with img := { s.img with firing := [(htrKey 7 75, 1)], groups := [5, 6] } } : State), 5, 7, 75, 1, sound_of (by decide +kernel), by decide +kernel, by decide +kernel, by decide +kernel, by decide +kernel, by decide +kernel, by decide +kernel, by decide +kernel⟩,
   ⟨(let s := base; s : State), 3, by decide +kernel⟩,
   ⟨(let s := base; { s with drv := { s.drv with plays := [⟨fastKey 7 75, 1, 0x1234, 1, 2⟩, ⟨fastKey 7 74, 1, 0x1234, 1, 2⟩] } } : State), 7, 75, (⟨fastKey 7 75, 1, 0x1234, 1, 2⟩), sound_of (by decide +kernel), by decide +kernel, by decide +kernel, by decide +kernel, by decide +kernel⟩,
   ⟨(let s := base; let k := 1; let s := ((s.wr (Reg.ELEM.ELEM_STATUS.STATUS 4400) stHold).wr (Reg.ELEM.ELEM_STATUS.REASON 4400) whyHoldoff); let s := [0, 1, 2, 3].foldl (fun s k => s.wr (Reg.HDR.PG_STATE.STATE (bramPg k)) 2) s; { s with now := 12345 } : State), 4400, sound_of (by decide +kernel), by decide +kernel, by decide +kernel, by decide +kernel, by decide +kernel, by decide +kernel, by decide +kernel, by decide +kernel⟩,
   ⟨(let s := base; { s with drv := { s.drv with plays := [⟨fastKey (tileOf 4400) (chanOf 4400), 1, 2, 1, 2⟩] } } : State), 4400, by decide +kernel⟩,
   ⟨(let s := base; let e : Nat := 77; let s := [shutEid 0 77, shutEid 1 77].foldl (fun s e => (s.wr (Reg.ELEM.ELEM_STATUS.STATUS e) 3).wr (Reg.DRIVE.TILE_STATUS.MODE (tileOf e)) 2) s; { s with img := { s.img with live := some ⟨0, 5, 11, List.replicate 1024 3, [], []⟩, release := [77] } } : State), (⟨0, 5, 11, List.replicate 1024 3, [], []⟩), 77, sound_of (by decide +kernel), by decide +kernel, by decide +kernel, by decide +kernel, by decide +kernel, by decide +kernel, by decide +kernel, by decide +kernel, by decide +kernel, by decide +kernel⟩⟩

theorem witness_SeamLeads :
    (∃ (s : State) (path : HostPath), s.Sound ∧ s.Open 0xB058 ∧ s.seam.fetch = none) ∧
    (∃ (s : State) (a d : Nat), s.Sound ∧ s.Calm ∧ s.seam.fetch = some (a, d) ∧ s.sdOnline = true ∧ a + 1088 ≤ s.sdSize ∧ s.seamOpen = true ∧ s.seam.queue.length < 64 ∧ solveFault (s.sdBytes a 1088) = none ∧ firstDup (resolvePerm (parseSolve (s.sdBytes a 1088) (.reg d)).perm (match s.baseImage (parseSolve (s.sdBytes a 1088) (.reg d)).base with | some m => m.assignment | none => [])) 0 [] = none ∧ s.slotPending (parseSolve (s.sdBytes a 1088) (.reg d)).target = false) ∧
    (∃ (s : State) (lane a : Nat) (l : LaneSt), s.Sound ∧ ({ s with seam := { s.seam with lanes := [] } } : State).Calm ∧ s.seam.lanes = [l] ∧ l.lane = lane ∧ lane < 4 ∧ l.out.code = 0 ∧ l.req.target = 0xFFFF ∧ l.req.paths = 0 ∧ l.req.dest = .reg a ∧ s.sdOnline = true ∧ a + 64 ≤ s.sdSize) ∧
    (∃ (s : State) (lane a : Nat) (l : LaneSt), s.Sound ∧ ({ s with seam := { s.seam with lanes := [] } } : State).Calm ∧ s.seam.lanes = [l] ∧ l.lane = lane ∧ lane < 4 ∧ l.start + 200000 * ns ≤ s.up ∧ l.req.dest = .reg a ∧ s.sdOnline = true ∧ a + 64 ≤ s.sdSize) :=
  ⟨⟨(let s := base; s : State), .pcie, sound_of (by decide +kernel), open_of (by decide +kernel), by decide +kernel⟩,
   ⟨seamState, 8192, 4096, seamState_sound, calm_of (by decide +kernel), by decide +kernel, by decide +kernel, by decide +kernel, by decide +kernel, by decide +kernel, (by rw [seamState_bytes]; exact seamDesc_fault), seamState_dup, seamState_slot⟩,
   ⟨(let s := base; let s := (((withSdram s).wr (Reg.SDRAM.GEOMETRY.CAP_GIB 0) 16).wr (Reg.SDRAM.GEOMETRY.CAP_GIB 1) 16); let s := ((s.wr (Reg.SDRAM.GEOMETRY.CAP_GIB 2) 16).wr (Reg.SDRAM.GEOMETRY.CAP_GIB 3) 16); { s with seam := { s.seam with lanes := [⟨2, ⟨0xABCD, 0, 0xFFFF, 0xFFFF, false, true, 5, 6, 0, 0, [], .reg 4096⟩, 1000, ⟨0, 0, false, false, 3, 4, 5, 6, 7, 9, [], [], 0, true⟩, 0, false, false⟩] }, now := 10 ^ 9 } : State), 2, 4096, (⟨2, ⟨0xABCD, 0, 0xFFFF, 0xFFFF, false, true, 5, 6, 0, 0, [], .reg 4096⟩, 1000, ⟨0, 0, false, false, 3, 4, 5, 6, 7, 9, [], [], 0, true⟩, 0, false, false⟩), sound_of (by decide +kernel), calm_of (by decide +kernel), by decide +kernel, by decide +kernel, by decide +kernel, by decide +kernel, by decide +kernel, by decide +kernel, by decide +kernel, by decide +kernel, by decide +kernel⟩,
   ⟨(let s := base; let s := (((withSdram s).wr (Reg.SDRAM.GEOMETRY.CAP_GIB 0) 16).wr (Reg.SDRAM.GEOMETRY.CAP_GIB 1) 16); let s := ((s.wr (Reg.SDRAM.GEOMETRY.CAP_GIB 2) 16).wr (Reg.SDRAM.GEOMETRY.CAP_GIB 3) 16); { s with seam := { s.seam with lanes := [⟨2, ⟨0xABCD, 0, 0xFFFF, 0xFFFF, false, true, 5, 6, 0, 0, [], .reg 4096⟩, 1000, ⟨0, 0, false, false, 3, 4, 5, 6, 7, 9, [], [], 0, true⟩, 0, false, false⟩] }, now := 10 ^ 9, mon := { s.mon with clock := 10 ^ 6 } } : State), 2, 4096, (⟨2, ⟨0xABCD, 0, 0xFFFF, 0xFFFF, false, true, 5, 6, 0, 0, [], .reg 4096⟩, 1000, ⟨0, 0, false, false, 3, 4, 5, 6, 7, 9, [], [], 0, true⟩, 0, false, false⟩), sound_of (by decide +kernel), calm_of (by decide +kernel), by decide +kernel, by decide +kernel, by decide +kernel, by decide +kernel, by decide +kernel, by decide +kernel, by decide +kernel⟩⟩

theorem witness_TileModesLead :
    (∃ (s : State) (path : HostPath) (τ req : Nat), s.Sound ∧ s.Calm ∧ τ < 128 ∧ s.Open (drivePg τ + 0x40) ∧ req % 4 = 2 ∧ s.tileMode τ = 1 ∧ s.dev.live = true) ∧
    (∃ (s : State) (path : HostPath) (τ req : Nat), s.Sound ∧ s.Calm ∧ τ < 128 ∧ s.Open (drivePg τ + 0x40) ∧ req % 4 = 1 ∧ s.tileMode τ = 2 ∧ (s.dev = .armed ∨ s.dev = .safe ∨ s.tileCarries τ = false)) ∧
    (∃ (s : State) (path : HostPath) (τ req : Nat), s.Sound ∧ s.Calm ∧ τ < 128 ∧ s.Open (drivePg τ + 0x40) ∧ req % 4 = 2 ∧ s.tileMode τ = 1 ∧ s.dev.live = false) ∧
    (∃ (s : State) (τ kind k : Nat), s.Sound ∧ isChan kind τ k = true ∧ s.tileMode τ = 1 ∧ s.flag (shortFld kind τ k) = false) :=
  ⟨⟨(let s := base; let s := s.wr (Reg.DRIVE.TILE_STATUS.MODE 127) 1; s : State), .pcie, 127, 6, sound_of (by decide +kernel), calm_of (by decide +kernel), by decide +kernel, open_of (by decide +kernel), by decide +kernel, by decide +kernel, by decide +kernel⟩,
   ⟨(let s := base; let s := s.wr (Reg.DRIVE.TILE_STATUS.MODE 127) 2; let s := s.wr (Reg.ELEM.ELEM_STATUS.STATUS (76 * 127 + 3)) stQuar; let s := s.wr (Reg.ELEM.ELEM_STATUS.STATUS (76 * 127 + 4)) stTrack; s : State), .pcie, 127, 1, sound_of (by decide +kernel), calm_of (by decide +kernel), by decide +kernel, open_of (by decide +kernel), by decide +kernel, by decide +kernel, by decide +kernel⟩,
   ⟨(let s := base; let s := s.wr (Reg.DRIVE.TILE_STATUS.MODE 127) 1; { s with dev := .hold } : State), .pcie, 127, 2, sound_of (by decide +kernel), calm_of (by decide +kernel), by decide +kernel, open_of (by decide +kernel), by decide +kernel, by decide +kernel, by decide +kernel⟩,
   ⟨(let s := base; let s := s.wr (Reg.DRIVE.TILE_STATUS.MODE 127) 1; s.put (shortFld 1 127 76) false : State), 127, 1, 76, sound_of (by decide +kernel), by decide +kernel, by decide +kernel, by decide +kernel⟩⟩

theorem witness_DriveCodesLead :
    (∃ (s : State) (path : HostPath) (τ kind k code : Nat), s.Sound ∧ isChan kind τ k = true ∧ s.Open (shadowFld kind τ k).off ∧ s.hostRow τ = 2) ∧
    (∃ (s : State) (path : HostPath) (τ kind k code : Nat), s.Sound ∧ isChan kind τ k = true ∧ s.Open (shadowFld kind τ k).off ∧ s.hostRow τ = 1 ∧ s.settling kind τ = false) ∧
    (∃ (s : State) (path : HostPath) (τ kind k code : Nat), s.Sound ∧ isChan kind τ k = true ∧ s.Open (shadowFld kind τ k).off ∧ s.hostRow τ = 0) ∧
    (∃ (s : State) (path : HostPath) (τ chan code : Nat), s.Sound ∧ τ < 128 ∧ chan < 76 ∧ s.Open (drivePg τ + 0x50) ∧ s.hostRow τ = 2 ∧ (s.status (76 * τ + chan) = stOff ∨ s.status (76 * τ + chan) = stHold ∨ s.status (76 * τ + chan) = stQuar) ∧ s.settling 0 τ = false) ∧
    (∃ (s : State) (path : HostPath) (τ chan code : Nat), s.Sound ∧ τ < 128 ∧ chan < 76 ∧ s.Open (drivePg τ + 0x50) ∧ s.hostRow τ = 2 ∧ (s.status (76 * τ + chan) = stOff ∨ s.status (76 * τ + chan) = stHold ∨ s.status (76 * τ + chan) = stQuar) ∧ s.settling 1 τ = false) ∧
    (∃ (s : State) (path : HostPath) (τ kind k : Nat), s.Sound ∧ isChan kind τ k = true ∧ s.Open (drivePg τ + 0x28) ∧ s.hostRow τ = 2 ∧ s.flag (dirtyFld kind τ k) = true ∧ s.settling kind τ = false) ∧
    (∃ (s : State) (path : HostPath) (τ : Nat), s.Sound ∧ τ < 128 ∧ s.Open (drivePg τ + 0x28) ∧ ((s.drv.plays.any fun p => p.key / 256 == τ) = false)) ∧
    (∃ (s : State) (path : HostPath) (τ : Nat), s.Sound ∧ τ < 128 ∧ s.Open (drivePg τ + 0x28) ∧ ((s.drv.plays.any fun p => p.key / 256 == τ) = true)) ∧
    (∃ (s : State) (path : HostPath) (τ v : Nat), s.Sound ∧ τ < 128 ∧ s.Open (drivePg τ + 0x64) ∧ s.flag (Reg.DRIVE.SHAPE_ADDR.AUTOINC τ) = false) ∧
    (∃ (s : State) (path : HostPath) (τ : Nat), s.Sound ∧ τ < 128 ∧ s.dev ≠ .off ∧ s.pageOn (drivePg τ) = true ∧ s.flag (Reg.DRIVE.SHAPE_ADDR.AUTOINC τ) = true) :=
  ⟨⟨(let s := base; s : State), .pcie, 127, 1, 76, 0x1ABCD, sound_of (by decide +kernel), by decide +kernel, open_of (by decide +kernel), by decide +kernel⟩,
   ⟨(let s := base; let s := s.wr (Reg.DRIVE.TILE_STATUS.MODE 127) 1; { s with dev := .hold } : State), .pcie, 127, 0, 75, 0x1ABCD, sound_of (by decide +kernel), by decide +kernel, open_of (by decide +kernel), by decide +kernel, by decide +kernel⟩,
   ⟨(let s := base; let s := s.wr (Reg.DRIVE.TILE_STATUS.MODE 127) 2; { s with dev := .hold } : State), .pcie, 127, 0, 75, 0x1ABCD, sound_of (by decide +kernel), by decide +kernel, open_of (by decide +kernel), by decide +kernel⟩,
   ⟨(let s := base; let s := s.wr (Reg.ELEM.ELEM_STATUS.STATUS (76 * 127 + 75)) stHold; let s := s.wr (Reg.DRIVE.TILE_STATUS.MODE 127) 2; s : State), .pcie, 127, 75, 0x1ABCD, sound_of (by decide +kernel), by decide +kernel, by decide +kernel, open_of (by decide +kernel), by decide +kernel, by decide +kernel, by decide +kernel⟩,
   ⟨(let s := base; let s := s.wr (Reg.ELEM.ELEM_STATUS.STATUS (76 * 127 + 75)) stHold; let s := s.wr (Reg.DRIVE.TILE_STATUS.MODE 127) 2; s : State), .pcie, 127, 75, 0x1ABCD, sound_of (by decide +kernel), by decide +kernel, by decide +kernel, open_of (by decide +kernel), by decide +kernel, by decide +kernel, by decide +kernel⟩,
   ⟨(let s := base; let s := s.wr (Reg.DRIVE.TILE_STATUS.MODE 127) 2; s.put (dirtyFld 1 127 76) true : State), .pcie, 127, 1, 76, sound_of (by decide +kernel), by decide +kernel, open_of (by decide +kernel), by decide +kernel, by decide +kernel, by decide +kernel⟩,
   ⟨(let s := base; s : State), .pcie, 127, sound_of (by decide +kernel), by decide +kernel, open_of (by decide +kernel), by decide +kernel⟩,
   ⟨(let s := base; { s with drv := { s.drv with plays := [⟨fastKey 127 75, 1, 2, 3, 4⟩] } } : State), .pcie, 127, sound_of (by decide +kernel), by decide +kernel, open_of (by decide +kernel), by decide +kernel⟩,
   ⟨(let s := base; s.put (Reg.DRIVE.SHAPE_ADDR.AUTOINC 127) false : State), .pcie, 127, 0x12345, sound_of (by decide +kernel), by decide +kernel, open_of (by decide +kernel), by decide +kernel⟩,
   ⟨(let s := base; let s := (s.put (Reg.DRIVE.SHAPE_ADDR.AUTOINC 127) true).wr (Reg.DRIVE.SHAPE_ADDR.POINT 127) 63; let s := s.wr (Reg.DRIVE.SHAPE_ADDR.SHAPE 127) 15; { s with drv := { s.drv with shapes := [(255, 7), (1023, 8)] } } : State), .smbus, 127, sound_of (by decide +kernel), by decide +kernel, by decide +kernel, by decide +kernel, by decide +kernel⟩⟩

theorem witness_DriveUpdatesLead :
    (∃ (s : State) (τ k code : Nat), s.Sound ∧ isChan 0 τ k = true ∧ s.clusterTested (τ / 32) = false ∧ s.tileMode τ ≠ 0 ∧ s.rangeCh τ = none ∧ s.playing τ k = false) ∧
    (∃ (s : State) (τ k code t0 : Nat), s.Sound ∧ isChan 1 τ k = true ∧ s.clusterTested (τ / 32) = false ∧ s.tileMode τ ≠ 0 ∧ s.rangeCh τ = none ∧ alGet s.drv.upd (htrKey τ k) = some t0 ∧ s.up < t0 + us ∧ alGet s.drv.held (htrKey τ k) = none) ∧
    (∃ (s : State) (τ kind k code : Nat) (beaten : Bool), isChan kind τ k = true ∧ s.clusterTested (τ / 32) = false) ∧
    (∃ (s : State) (τ kind k code : Nat), isChan kind τ k = true) ∧
    (∃ (s : State) (τ kind k code : Nat) (beaten : Bool) (bus : Ecc), s.clusterTested (τ / 32) = true) ∧
    (∃ (s : State) (τ k c : Nat), s.Sound ∧ isChan 1 τ k = true ∧ s.settling 1 τ = false ∧ alGet s.drv.held (htrKey τ k) = some c) ∧
    (∃ (s : State) (τ : Nat) (v : Int), s.Sound ∧ τ < 128 ∧ s.tileMode τ = 2 ∧ s.rd (Reg.DRIVE.RB_STATUS.SLOT τ) < 159) ∧
    (∃ (s : State) (path : HostPath) (τ : Nat) (fast htr : Bool), s.Sound ∧ τ < 128 ∧ s.Open (drivePg τ + 0x48) ∧ s.rd (Reg.DRIVE.RANGE.FAST_RANGE τ) ≠ b2n fast ∧ s.rd (Reg.DRIVE.RANGE.HTR_RANGE τ) = b2n htr ∧ s.rangeRefusal τ (s.commitNear false) = none) ∧
    (∃ (s : State) (path : HostPath) (τ r : Nat) (fast htr : Bool), s.Sound ∧ τ < 128 ∧ s.Open (drivePg τ + 0x48) ∧ (s.rd (Reg.DRIVE.RANGE.FAST_RANGE τ) ≠ b2n fast ∨ s.rd (Reg.DRIVE.RANGE.HTR_RANGE τ) ≠ b2n htr) ∧ s.rangeRefusal τ (s.commitNear (s.rd (Reg.DRIVE.RANGE.HTR_RANGE τ) != b2n htr)) = some r) ∧
    (∃ (s : State) (τ : Nat) (r : RangeCh), s.Sound ∧ τ < 128 ∧ s.rangeCh τ = some r ∧ r.fast = true ∧ r.htr = false) :=
  ⟨⟨(let s := base; let s := s.wr (Reg.DRIVE.TILE_STATUS.MODE 127) 1; s : State), 127, 75, 0x1ABCD, sound_of (by decide +kernel), by decide +kernel, by decide +kernel, by decide +kernel, by decide +kernel, by decide +kernel⟩,
   ⟨(let s := base; let s := s.wr (Reg.DRIVE.TILE_STATUS.MODE 127) 1; { s with now := 1000000, drv := { s.drv with upd := [(htrKey 127 76, 5)] } } : State), 127, 76, 0x1ABC, 5, sound_of (by decide +kernel), by decide +kernel, by decide +kernel, by decide +kernel, by decide +kernel, by decide +kernel, by decide +kernel, by decide +kernel⟩,
   ⟨(let s := base; s : State), 127, 1, 76, 5, true, by decide +kernel, by decide +kernel⟩,
   ⟨(let s := base; s : State), 127, 1, 76, 5, by decide +kernel⟩,
   ⟨(let s := base; let s := s.wr Reg.TEST.TB_CFG.BUSES 8; { s with test := { s.test with run := some ⟨2, 0, [], 0, 0⟩ } } : State), 127, 1, 76, 5, false, .ok, by decide +kernel⟩,
   ⟨(let s := base; let s := s.wr (Reg.DRIVE.TILE_STATUS.MODE 127) 1; { s with now := 1000000, drv := { s.drv with held := [(htrKey 127 76, 0x1ABC)] } } : State), 127, 76, 0x1ABC, sound_of (by decide +kernel), by decide +kernel, by decide +kernel, by decide +kernel⟩,
   ⟨(let s := base; let s := s.wr (Reg.DRIVE.TILE_STATUS.MODE 127) 2; s.wr (Reg.DRIVE.RB_STATUS.SLOT 127) 77 : State), 127, -55, sound_of (by decide +kernel), by decide +kernel, by decide +kernel, by decide +kernel⟩,
   ⟨(let s := base; let s := s.wr (Reg.ELEM.ELEM_STATUS.STATUS (76 * 127 + 4)) stTrack; let s := s.wr (Reg.DRIVE.TILE_STATUS.MODE 127) 2; (s.wr (Reg.DRIVE.RANGE.FAST_RANGE 127) 0).wr (Reg.DRIVE.RANGE.HTR_RANGE 127) 0 : State), .pcie, 127, true, false, sound_of (by decide +kernel), by decide +kernel, open_of (by decide +kernel), by decide +kernel, by decide +kernel, by decide +kernel⟩,
   ⟨(let s := base; let s := s.wr (Reg.DRIVE.TILE_STATUS.MODE 127) 2; let s := (s.wr (Reg.DRIVE.RANGE.FAST_RANGE 127) 0).wr (Reg.DRIVE.RANGE.HTR_RANGE 127) 0; { s with dev := .halt } : State), .pcie, 127, 1, true, false, sound_of (by decide +kernel), by decide +kernel, open_of (by decide +kernel), by decide +kernel, by decide +kernel⟩,
   ⟨(let s := base; let s := s.wr (Reg.DRIVE.TILE_STATUS.MODE 127) 2; { s with drv := { s.drv with range := [⟨127, true, false, true, false⟩] } } : State), 127, (⟨127, true, false, true, false⟩), sound_of (by decide +kernel), by decide +kernel, by decide +kernel, by decide +kernel, by decide +kernel⟩⟩

theorem witness_ConvertersLead :
    (∃ (s : State) (n sel : Nat), s.Sound ∧ n < 624 ∧ s.Open (monPg (n / 8) + 0x44 + 0x20 * (n % 8)) ∧ s.loopMode n = false ∧ s.mon.sub ≤ 24) ∧
    (∃ (s : State) (n sel : Nat), s.Sound ∧ n < 624 ∧ s.Open (monPg (n / 8) + 0x44 + 0x20 * (n % 8)) ∧ s.loopMode n = true) ∧
    (∃ (s : State) (n sel : Nat), s.Sound ∧ n < 624 ∧ s.loopMode n = false) ∧
    (∃ (s : State) (path : HostPath) (n mode : Nat), s.Sound ∧ s.Calm ∧ n < 624 ∧ s.Open (monPg (n / 8) + 0x40 + 0x20 * (n % 8)) ∧ (mode % 4 = 0 ∨ mode % 4 = 3) ∧ s.plumb.run = none) ∧
    (∃ (s : State) (path : HostPath) (n mode : Nat), s.Sound ∧ s.Calm ∧ n < 624 ∧ s.Open (monPg (n / 8) + 0x40 + 0x20 * (n % 8)) ∧ s.plumb.run = none) ∧
    (∃ (s : State) (path : HostPath) (mid r : Nat), s.Sound ∧ mid < 19968 ∧ s.Open (monPg (mid / 256) + 0x800 + 4 * (mid % 256)) ∧ s.monRange mid ≠ r % 4) ∧
    (∃ (s : State) (n raw : Nat) (bus : Ecc), s.Sound ∧ n < 624 ∧ s.convRunning n = true ∧ s.rd (Reg.HDR.PG_STATE.STATE (monPg (n / 8))) ≠ 3 ∧ bus ≠ .uncorrectable ∧ (s.conv n).range < 4) ∧
    (∃ (s : State) (n raw : Nat), s.Sound ∧ n < 624 ∧ s.convRunning n = true ∧ s.rd (Reg.HDR.PG_STATE.STATE (monPg (n / 8))) ≠ 3) ∧
    (∃ (s : State) (n raw : Nat), s.Sound ∧ n < 624 ∧ s.convRunning n = true ∧ s.rd (Reg.HDR.PG_STATE.STATE (monPg (n / 8))) = 3 ∧ (s.conv n).range < 4) ∧
    (∃ (s : State) (n sel mid cls : Nat) (turn : Bool), s.Sound ∧ n < 624 ∧ s.loopMode n = true ∧ s.mon.sub ≤ 24 ∧ s.dev.live = true ∧ s.clusterSteers (monCluster (n / 8)) = true ∧ s.attend n = some (mid, cls, turn)) ∧
    (∃ (s : State) (n sel : Nat), s.Sound ∧ n < 624 ∧ s.Open (monPg (n / 8) + 0x44 + 0x20 * (n % 8)) ∧ s.loopMode n = false ∧ 24 < s.mon.sub) :=
  ⟨⟨(let s := base; let s := s.wr (Reg.MONITOR.CONV_CTRL.MODE 77 6) 2; s : State), 622, 39, sound_of (by decide +kernel), by decide +kernel, open_of (by decide +kernel), by decide +kernel, by decide +kernel⟩,
   ⟨(let s := base; let s := s.wr (Reg.MONITOR.CONV_CTRL.MODE 77 6) 3; s : State), 622, 39, sound_of (by decide +kernel), by decide +kernel, open_of (by decide +kernel), by decide +kernel⟩,
   ⟨(let s := base; let s := s.wr (Reg.MONITOR.CONV_CTRL.MODE 77 6) 1; s : State), 622, 39, sound_of (by decide +kernel), by decide +kernel, by decide +kernel⟩,
   ⟨(let s := base; let s := s.wr (Reg.MONITOR.CONV_CTRL.MODE 77 6) 1; s : State), .pcie, 622, 7, sound_of (by decide +kernel), calm_of (by decide +kernel), by decide +kernel, open_of (by decide +kernel), by decide +kernel, by decide +kernel⟩,
   ⟨(let s := base; let s := s.wr (Reg.MONITOR.CONV_CTRL.MODE 77 6) 1; s : State), .pcie, 622, 6, sound_of (by decide +kernel), calm_of (by decide +kernel), by decide +kernel, open_of (by decide +kernel), by decide +kernel⟩,
   ⟨(let s := base; let k := 1; let s := s.wr (Reg.MONITOR.MON_CFG.RANGE 77 255) 1; { s with mon := { s.mon with settle := [(5, 7), (19967, 10 ^ 9)], clock := if k < 2 then 1 else 9999 } } : State), .pcie, 19967, 6, sound_of (by decide +kernel), by decide +kernel, open_of (by decide +kernel), by decide +kernel⟩,
   ⟨(let s := base; let s := (s.wr (Reg.HDR.PG_STATE.STATE (monPg 77)) 2).put (Reg.MONITOR.CONV_STATUS.RUNNING 77 6) true; { s with now := 10 ^ 7, mon := { s.mon with convs := [(622, ⟨7, 2, 1000, 5, false, [], []⟩)] } } : State), 622, 0x5123, .corrected, sound_of (by decide +kernel), by decide +kernel, by decide +kernel, by decide +kernel, by decide +kernel, by decide +kernel⟩,
   ⟨(let s := base; let s := (s.wr (Reg.HDR.PG_STATE.STATE (monPg 77)) 2).put (Reg.MONITOR.CONV_STATUS.RUNNING 77 6) true; { s with now := 10 ^ 7, mon := { s.mon with convs := [(622, ⟨7, 2, 1000, 5, false, [], []⟩)] } } : State), 622, 0x5123, sound_of (by decide +kernel), by decide +kernel, by decide +kernel, by decide +kernel⟩,
   ⟨(let s := base; let s := (s.wr (Reg.HDR.PG_STATE.STATE (monPg 77)) 3).put (Reg.MONITOR.CONV_STATUS.RUNNING 77 6) true; { s with now := 10 ^ 7, mon := { s.mon with convs := [(622, ⟨7, 2, 1000, 5, false, [], []⟩)] } } : State), 622, 0x5123, sound_of (by decide +kernel), by decide +kernel, by decide +kernel, by decide +kernel, by decide +kernel⟩,
   ⟨(let s := base; let s := s.wr (Reg.MONITOR.CONV_CTRL.MODE 77 6) 3; let s := s.wr (Reg.HDR.PG_STATE.STATE (bramPg (monCluster 77))) 2; { s with dev := .run, bram := { s.bram with guard := [19909] } } : State), 622, 0, 19909, 2, false, sound_of (by decide +kernel), by decide +kernel, by decide +kernel, by decide +kernel, by decide +kernel, by decide +kernel, by decide +kernel⟩,
   ⟨(let s := base; let s := s.wr (Reg.MONITOR.CONV_CTRL.MODE 77 6) 1; { s with mon := { s.mon with sub := 30 } } : State), 622, 39, sound_of (by decide +kernel), by decide +kernel, open_of (by decide +kernel), by decide +kernel, by decide +kernel⟩⟩

theorem witness_CaptureLeads :
    (∃ (s : State) (r : Nat), s.Sound ∧ r < 16 ∧ ((∀ q ∈ List.range 16, s.capRunning q = decide (q = r))) ∧ s.mon.batch = [] ∧ s.capLevel < 1024 ∧ s.sdOnline = true ∧ s.capFill r + (s.ring r).waiting + 8 ≤ s.capSize r ∧ (s.ring r).part.length < 56) ∧
    (∃ (s : State) (path : HostPath) (r : Nat), s.Sound ∧ r < 16 ∧ s.Open (0xD400 + 0x40 * r) ∧ s.flag (Reg.CAPTURE.RING_CTRL.ENABLE r) = false ∧ 12 ≤ s.rd (Reg.CAPTURE.RING_CTRL.SIZE_LOG2 r) ∧ s.rd (Reg.CAPTURE.RING_CTRL.SIZE_LOG2 r) ≤ 34 ∧ s.inPartition 2 (s.rd64 (ringOff r + 4)) (2 ^ s.rd (Reg.CAPTURE.RING_CTRL.SIZE_LOG2 r)) = true) ∧
    (∃ (s : State) (path : HostPath) (r : Nat), s.Sound ∧ r < 16 ∧ s.Open (0xD400 + 0x40 * r) ∧ s.flag (Reg.CAPTURE.RING_CTRL.ENABLE r) = false ∧ s.inPartition 2 (s.rd64 (ringOff r + 4)) (2 ^ s.rd (Reg.CAPTURE.RING_CTRL.SIZE_LOG2 r)) = false) ∧
    (∃ (s : State) (path : HostPath) (r : Nat), s.Sound ∧ r < 16 ∧ s.Open (0xD400 + 0x40 * r) ∧ s.flag (Reg.CAPTURE.RING_CTRL.RUN r) = false ∧ s.flag (Reg.CAPTURE.RING_CTRL.ENABLE r) = true ∧ s.pageRun 0xD000 = true ∧ s.mon.batch = [] ∧ s.capLevel < 1024 ∧ s.sdOnline = true ∧ s.capFill r + (s.ring r).waiting + 8 ≤ s.capSize r ∧ (s.ring r).part = []) ∧
    (∃ (s : State) (path : HostPath) (r : Nat), s.Sound ∧ r < 16 ∧ s.Open (0xD400 + 0x40 * r) ∧ s.flag (Reg.CAPTURE.RING_CTRL.RUN r) = true ∧ s.mon.batch = []) ∧
    (∃ (s : State) (r : Nat), s.Sound ∧ r < 16 ∧ s.mon.batch = [] ∧ (s.ring r).part ≠ []) ∧
    (∃ (s : State) (r : Nat) (b : List Byte) (rest : List (List Byte)), s.Sound ∧ r < 16 ∧ (s.ring r).bursts = b :: rest ∧ s.capFill r + b.length ≤ s.capSize r) ∧
    (∃ (s : State) (path : HostPath) (r v : Nat), s.Sound ∧ r < 16 ∧ s.Open (0xD414 + 0x40 * r) ∧ v < 2 * s.capSize r ∧ v < 2 ^ 35 ∧ (v + 2 * s.capSize r - s.capRd r % (2 * s.capSize r)) % (2 * s.capSize r) ≤ s.capFill r) :=
  ⟨⟨(let s := base; let s := s.wr (Reg.HDR.PG_STATE.STATE 0xD000) 2; let s := s.put (Reg.CAPTURE.RING_CTRL.ENABLE 5) true; let s := ((List.range 16).foldl (fun s q => s.put (Reg.CAPTURE.RING_CTRL.RUN q) (decide (q = 5))) (withSdram s)).wr (Reg.CAPTURE.RING_CTRL.SIZE_LOG2 5) 16; let s := (s.wr64 (ringOff 5 + 0x0C) 70000).wr64 (ringOff 5 + 0x14) 60000; let s := ((s.wr (Reg.DEVICE.SDRAM_MAP_BASE.MB 2) 100).wr (Reg.DEVICE.SDRAM_MAP_SIZE.MB 2) 1000).wr64 (ringOff 5 + 4) (200 * 2 ^ 20); { s with now := 123456789, mon := { s.mon with rings := [(3, { RingSt.idle with part := [1] }), (5, { RingSt.idle with part := List.replicate 16 7, bursts := [] })] } } : State), 5, sound_of (by decide +kernel), by decide +kernel, by decide +kernel, by decide +kernel, by decide +kernel, by decide +kernel, by decide +kernel, by decide +kernel⟩,
   ⟨(let s := base; let s := s.wr (Reg.HDR.PG_STATE.STATE 0xD000) 2; let s := s.put (Reg.CAPTURE.RING_CTRL.ENABLE 5) true; let s := ((List.range 16).foldl (fun s q => s.put (Reg.CAPTURE.RING_CTRL.RUN q) (decide (q = 5))) (withSdram s)).wr (Reg.CAPTURE.RING_CTRL.SIZE_LOG2 5) 16; let s := (s.wr64 (ringOff 5 + 0x0C) 70000).wr64 (ringOff 5 + 0x14) 60000; let s := ((s.wr (Reg.DEVICE.SDRAM_MAP_BASE.MB 2) 100).wr (Reg.DEVICE.SDRAM_MAP_SIZE.MB 2) 1000).wr64 (ringOff 5 + 4) (200 * 2 ^ 20); s.put (Reg.CAPTURE.RING_CTRL.ENABLE 5) false : State), .pcie, 5, sound_of (by decide +kernel), by decide +kernel, open_of (by decide +kernel), by decide +kernel, by decide +kernel, by decide +kernel, by decide +kernel⟩,
   ⟨(let s := base; let s := s.wr (Reg.HDR.PG_STATE.STATE 0xD000) 2; let s := s.put (Reg.CAPTURE.RING_CTRL.ENABLE 5) true; let s := ((List.range 16).foldl (fun s q => s.put (Reg.CAPTURE.RING_CTRL.RUN q) (decide (q = 5))) (withSdram s)).wr (Reg.CAPTURE.RING_CTRL.SIZE_LOG2 5) 16; let s := (s.wr64 (ringOff 5 + 0x0C) 70000).wr64 (ringOff 5 + 0x14) 60000; let s := ((s.wr (Reg.DEVICE.SDRAM_MAP_BASE.MB 2) 100).wr (Reg.DEVICE.SDRAM_MAP_SIZE.MB 2) 1000).wr64 (ringOff 5 + 4) (200 * 2 ^ 20); (s.put (Reg.CAPTURE.RING_CTRL.ENABLE 5) false).wr64 (ringOff 5 + 4) (50 * 2 ^ 20) : State), .pcie, 5, sound_of (by decide +kernel), by decide +kernel, open_of (by decide +kernel), by decide +kernel, by decide +kernel⟩,
   ⟨(let s := base; let s := s.wr (Reg.HDR.PG_STATE.STATE 0xD000) 2; let s := s.put (Reg.CAPTURE.RING_CTRL.ENABLE 5) true; let s := ((List.range 16).foldl (fun s q => s.put (Reg.CAPTURE.RING_CTRL.RUN q) (decide (q = 5))) (withSdram s)).wr (Reg.CAPTURE.RING_CTRL.SIZE_LOG2 5) 16; let s := (s.wr64 (ringOff 5 + 0x0C) 70000).wr64 (ringOff 5 + 0x14) 60000; let s := ((s.wr (Reg.DEVICE.SDRAM_MAP_BASE.MB 2) 100).wr (Reg.DEVICE.SDRAM_MAP_SIZE.MB 2) 1000).wr64 (ringOff 5 + 4) (200 * 2 ^ 20); let s := (s.put (Reg.CAPTURE.RING_CTRL.RUN 5) false).put (Reg.CAPTURE.RING_CTRL.ENABLE 5) true; { s with now := 123456789, mon := { s.mon with rings := [(3, { RingSt.idle with part := [1] })] } } : State), .pcie, 5, sound_of (by decide +kernel), by decide +kernel, open_of (by decide +kernel), by decide +kernel, by decide +kernel, by decide +kernel, by decide +kernel, by decide +kernel, by decide +kernel, by decide +kernel, by decide +kernel⟩,
   ⟨(let s := base; let s := s.wr (Reg.HDR.PG_STATE.STATE 0xD000) 2; let s := s.put (Reg.CAPTURE.RING_CTRL.ENABLE 5) true; let s := ((List.range 16).foldl (fun s q => s.put (Reg.CAPTURE.RING_CTRL.RUN q) (decide (q = 5))) (withSdram s)).wr (Reg.CAPTURE.RING_CTRL.SIZE_LOG2 5) 16; let s := (s.wr64 (ringOff 5 + 0x0C) 70000).wr64 (ringOff 5 + 0x14) 60000; let s := ((s.wr (Reg.DEVICE.SDRAM_MAP_BASE.MB 2) 100).wr (Reg.DEVICE.SDRAM_MAP_SIZE.MB 2) 1000).wr64 (ringOff 5 + 4) (200 * 2 ^ 20); { s with now := 123456789, mon := { s.mon with rings := [(3, { RingSt.idle with part := [1] }), (5, { RingSt.idle with part := [1, 2], bursts := [] })] } } : State), .pcie, 5, sound_of (by decide +kernel), by decide +kernel, open_of (by decide +kernel), by decide +kernel, by decide +kernel⟩,
   ⟨(let s := base; let s := s.wr (Reg.HDR.PG_STATE.STATE 0xD000) 2; let s := s.put (Reg.CAPTURE.RING_CTRL.ENABLE 5) true; let s := ((List.range 16).foldl (fun s q => s.put (Reg.CAPTURE.RING_CTRL.RUN q) (decide (q = 5))) (withSdram s)).wr (Reg.CAPTURE.RING_CTRL.SIZE_LOG2 5) 16; let s := (s.wr64 (ringOff 5 + 0x0C) 70000).wr64 (ringOff 5 + 0x14) 60000; let s := ((s.wr (Reg.DEVICE.SDRAM_MAP_BASE.MB 2) 100).wr (Reg.DEVICE.SDRAM_MAP_SIZE.MB 2) 1000).wr64 (ringOff 5 + 4) (200 * 2 ^ 20); { s with now := 123456789, mon := { s.mon with rings := [(3, { RingSt.idle with part := [1] }), (5, { RingSt.idle with part := [1, 2], bursts := [[1], [2]] })] } } : State), 5, sound_of (by decide +kernel), by decide +kernel, by decide +kernel, by decide +kernel⟩,
   ⟨(let s := base; let s := s.wr (Reg.HDR.PG_STATE.STATE 0xD000) 2; let s := s.put (Reg.CAPTURE.RING_CTRL.ENABLE 5) true; let s := ((List.range 16).foldl (fun s q => s.put (Reg.CAPTURE.RING_CTRL.RUN q) (decide (q = 5))) (withSdram s)).wr (Reg.CAPTURE.RING_CTRL.SIZE_LOG2 5) 16; let s := (s.wr64 (ringOff 5 + 0x0C) 70000).wr64 (ringOff 5 + 0x14) 60000; let s := ((s.wr (Reg.DEVICE.SDRAM_MAP_BASE.MB 2) 100).wr (Reg.DEVICE.SDRAM_MAP_SIZE.MB 2) 1000).wr64 (ringOff 5 + 4) (200 * 2 ^ 20); { s with now := 123456789, mon := { s.mon with rings := [(3, { RingSt.idle with part := [1] }), (5, { RingSt.idle with part := [1, 2], bursts := [List.replicate 64 9, [2]] })] } } : State), 5, (List.replicate 64 9), [[2]], sound_of (by decide +kernel), by decide +kernel, by decide +kernel, by decide +kernel⟩,
   ⟨(let s := base; let s := s.wr (Reg.HDR.PG_STATE.STATE 0xD000) 2; let s := s.put (Reg.CAPTURE.RING_CTRL.ENABLE 5) true; let s := ((List.range 16).foldl (fun s q => s.put (Reg.CAPTURE.RING_CTRL.RUN q) (decide (q = 5))) (withSdram s)).wr (Reg.CAPTURE.RING_CTRL.SIZE_LOG2 5) 16; let s := (s.wr64 (ringOff 5 + 0x0C) 70000).wr64 (ringOff 5 + 0x14) 60000; let s := ((s.wr (Reg.DEVICE.SDRAM_MAP_BASE.MB 2) 100).wr (Reg.DEVICE.SDRAM_MAP_SIZE.MB 2) 1000).wr64 (ringOff 5 + 4) (200 * 2 ^ 20); s : State), .pcie, 5, 65000, sound_of (by decide +kernel), by decide +kernel, open_of (by decide +kernel), by decide +kernel, by decide +kernel, by decide +kernel⟩⟩

theorem witness_ElementLoopsLead :
    (∃ (s : State) (e : Nat) (pa pb : Int), s.Sound ∧ e < numElem ∧ s.working e = true ∧ s.probes e = true ∧ (s.elem e).probe = none ∧ s.htrReady e s.up = true ∧ s.clusterRun (clusterOf e) = true ∧ s.inputs e = some (pa, pb) ∧ s.tileMode (tileOf e) ≠ 0 ∧ s.rangeCh (tileOf e) = none ∧ s.playing (tileOf e) (chanOf e) = false) ∧
    (∃ (s : State) (e : Nat) (p : ProbeSt), s.Sound ∧ e < numElem ∧ (s.elem e).probe = some p ∧ p.step = 2 ∧ s.tileMode (tileOf e) ≠ 0 ∧ s.rangeCh (tileOf e) = none ∧ s.playing (tileOf e) (chanOf e) = false) ∧
    (∃ (s : State) (e : Nat) (p : ProbeSt), s.Sound ∧ e < numElem ∧ (s.elem e).probe = some p ∧ p.step = 4 ∧ s.tileMode (tileOf e) ≠ 0 ∧ s.rangeCh (tileOf e) = none ∧ s.playing (tileOf e) (chanOf e) = false) ∧
    (∃ (s : State) (e : Nat) (pa pb : Int), s.Sound ∧ e < numElem ∧ s.working e = true ∧ s.probes e = true ∧ s.clusterRun (clusterOf e) = true ∧ 0 < (s.elem e).pairs ∧ s.pairsNeeded e ≤ (s.elem e).pairs ∧ s.inputs e = some (pa, pb) ∧ pa ≠ pb ∧ s.blindWhy e pa pb = none) ∧
    (∃ (s : State) (e : Nat), s.Sound ∧ e < numElem ∧ s.status e = stHold ∧ s.reason e = whyWrap ∧ s.clusterRun (clusterOf e) = true) ∧
    (∃ (s : State) (e : Nat), s.Sound ∧ e < numElem ∧ s.status e = stSat ∧ (s.elem e).satRaised = false) ∧
    (∃ (s : State) (path : HostPath) (e : Nat), s.Sound ∧ s.Calm ∧ e < numElem ∧ s.Open (0x200000 + 16 * e) ∧ s.rd (Reg.HDR.PG_STATE.STATE (bramPg (clusterOf e))) ≠ 1 ∧ s.status e ≠ stOff ∧ s.status e ≠ stQuar ∧ s.img.staged = none) ∧
    (∃ (s : State) (path : HostPath) (e : Nat), s.Sound ∧ s.Calm ∧ e < numElem ∧ s.Open (0x200000 + 16 * e) ∧ s.dev.live = true ∧ s.status e = stQuar ∧ bitOf (s.rdW (0x200000 + 16 * e)).toNat 1 = false ∧ s.flag (Reg.ELEM.ELEM_CTRL.EN e) = true ∧ s.tileMode (tileOf e) = 2 ∧ s.clusterRun (clusterOf e) = true) ∧
    (∃ (s : State) (path : HostPath) (e : Nat), s.Sound ∧ s.Calm ∧ e < numElem ∧ s.Open (0x200000 + 16 * e) ∧ s.rd (Reg.HDR.PG_STATE.STATE (bramPg (clusterOf e))) ≠ 1 ∧ s.dev.live = true ∧ s.status e = stQuar ∧ bitOf (s.rdW (0x200000 + 16 * e)).toNat 1 = false ∧ (s.flag (Reg.ELEM.ELEM_CTRL.EN e) = false ∨ s.tileMode (tileOf e) ≠ 2)) ∧
    (∃ (s : State) (path : HostPath) (e : Nat), s.Sound ∧ s.Calm ∧ e < numElem ∧ s.Open (0x200000 + 16 * e) ∧ s.dev.live = true ∧ s.status e = stOff ∧ bitOf (s.rdW (0x200000 + 16 * e)).toNat 1 = false ∧ bitOf (s.rdW (0x200000 + 16 * e)).toNat 2 = false ∧ s.flag (Reg.ELEM.ELEM_CTRL.EN e) = false ∧ s.tileMode (tileOf e) = 2 ∧ s.clusterRun (clusterOf e) = true) ∧
    (∃ (s : State) (path : HostPath) (e : Nat), s.Sound ∧ s.Calm ∧ e < numElem ∧ s.Open (0x200000 + 16 * e) ∧ s.rd (Reg.HDR.PG_STATE.STATE (bramPg (clusterOf e))) ≠ 1 ∧ s.status e ≠ stQuar ∧ bitOf (s.rdW (0x200000 + 16 * e)).toNat 1 = false ∧ bitOf (s.rdW (0x200000 + 16 * e)).toNat 2 = false ∧ s.flag (Reg.ELEM.ELEM_CTRL.EN e) = true) :=
  ⟨⟨(let s := base; let k := 1; let s := [0, 1, 2, 3].foldl (fun s k => s.wr (Reg.HDR.PG_STATE.STATE (bramPg k)) 2) s; let s := s.wr (Reg.DRIVE.TILE_STATUS.MODE 1) 2; let s := s.wr (Reg.DRIVE.TILE_STATUS.MODE 127) 2; let s := (s.wr (Reg.ELEM.ELEM_STATUS.STATUS 100) stTrack).wr (Reg.ELEM.ELEM_STATUS.REASON 100) 0; let s := { s with now := 10 ^ 9, bram := { s.bram with seen := [(200, ⟨9 * 10 ^ 8, 10 ^ 9 - 1000⟩), (201, ⟨2 * 10 ^ 8, 10 ^ 9 - 1000⟩)] } }; s : State), 100, (if (base.inputMids 100).1 = 200 then 9 * 10 ^ 8 else 2 * 10 ^ 8), (if (base.inputMids 100).1 = 200 then 2 * 10 ^ 8 else 9 * 10 ^ 8), sound_of (by decide +kernel), by decide +kernel, by decide +kernel, by decide +kernel, by decide +kernel, by decide +kernel, by decide +kernel, by decide +kernel, by decide +kernel, by decide +kernel, by decide +kernel⟩,
   ⟨(let s := base; let k := 1; let s := [0, 1, 2, 3].foldl (fun s k => s.wr (Reg.HDR.PG_STATE.STATE (bramPg k)) 2) s; let s := s.wr (Reg.DRIVE.TILE_STATUS.MODE 1) 2; let s := s.wr (Reg.DRIVE.TILE_STATUS.MODE 127) 2; let s := (s.wr (Reg.ELEM.ELEM_STATUS.STATUS 100) stTrack).wr (Reg.ELEM.ELEM_STATUS.REASON 100) 0; let s := { s with now := 10 ^ 9, bram := { s.bram with seen := [(200, ⟨9 * 10 ^ 8, 10 ^ 9 - 1000⟩), (201, ⟨2 * 10 ^ 8, 10 ^ 9 - 1000⟩)] } }; s.setElem 100 { ElemSt.idle with probe := some ⟨2, 20, 0xF10, 200, 1, 777, 333, 10 ^ 9 - 5000, false, 3⟩ } : State), 100, (⟨2, 20, 0xF10, 200, 1, 777, 333, 10 ^ 9 - 5000, false, 3⟩), sound_of (by decide +kernel), by decide +kernel, by decide +kernel, by decide +kernel, by decide +kernel, by decide +kernel, by decide +kernel⟩,
   ⟨(let s := base; let k := 1; let s := [0, 1, 2, 3].foldl (fun s k => s.wr (Reg.HDR.PG_STATE.STATE (bramPg k)) 2) s; let s := s.wr (Reg.DRIVE.TILE_STATUS.MODE 1) 2; let s := s.wr (Reg.DRIVE.TILE_STATUS.MODE 127) 2; let s := (s.wr (Reg.ELEM.ELEM_STATUS.STATUS 100) stTrack).wr (Reg.ELEM.ELEM_STATUS.REASON 100) 0; let s := { s with now := 10 ^ 9, bram := { s.bram with seen := [(200, ⟨9 * 10 ^ 8, 10 ^ 9 - 1000⟩), (201, ⟨2 * 10 ^ 8, 10 ^ 9 - 1000⟩)] } }; s.setElem 100 { ElemSt.idle with sum := 5, pairs := 2, probe := some ⟨4, 20, 0xF10, 200, 1, 777, 333, 10 ^ 9 - 5000, false, 3⟩ } : State), 100, (⟨4, 20, 0xF10, 200, 1, 777, 333, 10 ^ 9 - 5000, false, 3⟩), sound_of (by decide +kernel), by decide +kernel, by decide +kernel, by decide +kernel, by decide +kernel, by decide +kernel, by decide +kernel⟩,
   ⟨(let s := base; let k := 1; let s := [0, 1, 2, 3].foldl (fun s k => s.wr (Reg.HDR.PG_STATE.STATE (bramPg k)) 2) s; let s := s.wr (Reg.DRIVE.TILE_STATUS.MODE 1) 2; let s := s.wr (Reg.DRIVE.TILE_STATUS.MODE 127) 2; let s := (s.wr (Reg.ELEM.ELEM_STATUS.STATUS 100) stTrack).wr (Reg.ELEM.ELEM_STATUS.REASON 100) 0; let s := [0, 1, 2, 3].foldl (fun s k => (s.wr (Reg.BRAMBLE.BLIND_CFG.L_MIN k) 0).wr (Reg.BRAMBLE.BLIND_CFG.C_MIN k) 0) s; let s := { s with now := 10 ^ 9, bram := { s.bram with seen := [(200, ⟨9 * 10 ^ 8, 10 ^ 9 - 1000⟩), (201, ⟨2 * 10 ^ 8, 10 ^ 9 - 1000⟩)] } }; s.setElem 100 { ElemSt.idle with sum := 3000000, pairs := 40 } : State), 100, (if (base.inputMids 100).1 = 200 then 9 * 10 ^ 8 else 2 * 10 ^ 8), (if (base.inputMids 100).1 = 200 then 2 * 10 ^ 8 else 9 * 10 ^ 8), sound_of (by decide +kernel), by decide +kernel, by decide +kernel, by decide +kernel, by decide +kernel, by decide +kernel, by decide +kernel, by decide +kernel, by decide +kernel, by decide +kernel⟩,
   ⟨(let s := base; let k := 1; let s := [0, 1, 2, 3].foldl (fun s k => s.wr (Reg.HDR.PG_STATE.STATE (bramPg k)) 2) s; let s := s.wr (Reg.DRIVE.TILE_STATUS.MODE 1) 2; let s := s.wr (Reg.DRIVE.TILE_STATUS.MODE 127) 2; let s := (s.wr (Reg.ELEM.ELEM_STATUS.STATUS 100) stHold).wr (Reg.ELEM.ELEM_STATUS.REASON 100) whyWrap; let s := { s with now := 10 ^ 9, bram := { s.bram with seen := [(200, ⟨9 * 10 ^ 8, 10 ^ 9 - 1000⟩), (201, ⟨2 * 10 ^ 8, 10 ^ 9 - 1000⟩)] } }; s : State), 100, sound_of (by decide +kernel), by decide +kernel, by decide +kernel, by decide +kernel, by decide +kernel⟩,
   ⟨(let s := base; let k := 1; let s := [0, 1, 2, 3].foldl (fun s k => s.wr (Reg.HDR.PG_STATE.STATE (bramPg k)) 2) s; let s := s.wr (Reg.DRIVE.TILE_STATUS.MODE 1) 2; let s := s.wr (Reg.DRIVE.TILE_STATUS.MODE 127) 2; let s := (s.wr (Reg.ELEM.ELEM_STATUS.STATUS 100) stSat).wr (Reg.ELEM.ELEM_STATUS.REASON 100) 0; let s := { s with now := 10 ^ 9, bram := { s.bram with seen := [(200, ⟨9 * 10 ^ 8, 10 ^ 9 - 1000⟩), (201, ⟨2 * 10 ^ 8, 10 ^ 9 - 1000⟩)] } }; s : State), 100, sound_of (by decide +kernel), by decide +kernel, by decide +kernel, by decide +kernel⟩,
   ⟨(let s := base; let k := 1; let s := [0, 1, 2, 3].foldl (fun s k => s.wr (Reg.HDR.PG_STATE.STATE (bramPg k)) 2) s; let s := s.wr (Reg.DRIVE.TILE_STATUS.MODE 1) 2; let s := s.wr (Reg.DRIVE.TILE_STATUS.MODE 127) 2; let s := (s.wr (Reg.ELEM.ELEM_STATUS.STATUS 100) stTrack).wr (Reg.ELEM.ELEM_STATUS.REASON 100) 0; let s := ((s.wr ⟨0x200640, 1, 1⟩ 0).wr ⟨0x200640, 2, 1⟩ 0); s : State), .pcie, 100, sound_of (by decide +kernel), calm_of (by decide +kernel), by decide +kernel, open_of (by decide +kernel), by decide +kernel, by decide +kernel, by decide +kernel, by decide +kernel⟩,
   ⟨(let s := base; let k := 1; let s := [0, 1, 2, 3].foldl (fun s k => s.wr (Reg.HDR.PG_STATE.STATE (bramPg k)) 2) s; let s := s.wr (Reg.DRIVE.TILE_STATUS.MODE 1) 2; let s := s.wr (Reg.DRIVE.TILE_STATUS.MODE 127) 2; let s := (s.wr (Reg.ELEM.ELEM_STATUS.STATUS 100) stQuar).wr (Reg.ELEM.ELEM_STATUS.REASON 100) 0; let s := ((s.wr ⟨0x200640, 1, 1⟩ 0).wr ⟨0x200640, 2, 1⟩ 0); s.put (Reg.ELEM.ELEM_CTRL.EN 100) true : State), .pcie, 100, sound_of (by decide +kernel), calm_of (by decide +kernel), by decide +kernel, open_of (by decide +kernel), by decide +kernel, by decide +kernel, by decide +kernel, by decide +kernel, by decide +kernel, by decide +kernel⟩,
   ⟨(let s := base; let k := 1; let s := [0, 1, 2, 3].foldl (fun s k => s.wr (Reg.HDR.PG_STATE.STATE (bramPg k)) 2) s; let s := s.wr (Reg.DRIVE.TILE_STATUS.MODE 1) 2; let s := s.wr (Reg.DRIVE.TILE_STATUS.MODE 127) 2; let s := (s.wr (Reg.ELEM.ELEM_STATUS.STATUS 100) stQuar).wr (Reg.ELEM.ELEM_STATUS.REASON 100) 0; let s := ((s.wr ⟨0x200640, 1, 1⟩ 0).wr ⟨0x200640, 2, 1⟩ 0); s.put (Reg.ELEM.ELEM_CTRL.EN 100) false : State), .pcie, 100, sound_of (by decide +kernel), calm_of (by decide +kernel), by decide +kernel, open_of (by decide +kernel), by decide +kernel, by decide +kernel, by decide +kernel, by decide +kernel, by decide +kernel⟩,
   ⟨(let s := base; let k := 1; let s := [0, 1, 2, 3].foldl (fun s k => s.wr (Reg.HDR.PG_STATE.STATE (bramPg k)) 2) s; let s := s.wr (Reg.DRIVE.TILE_STATUS.MODE 1) 2; let s := s.wr (Reg.DRIVE.TILE_STATUS.MODE 127) 2; let s := (s.wr (Reg.ELEM.ELEM_STATUS.STATUS 100) stOff).wr (Reg.ELEM.ELEM_STATUS.REASON 100) 0; let s := ((s.wr ⟨0x200640, 1, 1⟩ 0).wr ⟨0x200640, 2, 1⟩ 0); s.put (Reg.ELEM.ELEM_CTRL.EN 100) false : State), .pcie, 100, sound_of (by decide +kernel), calm_of (by decide +kernel), by decide +kernel, open_of (by decide +kernel), by decide +kernel, by decide +kernel, by decide +kernel, by decide +kernel, by decide +kernel, by decide +kernel, by decide +kernel⟩,
   ⟨(let s := base; let k := 1; let s := [0, 1, 2, 3].foldl (fun s k => s.wr (Reg.HDR.PG_STATE.STATE (bramPg k)) 2) s; let s := s.wr (Reg.DRIVE.TILE_STATUS.MODE 1) 2; let s := s.wr (Reg.DRIVE.TILE_STATUS.MODE 127) 2; let s := (s.wr (Reg.ELEM.ELEM_STATUS.STATUS 100) stTrack).wr (Reg.ELEM.ELEM_STATUS.REASON 100) 0; let s := ((s.wr ⟨0x200640, 1, 1⟩ 0).wr ⟨0x200640, 2, 1⟩ 0); s.put (Reg.ELEM.ELEM_CTRL.EN 100) true : State), .pcie, 100, sound_of (by decide +kernel), calm_of (by decide +kernel), by decide +kernel, open_of (by decide +kernel), by decide +kernel, by decide +kernel, by decide +kernel, by decide +kernel, by decide +kernel⟩⟩

theorem witness_ShuttersAndBallastLead :
    (∃ (s : State) (e : Nat) (thru drop : Int), s.Sound ∧ e < numElem ∧ isCell e = false ∧ s.working e = true ∧ s.clusterRun (clusterOf e) = true ∧ s.shutSeen e = some (thru, drop) ∧ ((s.inputs e).all (fun p => s.light (clusterOf e) p.1) = true) ∧ s.flag (Reg.ELEM.ELEM_STATUS.SH_NULL e) = false ∧ (s.elem e).soft = true) ∧
    (∃ (s : State) (b tg : Nat), s.Sound ∧ b < 128 ∧ alGet s.bram.ramps b = some tg ∧ s.clusterRun (b / 32) = true ∧ s.tileMode b ≠ 0 ∧ s.rangeCh b = none ∧ alGet s.drv.upd (htrKey b 76) = none) ∧
    (∃ (s : State) (mid : Nat), mid < 19968 ∧ s.lit mid = true ∧ s.loopMode (mid / 32) = true ∧ s.bram.guard.contains mid = false) ∧
    (∃ (s : State) (mid : Nat), s.Sound ∧ mid < 19968 ∧ s.lit mid = true) ∧
    (∃ (s : State) (mid cls : Nat), s.Sound ∧ mid < 19968 ∧ alGet s.bram.asked mid = some cls) ∧
    (∃ (s : State) (k : Nat), s.Sound ∧ k < 4) :=
  ⟨⟨(let s := base; let k := 1; let s := [0, 1, 2, 3].foldl (fun s k => s.wr (Reg.HDR.PG_STATE.STATE (bramPg k)) 2) s; let s := s.wr (Reg.DRIVE.TILE_STATUS.MODE 1) 2; let s := s.wr (Reg.DRIVE.TILE_STATUS.MODE 127) 2; let s := (s.wr (Reg.ELEM.ELEM_STATUS.STATUS 4400) stTrack).wr (Reg.ELEM.ELEM_STATUS.REASON 4400) 0; let s := [0, 1, 2, 3].foldl (fun s k => (s.wr (Reg.BRAMBLE.BLIND_CFG.L_MIN k) 0).wr (Reg.BRAMBLE.BLIND_CFG.C_MIN k) 0) s; let s := s.setElem 4400 { ElemSt.idle with soft := true }; let s := s.put (Reg.ELEM.ELEM_STATUS.SH_NULL 4400) false; let s := s.wr (Reg.DRIVE.TILE_STATUS.MODE 57) 2; { s with now := 10 ^ 9, bram := { s.bram with seen := [(egressMid 4400, ⟨90000000, 10 ^ 9 - 1000⟩), (dropMid 4400, ⟨7000000, 10 ^ 9 - 900⟩)] } } : State), 4400, 90000000, 7000000, sound_of (by decide +kernel), by decide +kernel, by decide +kernel, by decide +kernel, by decide +kernel, by decide +kernel, by decide +kernel, by decide +kernel, by decide +kernel⟩,
   ⟨(let s := base; let k := 1; let s := [0, 1, 2, 3].foldl (fun s k => s.wr (Reg.HDR.PG_STATE.STATE (bramPg k)) 2) s; let s := s.wr (Reg.DRIVE.TILE_STATUS.MODE 1) 2; let s := s.wr (Reg.DRIVE.TILE_STATUS.MODE 127) 2; { s with now := 10 ^ 9, bram := { s.bram with ramps := [(3, 5), (127, 10 ^ 12)] } } : State), 127, (10 ^ 12), sound_of (by decide +kernel), by decide +kernel, by decide +kernel, by decide +kernel, by decide +kernel, by decide +kernel, by decide +kernel⟩,
   ⟨(let s := base; let k := 1; let s := [0, 1, 2, 3].foldl (fun s k => (s.wr (Reg.BRAMBLE.BLIND_CFG.L_MIN k) 0).wr (Reg.BRAMBLE.BLIND_CFG.C_MIN k) 0) s; let s := { s with now := 10 ^ 9, bram := { s.bram with seen := [(200, ⟨9 * 10 ^ 8, 10 ^ 9 - 1000⟩), (201, ⟨2 * 10 ^ 8, 10 ^ 9 - 1000⟩)] } }; s : State), 200, by decide +kernel, by decide +kernel, by decide +kernel, by decide +kernel⟩,
   ⟨(let s := base; let k := 1; let s := [0, 1, 2, 3].foldl (fun s k => (s.wr (Reg.BRAMBLE.BLIND_CFG.L_MIN k) 0).wr (Reg.BRAMBLE.BLIND_CFG.C_MIN k) 0) s; let s := { s with now := 10 ^ 9, bram := { s.bram with seen := [(200, ⟨9 * 10 ^ 8, 10 ^ 9 - 1000⟩), (201, ⟨2 * 10 ^ 8, 10 ^ 9 - 1000⟩)] } }; s : State), 200, sound_of (by decide +kernel), by decide +kernel, by decide +kernel⟩,
   ⟨(let s := base; let k := 1; let s := [0, 1, 2, 3].foldl (fun s k => (s.wr (Reg.BRAMBLE.BLIND_CFG.L_MIN k) 0).wr (Reg.BRAMBLE.BLIND_CFG.C_MIN k) 0) s; let s := { s with now := 10 ^ 9, bram := { s.bram with seen := [(200, ⟨9 * 10 ^ 8, 10 ^ 9 - 1000⟩), (201, ⟨2 * 10 ^ 8, 10 ^ 9 - 1000⟩)] } }; { s with bram := { s.bram with asked := [(200, 2), (201, 1)] } } : State), 200, 2, sound_of (by decide +kernel), by decide +kernel, by decide +kernel⟩,
   ⟨(let s := base; { s with bram := { s.bram with ages := [(3, 99)], fresh := [1] } } : State), 3, sound_of (by decide +kernel), by decide +kernel⟩⟩

theorem witness_ScheduleControlLeads :
    (∃ (s : State) (path : HostPath), s.Sound ∧ s.Calm ∧ s.Open 0x9040 ∧ (s.dev = .armed ∨ s.dev = .run) ∧ s.gstate = 0 ∧ s.rd Reg.GANTRY.START_CFG.MODE = 0 ∧ s.flag Reg.GANTRY.START_CFG.FROM_STREAM = false ∧ s.rd Reg.GANTRY.START_CFG.INDEX < s.gan.limit ∧ s.flag (Reg.HDR.PG_CTRL.ENABLE 0x9000) = true) ∧
    (∃ (s : State) (path : HostPath), s.Sound ∧ s.Calm ∧ s.Open 0x9040 ∧ s.gstate = 2) ∧
    (∃ (s : State) (path : HostPath), s.Sound ∧ s.Calm ∧ s.Open 0x9040 ∧ (s.gstate = 1 ∨ s.gstate = 3 ∨ s.gstate = 4)) ∧
    (∃ (s : State) (path : HostPath) (i : Nat), s.Sound ∧ s.Calm ∧ s.Open 0x9040 ∧ s.playingG = true ∧ s.labelEntry (s.rd Reg.GANTRY.JUMP_CFG.LABEL) = some i ∧ (s.gstate ≠ 2 ∨ s.gan.fixed = none ∧ s.gan.ended = false)) ∧
    (∃ (s : State) (path : HostPath) (i : Nat), s.Sound ∧ s.Calm ∧ s.Open 0x9040 ∧ s.playingG = true ∧ s.labelEntry (s.rd Reg.GANTRY.JUMP_CFG.LABEL) = some i ∧ s.gstate = 2 ∧ (s.gan.fixed.isSome = true ∨ s.gan.ended = true)) ∧
    (∃ (s : State) (path : HostPath), s.Sound ∧ s.Calm ∧ s.Open 0x9040 ∧ s.gstate = 3 ∧ s.gan.fixed = none ∧ s.gan.nextT = none ∧ s.gan.plan = none ∧ s.gan.ended = false ∧ s.flag Reg.GANTRY.RESYNC_CFG.USE_LABEL = false ∧ s.now + (s.leadG + 2) * s.gran ≤ s.rdTime 0x9054 ∧ s.gan.lastT + s.minBench * s.gran ≤ s.rdTime 0x9054) ∧
    (∃ (s : State) (path : HostPath), s.Sound ∧ s.Calm ∧ s.Open 0x9040 ∧ s.gstate ≠ 1 ∧ s.gan.resync = none) ∧
    (∃ (s : State) (path : HostPath), s.Sound ∧ s.Calm ∧ s.Open 0x9040 ∧ s.gstate = 1) ∧
    (∃ (s : State) (path : HostPath) (v : Nat), s.Sound ∧ s.Open 0x9068 ∧ 40000 ≤ v ∧ v ≤ 200000 ∧ (s.gstate = 0 ∨ s.gstate = 5)) ∧
    (∃ (s : State) (path : HostPath) (v : Nat) (T : Nat), s.Sound ∧ s.Open 0x9068 ∧ 40000 ≤ v ∧ v ≤ 200000 ∧ s.gstate ≠ 0 ∧ s.gstate ≠ 5 ∧ s.gan.nextT = some T ∧ s.now + 10 * ns < T) ∧
    (∃ (s : State) (path : HostPath), s.Sound ∧ s.Open 0x9084 ∧ s.gstate = 0) ∧
    (∃ (s : State), s.Sound ∧ s.flag Reg.GANTRY.LOCK_STATUS.BUSY = true) :=
  ⟨⟨(let s := base; ((((s.wr Reg.GANTRY.STATE.GSTATE 0).wr Reg.GANTRY.START_CFG.MODE 0).put Reg.GANTRY.START_CFG.FROM_STREAM false).wr Reg.GANTRY.START_CFG.INDEX 5).put (Reg.HDR.PG_CTRL.ENABLE 0x9000) true : State), .pcie, sound_of (by decide +kernel), calm_of (by decide +kernel), open_of (by decide +kernel), by decide +kernel, by decide +kernel, by decide +kernel, by decide +kernel, by decide +kernel, by decide +kernel⟩,
   ⟨(let s := base; s.wr Reg.GANTRY.STATE.GSTATE 2 : State), .pcie, sound_of (by decide +kernel), calm_of (by decide +kernel), open_of (by decide +kernel), by decide +kernel⟩,
   ⟨(let s := base; s.wr Reg.GANTRY.STATE.GSTATE 3 : State), .pcie, sound_of (by decide +kernel), calm_of (by decide +kernel), open_of (by decide +kernel), by decide +kernel⟩,
   ⟨(let s := base; let s := (s.wr Reg.GANTRY.STATE.GSTATE 2).wr Reg.GANTRY.JUMP_CFG.LABEL 3; { s with gan := { s.gan with labels := [(3, 9)] } } : State), .pcie, 9, sound_of (by decide +kernel), calm_of (by decide +kernel), open_of (by decide +kernel), by decide +kernel, by decide +kernel, by decide +kernel⟩,
   ⟨(let s := base; let s := (s.wr Reg.GANTRY.STATE.GSTATE 2).wr Reg.GANTRY.JUMP_CFG.LABEL 3; { s with gan := { s.gan with labels := [(3, 9)], fixed := some ⟨false, 4, 0, 2, 100, 0, 0, 0, 0⟩ } } : State), .pcie, 9, sound_of (by decide +kernel), calm_of (by decide +kernel), open_of (by decide +kernel), by decide +kernel, by decide +kernel, by decide +kernel, by decide +kernel⟩,
   ⟨(let s := base; ((s.wr Reg.GANTRY.STATE.GSTATE 3).put Reg.GANTRY.RESYNC_CFG.USE_LABEL false).wrTime 0x9054 (10 ^ 30 % 2 ^ 95) : State), .pcie, sound_of (by decide +kernel), calm_of (by decide +kernel), open_of (by decide +kernel), by decide +kernel, by decide +kernel, by decide +kernel, by decide +kernel, by decide +kernel, by decide +kernel, by decide +kernel, by decide +kernel⟩,
   ⟨(let s := base; let s := (s.wr Reg.GANTRY.STATE.GSTATE 2); { s with gan := { s.gan with jump := some 3 } } : State), .pcie, sound_of (by decide +kernel), calm_of (by decide +kernel), open_of (by decide +kernel), by decide +kernel, by decide +kernel⟩,
   ⟨(let s := base; (s.wr Reg.GANTRY.STATE.GSTATE 1) : State), .pcie, sound_of (by decide +kernel), calm_of (by decide +kernel), open_of (by decide +kernel), by decide +kernel⟩,
   ⟨(let s := base; s.wr Reg.GANTRY.STATE.GSTATE 5 : State), .pcie, 123456, sound_of (by decide +kernel), open_of (by decide +kernel), by decide +kernel, by decide +kernel, by decide +kernel⟩,
   ⟨(let s := base; let s := s.wr Reg.GANTRY.STATE.GSTATE 2; { s with gan := { s.gan with nextT := some (10 ^ 30) } } : State), .pcie, 123456, (10 ^ 30), sound_of (by decide +kernel), open_of (by decide +kernel), by decide +kernel, by decide +kernel, by decide +kernel, by decide +kernel, by decide +kernel, by decide +kernel⟩,
   ⟨(let s := base; s.wr Reg.GANTRY.STATE.GSTATE 0 : State), .pcie, sound_of (by decide +kernel), open_of (by decide +kernel), by decide +kernel⟩,
   ⟨(let s := base; let s := ((s.put Reg.GANTRY.LOCK_STATUS.BUSY true).wrW 0x580014 5).wrW 0x580034 5; { s with gan := { s.gan with limit := 3 } } : State), sound_of (by decide +kernel), by decide +kernel⟩⟩

theorem witness_StreamsAndBenchMemoryLead :
    (∃ (s : State) (path : HostPath) (i : Nat) (ws : List Word), s.Sound ∧ i < 8192 ∧ ws.length = 8 ∧ s.Open (0x580000 + 32 * i) ∧ i < s.gan.limit ∧ s.gantryRunning = false) ∧
    (∃ (s : State) (path : HostPath), s.Sound ∧ s.Open 0x908C ∧ 12 ≤ s.rd Reg.GANTRY.STREAM_CFG.SIZE_LOG2 ∧ s.rd Reg.GANTRY.STREAM_CFG.SIZE_LOG2 ≤ 30 ∧ s.rd64 0x9090 % 4096 = 0 ∧ s.inPartition 1 (s.rd64 0x9090) (2 ^ s.rd Reg.GANTRY.STREAM_CFG.SIZE_LOG2) = true ∧ s.gan.limit + 64 ≤ 8192 ∧ s.gstate = 0 ∧ s.flag Reg.GANTRY.STREAM_CFG.ENABLE = false) ∧
    (∃ (s : State) (path : HostPath) (v : Nat), s.Sound ∧ s.Open 0x9098 ∧ v < 2 ^ 31 ∧ v % 32 = 0) ∧
    (∃ (s : State) (b : Bench), s.Sound ∧ s.flag Reg.GANTRY.STREAM_CFG.ENABLE = true ∧ s.sdOnline = true ∧ s.gan.stall = false ∧ s.rd Reg.GANTRY.STREAM_RD_PTR.PTR % 2 ^ (s.rd Reg.GANTRY.STREAM_CFG.SIZE_LOG2 + 1) ≠ s.rd Reg.GANTRY.STREAM_WR_PTR.PTR % 2 ^ (s.rd Reg.GANTRY.STREAM_CFG.SIZE_LOG2 + 1) ∧ s.gan.sbuf.length < 8192 - s.gan.limit ∧ parseBench true s.gan.staken (s.sdBytes (s.rd64 0x9090 + s.rd Reg.GANTRY.STREAM_RD_PTR.PTR % (2 ^ (s.rd Reg.GANTRY.STREAM_CFG.SIZE_LOG2 + 1) / 2)) 32) = b ∧ b.seqOf = s.rd Reg.GANTRY.STREAM_SEQ.EXPECT) ∧
    (∃ (s : State) (b : Bench), s.Sound ∧ s.flag Reg.GANTRY.STREAM_CFG.ENABLE = true ∧ s.sdOnline = true ∧ s.gan.stall = false ∧ s.rd Reg.GANTRY.STREAM_RD_PTR.PTR % 2 ^ (s.rd Reg.GANTRY.STREAM_CFG.SIZE_LOG2 + 1) ≠ s.rd Reg.GANTRY.STREAM_WR_PTR.PTR % 2 ^ (s.rd Reg.GANTRY.STREAM_CFG.SIZE_LOG2 + 1) ∧ s.gan.sbuf.length < 8192 - s.gan.limit ∧ parseBench true s.gan.staken (s.sdBytes (s.rd64 0x9090 + s.rd Reg.GANTRY.STREAM_RD_PTR.PTR % (2 ^ (s.rd Reg.GANTRY.STREAM_CFG.SIZE_LOG2 + 1) / 2)) 32) = b ∧ b.seqOf ≠ s.rd Reg.GANTRY.STREAM_SEQ.EXPECT) ∧
    (∃ (s : State) (path : HostPath) (v : Nat), s.Sound ∧ s.Open 0x90A0 ∧ v < 2 ^ 16 ∧ (s.flag Reg.GANTRY.STREAM_CFG.ENABLE = false ∨ s.gan.stall = true)) :=
  ⟨⟨(let s := base; s.wr Reg.GANTRY.STATE.GSTATE 0 : State), .pcie, 40, ([1, 2, 3, 4, 5, 6, 7, 8]), sound_of (by decide +kernel), by decide +kernel, by decide +kernel, open_of (by decide +kernel), by decide +kernel, by decide +kernel⟩,
   ⟨(let s := base; let s := ((((s.wr (Reg.DEVICE.SDRAM_MAP_SIZE.MB 1) 1024).wr Reg.GANTRY.STREAM_CFG.SIZE_LOG2 12).wr64 0x9090 0x10000000).wr Reg.GANTRY.STATE.GSTATE 0).put Reg.GANTRY.STREAM_CFG.ENABLE false; { s with gan := { s.gan with limit := 100 } } : State), .pcie, sound_of (by decide +kernel), open_of (by decide +kernel), by decide +kernel, by decide +kernel, by decide +kernel, by decide +kernel, by decide +kernel, by decide +kernel, by decide +kernel⟩,
   ⟨(let s := base; s.wr Reg.GANTRY.STREAM_CFG.SIZE_LOG2 11 : State), .pcie, (4096 + 640), sound_of (by decide +kernel), open_of (by decide +kernel), by decide +kernel, by decide +kernel⟩,
   ⟨(let s := base; let s := ((((s.wr Reg.GANTRY.STREAM_CFG.SIZE_LOG2 12).put Reg.GANTRY.STREAM_CFG.ENABLE true).wr Reg.GANTRY.STREAM_WR_PTR.PTR 64).wr Reg.GANTRY.STREAM_RD_PTR.PTR 0).wr Reg.GANTRY.STREAM_SEQ.EXPECT 0x0303; withSdram { s with sd := memWrite s.sd 0 (List.replicate 96 3), gan := { s.gan with limit := 100 } } : State), (let s : State := (let s := base; let s := ((((s.wr Reg.GANTRY.STREAM_CFG.SIZE_LOG2 12).put Reg.GANTRY.STREAM_CFG.ENABLE true).wr Reg.GANTRY.STREAM_WR_PTR.PTR 64).wr Reg.GANTRY.STREAM_RD_PTR.PTR 0).wr Reg.GANTRY.STREAM_SEQ.EXPECT 0x0303; withSdram { s with sd := memWrite s.sd 0 (List.replicate 96 3), gan := { s.gan with limit := 100 } } : State); (parseBench true s.gan.staken (s.sdBytes (s.rd64 0x9090 + s.rd Reg.GANTRY.STREAM_RD_PTR.PTR % (2 ^ (s.rd Reg.GANTRY.STREAM_CFG.SIZE_LOG2 + 1) / 2)) 32) : Bench)), sound_of (by decide +kernel), by decide +kernel, by decide +kernel, by decide +kernel, by decide +kernel, by decide +kernel, by decide +kernel, by decide +kernel⟩,
   ⟨(let s := base; let s := ((((s.wr Reg.GANTRY.STREAM_CFG.SIZE_LOG2 12).put Reg.GANTRY.STREAM_CFG.ENABLE true).wr Reg.GANTRY.STREAM_WR_PTR.PTR 64).wr Reg.GANTRY.STREAM_RD_PTR.PTR 0).wr Reg.GANTRY.STREAM_SEQ.EXPECT 6; withSdram { s with sd := memWrite s.sd 0 (List.replicate 96 0), gan := { s.gan with limit := 100 } } : State), (let s : State := (let s := base; let s := ((((s.wr Reg.GANTRY.STREAM_CFG.SIZE_LOG2 12).put Reg.GANTRY.STREAM_CFG.ENABLE true).wr Reg.GANTRY.STREAM_WR_PTR.PTR 64).wr Reg.GANTRY.STREAM_RD_PTR.PTR 0).wr Reg.GANTRY.STREAM_SEQ.EXPECT 6; withSdram { s with sd := memWrite s.sd 0 (List.replicate 96 0), gan := { s.gan with limit := 100 } } : State); (parseBench true s.gan.staken (s.sdBytes (s.rd64 0x9090 + s.rd Reg.GANTRY.STREAM_RD_PTR.PTR % (2 ^ (s.rd Reg.GANTRY.STREAM_CFG.SIZE_LOG2 + 1) / 2)) 32) : Bench)), sound_of (by decide +kernel), by decide +kernel, by decide +kernel, by decide +kernel, by decide +kernel, by decide +kernel, by decide +kernel, by decide +kernel⟩,
   ⟨(let s := base; s.put Reg.GANTRY.STREAM_CFG.ENABLE false : State), .pcie, 77, sound_of (by decide +kernel), open_of (by decide +kernel), by decide +kernel, by decide +kernel⟩⟩

theorem witness_UnderflowsAndWaitsLead :
    (∃ (s : State) (x : Bench) (e : Episode) (T : Nat), s.Sound ∧ s.Calm ∧ s.gstate = 4 ∧ s.gan.ep = some e ∧ e.safe = false ∧ e.ext < s.maxExtend ∧ s.gan.ended = false ∧ s.gan.nextT = some T ∧ s.gan.live = some x ∧ s.gan.resync = none ∧ s.gan.jump = none ∧ s.gan.stop = false ∧ x.loopEnd = false ∧ x.stopAfter = false ∧ x.stream = true ∧ s.benchAt true (x.idx + 1) = none) ∧
    (∃ (s : State) (e : Episode), s.Sound ∧ s.Calm ∧ s.gstate = 4 ∧ s.dev = .run ∧ s.gan.ep = some e ∧ s.maxExtend ≤ s.extension e) ∧
    (∃ (s : State) (x b : Bench), s.Sound ∧ s.Calm ∧ s.gstate = 3 ∧ s.gan.live = some x ∧ s.gan.resync = none ∧ s.gan.jump = none ∧ s.gan.stop = false ∧ x.loopEnd = false ∧ x.stopAfter = false ∧ x.stream = false ∧ x.toStream = false ∧ x.idx + 1 < s.gan.limit ∧ s.entry (x.idx + 1) = b ∧ b.triggered = true ∧ s.trigQueued b.trigSrc = true) ∧
    (∃ (s : State) (x b : Bench), s.Sound ∧ s.Calm ∧ s.gstate = 3 ∧ s.gan.live = some x ∧ s.gan.resync = none ∧ s.gan.jump = none ∧ s.gan.stop = false ∧ s.gan.syncTrig = false ∧ x.loopEnd = false ∧ x.stopAfter = false ∧ x.stream = false ∧ x.toStream = false ∧ x.idx + 1 < s.gan.limit ∧ s.entry (x.idx + 1) = b ∧ b.triggered = true ∧ s.trigQueued b.trigSrc = false) :=
  ⟨⟨(let s := base; let x : Bench := ⟨true, 7, 0, 2, 100, 0, 0, 0, 0⟩; let e : Episode := ⟨500, 3, false⟩; let T : Nat := 10 ^ 20; let s := (s.wr Reg.GANTRY.STATE.GSTATE 4).wr Reg.GANTRY.MAX_EXTEND.G 9; { s with gan := { s.gan with nextT := some T, ep := some e, live := some x } } : State), (⟨true, 7, 0, 2, 100, 0, 0, 0, 0⟩), (⟨500, 3, false⟩), (10 ^ 20), sound_of (by decide +kernel), calm_of (by decide +kernel), by decide +kernel, by decide +kernel, by decide +kernel, by decide +kernel, by decide +kernel, by decide +kernel, by decide +kernel, by decide +kernel, by decide +kernel, by decide +kernel, by decide +kernel, by decide +kernel, by decide +kernel, by decide +kernel⟩,
   ⟨(let s := base; let s := (s.wr Reg.GANTRY.STATE.GSTATE 4).wr Reg.GANTRY.MAX_EXTEND.G 9; { s with dev := .run, gan := { s.gan with ep := some ⟨500, 9, false⟩ } } : State), (⟨500, 9, false⟩), sound_of (by decide +kernel), calm_of (by decide +kernel), by decide +kernel, by decide +kernel, by decide +kernel, by decide +kernel⟩,
   ⟨(let s := base; let x : Bench := ⟨false, 7, 0, 2, 100, 0, 0, 0, 0⟩; let s := ((s.wr Reg.GANTRY.STATE.GSTATE 3).wrW (0x580100 + 0x10) (BitVec.ofNat 32 (100 + 2 ^ 24 + 2 ^ 25))).wr Reg.GANTRY_TRIG.TRIGIN_STATUS.QUEUED 2; { s with gan := { s.gan with live := some x, limit := 100 } } : State), (⟨false, 7, 0, 2, 100, 0, 0, 0, 0⟩), (let s : State := (let s := base; let x : Bench := ⟨false, 7, 0, 2, 100, 0, 0, 0, 0⟩; let s := ((s.wr Reg.GANTRY.STATE.GSTATE 3).wrW (0x580100 + 0x10) (BitVec.ofNat 32 (100 + 2 ^ 24 + 2 ^ 25))).wr Reg.GANTRY_TRIG.TRIGIN_STATUS.QUEUED 2; { s with gan := { s.gan with live := some x, limit := 100 } } : State); let x : Bench := ⟨false, 7, 0, 2, 100, 0, 0, 0, 0⟩; (s.entry 8 : Bench)), sound_of (by decide +kernel), calm_of (by decide +kernel), by decide +kernel, by decide +kernel, by decide +kernel, by decide +kernel, by decide +kernel, by decide +kernel, by decide +kernel, by decide +kernel, by decide +kernel, by decide +kernel, by decide +kernel, by decide +kernel, by decide +kernel⟩,
   ⟨(let s := base; let x : Bench := ⟨false, 7, 0, 2, 100, 0, 0, 0, 0⟩; let s := ((s.wr Reg.GANTRY.STATE.GSTATE 3).wrW (0x580100 + 0x10) (BitVec.ofNat 32 (100 + 2 ^ 24 + 2 ^ 25))).wr Reg.GANTRY_TRIG.TRIGIN_STATUS.QUEUED 1; { s with gan := { s.gan with live := some x, limit := 100 } } : State), (⟨false, 7, 0, 2, 100, 0, 0, 0, 0⟩), (let s : State := (let s := base; let x : Bench := ⟨false, 7, 0, 2, 100, 0, 0, 0, 0⟩; let s := ((s.wr Reg.GANTRY.STATE.GSTATE 3).wrW (0x580100 + 0x10) (BitVec.ofNat 32 (100 + 2 ^ 24 + 2 ^ 25))).wr Reg.GANTRY_TRIG.TRIGIN_STATUS.QUEUED 1; { s with gan := { s.gan with live := some x, limit := 100 } } : State); let x : Bench := ⟨false, 7, 0, 2, 100, 0, 0, 0, 0⟩; (s.entry 8 : Bench)), sound_of (by decide +kernel), calm_of (by decide +kernel), by decide +kernel, by decide +kernel, by decide +kernel, by decide +kernel, by decide +kernel, by decide +kernel, by decide +kernel, by decide +kernel, by decide +kernel, by decide +kernel, by decide +kernel, by decide +kernel, by decide +kernel, by decide +kernel⟩⟩

theorem witness_TriggersAndSyncPulsesLead :
    (∃ (s : State) (i T : Nat) (fall held : Bool), s.Sound ∧ i < 4 ∧ (held = false ∨ s.flag (Reg.GANTRY_TRIG.TRIGIN_CFG.EDGE i) ≠ fall ∨ s.flag (Reg.GANTRY_TRIG.TRIGIN_CFG.TO_GANTRY i) = false)) ∧
    (∃ (s : State) (i T : Nat), s.Sound ∧ i < 4 ∧ s.rd ⟨Reg.TIME.TS_CFG.EDGE_0.off, 2 * i, 2⟩ = 0 ∧ s.flag (Reg.GANTRY_TRIG.TRIGIN_CFG.EDGE i) = false ∧ s.flag (Reg.GANTRY_TRIG.TRIGIN_CFG.TO_GANTRY i) = true ∧ s.playingG = true ∧ s.trigQueued i = false) ∧
    (∃ (s : State) (k T : Nat) (b : Bench), s.Sound ∧ k < 16 ∧ s.gan.fixed = some b ∧ s.gan.nextT = some T ∧ s.trigTakes k 0 = true ∧ bitOf b.trigo k = true ∧ s.gantryRunning = true ∧ s.gan.trigEarly.contains k = false ∧ s.rd (Reg.GANTRY_TRIG.TRIGO_CFG.LEAD k) ≤ s.leadG) ∧
    (∃ (s : State) (k : Nat), s.Sound ∧ k < 16 ∧ tabGet s.gan.trigEnd 0 k ≤ s.now) ∧
    (∃ (s : State) (k : Nat), k < 16 ∧ s.now < tabGet s.gan.trigEnd 0 k) ∧
    (∃ (s : State) (wide : Bool) (n : Nat), s.master = true ∧ s.gstate = 0 ∧ s.gan.echo = some (n + 1)) ∧
    (∃ (s : State) (wide : Bool), s.master = true ∧ s.gantryRunning = true ∧ (wide = true ∨ s.flag Reg.GANTRY_TRIG.SYNC_CFG.EACH = true)) ∧
    (∃ (s : State) (tin turn : Nat) (wide : Bool), s.Sound ∧ s.Calm ∧ s.rd Reg.GANTRY_TRIG.SYNC_CFG.ROLE = 3) ∧
    (∃ (s : State) (tin turn : Nat), s.Sound ∧ s.Calm ∧ s.rd Reg.GANTRY_TRIG.SYNC_CFG.ROLE = 2 ∧ s.gstate = 1 ∧ s.gan.nextT = none ∧ s.gan.resync = none ∧ s.gan.mode = 2) ∧
    (∃ (s : State) (tin turn : Nat), s.Sound ∧ s.Calm ∧ s.rd Reg.GANTRY_TRIG.SYNC_CFG.ROLE = 2 ∧ s.gstate = 3) ∧
    (∃ (s : State) (path : HostPath), s.Sound ∧ s.Open 0xA108 ∧ s.master = true ∧ s.gstate = 0) ∧
    (∃ (s : State) (mean : Nat) (all : Bool), s.Sound ∧ s.gan.echo = some 0) :=
  ⟨⟨(let s := base; s : State), 2, 55555, true, false, sound_of (by decide +kernel), by decide +kernel, by decide +kernel⟩,
   ⟨(let s := base; (((s.wr Reg.GANTRY.STATE.GSTATE 2).wr Reg.GANTRY_TRIG.TRIGIN_STATUS.QUEUED 0).put (Reg.GANTRY_TRIG.TRIGIN_CFG.EDGE 2) false).put (Reg.GANTRY_TRIG.TRIGIN_CFG.TO_GANTRY 2) true : State), 2, 55555, sound_of (by decide +kernel), by decide +kernel, by decide +kernel, by decide +kernel, by decide +kernel, by decide +kernel, by decide +kernel⟩,
   ⟨(let s := base; let T : Nat := 10 ^ 20; let s := (((s.wr Reg.GANTRY.STATE.GSTATE 2).put (Reg.GANTRY_TRIG.TRIGO_CFG.ENABLE 3) true).wr (Reg.GANTRY_TRIG.TRIGO_CFG.SOURCE 3) 2).wr (Reg.GANTRY_TRIG.TRIGO_CFG.LEAD 3) 7; { s with gan := { s.gan with fixed := some ⟨false, 7, 0, 2, 100, 8, 8, 8, 8⟩, nextT := some T } } : State), 3, (10 ^ 20), (⟨false, 7, 0, 2, 100, 8, 8, 8, 8⟩), sound_of (by decide +kernel), by decide +kernel, by decide +kernel, by decide +kernel, by decide +kernel, by decide +kernel, by decide +kernel, by decide +kernel, by decide +kernel⟩,
   ⟨(let s := base; { s with now := 99, gan := { s.gan with trigEnd := [(15, 44)] } } : State), 15, sound_of (by decide +kernel), by decide +kernel, by decide +kernel⟩,
   ⟨(let s := base; { s with now := 9, gan := { s.gan with trigEnd := [(15, 44)] } } : State), 15, by decide +kernel, by decide +kernel⟩,
   ⟨(let s := base; let s := (s.wr Reg.GANTRY.STATE.GSTATE 0).wr Reg.GANTRY_TRIG.SYNC_CFG.ROLE 1; { s with gan := { s.gan with echo := some 64 } } : State), false, 63, by decide +kernel, by decide +kernel, by decide +kernel⟩,
   ⟨(let s := base; (s.wr Reg.GANTRY.STATE.GSTATE 2).wr Reg.GANTRY_TRIG.SYNC_CFG.ROLE 1 : State), true, by decide +kernel, by decide +kernel, by decide +kernel⟩,
   ⟨(let s := base; s.wr Reg.GANTRY_TRIG.SYNC_CFG.ROLE 3 : State), 5, 1234, false, sound_of (by decide +kernel), calm_of (by decide +kernel), by decide +kernel⟩,
   ⟨(let s := base; let s := (s.wr Reg.GANTRY_TRIG.SYNC_CFG.ROLE 2).wr Reg.GANTRY.STATE.GSTATE 1; { s with gan := { s.gan with mode := 2 } } : State), (5 * 10 ^ 20), 1234, sound_of (by decide +kernel), calm_of (by decide +kernel), by decide +kernel, by decide +kernel, by decide +kernel, by decide +kernel, by decide +kernel⟩,
   ⟨(let s := base; (s.wr Reg.GANTRY_TRIG.SYNC_CFG.ROLE 2).wr Reg.GANTRY.STATE.GSTATE 3 : State), 5, 1234, sound_of (by decide +kernel), calm_of (by decide +kernel), by decide +kernel, by decide +kernel⟩,
   ⟨(let s := base; (s.wr Reg.GANTRY.STATE.GSTATE 0).wr Reg.GANTRY_TRIG.SYNC_CFG.ROLE 1 : State), .pcie, sound_of (by decide +kernel), open_of (by decide +kernel), by decide +kernel, by decide +kernel⟩,
   ⟨(let s := base; { s with gan := { s.gan with echo := some 0 } } : State), 7777, true, sound_of (by decide +kernel), by decide +kernel⟩⟩

theorem witness_TimeMessagesLead :
    (∃ (s : State) (port via gm dom t1 t2 : Nat) (corr log : Int), s.Sound ∧ s.ptpTaken port via dom = true ∧ -7 ≤ log ∧ log ≤ 0 ∧ s.time.gm = some gm) ∧
    (∃ (s : State) (port via gm dom t1 t2 : Nat) (corr log : Int), s.Sound ∧ s.ptpTaken port via dom = true ∧ -7 ≤ log ∧ log ≤ 0 ∧ s.time.gm = some gm ∧ port ≠ s.srcPort) ∧
    (∃ (s : State) (port via gm dom t1 t2 : Nat) (corr log : Int) (off : Int), s.Sound ∧ s.ptpTaken port via dom = true ∧ -7 ≤ log ∧ log ≤ 0 ∧ s.time.gm = some gm ∧ port = s.srcPort ∧ s.servoMode = 0 ∧ s.servo = 0 ∧ off = (((t2 : Int) + sgn 32 (s.rd (Reg.TIME.PORT_LAT_RX.PS port))).toNat - (t1 : Int)) * (ps : Int) - corrUnits corr - s.pathDelay port - s.rdPs (Reg.TIME.PORT_ASYM.PS port) ∧ beyond off (max 100 (s.rd Reg.TIME.STEP_LIMIT.NS)) = false) ∧
    (∃ (s : State) (port via gm dom t1 : Nat) (corr : Int) (m : SyncMsg), s.ptpTaken port via dom = true ∧ (s.time.waiting.find? (fun w => w.port == port) = some m) ∧ s.time.gm = some gm ∧ m.port ≠ s.srcPort) ∧
    (∃ (s : State) (t3 : Nat), s.pageRun 0x8000 = true ∧ s.flag (Reg.TIME.PORT_CFG.ENABLE s.srcPort) = true ∧ s.flag Reg.TIME.TIME_CTRL.PROFILE = false ∧ s.servoMode < 2) ∧
    (∃ (s : State) (port via dom t3 t4 : Nat) (corr : Int) (m : SyncMsg), s.flag Reg.TIME.TIME_CTRL.PROFILE = false ∧ s.ptpTaken port via dom = true ∧ s.time.asked = some (port, t3) ∧ (s.time.last.find? (fun w => w.port == port) = some m) ∧ port ≠ s.srcPort) ∧
    (∃ (s : State) (port via dom t4 : Nat) (corr : Int), s.Sound ∧ port < 2 ∧ s.ptpOver port via = true ∧ s.flag Reg.TIME.TIME_CTRL.PROFILE = true) ∧
    (∃ (s : State) (port via turn : Nat) (corr : Int), s.ptpOver port via = true ∧ s.flag Reg.TIME.TIME_CTRL.PROFILE = true ∧ s.pageRun 0x8000 = true) ∧
    (∃ (s : State) (port via turn : Nat) (corr : Int), s.Sound ∧ s.ptpOver port via = true ∧ s.flag Reg.TIME.TIME_CTRL.PROFILE = false) ∧
    (∃ (s : State) (port trip turn : Nat), s.Sound ∧ port < 2 ∧ s.pageRun 0x8000 = true ∧ s.flag (Reg.TIME.PORT_CFG.ENABLE port) = true ∧ s.flag Reg.TIME.TIME_CTRL.PROFILE = true) ∧
    (∃ (s : State) (port : Nat), s.Sound ∧ port < 2 ∧ s.pageRun 0x8000 = true ∧ s.flag (Reg.TIME.PORT_CFG.ENABLE port) = true ∧ s.flag Reg.TIME.TIME_CTRL.PROFILE = true) ∧
    (∃ (s : State) (port via dom id : Nat) (data : List Nat), s.Sound ∧ s.ptpTaken port via dom = true ∧ s.time.masters = [] ∧ s.time.gm = none) ∧
    (∃ (s : State) (port via dom id g : Nat) (data : List Nat), s.Sound ∧ s.ptpTaken port via dom = true ∧ s.time.masters = [] ∧ s.time.gm = some g ∧ g ≠ id ∧ s.servoMode ≠ 3) :=
  ⟨⟨(let s := base; let gm : Nat := 77; let s := ((s.wr (Reg.HDR.PG_STATE.STATE 0x8000) 2).put (Reg.TIME.PORT_CFG.ENABLE 1) true).wr Reg.TIME.TIME_CTRL.DOMAIN 24; let s := s.wr (Reg.TIME.PORT_CFG.TRANSPORTS 1) 4; { s with time := { s.time with gm := some 77, heard := [(1, 3, 4), (0, 5, 6)], waiting := [⟨1, 5, 5, 0, 0⟩, ⟨0, 5, 5, 0, 0⟩] } } : State), 1, 2, 77, 24, (10 ^ 15), (10 ^ 15 + 7000000), 65536, -3, sound_of (by decide +kernel), by decide +kernel, by decide +kernel, by decide +kernel, by decide +kernel⟩,
   ⟨(let s := base; let gm : Nat := 77; let s := ((s.wr (Reg.HDR.PG_STATE.STATE 0x8000) 2).put (Reg.TIME.PORT_CFG.ENABLE 1) true).wr Reg.TIME.TIME_CTRL.DOMAIN 24; let s := s.wr (Reg.TIME.PORT_CFG.TRANSPORTS 1) 4; let s := s.wr Reg.TIME.TIME_STATUS.SRC_PORT 0; { s with time := { s.time with gm := some 77 } } : State), 1, 2, 77, 24, (10 ^ 15), (10 ^ 15 + 7000000), 65536, -3, sound_of (by decide +kernel), by decide +kernel, by decide +kernel, by decide +kernel, by decide +kernel, by decide +kernel⟩,
   ⟨(let s := base; let gm : Nat := 77; let s := ((s.wr (Reg.HDR.PG_STATE.STATE 0x8000) 2).put (Reg.TIME.PORT_CFG.ENABLE 1) true).wr Reg.TIME.TIME_CTRL.DOMAIN 24; let s := s.wr (Reg.TIME.PORT_CFG.TRANSPORTS 1) 4; let s := ((((s.wr Reg.TIME.TIME_STATUS.SRC_PORT 1).wr Reg.TIME.TIME_CTRL.SERVO_MODE 0).wr Reg.TIME.TIME_STATUS.SERVO_STATE 0).wr Reg.TIME.STEP_LIMIT.NS 1000000000).wr Reg.TIME.FREQ_ADJ.ADJ 5000; { s with time := { s.time with gm := some 77, hist := [4] } } : State), 1, 2, 77, 24, (10 ^ 15), (10 ^ 15 + 7000), 65536, -3, (let s : State := (let s := base; let gm : Nat := 77; let s := ((s.wr (Reg.HDR.PG_STATE.STATE 0x8000) 2).put (Reg.TIME.PORT_CFG.ENABLE 1) true).wr Reg.TIME.TIME_CTRL.DOMAIN 24; let s := s.wr (Reg.TIME.PORT_CFG.TRANSPORTS 1) 4; let s := ((((s.wr Reg.TIME.TIME_STATUS.SRC_PORT 1).wr Reg.TIME.TIME_CTRL.SERVO_MODE 0).wr Reg.TIME.TIME_STATUS.SERVO_STATE 0).wr Reg.TIME.STEP_LIMIT.NS 1000000000).wr Reg.TIME.FREQ_ADJ.ADJ 5000; { s with time := { s.time with gm := some 77, hist := [4] } } : State); let port : Nat := 1; let via : Nat := 2; let gm : Nat := 77; let dom : Nat := 24; let t1 : Nat := 10 ^ 15; let t2 : Nat := 10 ^ 15 + 7000; let corr : Int := 65536; let log : Int := -3; ((((t2 : Int) + sgn 32 (s.rd (Reg.TIME.PORT_LAT_RX.PS port))).toNat - (t1 : Int)) * (ps : Int) - corrUnits corr - s.pathDelay port - s.rdPs (Reg.TIME.PORT_ASYM.PS port) : Int)), sound_of (by decide +kernel), by decide +kernel, by decide +kernel, by decide +kernel, by decide +kernel, by decide +kernel, by decide +kernel, by decide +kernel, by decide +kernel, by decide +kernel⟩,
   ⟨(let s := base; let gm : Nat := 77; let s := ((s.wr (Reg.HDR.PG_STATE.STATE 0x8000) 2).put (Reg.TIME.PORT_CFG.ENABLE 1) true).wr Reg.TIME.TIME_CTRL.DOMAIN 24; let s := s.wr (Reg.TIME.PORT_CFG.TRANSPORTS 1) 4; let s := s.wr Reg.TIME.TIME_STATUS.SRC_PORT 0; { s with time := { s.time with gm := some 77, waiting := [⟨0, 5, 5, 0, 0⟩, ⟨1, 5, 6, 7, -2⟩], last := [⟨0, 1, 1, 1, 0⟩, ⟨1, 1, 1, 1, 0⟩] } } : State), 1, 2, 77, 24, (10 ^ 15), 65536, (⟨1, 5, 6, 7, -2⟩), by decide +kernel, by decide +kernel, by decide +kernel, by decide +kernel⟩,
   ⟨(let s := base; let s := ((s.wr (Reg.HDR.PG_STATE.STATE 0x8000) 2).put (Reg.TIME.PORT_CFG.ENABLE 1) true).wr Reg.TIME.TIME_CTRL.DOMAIN 24; let s := s.wr (Reg.TIME.PORT_CFG.TRANSPORTS 1) 4; s.wr Reg.TIME.TIME_STATUS.SRC_PORT 1 : State), 123456, by decide +kernel, by decide +kernel, by decide +kernel, by decide +kernel⟩,
   ⟨(let s := base; let s := ((s.wr (Reg.HDR.PG_STATE.STATE 0x8000) 2).put (Reg.TIME.PORT_CFG.ENABLE 1) true).wr Reg.TIME.TIME_CTRL.DOMAIN 24; let s := s.wr (Reg.TIME.PORT_CFG.TRANSPORTS 1) 4; let s := s.wr Reg.TIME.TIME_STATUS.SRC_PORT 0; { s with time := { s.time with asked := some (1, 5000), last := [⟨1, 5, 600, 7, -2⟩], delays := [(1, [5, 6])] } } : State), 1, 2, 24, 5000, 100000, 65536, (⟨1, 5, 600, 7, -2⟩), by decide +kernel, by decide +kernel, by decide +kernel, by decide +kernel, by decide +kernel⟩,
   ⟨(let s := base; let s := ((s.wr (Reg.HDR.PG_STATE.STATE 0x8000) 2).put (Reg.TIME.PORT_CFG.ENABLE 1) true).wr Reg.TIME.TIME_CTRL.DOMAIN 24; let s := s.wr (Reg.TIME.PORT_CFG.TRANSPORTS 1) 4; s.put Reg.TIME.TIME_CTRL.PROFILE true : State), 1, 2, 24, 100000, 65536, sound_of (by decide +kernel), by decide +kernel, by decide +kernel, by decide +kernel⟩,
   ⟨(let s := base; let s := ((s.wr (Reg.HDR.PG_STATE.STATE 0x8000) 2).put (Reg.TIME.PORT_CFG.ENABLE 1) true).wr Reg.TIME.TIME_CTRL.DOMAIN 24; let s := s.wr (Reg.TIME.PORT_CFG.TRANSPORTS 1) 4; s.put Reg.TIME.TIME_CTRL.PROFILE true : State), 1, 2, 123456, -9, by decide +kernel, by decide +kernel, by decide +kernel⟩,
   ⟨(let s := base; let s := ((s.wr (Reg.HDR.PG_STATE.STATE 0x8000) 2).put (Reg.TIME.PORT_CFG.ENABLE 1) true).wr Reg.TIME.TIME_CTRL.DOMAIN 24; let s := s.wr (Reg.TIME.PORT_CFG.TRANSPORTS 1) 4; s : State), 1, 2, 123456, -9, sound_of (by decide +kernel), by decide +kernel, by decide +kernel⟩,
   ⟨(let s := base; let s := ((s.wr (Reg.HDR.PG_STATE.STATE 0x8000) 2).put (Reg.TIME.PORT_CFG.ENABLE 1) true).wr Reg.TIME.TIME_CTRL.DOMAIN 24; let s := s.wr (Reg.TIME.PORT_CFG.TRANSPORTS 1) 4; s.put Reg.TIME.TIME_CTRL.PROFILE true : State), 1, 99999, 777, sound_of (by decide +kernel), by decide +kernel, by decide +kernel, by decide +kernel, by decide +kernel⟩,
   ⟨(let s := base; let s := ((s.wr (Reg.HDR.PG_STATE.STATE 0x8000) 2).put (Reg.TIME.PORT_CFG.ENABLE 1) true).wr Reg.TIME.TIME_CTRL.DOMAIN 24; let s := s.wr (Reg.TIME.PORT_CFG.TRANSPORTS 1) 4; s.put Reg.TIME.TIME_CTRL.PROFILE true : State), 1, sound_of (by decide +kernel), by decide +kernel, by decide +kernel, by decide +kernel, by decide +kernel⟩,
   ⟨(let s := base; let s := ((s.wr (Reg.HDR.PG_STATE.STATE 0x8000) 2).put (Reg.TIME.PORT_CFG.ENABLE 1) true).wr Reg.TIME.TIME_CTRL.DOMAIN 24; let s := s.wr (Reg.TIME.PORT_CFG.TRANSPORTS 1) 4; s : State), 1, 2, 24, 0x1234567890ABCDEF, ([1, 2]), sound_of (by decide +kernel), by decide +kernel, by decide +kernel, by decide +kernel⟩,
   ⟨(let s := base; let s := ((s.wr (Reg.HDR.PG_STATE.STATE 0x8000) 2).put (Reg.TIME.PORT_CFG.ENABLE 1) true).wr Reg.TIME.TIME_CTRL.DOMAIN 24; let s := s.wr (Reg.TIME.PORT_CFG.TRANSPORTS 1) 4; let s := (s.wr Reg.TIME.TIME_CTRL.SERVO_MODE 0).wr Reg.TIME.TIME_STATUS.SERVO_STATE 2; { s with time := { s.time with gm := some 9 } } : State), 1, 2, 24, 0x1234567890ABCDEF, 9, ([1, 2]), sound_of (by decide +kernel), by decide +kernel, by decide +kernel, by decide +kernel, by decide +kernel, by decide +kernel⟩⟩

theorem witness_TimeServoLead :
    (∃ (s : State), s.Sound ∧ s.lost = true ∧ s.servo = 2 ∧ s.time.hist = []) ∧
    (∃ (s : State), s.Sound ∧ s.lost = true ∧ s.servo = 1 ∧ s.time.reached = false) ∧
    (∃ (s : State), s.Sound ∧ s.pageRun 0x8000 = true ∧ s.hears (1 - s.srcPort) = true ∧ s.hears s.srcPort = false ∧ s.linkUp (1 - s.srcPort) = true ∧ s.flag (Reg.TIME.PORT_CFG.ENABLE (1 - s.srcPort)) = true ∧ s.srcPort ≤ 1) ∧
    (∃ (s : State) (path : HostPath) (w : Word), s.Sound ∧ s.Open 0x8040 ∧ getBits w 16 8 ≤ 127 ∧ getBits w 0 2 = s.servoMode ∧ getBits w 8 2 = s.rd Reg.TIME.TIME_CTRL.SRC_SEL) ∧
    (∃ (s : State) (path : HostPath) (w : Word), s.Sound ∧ s.Open 0x8040 ∧ 127 < getBits w 16 8 ∧ getBits w 0 2 = s.servoMode ∧ getBits w 8 2 = s.rd Reg.TIME.TIME_CTRL.SRC_SEL) ∧
    (∃ (s : State) (path : HostPath) (w : Word), s.Sound ∧ s.Open 0x8040 ∧ getBits w 0 2 ≠ s.servoMode) ∧
    (∃ (s : State) (path : HostPath), s.Sound ∧ s.Calm ∧ s.Open 0x8064 ∧ s.stepFree = true ∧ s.time.tevs = []) ∧
    (∃ (s : State) (path : HostPath), s.Sound ∧ s.Calm ∧ s.Open 0x8064 ∧ s.stepFree = false) ∧
    (∃ (s : State) (path : HostPath), s.Sound ∧ s.Calm ∧ s.Open 0x8064 ∧ s.flag Reg.TIME.OFFSET_CFG.METHOD = false) ∧
    (∃ (s : State) (path : HostPath), s.Sound ∧ s.Calm ∧ s.Open 0x8064 ∧ s.flag Reg.TIME.OFFSET_CFG.METHOD = true ∧ s.stepFree = true ∧ s.time.tevs = []) ∧
    (∃ (s : State), s.Sound ∧ s.clkRun = true ∧ s.time.slew ≠ 0 ∧ s.slewTerm = s.time.slew) ∧
    (∃ (s : State), (s.time.slew = 0 ∨ s.slewTerm ≠ s.time.slew)) ∧
    (∃ (s : State) (T : Nat), (s.rd Reg.TIME.TS_CFG.EDGE_4 = 2 ∨ s.rd Reg.TIME.TS_CFG.EDGE_4 = 3) ∧ s.time.tsq.length < 16 ∧ s.time.tsq ≠ []) ∧
    (∃ (s : State) (T : Nat), s.Sound ∧ s.rd Reg.TIME.TS_CFG.EDGE_4 = 0 ∧ s.pageRun 0x8000 = true ∧ s.servoMode = 2 ∧ s.servo = 0 ∧ 2 * (T % 10 ^ 12) ≤ 10 ^ 12) ∧
    (∃ (s : State), s.clkRun = true ∧ s.ppsFree = true ∧ s.ppsDue = true) ∧
    (∃ (s : State), (s.ppsFree = false ∨ s.ppsDue = false)) ∧
    (∃ (s : State), s.up < s.time.ppsAt + clampN 1 999 (s.rd Reg.TIME.PPS_CFG.WIDTH_MS) * ms) ∧
    (∃ (s : State), s.time.ppsAt + clampN 1 999 (s.rd Reg.TIME.PPS_CFG.WIDTH_MS) * ms ≤ s.up) :=
  ⟨⟨(let s := base; let s := s.wr Reg.TIME.TIME_STATUS.SERVO_STATE 2; { s with time := { s.time with slew := 5, heard := [], reached := true } } : State), sound_of (by decide +kernel), by decide +kernel, by decide +kernel, by decide +kernel⟩,
   ⟨(let s := base; let s := s.wr Reg.TIME.TIME_STATUS.SERVO_STATE 1; { s with time := { s.time with heard := [], reached := false } } : State), sound_of (by decide +kernel), by decide +kernel, by decide +kernel, by decide +kernel⟩,
   ⟨(let s := base; let s := ((s.wr (Reg.HDR.PG_STATE.STATE 0x8000) 2).put (Reg.TIME.PORT_CFG.ENABLE 1) true).wr Reg.TIME.TIME_CTRL.DOMAIN 24; let s := s.wr (Reg.TIME.PORT_CFG.TRANSPORTS 1) 4; let s := (s.wr Reg.TIME.TIME_STATUS.SRC_PORT 0).put (Reg.RING.PORT_STATUS.LINK_UP 1) true; { s with time := { s.time with heard := [(1, s.up, -3)] } } : State), sound_of (by decide +kernel), by decide +kernel, by decide +kernel, by decide +kernel, by decide +kernel, by decide +kernel, by decide +kernel⟩,
   ⟨(let s := base; (s.wr Reg.TIME.TIME_CTRL.SRC_SEL 1).wr Reg.TIME.TIME_CTRL.SERVO_MODE 2 : State), .pcie, 0x01250112, sound_of (by decide +kernel), open_of (by decide +kernel), by decide +kernel, by decide +kernel, by decide +kernel⟩,
   ⟨(let s := base; (s.wr Reg.TIME.TIME_CTRL.SRC_SEL 1).wr Reg.TIME.TIME_CTRL.SERVO_MODE 2 : State), .pcie, 0x01A50112, sound_of (by decide +kernel), open_of (by decide +kernel), by decide +kernel, by decide +kernel, by decide +kernel⟩,
   ⟨(let s := base; ((s.wr Reg.TIME.TIME_CTRL.SRC_SEL 2).wr Reg.TIME.TIME_CTRL.SERVO_MODE 2).wr Reg.TIME.TIME_STATUS.SERVO_STATE 2 : State), .pcie, 0x01250113, sound_of (by decide +kernel), open_of (by decide +kernel), by decide +kernel⟩,
   ⟨(let s := base; let s := (s.wr Reg.GANTRY.STATE.GSTATE 5).wrTime 0x8058 (10 ^ 26); { s with now := 10 ^ 27 } : State), .pcie, sound_of (by decide +kernel), calm_of (by decide +kernel), open_of (by decide +kernel), by decide +kernel, by decide +kernel⟩,
   ⟨(let s := base; s.wr Reg.GANTRY.STATE.GSTATE 2 : State), .pcie, sound_of (by decide +kernel), calm_of (by decide +kernel), open_of (by decide +kernel), by decide +kernel⟩,
   ⟨(let s := base; s.wr Reg.TIME.TIME_OFFSET.NS (2 ^ 32 - 55) : State), .pcie, sound_of (by decide +kernel), calm_of (by decide +kernel), open_of (by decide +kernel), by decide +kernel⟩,
   ⟨(let s := base; (s.put Reg.TIME.OFFSET_CFG.METHOD true).wr Reg.TIME.TIME_OFFSET.NS (2 ^ 32 - 55) : State), .pcie, sound_of (by decide +kernel), calm_of (by decide +kernel), open_of (by decide +kernel), by decide +kernel, by decide +kernel, by decide +kernel⟩,
   ⟨(let s := base; { s with clkRun := true, now := 10 ^ 20, time := { s.time with slew := -777 } } : State), sound_of (by decide +kernel), by decide +kernel, by decide +kernel, by decide +kernel⟩,
   ⟨(let s := base; let s := s.wr Reg.TIME.SLEW_CFG.RATE 100; { s with time := { s.time with slew := -7 * 10 ^ 11 } } : State), by decide +kernel⟩,
   ⟨(let s := base; let s := s.wr Reg.TIME.TS_CFG.EDGE_4 2; { s with time := { s.time with tsq := [⟨1, 2, false⟩] } } : State), 123456789, by decide +kernel, by decide +kernel, by decide +kernel⟩,
   ⟨(let s := base; let s := ((s.wr (Reg.HDR.PG_STATE.STATE 0x8000) 2).put (Reg.TIME.PORT_CFG.ENABLE 1) true).wr Reg.TIME.TIME_CTRL.DOMAIN 24; let s := s.wr (Reg.TIME.PORT_CFG.TRANSPORTS 1) 4; ((s.wr Reg.TIME.TIME_CTRL.SERVO_MODE 2).wr Reg.TIME.TIME_STATUS.SERVO_STATE 0).wr Reg.TIME.TS_CFG.EDGE_4 0 : State), (3 * 10 ^ 12 + 4567), sound_of (by decide +kernel), by decide +kernel, by decide +kernel, by decide +kernel, by decide +kernel, by decide +kernel⟩,
   ⟨(let s := base; let s := ((s.wr Reg.TIME.PPS_COMP.PS 0).put Reg.TIME.PPS_CFG.ENABLE true).put Reg.TIME.PPS_CFG.ALWAYS true; { s with now := 7 * sec, clkRun := true } : State), by decide +kernel, by decide +kernel, by decide +kernel⟩,
   ⟨(let s := base; s.put Reg.TIME.PPS_CFG.ENABLE false : State), by decide +kernel⟩,
   ⟨(let s := base; { s with time := { s.time with ppsOn := true, ppsAt := s.up } } : State), by decide +kernel⟩,
   ⟨(let s := base; { s with mon := { s.mon with clock := 10 ^ 12 }, time := { s.time with ppsOn := true, ppsAt := 0 } } : State), by decide +kernel⟩⟩

theorem witness_TimeEventsLead :
    (∃ (s : State) (path : HostPath) (k : Nat) (w : Word), s.Sound ∧ k < 16 ∧ s.Open (0x8210 + 0x20 * k) ∧ s.tev k = none ∧ getBits w 0 1 = 1 ∧ getBits w 1 1 = 0 ∧ getBits w 20 11 ≤ 1024 ∧ s.now < s.rdTime (0x8200 + 0x20 * k)) ∧
    (∃ (s : State) (path : HostPath) (k : Nat) (w : Word) (p : TevPlan), s.Sound ∧ k < 16 ∧ s.Open (0x8210 + 0x20 * k) ∧ s.tev k = some p ∧ getBits w 0 1 = 0 ∧ tevFields w = (s.rd (Reg.TIME.TEV_CTRL.PERIODIC k), s.rd (Reg.TIME.TEV_CTRL.TARGETS k), s.rd (Reg.TIME.TEV_CTRL.TRIGO_SEL k), s.rd (Reg.TIME.TEV_CTRL.WIDTH k))) ∧
    (∃ (s : State) (k T : Nat), s.Sound ∧ s.Calm ∧ k < 16 ∧ s.dev ≠ .off ∧ s.dev ≠ .boot ∧ s.tev k = some ⟨k, T, false⟩ ∧ T ≤ s.now ∧ s.flag (Reg.TIME.TEV_CTRL.PERIODIC k) = false ∧ s.rd (Reg.TIME.TEV_CTRL.TARGETS k) = 0) ∧
    (∃ (s : State) (k T : Nat), s.Sound ∧ s.Calm ∧ k < 16 ∧ s.dev ≠ .off ∧ s.dev ≠ .boot ∧ s.tev k = some ⟨k, T, false⟩ ∧ T ≤ s.now ∧ s.flag (Reg.TIME.TEV_CTRL.PERIODIC k) = true ∧ 0 < s.rd (Reg.TIME.TEV_PERIOD.NS k) ∧ s.rd (Reg.TIME.TEV_CTRL.TARGETS k) = 0) ∧
    (∃ (s : State) (path : HostPath) (e : TsEntry) (r : List TsEntry), s.dev ≠ .off ∧ s.pageOn 0x8000 = true ∧ s.time.tsq = e :: r) ∧
    (∃ (s : State) (path : HostPath), s.dev ≠ .off ∧ s.pageOn 0x8000 = true ∧ s.time.tsq = []) :=
  ⟨⟨(let s := base; s.wrTime 0x82A0 (10 ^ 25) : State), .pcie, 5, 0x12345501, sound_of (by decide +kernel), by decide +kernel, open_of (by decide +kernel), by decide +kernel, by decide +kernel, by decide +kernel, by decide +kernel, by decide +kernel⟩,
   ⟨(let s := base; let s := s.wrW 0x82B0 0x12345501; { s with time := { s.time with tevs := [⟨4, 1, false⟩, ⟨5, 100, true⟩] } } : State), .pcie, 5, 0x12345500, (⟨5, 100, true⟩), sound_of (by decide +kernel), by decide +kernel, open_of (by decide +kernel), by decide +kernel, by decide +kernel, by decide +kernel⟩,
   ⟨(let s := base; let s := (s.wr (Reg.TIME.TEV_CTRL.TARGETS 5) 0).put (Reg.TIME.TEV_CTRL.PERIODIC 5) false; { s with now := 10 ^ 6, time := { s.time with tevs := [⟨4, 1, false⟩, ⟨5, 999, false⟩] } } : State), 5, 999, sound_of (by decide +kernel), calm_of (by decide +kernel), by decide +kernel, by decide +kernel, by decide +kernel, by decide +kernel, by decide +kernel, by decide +kernel, by decide +kernel⟩,
   ⟨(let s := base; let s := ((s.wr (Reg.TIME.TEV_CTRL.TARGETS 5) 0).put (Reg.TIME.TEV_CTRL.PERIODIC 5) true).wr (Reg.TIME.TEV_PERIOD.NS 5) 3456; { s with now := 10 ^ 6, time := { s.time with tevs := [⟨4, 1, false⟩, ⟨5, 999, false⟩] } } : State), 5, 999, sound_of (by decide +kernel), calm_of (by decide +kernel), by decide +kernel, by decide +kernel, by decide +kernel, by decide +kernel, by decide +kernel, by decide +kernel, by decide +kernel, by decide +kernel⟩,
   ⟨(let s := base; { s with time := { s.time with tsq := [⟨5555 * 10 ^ 9 + 678901, 4, true⟩, ⟨1, 1, false⟩] } } : State), .smbus, (⟨5555 * 10 ^ 9 + 678901, 4, true⟩), ([⟨1, 1, false⟩]), by decide +kernel, by decide +kernel, by decide +kernel⟩,
   ⟨(let s := base; s : State), .smbus, by decide +kernel, by decide +kernel, by decide +kernel⟩⟩

theorem witness_TemperatureLead :
    (∃ (s : State) (xs : List Sample), s.Sound ∧ s.Calm ∧ s.dev ≠ .off) ∧
    (∃ (s : State) (xs : List Sample), s.Sound ∧ s.Calm ∧ s.dev = .off) ∧
    (∃ (s : State), s.Sound ∧ 2 ≤ s.zoneLevel 0 ∧ s.picStage = 1 ∧ s.throttleFree 0 = true ∧ s.gov.overTemp = false ∧ s.elemTotal ≤ s.rd Reg.BUDGET.HTR_BUDGET.W10 * 2500 * powUnit * 3) ∧
    (∃ (s : State) (k : Nat), s.Sound ∧ s.Calm ∧ k < 4 ∧ s.haltDue k = true ∧ s.dev = .safe) ∧
    (∃ (s : State) (k : Nat), s.Sound ∧ s.Calm ∧ k < 4 ∧ s.haltDue k = true ∧ (s.dev = .hold ∨ s.dev = .armed ∨ s.dev = .run)) ∧
    (∃ (s : State) (k : Nat), s.Sound ∧ s.Calm ∧ k < 4 ∧ s.haltDue k = false) ∧
    (∃ (s : State) (k : Nat), s.Sound ∧ s.Calm ∧ k < 4 ∧ s.haltDue k = true ∧ s.dev = .boot) :=
  ⟨⟨(let s := base; s : State), ((List.range 120).map fun (i : Nat) => Sample.ok (400 + i / 60)), sound_of (by decide +kernel), calm_of (by decide +kernel), by decide +kernel⟩,
   ⟨(let s := base; { s with dev := .off } : State), ((List.range 120).map fun (i : Nat) => Sample.ok (400 + i / 60)), sound_of (by decide +kernel), calm_of (by decide +kernel), by decide +kernel⟩,
   ⟨(let s := base; (s.wr (Reg.THERMAL.ZONE_STATUS.LEVEL 0) 2).wr (Reg.THERMAL.ZONE_STATUS.STAGE 0) 1 : State), sound_of (by decide +kernel), by decide +kernel, by decide +kernel, by decide +kernel, by decide +kernel, by decide +kernel⟩,
   ⟨(let s := base; let s := (s.wr (Reg.THERMAL.ZONE_STATUS.LEVEL 2) 3).wr Reg.THERMAL.HALT_DELAY.MS 1; { s with dev := .safe, therm := { s.therm with zones := List.replicate 4 ⟨[], 20, none⟩ } } : State), 2, sound_of (by decide +kernel), calm_of (by decide +kernel), by decide +kernel, by decide +kernel, by decide +kernel⟩,
   ⟨(let s := base; let s := (s.wr (Reg.THERMAL.ZONE_STATUS.LEVEL 2) 3).wr Reg.THERMAL.HALT_DELAY.MS 1; { s with dev := .hold, therm := { s.therm with zones := List.replicate 4 ⟨[], 20, none⟩ } } : State), 2, sound_of (by decide +kernel), calm_of (by decide +kernel), by decide +kernel, by decide +kernel, by decide +kernel⟩,
   ⟨(let s := base; s.wr (Reg.THERMAL.ZONE_STATUS.LEVEL 2) 2 : State), 2, sound_of (by decide +kernel), calm_of (by decide +kernel), by decide +kernel, by decide +kernel⟩,
   ⟨(let s := base; let s := (s.wr (Reg.THERMAL.ZONE_STATUS.LEVEL 2) 3).wr Reg.THERMAL.HALT_DELAY.MS 1; { s with dev := .boot, therm := { s.therm with zones := List.replicate 4 ⟨[], 20, none⟩ } } : State), 2, sound_of (by decide +kernel), calm_of (by decide +kernel), by decide +kernel, by decide +kernel, by decide +kernel⟩⟩

theorem witness_JobsLead :
    (∃ (s : State) (l : Nat) (r : SolveReq) (rs : List SolveReq), s.laneIdle l = true ∧ s.gov.jobs = [] ∧ s.gov.refused = [] ∧ s.seam.queue = r :: rs ∧ r.hi = true) ∧
    (∃ (s : State), s.runBusy = true ∧ s.plumb.run = none ∧ s.gov.jobs = [] ∧ s.gov.runs = [] ∧ s.gov.refused = []) ∧
    (∃ (s : State) (e : Nat), s.Sound ∧ e < numElem ∧ s.status e = stSat ∧ s.wrapEligible e = true ∧ (s.wrapPow e).isSome = true ∧ s.gov.jobs = []) ∧
    (∃ (s : State) (e : Nat), s.status e ≠ stSat) ∧
    (∃ (s : State) (j : Job) (l : Nat), s.Sound ∧ s.Calm ∧ headJob (s.gov.jobs.filter s.grantable) = some j ∧ j.kind = .seam l) ∧
    (∃ (s : State), s.Sound ∧ s.Calm ∧ headJob (s.gov.jobs.filter s.grantable) = none) ∧
    (∃ (s : State) (heater : Bool) (j : Job), s.Sound ∧ (headJob (s.gov.jobs.filter fun j => heaterJob j.kind == heater) = some j) ∧ s.agedOf heater = none ∧ j.born + max 10 (s.rd Reg.BUDGET.JOB_AGE.US) * 1000 * ns ≤ s.up) ∧
    (∃ (s : State) (heater : Bool), (s.agedOf heater).isSome = true) :=
  ⟨⟨(let s := base; let s := s.wr Reg.SEAM.CFG.LANE_EN 2; { s with seam := { s.seam with queue := [⟨3, 0, 1, 0, true, false, 1, 2, 1, 0, [], .plumb⟩] } } : State), 1, (⟨3, 0, 1, 0, true, false, 1, 2, 1, 0, [], .plumb⟩), [], by decide +kernel, by decide +kernel, by decide +kernel, by decide +kernel, by decide +kernel⟩,
   ⟨(let s := base; s.put Reg.PLUMB.RUN_STATUS.BUSY true : State), by decide +kernel, by decide +kernel, by decide +kernel, by decide +kernel, by decide +kernel⟩,
   ⟨(let s := base; s.setStatus 100 stSat 0 : State), 100, sound_of (by decide +kernel), by decide +kernel, by decide +kernel, by decide +kernel, by decide +kernel, by decide +kernel⟩,
   ⟨(let s := base; s : State), 100, by decide +kernel⟩,
   ⟨(let s := base; let s := (s.wr Reg.SEAM.CFG.LANE_EN 2).wr Reg.BUDGET.ACT_BUDGET.UNITS 50; { s with seam := { s.seam with queue := [⟨3, 0, 1, 0, true, false, 1, 2, 1, 0, [], .plumb⟩] }, gov := { s.gov with jobs := [⟨4, .seam 1, 2, 3, 0⟩, ⟨3, .seam 1, 1, 1000, 0⟩] } } : State), (⟨4, .seam 1, 2, 3, 0⟩), 1, sound_of (by decide +kernel), calm_of (by decide +kernel), by decide +kernel, by decide +kernel⟩,
   ⟨(let s := base; s : State), sound_of (by decide +kernel), calm_of (by decide +kernel), by decide +kernel⟩,
   ⟨(let s := base; { s with gov := { s.gov with jobs := [⟨4, .plumb, 2, 3, 0⟩, ⟨5, .wrap 5, 2, 3, 0⟩], agedAct := some 7 }, mon := { s.mon with clock := 10 ^ 9 } } : State), true, (⟨5, .wrap 5, 2, 3, 0⟩), sound_of (by decide +kernel), by decide +kernel, by decide +kernel, by decide +kernel⟩,
   ⟨(let s := base; { s with gov := { s.gov with agedAct := some 7 } } : State), false, by decide +kernel⟩⟩

theorem witness_SupplyLoopLeads :
    (∃ (s : State) (margin mon : Nat), s.Sound ∧ s.avsOn = true ∧ s.rd Reg.BUDGET.AVS_MARGIN.CRIT ≤ margin ∧ s.rd Reg.BUDGET.AVS_MARGIN.LO ≤ margin ∧ margin ≤ s.rd Reg.BUDGET.AVS_MARGIN.HI ∧ s.therm.again = none) ∧
    (∃ (s : State) (margin mon mv : Nat), s.Sound ∧ s.avsOn = true ∧ s.flag Reg.BUDGET.AVS_CTRL.ENABLE = true ∧ s.rd Reg.BUDGET.AVS_MARGIN.CRIT ≤ margin ∧ margin < s.rd Reg.BUDGET.AVS_MARGIN.LO ∧ margin ≤ s.rd Reg.BUDGET.AVS_MARGIN.HI ∧ mv = clampN (clampN 650 900 (s.rd Reg.BUDGET.AVS_LIMITS.MIN_MV)) (clampN 650 900 (s.rd Reg.BUDGET.AVS_LIMITS.MAX_MV)) (s.rd Reg.BUDGET.AVS_STATUS.REQ_MV + 5)) ∧
    (∃ (s : State) (margin mon mv : Nat), s.Sound ∧ s.avsOn = true ∧ s.flag Reg.BUDGET.AVS_CTRL.ENABLE = true ∧ s.rd Reg.BUDGET.AVS_MARGIN.CRIT ≤ margin ∧ s.rd Reg.BUDGET.AVS_MARGIN.LO ≤ margin ∧ s.rd Reg.BUDGET.AVS_MARGIN.HI < margin ∧ max 1 (s.rd Reg.BUDGET.AVS_CTRL.DOWN_COUNT) ≤ s.therm.above + 1 ∧ mv = clampN (clampN 650 900 (s.rd Reg.BUDGET.AVS_LIMITS.MIN_MV)) (clampN 650 900 (s.rd Reg.BUDGET.AVS_LIMITS.MAX_MV)) (s.rd Reg.BUDGET.AVS_STATUS.REQ_MV - 5)) ∧
    (∃ (s : State) (margin mv : Nat), s.Sound ∧ s.avsOn = true ∧ s.flag Reg.BUDGET.AVS_CTRL.ENABLE = true ∧ margin < s.rd Reg.BUDGET.AVS_MARGIN.CRIT ∧ mv = clampN (clampN 650 900 (s.rd Reg.BUDGET.AVS_LIMITS.MIN_MV)) (clampN 650 900 (s.rd Reg.BUDGET.AVS_LIMITS.MAX_MV)) (s.rd Reg.BUDGET.AVS_STATUS.REQ_MV + 20)) ∧
    (∃ (s : State) (mv : Nat) (x : AvsTx), s.Sound ∧ s.therm.avs = some x ∧ x.cmd = .readVout) ∧
    (∃ (s : State) (mv v : Nat) (x : AvsTx), s.Sound ∧ s.therm.avs = some x ∧ x.cmd = .write v) ∧
    (∃ (s : State) (status : Nat) (x : AvsTx), s.therm.avs = some x ∧ x.fails < 2) ∧
    (∃ (s : State) (status : Nat) (x : AvsTx), s.Sound ∧ s.therm.avs = some x ∧ 2 ≤ x.fails ∧ x.cmd ≠ .readStatus ∧ s.flag Reg.BUDGET.AVS_CTRL.ENABLE = true) :=
  ⟨⟨(let s := base; let s := ((s.wr Reg.BUDGET.AVS_MARGIN.LO 30).wr Reg.BUDGET.AVS_MARGIN.HI 50).wr Reg.BUDGET.AVS_MARGIN.CRIT 10; { s with boot := { s.boot with self := true }, therm := { s.therm with above := 3 } } : State), 40, 13, sound_of (by decide +kernel), by decide +kernel, by decide +kernel, by decide +kernel, by decide +kernel, by decide +kernel⟩,
   ⟨(let s := base; let s : State := { s with boot := { s.boot with self := true } }; ((((s.wr Reg.BUDGET.AVS_MARGIN.LO 30).wr Reg.BUDGET.AVS_MARGIN.HI 50).wr Reg.BUDGET.AVS_MARGIN.CRIT 10).put Reg.BUDGET.AVS_CTRL.ENABLE true).wr Reg.BUDGET.AVS_STATUS.REQ_MV 700 : State), 20, 13, (let s : State := (let s := base; let s : State := { s with boot := { s.boot with self := true } }; ((((s.wr Reg.BUDGET.AVS_MARGIN.LO 30).wr Reg.BUDGET.AVS_MARGIN.HI 50).wr Reg.BUDGET.AVS_MARGIN.CRIT 10).put Reg.BUDGET.AVS_CTRL.ENABLE true).wr Reg.BUDGET.AVS_STATUS.REQ_MV 700 : State); let margin : Nat := 20; let mon : Nat := 13; (clampN (clampN 650 900 (s.rd Reg.BUDGET.AVS_LIMITS.MIN_MV)) (clampN 650 900 (s.rd Reg.BUDGET.AVS_LIMITS.MAX_MV)) (s.rd Reg.BUDGET.AVS_STATUS.REQ_MV + 5) : Nat)), sound_of (by decide +kernel), by decide +kernel, by decide +kernel, by decide +kernel, by decide +kernel, by decide +kernel, by decide +kernel⟩,
   ⟨(let s := base; let s := (((((s.wr Reg.BUDGET.AVS_MARGIN.LO 30).wr Reg.BUDGET.AVS_MARGIN.HI 50).wr Reg.BUDGET.AVS_MARGIN.CRIT 10).put Reg.BUDGET.AVS_CTRL.ENABLE true).wr Reg.BUDGET.AVS_STATUS.REQ_MV 700).wr Reg.BUDGET.AVS_CTRL.DOWN_COUNT 4; { s with boot := { s.boot with self := true }, therm := { s.therm with above := 3 } } : State), 60, 13, (let s : State := (let s := base; let s := (((((s.wr Reg.BUDGET.AVS_MARGIN.LO 30).wr Reg.BUDGET.AVS_MARGIN.HI 50).wr Reg.BUDGET.AVS_MARGIN.CRIT 10).put Reg.BUDGET.AVS_CTRL.ENABLE true).wr Reg.BUDGET.AVS_STATUS.REQ_MV 700).wr Reg.BUDGET.AVS_CTRL.DOWN_COUNT 4; { s with boot := { s.boot with self := true }, therm := { s.therm with above := 3 } } : State); let margin : Nat := 60; let mon : Nat := 13; (clampN (clampN 650 900 (s.rd Reg.BUDGET.AVS_LIMITS.MIN_MV)) (clampN 650 900 (s.rd Reg.BUDGET.AVS_LIMITS.MAX_MV)) (s.rd Reg.BUDGET.AVS_STATUS.REQ_MV - 5) : Nat)), sound_of (by decide +kernel), by decide +kernel, by decide +kernel, by decide +kernel, by decide +kernel, by decide +kernel, by decide +kernel, by decide +kernel⟩,
   ⟨(let s := base; let s : State := { s with boot := { s.boot with self := true } }; ((s.wr Reg.BUDGET.AVS_MARGIN.CRIT 40).put Reg.BUDGET.AVS_CTRL.ENABLE true).wr Reg.BUDGET.AVS_STATUS.REQ_MV 700 : State), 20, (let s : State := (let s := base; let s : State := { s with boot := { s.boot with self := true } }; ((s.wr Reg.BUDGET.AVS_MARGIN.CRIT 40).put Reg.BUDGET.AVS_CTRL.ENABLE true).wr Reg.BUDGET.AVS_STATUS.REQ_MV 700 : State); let margin : Nat := 20; let mv : Nat := 7; clampN (clampN 650 900 (s.rd Reg.BUDGET.AVS_LIMITS.MIN_MV)) (clampN 650 900 (s.rd Reg.BUDGET.AVS_LIMITS.MAX_MV)) (s.rd Reg.BUDGET.AVS_STATUS.REQ_MV + 20)), sound_of (by decide +kernel), by decide +kernel, by decide +kernel, by decide +kernel, by decide +kernel⟩,
   ⟨(let s := base; { s with therm := { s.therm with avs := some ⟨.readVout, 1⟩ } } : State), 777, (⟨.readVout, 1⟩), sound_of (by decide +kernel), by decide +kernel, by decide +kernel⟩,
   ⟨(let s := base; { s with therm := { s.therm with avs := some ⟨.write 700, 1⟩ } } : State), 777, 700, (⟨.write 700, 1⟩), sound_of (by decide +kernel), by decide +kernel, by decide +kernel⟩,
   ⟨(let s := base; { s with therm := { s.therm with avs := some ⟨.write 700, 1⟩ } } : State), 7, (⟨.write 700, 1⟩), by decide +kernel, by decide +kernel⟩,
   ⟨(let s := base; let s := s.put Reg.BUDGET.AVS_CTRL.ENABLE true; { s with therm := { s.therm with avs := some ⟨.write 700, 2⟩ } } : State), 7, (⟨.write 700, 2⟩), sound_of (by decide +kernel), by decide +kernel, by decide +kernel, by decide +kernel, by decide +kernel⟩⟩

theorem witness_BanksLead :
    (∃ (s : State) (path : HostPath), s.Open 0xC06C) ∧
    (∃ (s : State), s.Sound ∧ s.plumb.checking = true) ∧
    (∃ (s : State) (path : HostPath), s.Sound ∧ s.Open 0xC06C) ∧
    (∃ (s : State), s.Sound ∧ s.flag Reg.PLUMB.BANK_STATUS.COPYING = true) ∧
    (∃ (s : State), s.Sound ∧ s.flag Reg.PLUMB.BANK_STATUS.SWAP_ARMED = true ∧ (s.gstate = 0 ∨ s.gstate = 5) ∧ s.plumb.armAt < s.mon.clock ∧ s.granuleEdge = true) :=
  ⟨⟨(let s := base; s : State), .pcie, open_of (by decide +kernel)⟩,
   ⟨(let s := base; let s := s.wrW 0x380000 0x00025047; { s with plumb := { s.plumb with checking := true } } : State), sound_of (by decide +kernel), by decide +kernel⟩,
   ⟨(let s := base; { s with plumb := { s.plumb with swapFix := true } } : State), .pcie, sound_of (by decide +kernel), open_of (by decide +kernel)⟩,
   ⟨(let s := base; ((s.put Reg.PLUMB.BANK_STATUS.COPYING true).wrW 0x300010 77).wrW 0x380020 66 : State), sound_of (by decide +kernel), by decide +kernel⟩,
   ⟨(let s := base; { ((((s.put Reg.PLUMB.BANK_STATUS.SWAP_ARMED true).wr Reg.GANTRY.STATE.GSTATE 5).wrW 0x300010 77).wrW 0x380020 66) with mon := { s.mon with clock := 9 } } : State), sound_of (by decide +kernel), by decide +kernel, by decide +kernel, by decide +kernel, by decide +kernel⟩⟩

theorem witness_PlumbRunsLead :
    (∃ (s : State) (path : HostPath) (kinds : Nat), s.Sound ∧ s.Calm ∧ s.Open 0xC040 ∧ s.dev ≠ .off ∧ s.dev ≠ .boot ∧ s.dev ≠ .halt ∧ s.flag (Reg.HDR.PG_CTRL.ENABLE 0xC000) = true ∧ s.flag Reg.FUSE.FUSE_STATUS.COMMIT_BUSY = false ∧ s.runBusy = false) ∧
    (∃ (s : State) (path : HostPath) (kinds : Nat), s.Sound ∧ s.Calm ∧ s.Open 0xC040 ∧ (s.flag (Reg.HDR.PG_CTRL.ENABLE 0xC000) = false ∨ s.flag Reg.FUSE.FUSE_STATUS.COMMIT_BUSY = true)) ∧
    (∃ (s : State) (path : HostPath) (kinds : Nat), s.Sound ∧ s.Calm ∧ s.Open 0xC040 ∧ s.dev ≠ .off ∧ s.dev ≠ .boot ∧ s.dev ≠ .halt ∧ s.flag (Reg.HDR.PG_CTRL.ENABLE 0xC000) = true ∧ s.flag Reg.FUSE.FUSE_STATUS.COMMIT_BUSY = false ∧ s.runBusy = true ∧ s.plumb.run = none ∧ s.rd Reg.PLUMB.RUN_STATUS.PHASE = 0) ∧
    (∃ (s : State), s.Sound ∧ s.Calm ∧ s.flag Reg.PLUMB.TRIG_CFG.INTERVAL_EN = true ∧ s.intervalOver = true ∧ s.dev ≠ .off ∧ s.dev ≠ .boot ∧ s.dev ≠ .halt ∧ s.flag (Reg.HDR.PG_CTRL.ENABLE 0xC000) = true ∧ s.flag Reg.FUSE.FUSE_STATUS.COMMIT_BUSY = false ∧ s.runBusy = false) ∧
    (∃ (s : State), s.Sound ∧ s.Calm ∧ (s.flag Reg.PLUMB.TRIG_CFG.INTERVAL_EN = false ∨ s.intervalOver = false)) ∧
    (∃ (s : State) (r : RunSt) (m : Nat) (ms : List Nat), s.rd Reg.PLUMB.RUN_STATUS.PHASE = 1 ∧ s.flag Reg.PLUMB.BANK_STATUS.COPYING = false ∧ s.plumb.run = some r ∧ r.cur = none ∧ r.dark = m :: ms ∧ m < 19968 ∧ s.monRange m = 0) ∧
    (∃ (s : State) (r : RunSt), s.Sound ∧ s.rd Reg.PLUMB.RUN_STATUS.PHASE = 1 ∧ s.flag Reg.PLUMB.BANK_STATUS.COPYING = false ∧ s.plumb.run = some r ∧ r.cur = none ∧ r.dark = [] ∧ s.rd Reg.PLUMB.RUN_STATUS.KINDS = 1) ∧
    (∃ (s : State) (errs corrs : List Nat), s.Sound ∧ s.Quiet ∧ s.rd Reg.PLUMB.RUN_STATUS.PHASE = 2 ∧ s.flag Reg.PLUMB.BANK_STATUS.COPYING = false ∧ s.plumb.run.isSome = true) ∧
    (∃ (s : State) (r : RunSt), s.Sound ∧ s.Quiet ∧ s.rd Reg.PLUMB.RUN_STATUS.PHASE = 3 ∧ s.dev = .run ∧ s.flag Reg.PLUMB.SWEEP_SLOTS.EN = true ∧ s.plumb.run = some r ∧ r.asked = false ∧ r.ready = false ∧ s.plumb.window = none ∧ s.picStage ≠ 2 ∧ s.flag Reg.PLUMB.BANK_STATUS.COPYING = false ∧ r.visit < 8704 ∧ s.visitPassed (r.visit / 2) = false ∧ s.slotInUse (s.rd Reg.PLUMB.SWEEP_SLOTS.PROBE_SLOT) = false ∧ s.seamOpen = true ∧ s.seam.queue.length < 64 ∧ s.slotPending (s.rd Reg.PLUMB.SWEEP_SLOTS.PROBE_SLOT) = false) ∧
    (∃ (s : State) (r : RunSt), s.Sound ∧ s.Quiet ∧ s.rd Reg.PLUMB.RUN_STATUS.PHASE = 3 ∧ s.dev ≠ .run ∧ s.plumb.run = some r) ∧
    (∃ (s : State) (r : RunSt), s.Sound ∧ s.Quiet ∧ s.rd Reg.PLUMB.RUN_STATUS.PHASE = 3 ∧ s.kindRuns 3 = true ∧ s.flag Reg.PLUMB.BANK_STATUS.COPYING = false ∧ s.plumb.window = none ∧ s.img.liveRef = .slot (s.rd Reg.PLUMB.SWEEP_SLOTS.PROBE_SLOT) ∧ s.picStage ≠ 2 ∧ s.plumb.run = some r ∧ r.ready = false) ∧
    (∃ (s : State) (r : RunSt), s.Sound ∧ s.Quiet ∧ s.rd Reg.PLUMB.RUN_STATUS.PHASE = 3 ∧ s.kindRuns 3 = true ∧ s.flag Reg.PLUMB.BANK_STATUS.COPYING = false ∧ s.plumb.window = none ∧ s.img.liveRef = .slot (s.rd Reg.PLUMB.SWEEP_SLOTS.PROBE_SLOT) ∧ s.picStage ≠ 2 ∧ s.plumb.run = some r ∧ r.ready = true ∧ s.viaReady (r.visit / 2) = true ∧ s.probeDark = true) ∧
    (∃ (s : State) (r : RunSt), s.Sound ∧ s.Quiet ∧ s.rd Reg.PLUMB.RUN_STATUS.PHASE = 3 ∧ s.kindRuns 3 = true ∧ s.flag Reg.PLUMB.BANK_STATUS.COPYING = false ∧ s.plumb.window = none ∧ s.img.liveRef = .slot (s.rd Reg.PLUMB.SWEEP_SLOTS.PROBE_SLOT) ∧ s.picStage ≠ 2 ∧ s.plumb.run = some r ∧ r.ready = true ∧ s.viaReady (r.visit / 2) = true ∧ s.probeDark = false) ∧
    (∃ (s : State) (xs : List (Nat × Int × Int)) (w : Window), s.Sound ∧ s.Quiet ∧ s.plumb.window = some w ∧ s.picStage ≠ 2 ∧ s.flag Reg.PLUMB.BANK_STATUS.COPYING = false ∧ s.pointRipe w = true ∧ w.point + 1 < s.sweepPoints) ∧
    (∃ (s : State) (r : RunSt), s.Sound ∧ s.Quiet ∧ s.rd Reg.PLUMB.RUN_STATUS.PHASE = 0 ∧ s.plumb.run = some r ∧ r.cur = none ∧ s.plumb.window = none ∧ r.rejected = 0 ∧ r.darkWin = 0 ∧ r.taken = 0) ∧
    (∃ (s : State) (r : RunSt), s.Sound ∧ s.Quiet ∧ s.rd Reg.PLUMB.RUN_STATUS.PHASE = 0 ∧ s.plumb.run = some r ∧ r.cur = none ∧ s.plumb.window = none ∧ r.rejected = 0 ∧ r.darkWin = 0 ∧ 0 < r.taken) ∧
    (∃ (s : State) (w : Window), s.Sound ∧ s.Calm ∧ s.plumb.window = some w ∧ w.timed = true ∧ w.stop ≤ s.up ∧ w.base = []) ∧
    (∃ (s : State) (w : Window), s.Sound ∧ s.Calm ∧ s.plumb.window = some w ∧ (w.timed = false ∨ s.up < w.stop)) :=
  ⟨⟨(let s := base; (s.put (Reg.HDR.PG_CTRL.ENABLE 0xC000) true).put Reg.PLUMB.RUN_STATUS.BUSY false : State), .pcie, 13, sound_of (by decide +kernel), calm_of (by decide +kernel), open_of (by decide +kernel), by decide +kernel, by decide +kernel, by decide +kernel, by decide +kernel, by decide +kernel, by decide +kernel⟩,
   ⟨(let s := base; s.put (Reg.HDR.PG_CTRL.ENABLE 0xC000) false : State), .pcie, 13, sound_of (by decide +kernel), calm_of (by decide +kernel), open_of (by decide +kernel), by decide +kernel⟩,
   ⟨(let s := base; (((s.put (Reg.HDR.PG_CTRL.ENABLE 0xC000) true).put Reg.PLUMB.RUN_STATUS.BUSY true).wr Reg.PLUMB.RUN_STATUS.PHASE 0).wr Reg.PLUMB.RUN_STATUS.KINDS 3 : State), .pcie, 13, sound_of (by decide +kernel), calm_of (by decide +kernel), open_of (by decide +kernel), by decide +kernel, by decide +kernel, by decide +kernel, by decide +kernel, by decide +kernel, by decide +kernel, by decide +kernel, by decide +kernel⟩,
   ⟨(let s := base; let s := ((((s.put (Reg.HDR.PG_CTRL.ENABLE 0xC000) true).put Reg.PLUMB.RUN_STATUS.BUSY false).put Reg.PLUMB.TRIG_CFG.INTERVAL_EN true).wr Reg.PLUMB.TRIG_CFG.INTERVAL_KINDS 5).wr Reg.PLUMB.CAL_MAX_INTERVAL.S 20; { s with plumb := { s.plumb with good := some 5 }, mon := { s.mon with clock := 10 ^ 12 } } : State), sound_of (by decide +kernel), calm_of (by decide +kernel), by decide +kernel, by decide +kernel, by decide +kernel, by decide +kernel, by decide +kernel, by decide +kernel, by decide +kernel, by decide +kernel⟩,
   ⟨(let s := base; s.put Reg.PLUMB.TRIG_CFG.INTERVAL_EN false : State), sound_of (by decide +kernel), calm_of (by decide +kernel), by decide +kernel⟩,
   ⟨(let s := base; let s := s; let s := s.wr Reg.PLUMB.RUN_STATUS.PHASE 1; { s with plumb := { s.plumb with run := some ⟨[7, 9], none, 0, false, false, 0, 0, 0, 0, false⟩ } } : State), (⟨[7, 9], none, 0, false, false, 0, 0, 0, 0, false⟩), 7, [9], by decide +kernel, by decide +kernel, by decide +kernel, by decide +kernel, by decide +kernel, by decide +kernel, by decide +kernel⟩,
   ⟨(let s := base; let s := s.wr Reg.PLUMB.RUN_STATUS.KINDS 1; let s := s.wr Reg.PLUMB.RUN_STATUS.PHASE 1; { s with plumb := { s.plumb with run := some ⟨[], none, 0, false, false, 0, 0, 0, 0, false⟩ } } : State), (⟨[], none, 0, false, false, 0, 0, 0, 0, false⟩), sound_of (by decide +kernel), by decide +kernel, by decide +kernel, by decide +kernel, by decide +kernel, by decide +kernel, by decide +kernel⟩,
   ⟨(let s := base; let s := s.wr Reg.PLUMB.RUN_STATUS.KINDS 7; let s := s.wr Reg.PLUMB.RUN_STATUS.PHASE 2; { s with plumb := { s.plumb with run := some ⟨[7, 9], none, 0, false, false, 0, 0, 0, 0, false⟩ } } : State), [3], [5], sound_of (by decide +kernel), quiet_of (by decide +kernel), by decide +kernel, by decide +kernel, by decide +kernel⟩,
   ⟨(let s := base; let s := ({ ((s.put Reg.PLUMB.SWEEP_SLOTS.EN true).put (Reg.HDR.PG_CTRL.ENABLE seamPg) true).wr (Reg.HDR.PG_STATE.STATE seamPg) 2 with dev := .run } : State); let s := s.wr Reg.PLUMB.RUN_STATUS.PHASE 3; { s with plumb := { s.plumb with run := some ⟨[], none, 5, false, false, 0, 0, 0, 0, false⟩ } } : State), (⟨[], none, 5, false, false, 0, 0, 0, 0, false⟩), sound_of (by decide +kernel), quiet_of (by decide +kernel), by decide +kernel, by decide +kernel, by decide +kernel, by decide +kernel, by decide +kernel, by decide +kernel, by decide +kernel, by decide +kernel, by decide +kernel, by decide +kernel, by decide +kernel, by decide +kernel, by decide +kernel, by decide +kernel, by decide +kernel⟩,
   ⟨(let s := base; let s := s; let s := s.wr Reg.PLUMB.RUN_STATUS.PHASE 3; { s with plumb := { s.plumb with run := some ⟨[], none, 5, false, false, 0, 0, 0, 0, false⟩ } } : State), (⟨[], none, 5, false, false, 0, 0, 0, 0, false⟩), sound_of (by decide +kernel), quiet_of (by decide +kernel), by decide +kernel, by decide +kernel, by decide +kernel⟩,
   ⟨(let s := base; let s : State := s; let s := (({ s with dev := .run } : State).put Reg.PLUMB.SWEEP_SLOTS.EN true).put Reg.PLUMB.BANK_STATUS.COPYING false; let s := s.wr Reg.PLUMB.RUN_STATUS.PHASE 3; { s with plumb := { s.plumb with run := some ⟨[7, 9], none, 0, false, false, 0, 0, 0, 0, false⟩ }, img := { s.img with liveRef := .slot (s.rd Reg.PLUMB.SWEEP_SLOTS.PROBE_SLOT) }, now := 10 ^ 25 } : State), (⟨[7, 9], none, 0, false, false, 0, 0, 0, 0, false⟩), sound_of (by decide +kernel), quiet_of (by decide +kernel), by decide +kernel, by decide +kernel, by decide +kernel, by decide +kernel, by decide +kernel, by decide +kernel, by decide +kernel, by decide +kernel⟩,
   ⟨(let s := base; let s : State := s; let s := (({ s with dev := .run } : State).put Reg.PLUMB.SWEEP_SLOTS.EN true).put Reg.PLUMB.BANK_STATUS.COPYING false; let s := s.wr Reg.PLUMB.RUN_STATUS.PHASE 3; { s with plumb := { s.plumb with run := some ⟨[], none, 5, false, true, 0, 0, 0, 0, false⟩ }, img := { s.img with liveRef := .slot (s.rd Reg.PLUMB.SWEEP_SLOTS.PROBE_SLOT) }, now := 10 ^ 25 } : State), (⟨[], none, 5, false, true, 0, 0, 0, 0, false⟩), sound_of (by decide +kernel), quiet_of (by decide +kernel), by decide +kernel, by decide +kernel, by decide +kernel, by decide +kernel, by decide +kernel, by decide +kernel, by decide +kernel, by decide +kernel, by decide +kernel, by decide +kernel⟩,
   ⟨(let s := base; let s : State := ({ s with bram := { s.bram with seen := [(ingressMid (s.rd Reg.PLUMB.PROBE_CFG.PORT), ⟨10 ^ 40, 0⟩)] } } : State); let s := (({ s with dev := .run } : State).put Reg.PLUMB.SWEEP_SLOTS.EN true).put Reg.PLUMB.BANK_STATUS.COPYING false; let s := s.wr Reg.PLUMB.RUN_STATUS.PHASE 3; { s with plumb := { s.plumb with run := some ⟨[], none, 5, false, true, 0, 0, 0, 0, false⟩ }, img := { s.img with liveRef := .slot (s.rd Reg.PLUMB.SWEEP_SLOTS.PROBE_SLOT) }, now := 10 ^ 25 } : State), (⟨[], none, 5, false, true, 0, 0, 0, 0, false⟩), sound_of (by decide +kernel), quiet_of (by decide +kernel), by decide +kernel, by decide +kernel, by decide +kernel, by decide +kernel, by decide +kernel, by decide +kernel, by decide +kernel, by decide +kernel, by decide +kernel, by decide +kernel⟩,
   ⟨(let s := base; { s with plumb := { s.plumb with window := some ⟨2, true, [(5, 100)], 0, [], false, 0, 0⟩, run := some ⟨[], none, 5, false, true, 0, 0, 0, 0, false⟩ }, mon := { s.mon with clock := 10 ^ 12 } } : State), ([(5, 3, 4)]), (⟨2, true, [(5, 100)], 0, [], false, 0, 0⟩), sound_of (by decide +kernel), quiet_of (by decide +kernel), by decide +kernel, by decide +kernel, by decide +kernel, by decide +kernel, by decide +kernel⟩,
   ⟨(let s := base; let s := s.wr (Reg.THERMAL.SENSOR.TEMP 5) 345; let s := s.wr Reg.PLUMB.RUN_STATUS.PHASE 0; { s with plumb := { s.plumb with run := some ⟨[7, 9], none, 0, false, false, 0, 0, 0, 0, false⟩ } } : State), (⟨[7, 9], none, 0, false, false, 0, 0, 0, 0, false⟩), sound_of (by decide +kernel), quiet_of (by decide +kernel), by decide +kernel, by decide +kernel, by decide +kernel, by decide +kernel, by decide +kernel, by decide +kernel, by decide +kernel⟩,
   ⟨(let s := base; let s := s; let s := s.wr Reg.PLUMB.RUN_STATUS.PHASE 0; { s with plumb := { s.plumb with run := some ⟨[], none, 5, false, false, 0, 3, 0, 0, false⟩ } } : State), (⟨[], none, 5, false, false, 0, 3, 0, 0, false⟩), sound_of (by decide +kernel), quiet_of (by decide +kernel), by decide +kernel, by decide +kernel, by decide +kernel, by decide +kernel, by decide +kernel, by decide +kernel, by decide +kernel⟩,
   ⟨(let s := base; { s with plumb := { s.plumb with window := some ⟨2, true, [], 0, [], true, 0, 0⟩ } } : State), (⟨2, true, [], 0, [], true, 0, 0⟩), sound_of (by decide +kernel), calm_of (by decide +kernel), by decide +kernel, by decide +kernel, by decide +kernel, by decide +kernel⟩,
   ⟨(let s := base; { s with plumb := { s.plumb with window := some ⟨2, true, [], 0, [], false, 0, 0⟩ } } : State), (⟨2, true, [], 0, [], false, 0, 0⟩), sound_of (by decide +kernel), calm_of (by decide +kernel), by decide +kernel, by decide +kernel⟩⟩

theorem witness_AtlasAndFusesLead :
    (∃ (s : State) (path : HostPath), s.Sound ∧ s.Open 0xC084 ∧ s.flag Reg.PLUMB.ATLAS_CTRL.ENABLE = true ∧ s.flag Reg.PLUMB.ATLAS_CTRL.FREEZE = false) ∧
    (∃ (s : State), s.Sound ∧ s.plumb.freezing = true ∧ s.sdOnline = false) ∧
    (∃ (s : State), s.Sound ∧ s.plumb.freezing = true ∧ s.sdOnline = true) ∧
    (∃ (s : State) (path : HostPath), s.Sound ∧ s.Open 0xC084 ∧ s.flag Reg.PLUMB.ATLAS_CTRL.ENABLE = false ∧ s.flag Reg.PLUMB.ATLAS_CTRL.FREEZE = bitOf (s.rdW 0xC084).toNat 1 ∧ s.sdOnline = false) ∧
    (∃ (s : State) (path : HostPath) (g : Nat), s.Sound ∧ s.Open 0x4048 ∧ path ≠ .opRing ∧ s.flag Reg.FUSE.FUSE_STATUS.COMMIT_BUSY = false ∧ s.flag (Reg.HDR.PG_LOCK.LOCKED 0x4000) = false ∧ (s.dev = .hold ∨ s.dev = .armed ∨ s.dev = .run) ∧ s.runBusy = false ∧ s.zoneLevel 3 = 0 ∧ s.commitTarget = some g) ∧
    (∃ (s : State) (path : HostPath) (confirm : Nat), s.Sound ∧ s.Open 0x4048 ∧ s.flag Reg.FUSE.FUSE_STATUS.COMMIT_BUSY = false ∧ confirm % 2 ^ 16 ≠ 0xF05E) ∧
    (∃ (s : State) (path : HostPath), s.Sound ∧ s.Open 0x4048 ∧ s.flag (Reg.HDR.PG_LOCK.LOCKED 0x4000) = false ∧ markPartial (s.validMark (s.rd Reg.FUSE.FUSE_STATUS.IN_FORCE)) = true ∧ s.rd Reg.FUSE.FUSE_STATUS.IN_FORCE = 0) ∧
    (∃ (s : State) (path : HostPath) (confirm : Nat), s.Sound ∧ s.Open 0x4048 ∧ confirm % 2 ^ 16 ≠ 0xF05E) ∧
    (∃ (s : State) (n : Nat) (image : List Byte), s.Sound ∧ s.plumb.commit = some image) ∧
    (∃ (s : State) (held : List (Nat × Byte)) (image : List Byte), s.Sound ∧ s.plumb.commit = some image) :=
  ⟨⟨(let s := base; (s.put Reg.PLUMB.ATLAS_CTRL.ENABLE true).put Reg.PLUMB.ATLAS_CTRL.FREEZE false : State), .pcie, sound_of (by decide +kernel), open_of (by decide +kernel), by decide +kernel, by decide +kernel⟩,
   ⟨(let s := base; { s with plumb := { s.plumb with freezing := true } } : State), sound_of (by decide +kernel), by decide +kernel, by decide +kernel⟩,
   ⟨(let s := base; let s := withSdram s; { s with plumb := { s.plumb with freezing := true } } : State), sound_of (by decide +kernel), by decide +kernel, by decide +kernel⟩,
   ⟨(let s := base; (s.put Reg.PLUMB.ATLAS_CTRL.ENABLE false) : State), .pcie, sound_of (by decide +kernel), open_of (by decide +kernel), by decide +kernel, by decide +kernel, by decide +kernel⟩,
   ⟨(let s := base; (s.put (Reg.HDR.PG_LOCK.LOCKED 0x4000) false).put Reg.FUSE.FUSE_STATUS.COMMIT_BUSY false : State), .pcie, 0, sound_of (by decide +kernel), open_of (by decide +kernel), by decide +kernel, by decide +kernel, by decide +kernel, by decide +kernel, by decide +kernel, by decide +kernel, by decide +kernel⟩,
   ⟨(let s := base; s.put Reg.FUSE.FUSE_STATUS.COMMIT_BUSY false : State), .pcie, 7, sound_of (by decide +kernel), open_of (by decide +kernel), by decide +kernel, by decide +kernel⟩,
   ⟨(let s := base; ((s.put (Reg.HDR.PG_LOCK.LOCKED 0x4000) false).wrW 0x810000 0x00000003).wr Reg.FUSE.FUSE_STATUS.IN_FORCE 0 : State), .pcie, sound_of (by decide +kernel), open_of (by decide +kernel), by decide +kernel, by decide +kernel, by decide +kernel⟩,
   ⟨(let s := base; s : State), .pcie, 7, sound_of (by decide +kernel), open_of (by decide +kernel), by decide +kernel⟩,
   ⟨(let s := base; let s := (s.wr Reg.FUSE.COMMIT_STATUS.TARGET 2); { s with plumb := { s.plumb with commit := some [1, 2, 3, 4, 5] } } : State), 5, ([1, 2, 3, 4, 5]), sound_of (by decide +kernel), by decide +kernel⟩,
   ⟨(let s := base; let s := (s.wr Reg.FUSE.COMMIT_STATUS.TARGET 2); { s with plumb := { s.plumb with commit := some [1, 2, 3, 4, 5] } } : State), ([(2, 9)]), ([1, 2, 3, 4, 5]), sound_of (by decide +kernel), by decide +kernel⟩⟩

theorem witness_RingPortsLead :
    (∃ (s : State) (p : Nat) (tr : List Nat), s.Sound ∧ s.portReady p = true ∧ s.linkUp p = false ∧ s.engState p = 0 ∧ s.activeEng = some (1 - p) ∧ s.flag (Reg.HDR.PG_CTRL.ENABLE (0x10000 + 0x1000 * p)) = true ∧ (s.engine p).trip = none) ∧
    (∃ (s : State) (p : Nat) (tr : List Nat), s.Sound ∧ s.portReady p = true ∧ s.linkUp p = false ∧ s.engState 0 = 0 ∧ s.engState 1 = 0 ∧ s.flag (Reg.HDR.PG_CTRL.ENABLE (0x10000 + 0x1000 * p)) = true ∧ (s.engine p).trip = none ∧ s.rd Reg.PATH.PATH_CFG.PRIMARY = p) ∧
    (∃ (s : State) (p : Nat), s.Sound ∧ p < 2 ∧ s.linkUp p = true ∧ s.engState p ≠ 3) ∧
    (∃ (s : State) (p : Nat), s.Sound ∧ p < 2 ∧ s.linkUp p = true ∧ s.engState p = 3) ∧
    (∃ (s : State) (p corr res : Nat) (d : List Byte), s.Sound ∧ p < 2 ∧ s.linkUp p = true ∧ 20 ≤ d.length ∧ d.length ≤ 9212 ∧ beAt d 12 2 = 0x8808) ∧
    (∃ (s : State) (p corr res : Nat) (d : List Byte), s.Sound ∧ p < 2 ∧ s.linkUp p = true ∧ 20 ≤ d.length ∧ d.length ≤ 9212 ∧ beAt d 12 2 ≠ 0x8808 ∧ beAt d 12 2 ≠ s.rd (Reg.RING.TAG_CFG.ETHERTYPE p)) ∧
    (∃ (s : State) (p corr res : Nat) (d : List Byte), s.Sound ∧ p < 2 ∧ s.linkUp p = true ∧ 20 ≤ d.length ∧ d.length ≤ 9212 ∧ beAt d 12 2 = s.rd (Reg.RING.TAG_CFG.ETHERTYPE p) ∧ beAt d 12 2 ≠ 0x8808 ∧ beAt d 14 1 = s.rd (Reg.RING.TAG_CFG.RING_ID p) ∧ beAt d 16 1 % 128 + 1 < max 2 (s.rd (Reg.RING.FRAME_CFG.HOP_LIMIT p)) ∧ beAt d 6 6 ≠ s.station p ∧ beAt d 0 6 = s.station p ∧ bitOf (beAt d 19 1) 1 = false ∧ s.flag (Reg.HDR.PG_CTRL.ENABLE 0xF000) = true ∧ fillOf (s.inQueue p) + divUp d.length 64 ≤ 512) ∧
    (∃ (s : State) (p corr res : Nat) (d : List Byte), s.Sound ∧ p < 2 ∧ s.linkUp p = true ∧ 20 ≤ d.length ∧ d.length ≤ 9212 ∧ beAt d 12 2 = s.rd (Reg.RING.TAG_CFG.ETHERTYPE p) ∧ beAt d 12 2 ≠ 0x8808 ∧ beAt d 14 1 = s.rd (Reg.RING.TAG_CFG.RING_ID p) ∧ beAt d 16 1 % 128 + 1 < max 2 (s.rd (Reg.RING.FRAME_CFG.HOP_LIMIT p)) ∧ beAt d 6 6 ≠ s.station p ∧ beAt d 0 6 ≠ s.station p ∧ s.groupAddr p (beAt d 0 6) = false ∧ s.linkUp (1 - p) = true ∧ ptpFind (overlay d 16 (beBytes 1 (beAt d 16 1 / 128 * 128 + (beAt d 16 1 + 1) % 128))) 20 (s.station p) = none ∧ ptpFind d 20 (s.station p) = none ∧ res / 1000 ≤ s.rd (Reg.RING.PASS_LAT.MAX_NS p)) ∧
    (∃ (s : State) (p corr res : Nat) (d : List Byte), s.Sound ∧ p < 2 ∧ s.linkUp p = true ∧ 20 ≤ d.length ∧ d.length ≤ 9212 ∧ beAt d 12 2 = s.rd (Reg.RING.TAG_CFG.ETHERTYPE p) ∧ beAt d 12 2 ≠ 0x8808 ∧ beAt d 14 1 = s.rd (Reg.RING.TAG_CFG.RING_ID p) ∧ max 2 (s.rd (Reg.RING.FRAME_CFG.HOP_LIMIT p)) ≤ beAt d 16 1 % 128 + 1) :=
  ⟨⟨(let s := base; ((((s.wr (Reg.HDR.PG_STATE.STATE 0x11000) 2).wrW 0x2040 0x600).put (Reg.HDR.PG_CTRL.ENABLE 0x11000) true).wr Reg.PATH.PATH_STATUS.ENGINE_STATE_A 3).put (Reg.RING.PORT_STATUS.LINK_UP 1) false : State), 1, ([5, 6, 7, 8]), sound_of (by decide +kernel), by decide +kernel, by decide +kernel, by decide +kernel, by decide +kernel, by decide +kernel, by decide +kernel⟩,
   ⟨(let s := base; (((((s.wr (Reg.HDR.PG_STATE.STATE 0x11000) 2).wrW 0x2040 0x600).put (Reg.HDR.PG_CTRL.ENABLE 0x11000) true).wr Reg.PATH.PATH_CFG.PRIMARY 1).wrW Reg.PATH.PATH_STATUS.ACTIVE.off 0).put (Reg.RING.PORT_STATUS.LINK_UP 1) false : State), 1, ([5, 6, 7, 8]), sound_of (by decide +kernel), by decide +kernel, by decide +kernel, by decide +kernel, by decide +kernel, by decide +kernel, by decide +kernel, by decide +kernel⟩,
   ⟨(let s := base; (s.put (Reg.RING.PORT_STATUS.LINK_UP 1) true).wr Reg.PATH.PATH_STATUS.ENGINE_STATE_B 2 : State), 1, sound_of (by decide +kernel), by decide +kernel, by decide +kernel, by decide +kernel⟩,
   ⟨(let s := base; (s.put (Reg.RING.PORT_STATUS.LINK_UP 1) true).wr Reg.PATH.PATH_STATUS.ENGINE_STATE_B 3 : State), 1, sound_of (by decide +kernel), by decide +kernel, by decide +kernel, by decide +kernel⟩,
   ⟨(let s := base; (s.put (Reg.RING.PORT_STATUS.LINK_UP 1) true).put (Reg.RING.PORT_STATUS.LINK_UP 0) true : State), 1, 3, 5000, (List.replicate 12 1 ++ [0x88, 0x08] ++ List.replicate 50 3), sound_of (by decide +kernel), by decide +kernel, by decide +kernel, by decide +kernel, by decide +kernel, by decide +kernel⟩,
   ⟨(let s := base; (s.put (Reg.RING.PORT_STATUS.LINK_UP 1) true).put (Reg.RING.PORT_STATUS.LINK_UP 0) true : State), 1, 3, 5000, (List.replicate 12 1 ++ [0x77, 0x08] ++ List.replicate 50 3), sound_of (by decide +kernel), by decide +kernel, by decide +kernel, by decide +kernel, by decide +kernel, by decide +kernel, by decide +kernel⟩,
   ⟨(let s := base; let s := (((s.put (Reg.RING.PORT_STATUS.LINK_UP 1) true).put (Reg.RING.PORT_STATUS.LINK_UP 0) true).wr (Reg.RING.TAG_CFG.ETHERTYPE 1) 0x88B4).wr (Reg.RING.TAG_CFG.RING_ID 1) 0; let s := ((s.wr (Reg.RING.FRAME_CFG.HOP_LIMIT 1) 20).wr (Reg.RING.STATION_HI.ADDR 1) 0x0202).wr (Reg.RING.STATION_LO.ADDR 1) 0x01010101; s.put (Reg.HDR.PG_CTRL.ENABLE 0xF000) true : State), 1, 3, 5000, ([2, 2, 1, 1, 1, 1] ++ [9, 9, 9, 9, 9, 9] ++ [0x88, 0xB4, 0, 0, 2, 0, 0, 0] ++ List.replicate 60 3), sound_of (by decide +kernel), by decide +kernel, by decide +kernel, by decide +kernel, by decide +kernel, by decide +kernel, by decide +kernel, by decide +kernel, by decide +kernel, by decide +kernel, by decide +kernel, by decide +kernel, by decide +kernel, by decide +kernel⟩,
   ⟨(let s := base; let s := (((s.put (Reg.RING.PORT_STATUS.LINK_UP 1) true).put (Reg.RING.PORT_STATUS.LINK_UP 0) true).wr (Reg.RING.TAG_CFG.ETHERTYPE 1) 0x88B4).wr (Reg.RING.TAG_CFG.RING_ID 1) 0; let s := ((s.wr (Reg.RING.FRAME_CFG.HOP_LIMIT 1) 20).wr (Reg.RING.STATION_HI.ADDR 1) 0x0202).wr (Reg.RING.STATION_LO.ADDR 1) 0x01010101; s.wr (Reg.RING.PASS_LAT.MAX_NS 1) 99 : State), 1, 3, 5000, ([4, 2, 1, 1, 1, 1] ++ [9, 9, 9, 9, 9, 9] ++ [0x88, 0xB4, 0, 0, 2, 0, 0, 0] ++ List.replicate 60 3), sound_of (by decide +kernel), by decide +kernel, by decide +kernel, by decide +kernel, by decide +kernel, by decide +kernel, by decide +kernel, by decide +kernel, by decide +kernel, by decide +kernel, by decide +kernel, by decide +kernel, by decide +kernel, by decide +kernel, by decide +kernel, by decide +kernel⟩,
   ⟨(let s := base; let s := (((s.put (Reg.RING.PORT_STATUS.LINK_UP 1) true).put (Reg.RING.PORT_STATUS.LINK_UP 0) true).wr (Reg.RING.TAG_CFG.ETHERTYPE 1) 0x88B4).wr (Reg.RING.TAG_CFG.RING_ID 1) 0; let s := ((s.wr (Reg.RING.FRAME_CFG.HOP_LIMIT 1) 20).wr (Reg.RING.STATION_HI.ADDR 1) 0x0202).wr (Reg.RING.STATION_LO.ADDR 1) 0x01010101; s.wr (Reg.RING.FRAME_CFG.HOP_LIMIT 1) 3 : State), 1, 3, 5000, ([4, 2, 1, 1, 1, 1] ++ [9, 9, 9, 9, 9, 9] ++ [0x88, 0xB4, 0, 0, 2, 0, 0, 0] ++ List.replicate 60 3), sound_of (by decide +kernel), by decide +kernel, by decide +kernel, by decide +kernel, by decide +kernel, by decide +kernel, by decide +kernel, by decide +kernel, by decide +kernel⟩⟩

theorem witness_PathEnginesLead :
    (∃ (s : State) (e sa : Nat), e < 2) ∧
    (∃ (s : State) (same : Bool), s.Sound ∧ s.engState 0 = 3 ∧ s.engState 1 = 2 ∧ s.healthy 0 = true ∧ s.path.copy = true ∧ s.flag Reg.PATH.PATH_CFG.MODE = true) ∧
    (∃ (s : State) (ok : Bool), s.Sound ∧ s.engState 0 = 3 ∧ s.engState 1 = 2 ∧ s.healthy 0 = true ∧ s.path.copy = false ∧ s.flag Reg.PATH.PATH_CFG.MODE = false) ∧
    (∃ (s : State) (e : Nat), s.Sound ∧ e < 2 ∧ s.engState e = 1 ∧ s.engState (1 - e) = 3 ∧ s.flag Reg.PATH.PATH_STATUS.DEGRADED = false) ∧
    (∃ (s : State) (e : Nat), s.Sound ∧ e < 2 ∧ s.engState e = 1) ∧
    (∃ (s : State) (e check : Nat), s.Sound ∧ e < 2 ∧ check < 7 ∧ bitOf (s.rd Reg.PATH.DIAG_EN.CHECKS) check = true ∧ s.checkHolds e check = true ∧ s.engState e = 2) ∧
    (∃ (s : State) (e check : Nat), s.Sound ∧ e < 2 ∧ check < 7 ∧ bitOf (s.rd Reg.PATH.DIAG_EN.CHECKS) check = true ∧ s.checkHolds e check = true ∧ s.engState e = 3 ∧ s.eligible (1 - e) = false) ∧
    (∃ (s : State) (a check : Nat), s.Sound ∧ a < 2 ∧ check < 7 ∧ bitOf (s.rd Reg.PATH.DIAG_EN.CHECKS) check = true ∧ s.checkHolds a check = true ∧ s.engState a = 3 ∧ s.eligible (1 - a) = true ∧ s.linkUp a = true) ∧
    (∃ (s : State) (e check : Nat), s.checkHolds e check = false) ∧
    (∃ (s : State) (path : HostPath) (a : Nat), s.Sound ∧ s.Open 0x12044 ∧ s.activeEng = some a ∧ s.eligible (1 - a) = true) ∧
    (∃ (s : State) (path : HostPath) (a : Nat), s.Sound ∧ s.Open 0x12044 ∧ s.activeEng = some a ∧ s.eligible (1 - a) = false) ∧
    (∃ (s : State) (a : Nat), s.Sound ∧ s.flag Reg.PATH.PATH_CFG.RING_CLASS = true ∧ s.rd Reg.PATH.PATH_CFG.PRIMARY = 1 - a ∧ a ≤ 1 ∧ max 1 (s.rd Reg.PATH.REVERT_HOLD.MS) ≤ s.healthyMs (1 - a) ∧ s.activeEng = some a ∧ s.eligible (1 - a) = true) ∧
    (∃ (s : State), (s.flag Reg.PATH.PATH_CFG.RING_CLASS = false ∨ s.healthyMs (s.rd Reg.PATH.PATH_CFG.PRIMARY) < s.rd Reg.PATH.REVERT_HOLD.MS)) ∧
    (∃ (s : State) (e : Nat), s.Sound ∧ e < 2 ∧ s.healthy e = true ∧ s.engState e = 4 ∧ (s.engine e).since + s.diagWindow ≤ s.up) ∧
    (∃ (s : State) (e : Nat), e < 2 ∧ s.engState e = 4 ∧ (s.healthy e = false ∨ s.up < (s.engine e).since + s.diagWindow)) :=
  ⟨⟨(let s := base; { s with path := { s.path with engB := { s.path.engB with dups := [⟨7, 1, [], 1, 0⟩, ⟨8, 2, [(2, [])], 2, 0⟩] } }, mon := { s.mon with clock := 10 ^ 12 } } : State), 1, 7, by decide +kernel⟩,
   ⟨(let s := base; let s := (((s.wr Reg.PATH.PATH_STATUS.ENGINE_STATE_A 3).wr Reg.PATH.PATH_STATUS.ENGINE_STATE_B 2).put (Reg.RING.PORT_STATUS.LINK_UP 0) true).put Reg.PATH.PATH_CFG.MODE true; { s with path := { s.path with copy := true, engA := { s.path.engA with dups := [⟨8, 2, [(2, [])], 2, 0⟩], dead := [((3, 3), 0)] } } } : State), false, sound_of (by decide +kernel), by decide +kernel, by decide +kernel, by decide +kernel, by decide +kernel, by decide +kernel⟩,
   ⟨(let s := base; let s := (((s.wr Reg.PATH.PATH_STATUS.ENGINE_STATE_A 3).wr Reg.PATH.PATH_STATUS.ENGINE_STATE_B 2).put (Reg.RING.PORT_STATUS.LINK_UP 0) true).put Reg.PATH.PATH_CFG.MODE false; s : State), false, sound_of (by decide +kernel), by decide +kernel, by decide +kernel, by decide +kernel, by decide +kernel, by decide +kernel⟩,
   ⟨(let s := base; let s := (((s.wr Reg.PATH.PATH_STATUS.ENGINE_STATE_A 3).wr Reg.PATH.PATH_STATUS.ENGINE_STATE_B 1).put Reg.PATH.PATH_STATUS.DEGRADED false); { s with now := 77, path := { s.path with engA := { s.path.engA with dups := [⟨8, 2, [(2, [])], 2, 0⟩], dead := [((3, 3), 0)] } } } : State), 1, sound_of (by decide +kernel), by decide +kernel, by decide +kernel, by decide +kernel, by decide +kernel⟩,
   ⟨(let s := base; s.wr Reg.PATH.PATH_STATUS.ENGINE_STATE_B 1 : State), 1, sound_of (by decide +kernel), by decide +kernel, by decide +kernel⟩,
   ⟨(let s := base; (s.wr Reg.PATH.DIAG_EN.CHECKS 127).wr Reg.PATH.PATH_STATUS.ENGINE_STATE_B 2 : State), 1, 5, sound_of (by decide +kernel), by decide +kernel, by decide +kernel, by decide +kernel, by decide +kernel, by decide +kernel⟩,
   ⟨(let s := base; (s.wr Reg.PATH.DIAG_EN.CHECKS 127).wr Reg.PATH.PATH_STATUS.ENGINE_STATE_B 3 : State), 1, 5, sound_of (by decide +kernel), by decide +kernel, by decide +kernel, by decide +kernel, by decide +kernel, by decide +kernel, by decide +kernel⟩,
   ⟨(let s := base; ((((s.wr Reg.PATH.DIAG_EN.CHECKS 127).wr Reg.PATH.PATH_STATUS.ENGINE_STATE_B 3).wr Reg.PATH.PATH_STATUS.ENGINE_STATE_A 2).put (Reg.RING.PORT_STATUS.LINK_UP 0) true).put (Reg.RING.PORT_STATUS.LINK_UP 1) true : State), 1, 5, sound_of (by decide +kernel), by decide +kernel, by decide +kernel, by decide +kernel, by decide +kernel, by decide +kernel, by decide +kernel, by decide +kernel⟩,
   ⟨(let s := base; s : State), 1, 0, by decide +kernel⟩,
   ⟨(let s := base; (((s.wr Reg.PATH.PATH_STATUS.ENGINE_STATE_B 3).wr Reg.PATH.PATH_STATUS.ENGINE_STATE_A 2).put (Reg.RING.PORT_STATUS.LINK_UP 0) true) : State), .pcie, 1, sound_of (by decide +kernel), open_of (by decide +kernel), by decide +kernel, by decide +kernel⟩,
   ⟨(let s := base; s.wr Reg.PATH.PATH_STATUS.ENGINE_STATE_B 3 : State), .pcie, 1, sound_of (by decide +kernel), open_of (by decide +kernel), by decide +kernel, by decide +kernel⟩,
   ⟨(let s := base; let s := (((((s.wr Reg.PATH.PATH_STATUS.ENGINE_STATE_B 3).wr Reg.PATH.PATH_STATUS.ENGINE_STATE_A 2).put (Reg.RING.PORT_STATUS.LINK_UP 0) true).put Reg.PATH.PATH_CFG.RING_CLASS true).wr Reg.PATH.PATH_CFG.PRIMARY 0).wr Reg.PATH.REVERT_HOLD.MS 5; { s with mon := { s.mon with clock := 10 ^ 12 } } : State), 1, sound_of (by decide +kernel), by decide +kernel, by decide +kernel, by decide +kernel, by decide +kernel, by decide +kernel, by decide +kernel⟩,
   ⟨(let s := base; s.put Reg.PATH.PATH_CFG.RING_CLASS false : State), by decide +kernel⟩,
   ⟨(let s := base; let s := (s.wr Reg.PATH.PATH_STATUS.ENGINE_STATE_B 4).put (Reg.RING.PORT_STATUS.LINK_UP 1) true; { s with mon := { s.mon with clock := 10 ^ 12 } } : State), 1, sound_of (by decide +kernel), by decide +kernel, by decide +kernel, by decide +kernel, by decide +kernel⟩,
   ⟨(let s := base; s.wr Reg.PATH.PATH_STATUS.ENGINE_STATE_B 4 : State), 1, by decide +kernel, by decide +kernel, by decide +kernel⟩⟩

theorem witness_ParserPassesLead :
    (∃ (s : State) (p : Nat) (f : RxFrame) (fs : List RxFrame) (w : Walk), p < 2 ∧ s.parser.rob.length < 256 ∧ s.inQueue p = f :: fs ∧ w = s.pass f.data (s.rd Reg.PARSER.PARSE_CFG.START_NODE) 0 f.data.length ∧ w.reason ≠ 0) ∧
    (∃ (s : State) (p : Nat) (f : RxFrame) (fs : List RxFrame) (w : Walk), p < 2 ∧ s.parser.rob.length < 256 ∧ s.inQueue p = f :: fs ∧ w = s.pass f.data (s.rd Reg.PARSER.PARSE_CFG.START_NODE) 0 f.data.length ∧ w.reason = 0 ∧ s.lookup (s.keyOf f w false (s.engState p == 3)) = none) ∧
    (∃ (s : State) (l : Looked) (ls : List Looked) (w : Walk) (n : Nat), s.parser.again = l :: ls ∧ n = (match l.rule with | some r => r.2 / 2 ^ 24 % 64 | none => 63) ∧ w = s.pass l.frame.data n l.strip l.stop ∧ w.reason ≠ 0) ∧
    (∃ (s : State) (l : Looked) (ls : List Looked) (w : Walk) (n : Nat), s.parser.again = l :: ls ∧ n = (match l.rule with | some r => r.2 / 2 ^ 24 % 64 | none => 63) ∧ w = s.pass l.frame.data n l.strip l.stop ∧ w.reason = 0 ∧ s.flag Reg.PARSER.PARSE_CFG.RECIRC_GEN_CHECK = false ∧ s.lookup (s.keyOf l.frame w true (s.engState l.frame.port == 3)) = none) ∧
    (∃ (s : State) (l : Looked) (ls : List Looked) (r : Nat × Nat), s.Sound ∧ s.parser.acts = l :: ls ∧ l.rule = some r ∧ l.reason = 0 ∧ bitOf r.2 3 = false ∧ kindOf r.2 = 0) ∧
    (∃ (s : State) (l : Looked) (ls : List Looked) (r : Nat × Nat), s.Sound ∧ s.parser.acts = l :: ls ∧ l.rule = some r ∧ l.reason = 0 ∧ bitOf r.2 3 = false ∧ kindOf r.2 = 1 ∧ s.waitingWork.length < 64 ∧ s.parser.rob.length < 256 ∧ s.path.copy = false ∧ s.ctlHalt = false ∧ s.flag (Reg.HDR.PG_CTRL.ENABLE 0x12000) = true) ∧
    (∃ (s : State) (l : Looked) (ls : List Looked), s.Sound ∧ s.parser.acts = l :: ls ∧ l.rule = none ∧ 1 ≤ l.reason ∧ l.reason < 6 ∧ l.frame.port < 2 ∧ s.rd (Reg.PARSER.PORT_DEFAULT.ACTION l.frame.port) = 0) :=
  ⟨⟨(let s := base; { s with parser := { s.parser with inB := [⟨1, [1, 2, 3], false, false, 5⟩] } } : State), 1, (⟨1, [1, 2, 3], false, false, 5⟩), [], (let s : State := (let s := base; { s with parser := { s.parser with inB := [⟨1, [1, 2, 3], false, false, 5⟩] } } : State); let p : Nat := 1; let f : RxFrame := ⟨1, [1, 2, 3], false, false, 5⟩; let fs : List RxFrame := []; (s.pass f.data (s.rd Reg.PARSER.PARSE_CFG.START_NODE) 0 f.data.length : Walk)), by decide +kernel, by decide +kernel, by decide +kernel, by decide +kernel, by decide +kernel⟩,
   ⟨(let s := base; let s := s.wr Reg.PARSER.PARSE_CFG.START_NODE 4; { s with live := [(0x62001C + 0x80 * 4, 62), (0x62007C + 0x80 * 4, 1)], parser := { s.parser with inB := [⟨1, [1, 2, 3], false, false, 5⟩] } } : State), 1, (⟨1, [1, 2, 3], false, false, 5⟩), [], (let s : State := (let s := base; let s := s.wr Reg.PARSER.PARSE_CFG.START_NODE 4; { s with live := [(0x62001C + 0x80 * 4, 62), (0x62007C + 0x80 * 4, 1)], parser := { s.parser with inB := [⟨1, [1, 2, 3], false, false, 5⟩] } } : State); let p : Nat := 1; let f : RxFrame := ⟨1, [1, 2, 3], false, false, 5⟩; let fs : List RxFrame := []; (s.pass f.data (s.rd Reg.PARSER.PARSE_CFG.START_NODE) 0 f.data.length : Walk)), by decide +kernel, by decide +kernel, by decide +kernel, by decide +kernel, by decide +kernel, by decide +kernel⟩,
   ⟨(let s := base; { s with parser := { s.parser with again := [⟨⟨1, [1, 2, 3, 4, 5, 6], false, false, 5⟩, false, 2, 6, 0, some (7, 5 + 50 * 2 ^ 24), 3, 3, true, 4⟩] } } : State), (⟨⟨1, [1, 2, 3, 4, 5, 6], false, false, 5⟩, false, 2, 6, 0, some (7, 5 + 50 * 2 ^ 24), 3, 3, true, 4⟩), [], (let s : State := (let s := base; { s with parser := { s.parser with again := [⟨⟨1, [1, 2, 3, 4, 5, 6], false, false, 5⟩, false, 2, 6, 0, some (7, 5 + 50 * 2 ^ 24), 3, 3, true, 4⟩] } } : State); let l : Looked := ⟨⟨1, [1, 2, 3, 4, 5, 6], false, false, 5⟩, false, 2, 6, 0, some (7, 5 + 50 * 2 ^ 24), 3, 3, true, 4⟩; let ls : List Looked := []; let n : Nat := (match l.rule with | some r => r.2 / 2 ^ 24 % 64 | none => 63); (s.pass l.frame.data n l.strip l.stop : Walk)), (let s : State := (let s := base; { s with parser := { s.parser with again := [⟨⟨1, [1, 2, 3, 4, 5, 6], false, false, 5⟩, false, 2, 6, 0, some (7, 5 + 50 * 2 ^ 24), 3, 3, true, 4⟩] } } : State); let l : Looked := ⟨⟨1, [1, 2, 3, 4, 5, 6], false, false, 5⟩, false, 2, 6, 0, some (7, 5 + 50 * 2 ^ 24), 3, 3, true, 4⟩; let ls : List Looked := []; ((match l.rule with | some r => r.2 / 2 ^ 24 % 64 | none => 63) : Nat)), by decide +kernel, by decide +kernel, by decide +kernel, by decide +kernel⟩,
   ⟨(let s := base; let s := s.put Reg.PARSER.PARSE_CFG.RECIRC_GEN_CHECK false; { s with live := [(0x62001C + 0x80 * 4, 62), (0x62007C + 0x80 * 4, 1)], parser := { s.parser with again := [⟨⟨1, [1, 2, 3, 4, 5, 6], false, false, 5⟩, false, 2, 6, 0, some (7, 5 + 4 * 2 ^ 24), 3, 3, true, 4⟩] } } : State), (⟨⟨1, [1, 2, 3, 4, 5, 6], false, false, 5⟩, false, 2, 6, 0, some (7, 5 + 4 * 2 ^ 24), 3, 3, true, 4⟩), [], (let s : State := (let s := base; let s := s.put Reg.PARSER.PARSE_CFG.RECIRC_GEN_CHECK false; { s with live := [(0x62001C + 0x80 * 4, 62), (0x62007C + 0x80 * 4, 1)], parser := { s.parser with again := [⟨⟨1, [1, 2, 3, 4, 5, 6], false, false, 5⟩, false, 2, 6, 0, some (7, 5 + 4 * 2 ^ 24), 3, 3, true, 4⟩] } } : State); let l : Looked := ⟨⟨1, [1, 2, 3, 4, 5, 6], false, false, 5⟩, false, 2, 6, 0, some (7, 5 + 4 * 2 ^ 24), 3, 3, true, 4⟩; let ls : List Looked := []; let n : Nat := (match l.rule with | some r => r.2 / 2 ^ 24 % 64 | none => 63); (s.pass l.frame.data n l.strip l.stop : Walk)), (let s : State := (let s := base; let s := s.put Reg.PARSER.PARSE_CFG.RECIRC_GEN_CHECK false; { s with live := [(0x62001C + 0x80 * 4, 62), (0x62007C + 0x80 * 4, 1)], parser := { s.parser with again := [⟨⟨1, [1, 2, 3, 4, 5, 6], false, false, 5⟩, false, 2, 6, 0, some (7, 5 + 4 * 2 ^ 24), 3, 3, true, 4⟩] } } : State); let l : Looked := ⟨⟨1, [1, 2, 3, 4, 5, 6], false, false, 5⟩, false, 2, 6, 0, some (7, 5 + 4 * 2 ^ 24), 3, 3, true, 4⟩; let ls : List Looked := []; ((match l.rule with | some r => r.2 / 2 ^ 24 % 64 | none => 63) : Nat)), by decide +kernel, by decide +kernel, by decide +kernel, by decide +kernel, by decide +kernel, by decide +kernel⟩,
   ⟨(let s := base; let s := s; { s with parser := { s.parser with acts := [⟨⟨1, [1, 2, 3, 4, 5, 6], false, false, 5⟩, false, 2, 6, 0, some (7, 0), 3, 3, true, 4⟩] } } : State), (⟨⟨1, [1, 2, 3, 4, 5, 6], false, false, 5⟩, false, 2, 6, 0, some (7, 0), 3, 3, true, 4⟩), [], ((7, 0)), sound_of (by decide +kernel), by decide +kernel, by decide +kernel, by decide +kernel, by decide +kernel, by decide +kernel⟩,
   ⟨(let s := base; let s := s.put (Reg.HDR.PG_CTRL.ENABLE 0x12000) true; { s with parser := { s.parser with acts := [⟨⟨1, [1, 2, 3, 4, 5, 6], false, false, 5⟩, false, 2, 6, 0, some (7, 33), 3, 3, true, 4⟩] } } : State), (⟨⟨1, [1, 2, 3, 4, 5, 6], false, false, 5⟩, false, 2, 6, 0, some (7, 33), 3, 3, true, 4⟩), [], ((7, 33)), sound_of (by decide +kernel), by decide +kernel, by decide +kernel, by decide +kernel, by decide +kernel, by decide +kernel, by decide +kernel, by decide +kernel, by decide +kernel, by decide +kernel, by decide +kernel⟩,
   ⟨(let s := base; let s := s.wr (Reg.PARSER.PORT_DEFAULT.ACTION 1) 0; { s with parser := { s.parser with acts := [⟨⟨1, [1, 2, 3, 4, 5, 6], false, false, 5⟩, true, 2, 6, 5, none, 3, 3, true, 4⟩] } } : State), (⟨⟨1, [1, 2, 3, 4, 5, 6], false, false, 5⟩, true, 2, 6, 5, none, 3, 3, true, 4⟩), [], sound_of (by decide +kernel), by decide +kernel, by decide +kernel, by decide +kernel, by decide +kernel, by decide +kernel, by decide +kernel⟩⟩

theorem witness_NodesAndRulesLead :
    (∃ (s : State) (path : HostPath) (n : Nat) (v : Bool), s.Sound ∧ n < 48 ∧ s.Open (0x62007C + 0x80 * n) ∧ (s.flag (Reg.NODE.EXT.EN n) = false ∨ s.rd (Reg.NODE.EXT.SLOT n) + divUp (s.rd (Reg.NODE.EXT.LEN n)) 4 ≤ 8)) ∧
    (∃ (s : State) (path : HostPath) (n : Nat) (v : Bool), s.Sound ∧ n < 48 ∧ s.Open (0x62007C + 0x80 * n) ∧ s.flag (Reg.NODE.EXT.EN n) = true ∧ 8 < s.rd (Reg.NODE.EXT.SLOT n) + divUp (s.rd (Reg.NODE.EXT.LEN n)) 4) ∧
    (∃ (s : State) (path : HostPath) (i : Nat) (v : Bool), s.Sound ∧ i < 1024 ∧ s.Open (0x64007C + 0x80 * i)) ∧
    (∃ (s : State) (path : HostPath) (i : Nat), s.Sound ∧ i < 1024 ∧ s.Open (0x640068 + 0x80 * i)) :=
  ⟨⟨(let s := base; let s := (s.put (Reg.NODE.EXT.EN 47) false).wrW 0x621790 0x1234567; { s with live := [(0x621780, 5)] } : State), .pcie, 47, true, sound_of (by decide +kernel), by decide +kernel, open_of (by decide +kernel), by decide +kernel⟩,
   ⟨(let s := base; (((s.put (Reg.NODE.EXT.EN 47) true).wr (Reg.NODE.EXT.SLOT 47) 7).wr (Reg.NODE.EXT.LEN 47) 9) : State), .pcie, 47, true, sound_of (by decide +kernel), by decide +kernel, open_of (by decide +kernel), by decide +kernel, by decide +kernel⟩,
   ⟨(let s := base; s.wrW 0x65FF84 77 : State), .pcie, 1023, true, sound_of (by decide +kernel), by decide +kernel, open_of (by decide +kernel)⟩,
   ⟨(let s := base; s.wrW 0x65FFE0 77 : State), .pcie, 1023, sound_of (by decide +kernel), by decide +kernel, open_of (by decide +kernel)⟩⟩

theorem witness_ExecutorsLead :
    (∃ (s : State) (mem : HostMem) (ecc : Ecc) (e : Entry) (es : List Entry) (x : Nat), ((∀ j ∈ List.range 8, s.flag (Reg.CMD.Q_CFG.ENABLE j) = false)) ∧ s.ctlHalt = false ∧ s.waitingWork = e :: es ∧ s.nextExec = some x) ∧
    (∃ (s : State) (x : Nat) (e : Entry) (es : List Entry), s.heldBy x = e :: es ∧ e.res.isSome = true) ∧
    (∃ (s : State) (x : Nat) (e : Entry) (es : List Entry) (c : SqCmd), s.heldBy x = e :: es ∧ e.res = none ∧ e.work = .sq c) ∧
    (∃ (s : State) (e : Entry) (es : List Entry) (f : RxFrame) (d : List Byte) (au : Bool), s.Sound ∧ s.Calm ∧ s.parser.rob = e :: es ∧ e.fin = true ∧ e.work = .frame f d au ∧ e.res = some .nothing ∧ s.ctlHalt = false ∧ s.cmdRuns = true) ∧
    (∃ (s : State) (e : Entry) (es : List Entry) (c : SqCmd) (b : Batch) (w : Twin), s.Sound ∧ s.Calm ∧ s.parser.rob = e :: es ∧ e.fin = true ∧ e.work = .sq c ∧ c.q < 8 ∧ e.res = some (.batch b w) ∧ b.ops = [] ∧ s.ctlHalt = false ∧ s.cmdRuns = true ∧ s.queueStalls c.q = false) ∧
    (∃ (s : State) (x : Nat) (e : Entry) (es : List Entry), s.Sound ∧ x < 8 ∧ s.heldBy x = e :: es ∧ e.at' + 20 * us ≤ s.up) ∧
    (∃ (s : State) (e : Nat) (b : Batch), s.Sound ∧ e < 2 ∧ ((s.engine e).reasm.find? (fun b => decide (b.born + s.batchTime ≤ s.up)) = some b) ∧ s.cmd.wait = [] ∧ s.seam.done = []) ∧
    (∃ (s : State) (e : Nat), e < 2) :=
  ⟨⟨(let s := base; let s := s.wr Reg.PARSER.PARSE_CFG.EXEC_EN 3; { s with parser := { s.parser with rob := [⟨4, .frame ⟨0, [1], false, false, 3⟩ [1] false, some 0, false, none, 0⟩, ⟨5, .frame ⟨0, [1], false, false, 3⟩ [1] false, none, false, none, 0⟩] } } : State), [], .ok, (⟨5, .frame ⟨0, [1], false, false, 3⟩ [1] false, none, false, none, 0⟩), [], 0, by decide +kernel, by decide +kernel, by decide +kernel, by decide +kernel⟩,
   ⟨(let s := base; { s with parser := { s.parser with rob := [⟨4, .frame ⟨0, [1], false, false, 3⟩ [1] false, some 0, false, some .nothing, 0⟩, ⟨5, .frame ⟨0, [1], false, false, 3⟩ [1] false, none, false, none, 0⟩] } } : State), 0, (⟨4, .frame ⟨0, [1], false, false, 3⟩ [1] false, some 0, false, some .nothing, 0⟩), [], by decide +kernel, by decide +kernel⟩,
   ⟨(let s := base; { s with parser := { s.parser with rob := [⟨4, .sq ⟨3, 77, 1, 0, 0, false, false, false, []⟩, some 0, false, none, 0⟩] } } : State), 0, (⟨4, .sq ⟨3, 77, 1, 0, 0, false, false, false, []⟩, some 0, false, none, 0⟩), [], (⟨3, 77, 1, 0, 0, false, false, false, []⟩), by decide +kernel, by decide +kernel, by decide +kernel⟩,
   ⟨(let s := base; { s with parser := { s.parser with rob := [⟨4, .frame ⟨0, [1], false, false, 3⟩ [1] false, some 0, true, some .nothing, 0⟩] } } : State), (⟨4, .frame ⟨0, [1], false, false, 3⟩ [1] false, some 0, true, some .nothing, 0⟩), [], (⟨0, [1], false, false, 3⟩), [1], false, sound_of (by decide +kernel), calm_of (by decide +kernel), by decide +kernel, by decide +kernel, by decide +kernel, by decide +kernel, by decide +kernel, by decide +kernel⟩,
   ⟨(let s := base; let s := (s.wr (Reg.CMD.Q_CFG.CQ_LOG2 3) 5).put (Reg.CMD.Q_CFG.LOCATION 3) false; { s with parser := { s.parser with rob := [⟨4, .sq ⟨3, 77, 1, 0, 0, false, false, false, []⟩, some 0, true, some (.batch ⟨[1, 0, 0, 0, 0, 0, 0, 9, 0, 0, 0, 5, 0, 1, 0, 0], [(0, 0, [])], [], [], false, noCarrier, 0⟩ ⟨0, 0, []⟩), 0⟩] } } : State), (⟨4, .sq ⟨3, 77, 1, 0, 0, false, false, false, []⟩, some 0, true, some (.batch ⟨[1, 0, 0, 0, 0, 0, 0, 9, 0, 0, 0, 5, 0, 1, 0, 0], [(0, 0, [])], [], [], false, noCarrier, 0⟩ ⟨0, 0, []⟩), 0⟩), [], (⟨3, 77, 1, 0, 0, false, false, false, []⟩), (⟨[1, 0, 0, 0, 0, 0, 0, 9, 0, 0, 0, 5, 0, 1, 0, 0], [(0, 0, [])], [], [], false, noCarrier, 0⟩), (⟨0, 0, []⟩), sound_of (by decide +kernel), calm_of (by decide +kernel), by decide +kernel, by decide +kernel, by decide +kernel, by decide +kernel, by decide +kernel, by decide +kernel, by decide +kernel, by decide +kernel, by decide +kernel⟩,
   ⟨(let s := base; { s with mon := { s.mon with clock := 2 ^ 40 }, parser := { s.parser with rob := [⟨4, .frame ⟨0, [1], false, false, 3⟩ [1] false, some 7, false, none, 0⟩] } } : State), 7, (⟨4, .frame ⟨0, [1], false, false, 3⟩ [1] false, some 7, false, none, 0⟩), [], sound_of (by decide +kernel), by decide +kernel, by decide +kernel, by decide +kernel⟩,
   ⟨(let s := base; { s with mon := { s.mon with clock := 2 ^ 40 }, path := { s.path with engB := { s.path.engB with reasm := [⟨[1, 0, 0, 0, 0, 0, 0, 9, 0, 0, 0, 5, 0, 1, 0, 0], [(0, 0, [])], [], [], false, noCarrier, 0⟩] } } } : State), 1, (⟨[1, 0, 0, 0, 0, 0, 0, 9, 0, 0, 0, 5, 0, 1, 0, 0], [(0, 0, [])], [], [], false, noCarrier, 0⟩), sound_of (by decide +kernel), by decide +kernel, by decide +kernel, by decide +kernel, by decide +kernel⟩,
   ⟨(let s := base; { s with path := { s.path with engB := { s.path.engB with dead := [((1, 2), 0), ((3, 4), 2 ^ 70)] } } } : State), 1, by decide +kernel⟩⟩

theorem witness_HostQueuesLead :
    (∃ (s : State) (k v : Nat) (mem : HostMem) (ecc : Ecc), k < 8 ∧ s.dev ≠ .off ∧ s.pageOn 0xE000 = true ∧ ((∀ j ∈ List.range 8, s.flag (Reg.CMD.Q_CFG.ENABLE j) = false))) ∧
    (∃ (s : State) (k v : Nat) (mem : HostMem) (ecc : Ecc), k < 8 ∧ s.dev ≠ .off ∧ s.pageOn 0xE000 = true ∧ s.hq.sq.length = 8) ∧
    (∃ (s : State) (k v : Nat) (mem : HostMem) (ecc : Ecc), k < 8 ∧ s.dev ≠ .off ∧ s.pageOn 0xE000 = true ∧ ((∀ j ∈ List.range 8, s.flag (Reg.CMD.Q_CFG.ENABLE j) = false))) ∧
    (∃ (s : State) (v : Nat), s.dev ≠ .off ∧ s.pageOn 0xE000 = true) ∧
    (∃ (s : State) (v : Nat), s.dev ≠ .off ∧ s.pageOn 0xE000 = true) :=
  ⟨⟨(let s := base; s : State), 7, 9, [], .ok, by decide +kernel, by decide +kernel, by decide +kernel, by decide +kernel⟩,
   ⟨(let s := base; let s := ((((s.wr (Reg.HDR.PG_STATE.STATE 0xE000) 2).put (Reg.CMD.Q_CFG.ENABLE 7) true).wr (Reg.CMD.Q_CFG.SQ_LOG2 7) 5).wr (Reg.CMD.Q_CFG.CQ_LOG2 7) 9); { s with dev := .hold, pcie := { s.pcie with up := true } } : State), 7, 9, [], .ok, by decide +kernel, by decide +kernel, by decide +kernel, by decide +kernel⟩,
   ⟨(let s := base; s : State), 7, 9, [], .ok, by decide +kernel, by decide +kernel, by decide +kernel, by decide +kernel⟩,
   ⟨(let s := base; s : State), 9, by decide +kernel, by decide +kernel⟩,
   ⟨(let s := base; s : State), 9, by decide +kernel, by decide +kernel⟩⟩

theorem witness_FaultsLead :
    (∃ (s : State) (i : Nat) (burnt : List (Nat × Byte)) (f : Raised), s.Sound ∧ s.Calm ∧ f.src < 256 ∧ s.inbox[i]? = some f ∧ s.dev ≠ .off ∧ tabGet s.sump.winAt 0 f.src = 0 ∧ s.flag (Reg.SRC.SRC_CFG.MASK f.src) = true ∧ f.direct = false ∧ 2 ≤ s.rd (Reg.SRC.SRC_CFG.N f.src)) ∧
    (∃ (s : State) (i : Nat) (burnt : List (Nat × Byte)) (f : Raised), s.Sound ∧ s.Calm ∧ f.src < 256 ∧ s.inbox[i]? = some f ∧ s.dev ≠ .off ∧ tabGet s.sump.winAt 0 f.src = 0 ∧ s.flag (Reg.SRC.SRC_CFG.MASK f.src) = false ∧ f.direct = false ∧ s.rd (Reg.SRC.SRC_CFG.N f.src) ≤ 1 ∧ s.rd (Reg.SRC.SRC_CFG.SEVERE f.src) = 5 ∧ s.recordOpen = false ∧ s.recQ = [] ∧ (s.dev = .armed ∨ s.dev = .run) ∧ s.boot.check = none) ∧
    (∃ (s : State) (i : Nat) (burnt : List (Nat × Byte)) (m w : Nat), s.Sound ∧ s.Calm ∧ m < 4 ∧ w < 2 ^ 24 ∧ s.dev ≠ .off ∧ tabGet s.sump.winAt 0 48 = 0 ∧ s.flag (Reg.SRC.SRC_CFG.MASK 48) = false ∧ s.rd (Reg.SRC.SRC_CFG.N 48) ≤ 1 ∧ s.rd (Reg.SRC.SRC_CFG.SEVERE 48) = 1 ∧ s.recQ = []) ∧
    (∃ (s : State) (r : RecReq), s.Sound ∧ s.Calm ∧ s.recQ = [r] ∧ s.recordOpen = false ∧ r.coal = 0 ∧ r.reaction < 8) ∧
    (∃ (s : State) (r : RecReq), s.Sound ∧ s.Calm ∧ s.recQ = [r] ∧ s.recordOpen = true ∧ r.coal = 0 ∧ r.reaction < 8 ∧ s.rd (⟨0x7804, 16, 8⟩ : Fld) < 8) ∧
    (∃ (s : State) (path : HostPath) (id : Nat), s.Sound ∧ s.Calm ∧ s.Open 0x7048 ∧ id < 2 ^ 32 ∧ s.recordOpen = true ∧ s.recordId = id ∧ s.sump.blanked = []) ∧
    (∃ (s : State) (path : HostPath) (id : Nat), s.Sound ∧ s.Calm ∧ s.Open 0x7048 ∧ id < 2 ^ 32 ∧ (s.recordOpen = false ∨ s.recordId ≠ id)) ∧
    (∃ (s : State) (b : List Byte) (bs : List (List Byte)), s.Sound ∧ s.sump.logQ = b :: bs ∧ s.sdOnline = true ∧ s.flag Reg.SUMP.LOG_CFG.ENABLE = true ∧ s.logFits (s.rd Reg.SUMP.LOG_CFG.SIZE_LOG2) = true) ∧
    (∃ (s : State) (b : List Byte) (bs : List (List Byte)), s.sump.logQ = b :: bs ∧ s.sdOnline = false) ∧
    (∃ (s : State) (path : HostPath), s.Sound ∧ s.Calm ∧ s.Open 0x704C ∧ s.dev = .safe ∧ s.recordOpen = false) ∧
    (∃ (s : State) (path : HostPath), s.Sound ∧ s.Calm ∧ s.Open 0x704C ∧ (s.dev ≠ .safe ∨ s.recordOpen = true)) ∧
    (∃ (s : State) (path : HostPath) (src : Nat), s.Open 0x7054 ∧ 240 ≤ src ∧ src < 256) ∧
    (∃ (s : State) (path : HostPath) (src : Nat), s.Sound ∧ s.Open 0x7054 ∧ 56 ≤ src ∧ src < 240) :=
  ⟨⟨(let s := base; let s := (s.wr (Reg.SRC.SRC_CFG.N 255) 2).put (Reg.SRC.SRC_CFG.MASK 255) true; { s with inbox := [⟨25, 7, false, false⟩, ⟨255, 7, false, false⟩] } : State), 1, [], (⟨255, 7, false, false⟩), sound_of (by decide +kernel), calm_of (by decide +kernel), by decide +kernel, by decide +kernel, by decide +kernel, by decide +kernel, by decide +kernel, by decide +kernel, by decide +kernel⟩,
   ⟨(let s := base; let s := (((s.wr (Reg.SRC.SRC_CFG.N 27) 1).put (Reg.SRC.SRC_CFG.MASK 27) false).wr (Reg.SRC.SRC_CFG.SEVERE 27) 5).wr Reg.GANTRY.STATE.GSTATE 2; { s with inbox := [⟨25, 7, false, false⟩, ⟨27, 7, false, false⟩] } : State), 1, [], (⟨27, 7, false, false⟩), sound_of (by decide +kernel), calm_of (by decide +kernel), by decide +kernel, by decide +kernel, by decide +kernel, by decide +kernel, by decide +kernel, by decide +kernel, by decide +kernel, by decide +kernel, by decide +kernel, by decide +kernel, by decide +kernel, by decide +kernel⟩,
   ⟨(let s := base; let s := ((s.wr (Reg.SRC.SRC_CFG.N 48) 1).put (Reg.SRC.SRC_CFG.MASK 48) false).wr (Reg.SRC.SRC_CFG.SEVERE 48) 1; { s with inbox := [⟨25, 7, false, false⟩] } : State), 0, [], 2, 77, sound_of (by decide +kernel), calm_of (by decide +kernel), by decide +kernel, by decide +kernel, by decide +kernel, by decide +kernel, by decide +kernel, by decide +kernel, by decide +kernel, by decide +kernel⟩,
   ⟨(let s := base; let s := s.put Reg.SUMP.SUMP_STATUS.OPEN false; { s with recQ := [⟨27, 7, false, false, true, 5, 1, 9, 0, 7, 9, 3, []⟩] } : State), (⟨27, 7, false, false, true, 5, 1, 9, 0, 7, 9, 3, []⟩), sound_of (by decide +kernel), calm_of (by decide +kernel), by decide +kernel, by decide +kernel, by decide +kernel, by decide +kernel⟩,
   ⟨(let s := base; let s := (s.put Reg.SUMP.SUMP_STATUS.OPEN true).wrW 0x7804 0x00020100; { s with recQ := [⟨27, 7, false, false, true, 5, 1, 9, 0, 7, 9, 3, []⟩] } : State), (⟨27, 7, false, false, true, 5, 1, 9, 0, 7, 9, 3, []⟩), sound_of (by decide +kernel), calm_of (by decide +kernel), by decide +kernel, by decide +kernel, by decide +kernel, by decide +kernel, by decide +kernel⟩,
   ⟨(let s := base; ((s.put Reg.SUMP.SUMP_STATUS.OPEN true).wrW 0x7800 77).put Reg.SUMP.LOG_CFG.ENABLE true : State), .pcie, 77, sound_of (by decide +kernel), calm_of (by decide +kernel), open_of (by decide +kernel), by decide +kernel, by decide +kernel, by decide +kernel, by decide +kernel⟩,
   ⟨(let s := base; (s.put Reg.SUMP.SUMP_STATUS.OPEN true).wrW 0x7800 76 : State), .pcie, 77, sound_of (by decide +kernel), calm_of (by decide +kernel), open_of (by decide +kernel), by decide +kernel, by decide +kernel⟩,
   ⟨(let s := base; let s := (((withSdram s).put Reg.SUMP.LOG_CFG.ENABLE true).wr Reg.SUMP.LOG_CFG.SIZE_LOG2 12).wr (Reg.DEVICE.SDRAM_MAP_SIZE.MB 4) 64; let s := (s.wrW 0x7058 0).wrW 0x705C 0; { s with sump := { s.sump with logQ := [[1, 2, 3], [4]] } } : State), ([1, 2, 3]), [[4]], sound_of (by decide +kernel), by decide +kernel, by decide +kernel, by decide +kernel, by decide +kernel⟩,
   ⟨(let s := base; { s with sump := { s.sump with logQ := [[1, 2, 3], [4]] } } : State), ([1, 2, 3]), [[4]], by decide +kernel, by decide +kernel⟩,
   ⟨(let s := base; let s := (s.wr Reg.GANTRY.STATE.GSTATE 5).put Reg.SUMP.SUMP_STATUS.OPEN false; { s with dev := .safe } : State), .pcie, sound_of (by decide +kernel), calm_of (by decide +kernel), open_of (by decide +kernel), by decide +kernel, by decide +kernel⟩,
   ⟨(let s := base; let s := (s.wr Reg.GANTRY.STATE.GSTATE 5).put Reg.SUMP.SUMP_STATUS.OPEN true; { s with dev := .safe } : State), .pcie, sound_of (by decide +kernel), calm_of (by decide +kernel), open_of (by decide +kernel), by decide +kernel⟩,
   ⟨(let s := base; s.wr Reg.SUMP.INJECT_DATA.DATA 5 : State), .pcie, 255, open_of (by decide +kernel), by decide +kernel, by decide +kernel⟩,
   ⟨(let s := base; s : State), .pcie, 56, sound_of (by decide +kernel), open_of (by decide +kernel), by decide +kernel, by decide +kernel⟩⟩

theorem witness_PcieLeads :
    (∃ (s : State) (speed width ltssm : Nat), s.Sound ∧ s.pcie.up = false ∧ s.pcie.perst = false ∧ s.pageRun 0x13000 = true) ∧
    (∃ (s : State) (ltssm : Nat) (hot : Bool), s.Sound ∧ s.pcie.up = true) ∧
    (∃ (s : State), s.Sound ∧ s.pcie.up = true) ∧
    (∃ (s : State), s.pcie.up = true) ∧
    (∃ (s : State), s.Sound ∧ s.pcie.d3 = true ∧ s.pcie.msiWait = [] ∧ s.pcie.dmaWait = []) ∧
    (∃ (s : State) (ltssm : Nat), s.Sound ∧ s.pcie.up = true) ∧
    (∃ (s : State) (ltssm : Nat), s.pcie.perst = true) ∧
    (∃ (s : State) (speed width : Nat), s.Sound ∧ s.pcie.up = true ∧ min speed (s.rd Reg.PCIE.LINK_CFG.MAX_SPEED) ≠ s.rd Reg.PCIE.LINK_STATUS.SPEED) ∧
    (∃ (s : State) (ltssm : Nat), s.Sound ∧ s.pcie.up = true) :=
  ⟨⟨(let s := base; s.wr (Reg.HDR.PG_STATE.STATE 0x13000) 2 : State), 5, 8, 33, sound_of (by decide +kernel), by decide +kernel, by decide +kernel, by decide +kernel⟩,
   ⟨(let s := base; let s := ((s.put (Reg.CMD.Q_CFG.ENABLE 3) true).put (Reg.CMD.Q_CFG.ENABLE 4) true).put (Reg.CMD.Q_CFG.LOCATION 4) true; { s with pcie := { s.pcie with up := true, d3 := true, dmaWait := [(0, [1])] } } : State), 33, true, sound_of (by decide +kernel), by decide +kernel⟩,
   ⟨(let s := base; let s := ((s.put (Reg.CMD.Q_CFG.ENABLE 3) true).put (Reg.CMD.Q_CFG.ENABLE 4) true).put (Reg.CMD.Q_CFG.LOCATION 4) true; { s with pcie := { s.pcie with up := true, d3 := true, dmaWait := [(0, [1])] } } : State), sound_of (by decide +kernel), by decide +kernel⟩,
   ⟨(let s := base; { s with pcie := { s.pcie with up := true } } : State), by decide +kernel⟩,
   ⟨(let s := base; { s with pcie := { s.pcie with up := true, d3 := true } } : State), sound_of (by decide +kernel), by decide +kernel, by decide +kernel, by decide +kernel⟩,
   ⟨(let s := base; let s := ((s.put (Reg.CMD.Q_CFG.ENABLE 3) true).put (Reg.CMD.Q_CFG.ENABLE 4) true).put (Reg.CMD.Q_CFG.LOCATION 4) true; { s with pcie := { s.pcie with up := true, d3 := true, dmaWait := [(0, [1])] } } : State), 33, sound_of (by decide +kernel), by decide +kernel⟩,
   ⟨(let s := base; { s with pcie := { s.pcie with perst := true, d3 := true } } : State), 33, by decide +kernel⟩,
   ⟨(let s := base; let s := (s.wr Reg.PCIE.LINK_CFG.MAX_SPEED 3).wr Reg.PCIE.LINK_STATUS.SPEED 5; { s with pcie := { s.pcie with up := true } } : State), 4, 8, sound_of (by decide +kernel), by decide +kernel, by decide +kernel⟩,
   ⟨(let s := base; { s with pcie := { s.pcie with up := true, d3 := true } } : State), 33, sound_of (by decide +kernel), by decide +kernel⟩⟩

theorem witness_BoardMemoryLeads :
    (∃ (s : State) (a n : Nat) (d : List Byte) (ecc : Ecc), s.Sound ∧ s.pcieOpen = true ∧ s.sdOnline = true ∧ a + d.length ≤ s.sdSize) ∧
    (∃ (s : State) (a n : Nat) (d : List Byte) (ecc : Ecc), s.Sound ∧ s.pcieOpen = true) ∧
    (∃ (s : State) (a n : Nat) (p : Bool), s.pcieOpen = true ∧ s.sdOnline = true ∧ a + n ≤ s.sdSize) ∧
    (∃ (s : State) (a n : Nat) (ecc : Ecc) (p : Bool), s.pcieOpen = true ∧ s.sdOnline = false) ∧
    (∃ (s : State) (c a : Nat) (raced : Bool), s.Sound ∧ c < 4 ∧ s.sdOnline = true ∧ s.flag (Reg.SDRAM.SCRUB_CFG.ENABLE c) = true ∧ a < s.sdSize ∧ sdChan a = c) ∧
    (∃ (s : State) (c : Nat), s.Sound ∧ c < 4 ∧ s.sdOnline = true ∧ s.flag (Reg.SDRAM.SCRUB_CFG.ENABLE c) = true) ∧
    (∃ (s : State) (path : HostPath) (c : Nat), s.Sound ∧ s.Calm ∧ c < 4 ∧ s.Open (0x14044 + 0x1000 * c) ∧ s.dev = .hold ∧ s.flag (Reg.SDRAM.TRAIN_STATUS.BUSY c) = false) ∧
    (∃ (s : State) (path : HostPath) (c : Nat), s.Sound ∧ s.Calm ∧ c < 4 ∧ s.Open (0x14044 + 0x1000 * c) ∧ s.dev ≠ .hold) :=
  ⟨⟨(let s := base; let s := (((withSdram (s)).wr (Reg.SDRAM.GEOMETRY.CAP_GIB 0) 16).wr (Reg.SDRAM.GEOMETRY.CAP_GIB 1) 16); let s := ((s.wr (Reg.SDRAM.GEOMETRY.CAP_GIB 2) 16).wr (Reg.SDRAM.GEOMETRY.CAP_GIB 3) 16); { s with pcie := { s.pcie with up := true } } : State), 5000, 3, ([1, 0, 3]), .ok, sound_of (by decide +kernel), by decide +kernel, by decide +kernel, by decide +kernel⟩,
   ⟨(let s := base; let s := (((withSdram (s)).wr (Reg.SDRAM.GEOMETRY.CAP_GIB 0) 16).wr (Reg.SDRAM.GEOMETRY.CAP_GIB 1) 16); let s := ((s.wr (Reg.SDRAM.GEOMETRY.CAP_GIB 2) 16).wr (Reg.SDRAM.GEOMETRY.CAP_GIB 3) 16); { s with pcie := { s.pcie with up := true } } : State), 5000, 3, ([1, 0, 3]), .ok, sound_of (by decide +kernel), by decide +kernel⟩,
   ⟨(let s := base; let s := (((withSdram (s)).wr (Reg.SDRAM.GEOMETRY.CAP_GIB 0) 16).wr (Reg.SDRAM.GEOMETRY.CAP_GIB 1) 16); let s := ((s.wr (Reg.SDRAM.GEOMETRY.CAP_GIB 2) 16).wr (Reg.SDRAM.GEOMETRY.CAP_GIB 3) 16); { s with pcie := { s.pcie with up := true } } : State), 5000, 3, false, by decide +kernel, by decide +kernel, by decide +kernel⟩,
   ⟨(let s := base; { s with pcie := { s.pcie with up := true } } : State), 5000, 3, .ok, false, by decide +kernel, by decide +kernel⟩,
   ⟨(let s := base; let s := (((withSdram (s.put (Reg.SDRAM.SCRUB_CFG.ENABLE 3) true)).wr (Reg.SDRAM.GEOMETRY.CAP_GIB 0) 16).wr (Reg.SDRAM.GEOMETRY.CAP_GIB 1) 16); let s := ((s.wr (Reg.SDRAM.GEOMETRY.CAP_GIB 2) 16).wr (Reg.SDRAM.GEOMETRY.CAP_GIB 3) 16); { s with pcie := { s.pcie with up := true } } : State), 3, (2 ^ 35 + 768), false, sound_of (by decide +kernel), by decide +kernel, by decide +kernel, by decide +kernel, by decide +kernel, by decide +kernel⟩,
   ⟨(let s := base; let s := (((withSdram (s.put (Reg.SDRAM.SCRUB_CFG.ENABLE 3) true)).wr (Reg.SDRAM.GEOMETRY.CAP_GIB 0) 16).wr (Reg.SDRAM.GEOMETRY.CAP_GIB 1) 16); let s := ((s.wr (Reg.SDRAM.GEOMETRY.CAP_GIB 2) 16).wr (Reg.SDRAM.GEOMETRY.CAP_GIB 3) 16); { s with pcie := { s.pcie with up := true } } : State), 3, sound_of (by decide +kernel), by decide +kernel, by decide +kernel, by decide +kernel⟩,
   ⟨(let s := base; let s := (withSdram s).put (Reg.SDRAM.TRAIN_STATUS.BUSY 2) false; { s with dev := .hold } : State), .pcie, 2, sound_of (by decide +kernel), calm_of (by decide +kernel), by decide +kernel, open_of (by decide +kernel), by decide +kernel, by decide +kernel⟩,
   ⟨(let s := base; s : State), .pcie, 2, sound_of (by decide +kernel), calm_of (by decide +kernel), by decide +kernel, open_of (by decide +kernel), by decide +kernel⟩⟩

theorem witness_SmbusLeads :
    (∃ (s : State) (pec : Option Bool), s.Sound ∧ s.dev ≠ .off ∧ (pec = some true ∨ (pec = none ∧ s.flag Reg.SMBUS.CFG.PEC_REQ = false))) ∧
    (∃ (s : State) (pec : Option Bool), s.Sound ∧ s.dev ≠ .off ∧ (pec = some true ∨ (pec = none ∧ s.flag Reg.SMBUS.CFG.PEC_REQ = false))) ∧
    (∃ (s : State) (pec : Option Bool), s.Sound ∧ s.dev ≠ .off ∧ (pec = some true ∨ (pec = none ∧ s.flag Reg.SMBUS.CFG.PEC_REQ = false))) ∧
    (∃ (s : State) (n : Nat) (pec : Option Bool), s.Sound ∧ s.dev ≠ .off ∧ (pec = some true ∨ (pec = none ∧ s.flag Reg.SMBUS.CFG.PEC_REQ = false)) ∧ n < 120) ∧
    (∃ (s : State) (pec : Option Bool), s.Sound ∧ s.dev ≠ .off ∧ (pec = some true ∨ (pec = none ∧ s.flag Reg.SMBUS.CFG.PEC_REQ = false)) ∧ s.smb.sensor < 120) ∧
    (∃ (s : State) (pec : Option Bool), s.Sound ∧ s.dev ≠ .off ∧ (pec = some true ∨ (pec = none ∧ s.flag Reg.SMBUS.CFG.PEC_REQ = false))) ∧
    (∃ (s : State) (off : Nat) (pec : Option Bool), s.Sound ∧ s.dev ≠ .off ∧ (pec = some true ∨ (pec = none ∧ s.flag Reg.SMBUS.CFG.PEC_REQ = false))) ∧
    (∃ (s : State) (pec : Option Bool), s.Sound ∧ s.dev ≠ .off ∧ (pec = some true ∨ (pec = none ∧ s.flag Reg.SMBUS.CFG.PEC_REQ = false)) ∧ s.smb.addr = 0x7054 ∧ s.reachable 0x7054 = true ∧ s.latch = []) ∧
    (∃ (s : State) (w : Word) (pec : Option Bool), s.Sound ∧ s.Calm ∧ s.dev ≠ .off ∧ (pec = some true ∨ (pec = none ∧ s.flag Reg.SMBUS.CFG.PEC_REQ = false)) ∧ s.smb.addr = 0x7050 ∧ s.reachable 0x7050 = true ∧ s.boot.check = none) ∧
    (∃ (s : State) (code : Nat), s.Sound ∧ s.dev ≠ .off) ∧
    (∃ (s : State) (addr : Nat), s.Sound ∧ s.dev ≠ .off ∧ s.flag Reg.SMBUS.CFG.ARP_EN = true) ∧
    (∃ (s : State) (pec : Option Bool), s.Sound ∧ s.dev ≠ .off ∧ (pec = some false ∨ (pec = none ∧ s.flag Reg.SMBUS.CFG.PEC_REQ = true))) ∧
    (∃ (s : State) (pec : Option Bool), s.dev = .off) :=
  ⟨⟨(let s := base; s.put Reg.SMBUS.CFG.PEC_REQ false : State), none, sound_of (by decide +kernel), by decide +kernel, by decide +kernel⟩,
   ⟨(let s := base; s.put Reg.SMBUS.CFG.PEC_REQ false : State), none, sound_of (by decide +kernel), by decide +kernel, by decide +kernel⟩,
   ⟨(let s := base; s.put Reg.SMBUS.CFG.PEC_REQ false : State), none, sound_of (by decide +kernel), by decide +kernel, by decide +kernel⟩,
   ⟨(let s := base; s.put Reg.SMBUS.CFG.PEC_REQ false : State), 119, none, sound_of (by decide +kernel), by decide +kernel, by decide +kernel, by decide +kernel⟩,
   ⟨(let s := base; s.put Reg.SMBUS.CFG.PEC_REQ false : State), none, sound_of (by decide +kernel), by decide +kernel, by decide +kernel, by decide +kernel⟩,
   ⟨(let s := base; s.put Reg.SMBUS.CFG.PEC_REQ false : State), none, sound_of (by decide +kernel), by decide +kernel, by decide +kernel⟩,
   ⟨(let s := base; s.put Reg.SMBUS.CFG.PEC_REQ false : State), 0x3044, none, sound_of (by decide +kernel), by decide +kernel, by decide +kernel⟩,
   ⟨(let s := base; let s := (s.put Reg.SMBUS.CFG.PEC_REQ false).wrW 0x7054 0x12; { s with smb := { s.smb with addr := 0x7054 } } : State), none, sound_of (by decide +kernel), by decide +kernel, by decide +kernel, by decide +kernel, by decide +kernel, by decide +kernel⟩,
   ⟨(let s := base; let s := (s.put Reg.SMBUS.CFG.PEC_REQ false); { s with smb := { s.smb with addr := 0x7050 } } : State), 0x1234567, none, sound_of (by decide +kernel), calm_of (by decide +kernel), by decide +kernel, by decide +kernel, by decide +kernel, by decide +kernel, by decide +kernel⟩,
   ⟨(let s := base; s : State), 5, sound_of (by decide +kernel), by decide +kernel⟩,
   ⟨(let s := base; s.put Reg.SMBUS.CFG.ARP_EN true : State), 0x35, sound_of (by decide +kernel), by decide +kernel, by decide +kernel⟩,
   ⟨(let s := base; s : State), (some false), sound_of (by decide +kernel), by decide +kernel, by decide +kernel⟩,
   ⟨(let s := base; { s with dev := .off } : State), none, by decide +kernel⟩⟩

theorem witness_FieldTestsLead :
    (∃ (s : State) (path : HostPath) (target : Nat), s.Sound ∧ s.Calm ∧ target < 2 ∧ s.Open 0x18040 ∧ s.unlocked 0x18000 = true ∧ s.test.run = none ∧ s.pageRun 0x18000 = true ∧ (s.dev ≠ .off ∧ s.dev ≠ .boot) ∧ s.flag (Reg.HDR.PG_CTRL.ENABLE (0x10000 + 0x1000 * target)) = false) ∧
    (∃ (s : State) (path : HostPath) (target : Nat), s.Sound ∧ s.Calm ∧ target < 256 ∧ s.Open 0x18040 ∧ s.unlocked 0x18000 = true ∧ s.test.run = none ∧ s.pageRun 0x18000 = true ∧ s.dev = .hold) ∧
    (∃ (s : State) (path : HostPath) (target : Nat), s.Sound ∧ s.Calm ∧ target < 256 ∧ s.Open 0x18040 ∧ s.unlocked 0x18000 = true ∧ s.test.run = none ∧ s.pageRun 0x18000 = true ∧ s.dev = .hold ∧ ((∀ c ∈ List.range 4, s.flag (Reg.SDRAM.TRAIN_STATUS.TRAINED c) = true)) ∧ (s.rd Reg.TEST.SD_START.MB + max 1 (s.rd Reg.TEST.SD_SIZE.MB)) * 2 ^ 20 ≤ s.sdSize) ∧
    (∃ (s : State) (path : HostPath) (target : Nat), s.Sound ∧ s.Calm ∧ target < 128 ∧ s.Open 0x18040 ∧ s.unlocked 0x18000 = true ∧ s.test.run = none ∧ s.pageRun 0x18000 = true ∧ s.dev = .hold ∧ s.tileMode target = 1) ∧
    (∃ (s : State) (path : HostPath) (target : Nat), s.Sound ∧ s.Calm ∧ target < 78 ∧ s.Open 0x18040 ∧ s.unlocked 0x18000 = true ∧ s.test.run = none ∧ s.pageRun 0x18000 = true ∧ s.dev = .hold ∧ ((∀ u ∈ List.range 8, s.rd (Reg.MONITOR.CONV_CTRL.MODE target u) = 0 ∨ s.rd (Reg.MONITOR.CONV_CTRL.MODE target u) = 3))) ∧
    (∃ (s : State) (path : HostPath) (target : Nat), s.Sound ∧ s.Calm ∧ target < 256 ∧ s.Open 0x18040 ∧ s.unlocked 0x18000 = true ∧ s.test.run = none ∧ s.pageRun 0x18000 = true ∧ s.dev = .armed ∧ s.gstate = 0 ∧ s.flag Reg.GANTRY.LIVE_SLOT.NONE = true) ∧
    (∃ (s : State) (path : HostPath) (target : Nat), s.Sound ∧ s.Calm ∧ target < 256 ∧ s.Open 0x18040 ∧ s.unlocked 0x18000 = false) ∧
    (∃ (s : State) (path : HostPath) (target : Nat), s.Sound ∧ s.Calm ∧ target < 256 ∧ s.Open 0x18040 ∧ s.unlocked 0x18000 = true ∧ s.test.run = none ∧ s.dev ≠ .armed) ∧
    (∃ (s : State) (path : HostPath) (n g τ x : Nat), s.Sound ∧ ({ s with test := { s.test with run := none } } : State).Calm ∧ s.Open 0x18040 ∧ s.test.run = some ⟨n, g, [], τ, x⟩) ∧
    (∃ (s : State) (g τ x : Nat) (errs : List Nat), s.Sound ∧ s.test.run = some ⟨2, g, [], τ, x⟩ ∧ τ + s.rd Reg.TEST.TB_CFG.DURATION_US * us ≤ s.up ∧ ((∀ b ∈ List.range 4, s.rd (Reg.TEST.TB_ERR.COUNT b) = 0 ∧ errs.getD b 0 = 0))) ∧
    (∃ (s : State) (g τ x : Nat) (fails : List (Nat × Nat)), s.Sound ∧ s.test.run = some ⟨3, g, [], τ, x⟩ ∧ fails = []) ∧
    (∃ (s : State) (g a l τ x : Nat) (fails : List (Nat × Nat)), s.Sound ∧ s.test.run = some ⟨3, g, [], τ, x⟩ ∧ a < 2 ^ 40 ∧ l < 8) ∧
    (∃ (s : State) (g τ x : Nat) (samples : List (Nat × Int)), s.Sound ∧ s.test.run = some ⟨4, g, [], τ, x⟩ ∧ ((∀ e ∈ samples, e.2 = 0))) ∧
    (∃ (s : State) (g τ x : Nat) (pairs : List (Nat × Nat × Nat × Nat)), s.Sound ∧ s.test.run = some ⟨5, g, [], τ, x⟩ ∧ pairs = []) ∧
    (∃ (s : State) (g τ x : Nat) (ingress : Int) (planes : List (List Int × Int × Int)), s.Sound ∧ s.test.run = some ⟨6, g, [], τ, x⟩ ∧ ingress < sgn 8 (s.rd Reg.TEST.OPT_MIN.DBM) * 256) ∧
    (∃ (s : State) (g τ x : Nat) (errs : List Nat), s.Sound ∧ s.test.run = some ⟨1, g, [], τ, 0⟩ ∧ s.flag Reg.TEST.LINK_PATTERN.CHECK_EN = true ∧ τ + s.rd Reg.TEST.LINK_PATTERN.DURATION_MS * ms ≤ s.up ∧ s.rd Reg.TEST.LINK_PATTERN.LOCK = 3 ∧ ((∀ l ∈ List.range 2, errs.getD l 0 = 0))) ∧
    (∃ (s : State) (path : HostPath) (g τ x : Nat), s.Sound ∧ ({ s with test := { s.test with run := none } } : State).Calm ∧ s.Open 0x18048 ∧ s.test.run = some ⟨1, g, [], τ, x⟩ ∧ s.flag Reg.TEST.LINK_PATTERN.CHECK_EN = true ∧ s.flag Reg.TEST.LINK_PATTERN.LOOPBACK = true) ∧
    (∃ (s : State) (lane g τ x : Nat), s.Sound ∧ lane < 2 ∧ s.test.run = some ⟨1, g, [], τ, x⟩ ∧ s.flag Reg.TEST.LINK_PATTERN.CHECK_EN = true ∧ s.flag (⟨0x18048, 12 + lane, 1⟩ : Fld) = false) ∧
    (∃ (s : State) (lane g τ x : Nat), s.Sound ∧ lane < 2 ∧ s.test.run = some ⟨1, g, [], τ, x⟩ ∧ s.flag Reg.TEST.LINK_PATTERN.CHECK_EN = true ∧ s.flag (⟨0x18048, 12 + lane, 1⟩ : Fld) = true) :=
  ⟨⟨(let s := base; let s := (s.wrW 0x18008 0).wr (Reg.HDR.PG_STATE.STATE 0x18000) 2; let s := s.put (Reg.HDR.PG_LOCK.LOCKED 0x18000) false; s.put (Reg.HDR.PG_CTRL.ENABLE 0x11000) false : State), .pcie, 1, sound_of (by decide +kernel), calm_of (by decide +kernel), by decide +kernel, open_of (by decide +kernel), by decide +kernel, by decide +kernel, by decide +kernel, by decide +kernel, by decide +kernel⟩,
   ⟨(let s := base; let s := (s.wrW 0x18008 0).wr (Reg.HDR.PG_STATE.STATE 0x18000) 2; let s := s.put (Reg.HDR.PG_LOCK.LOCKED 0x18000) false; { s with dev := .hold } : State), .pcie, 7, sound_of (by decide +kernel), calm_of (by decide +kernel), by decide +kernel, open_of (by decide +kernel), by decide +kernel, by decide +kernel, by decide +kernel, by decide +kernel⟩,
   ⟨(let s := base; let s := (s.wrW 0x18008 0).wr (Reg.HDR.PG_STATE.STATE 0x18000) 2; let s := s.put (Reg.HDR.PG_LOCK.LOCKED 0x18000) false; let s := ((withSdram s).wr Reg.TEST.SD_START.MB 100).wr Reg.TEST.SD_SIZE.MB 20; let s := (s.wr (Reg.SDRAM.GEOMETRY.CAP_GIB 0) 16).wr (Reg.SDRAM.GEOMETRY.CAP_GIB 1) 16; let s := (s.wr (Reg.SDRAM.GEOMETRY.CAP_GIB 2) 16).wr (Reg.SDRAM.GEOMETRY.CAP_GIB 3) 16; { s with dev := .hold } : State), .pcie, 7, sound_of (by decide +kernel), calm_of (by decide +kernel), by decide +kernel, open_of (by decide +kernel), by decide +kernel, by decide +kernel, by decide +kernel, by decide +kernel, by decide +kernel, by decide +kernel⟩,
   ⟨(let s := base; let s := (s.wrW 0x18008 0).wr (Reg.HDR.PG_STATE.STATE 0x18000) 2; let s := s.put (Reg.HDR.PG_LOCK.LOCKED 0x18000) false; let s := s.wr (Reg.DRIVE.TILE_STATUS.MODE 97) 1; { s with dev := .hold } : State), .pcie, 97, sound_of (by decide +kernel), calm_of (by decide +kernel), by decide +kernel, open_of (by decide +kernel), by decide +kernel, by decide +kernel, by decide +kernel, by decide +kernel, by decide +kernel⟩,
   ⟨(let s := base; let s := (s.wrW 0x18008 0).wr (Reg.HDR.PG_STATE.STATE 0x18000) 2; let s := s.put (Reg.HDR.PG_LOCK.LOCKED 0x18000) false; let s := (List.range 8).foldl (fun s u => s.wr (Reg.MONITOR.CONV_CTRL.MODE 77 u) (3 * (u % 2))) s; { s with dev := .hold } : State), .pcie, 77, sound_of (by decide +kernel), calm_of (by decide +kernel), by decide +kernel, open_of (by decide +kernel), by decide +kernel, by decide +kernel, by decide +kernel, by decide +kernel, by decide +kernel⟩,
   ⟨(let s := base; let s := (s.wrW 0x18008 0).wr (Reg.HDR.PG_STATE.STATE 0x18000) 2; let s := s.put (Reg.HDR.PG_LOCK.LOCKED 0x18000) false; let s := (s.put Reg.GANTRY.LIVE_SLOT.NONE true).wr Reg.GANTRY.STATE.GSTATE 0; s : State), .pcie, 7, sound_of (by decide +kernel), calm_of (by decide +kernel), by decide +kernel, open_of (by decide +kernel), by decide +kernel, by decide +kernel, by decide +kernel, by decide +kernel, by decide +kernel, by decide +kernel⟩,
   ⟨(let s := base; s.put (Reg.HDR.PG_LOCK.LOCKED 0x18000) true : State), .pcie, 7, sound_of (by decide +kernel), calm_of (by decide +kernel), by decide +kernel, open_of (by decide +kernel), by decide +kernel⟩,
   ⟨(let s := base; let s := (s.wrW 0x18008 0).put (Reg.HDR.PG_LOCK.LOCKED 0x18000) false; { s with dev := .hold } : State), .pcie, 7, sound_of (by decide +kernel), calm_of (by decide +kernel), by decide +kernel, open_of (by decide +kernel), by decide +kernel, by decide +kernel, by decide +kernel⟩,
   ⟨(let s := base; { s with dev := .hold, test := { s.test with run := some ⟨2, 3, [], 0, 0⟩ }, mon := { s.mon with clock := 2 ^ 45 } } : State), .pcie, 2, 3, 0, 0, sound_of (by decide +kernel), calm_of (by decide +kernel), open_of (by decide +kernel), by decide +kernel⟩,
   ⟨(let s := base; let s := [0, 1, 2, 3].foldl (fun s b => s.wr (Reg.TEST.TB_ERR.COUNT b) 0) s; { s with dev := .hold, test := { s.test with run := some ⟨2, 3, [], 0, 0⟩ }, mon := { s.mon with clock := 2 ^ 45 } } : State), 3, 0, 0, ([0, 0, 0]), sound_of (by decide +kernel), by decide +kernel, by decide +kernel, by decide +kernel⟩,
   ⟨(let s := base; { s with dev := .hold, test := { s.test with run := some ⟨3, 3, [], 0, 0⟩ }, mon := { s.mon with clock := 2 ^ 45 } } : State), 3, 0, 0, [], sound_of (by decide +kernel), by decide +kernel, by decide +kernel⟩,
   ⟨(let s := base; { s with dev := .hold, test := { s.test with run := some ⟨3, 3, [], 0, 0⟩ }, mon := { s.mon with clock := 2 ^ 45 } } : State), 3, (7 * 2 ^ 32 + 99), 5, 0, 0, ([(3, 3)]), sound_of (by decide +kernel), by decide +kernel, by decide +kernel, by decide +kernel⟩,
   ⟨(let s := base; { s with dev := .hold, test := { s.test with run := some ⟨4, 3, [], 0, 0⟩ }, mon := { s.mon with clock := 2 ^ 45 } } : State), 3, 0, 0, ([(4, 0), (90, 0)]), sound_of (by decide +kernel), by decide +kernel, by decide +kernel⟩,
   ⟨(let s := base; { s with dev := .hold, test := { s.test with run := some ⟨5, 3, [], 0, 0⟩ }, mon := { s.mon with clock := 2 ^ 45 } } : State), 3, 0, 0, [], sound_of (by decide +kernel), by decide +kernel, by decide +kernel⟩,
   ⟨(let s := base; let s := s.wr Reg.TEST.OPT_MIN.DBM 200; { s with dev := .hold, test := { s.test with run := some ⟨6, 3, [], 0, 0⟩ }, mon := { s.mon with clock := 2 ^ 45 } } : State), 3, 0, 0, -20000, ([([1], 2, 3)]), sound_of (by decide +kernel), by decide +kernel, by decide +kernel⟩,
   ⟨(let s := base; let s := ((s.put Reg.TEST.LINK_PATTERN.CHECK_EN true).wr Reg.TEST.LINK_PATTERN.LOCK 3).wr (Reg.TEST.LINK_ERR.COUNT 0) 0; let s := s.wr (Reg.TEST.LINK_ERR.COUNT 1) 0; { s with dev := .hold, test := { s.test with run := some ⟨1, 3, [], 0, 0⟩ }, mon := { s.mon with clock := 2 ^ 45 } } : State), 3, 0, 0, [0], sound_of (by decide +kernel), by decide +kernel, by decide +kernel, by decide +kernel, by decide +kernel, by decide +kernel⟩,
   ⟨(let s := base; let s := s.put Reg.TEST.LINK_PATTERN.LOOPBACK true; let s := (s.put Reg.TEST.LINK_PATTERN.CHECK_EN true).wr Reg.TEST.LINK_PATTERN.LOCK 2; { s with dev := .hold, test := { s.test with run := some ⟨1, 3, [], 0, 0⟩ }, mon := { s.mon with clock := 2 ^ 45 } } : State), .pcie, 3, 0, 0, sound_of (by decide +kernel), calm_of (by decide +kernel), open_of (by decide +kernel), by decide +kernel, by decide +kernel, by decide +kernel⟩,
   ⟨(let s := base; let s := (s.put Reg.TEST.LINK_PATTERN.CHECK_EN true).wr Reg.TEST.LINK_PATTERN.LOCK 1; { s with dev := .hold, test := { s.test with run := some ⟨1, 3, [], 0, 0⟩ }, mon := { s.mon with clock := 2 ^ 45 } } : State), 1, 3, 0, 0, sound_of (by decide +kernel), by decide +kernel, by decide +kernel, by decide +kernel, by decide +kernel⟩,
   ⟨(let s := base; let s := (s.put Reg.TEST.LINK_PATTERN.CHECK_EN true).wr Reg.TEST.LINK_PATTERN.LOCK 2; { s with dev := .hold, test := { s.test with run := some ⟨1, 3, [], 0, 0⟩ }, mon := { s.mon with clock := 2 ^ 45 } } : State), 1, 3, 0, 0, sound_of (by decide +kernel), by decide +kernel, by decide +kernel, by decide +kernel, by decide +kernel⟩⟩

theorem witness_JtagLeads :
    (∃ (s : State), (s.dev = .hold ∨ s.dev = .halt ∨ s.dev = .off)) ∧
    (∃ (s : State), s.Sound ∧ s.dev ≠ .hold ∧ s.dev ≠ .halt ∧ s.dev ≠ .off) ∧
    (∃ (s : State), (s.dev = .hold ∨ s.dev = .halt ∨ s.dev = .off)) ∧
    (∃ (s : State), s.Sound ∧ s.dev ≠ .hold ∧ s.dev ≠ .halt ∧ s.dev ≠ .off) ∧
    (∃ (s : State) (x : Scan), (s.dev = .hold ∨ s.dev = .halt ∨ s.dev = .off)) ∧
    (∃ (s : State) (x : Scan), s.Sound ∧ s.dev ≠ .hold ∧ s.dev ≠ .halt ∧ s.dev ≠ .off) ∧
    (∃ (s : State) (x : Scan), (s.dev = .hold ∨ s.dev = .halt ∨ s.dev = .off)) ∧
    (∃ (s : State) (x : Scan), s.Sound ∧ s.dev ≠ .hold ∧ s.dev ≠ .halt ∧ s.dev ≠ .off) ∧
    (∃ (s : State) (x : Scan), (s.dev = .hold ∨ s.dev = .halt ∨ s.dev = .off)) ∧
    (∃ (s : State) (x : Scan), s.Sound ∧ s.dev ≠ .hold ∧ s.dev ≠ .halt ∧ s.dev ≠ .off) :=
  ⟨⟨(let s := base; { s with dev := .halt } : State), by decide +kernel⟩,
   ⟨(let s := base; s : State), sound_of (by decide +kernel), by decide +kernel, by decide +kernel, by decide +kernel⟩,
   ⟨(let s := base; { s with dev := .halt } : State), by decide +kernel⟩,
   ⟨(let s := base; s : State), sound_of (by decide +kernel), by decide +kernel, by decide +kernel, by decide +kernel⟩,
   ⟨(let s := base; { s with dev := .halt } : State), (⟨[(.trigin 3, true), (.ready, true)], [(.trigo 15, true, true)]⟩), by decide +kernel⟩,
   ⟨(let s := base; s : State), (⟨[(.trigin 3, true), (.ready, true)], [(.trigo 15, true, true)]⟩), sound_of (by decide +kernel), by decide +kernel, by decide +kernel, by decide +kernel⟩,
   ⟨(let s := base; { s with dev := .halt } : State), (⟨[(.trigin 3, true), (.ready, true)], [(.trigo 15, true, true)]⟩), by decide +kernel⟩,
   ⟨(let s := base; s : State), (⟨[(.trigin 3, true), (.ready, true)], [(.trigo 15, true, true)]⟩), sound_of (by decide +kernel), by decide +kernel, by decide +kernel, by decide +kernel⟩,
   ⟨(let s := base; { s with dev := .halt } : State), (⟨[(.trigin 3, true), (.ready, true)], [(.trigo 15, true, true)]⟩), by decide +kernel⟩,
   ⟨(let s := base; s : State), (⟨[(.trigin 3, true), (.ready, true)], [(.trigo 15, true, true)]⟩), sound_of (by decide +kernel), by decide +kernel, by decide +kernel, by decide +kernel⟩⟩

theorem witness_PageAndModeCommandsComplete :
    (∃ (s : State) (path : HostPath) (pg key : Nat) (p : PageInfo), s.Sound ∧ s.Calm ∧ isPage pg = true ∧ s.Open (pg + 0x24) ∧ pageOf pg = some p ∧ p.lock = true ∧ key % 2 ^ 16 = 0x4F5A) ∧
    (∃ (s : State) (path : HostPath) (pg rel : Nat) (p : PageInfo) (l : List (Nat × Nat)), s.Sound ∧ isPage pg = true ∧ s.Open (pg + rel) ∧ pageOf pg = some p ∧ clearRanges p.type rel = some l ∧ p.type ∉ [6, 8, 0x10, 0x15, 0x20]) ∧
    (∃ (s : State) (path : HostPath) (off n : Nat), s.Sound ∧ quantAt off = some (off, n, 0) ∧ off % 4 = 0 ∧ s.dev ≠ .off ∧ off < 0x1000000 ∧ off ≠ 0x80D0) ∧
    (∃ (s : State) (path : HostPath) (k : Nat) (lo w : Word), s.Sound ∧ s.Calm ∧ k < 8 ∧ s.dev ≠ .off ∧ s.boot.check = none ∧ s.pageOn 0xE000 = true ∧ s.heldWord path (0xE200 + 0x20 * k) = some lo) ∧
    (∃ (s : State) (path : HostPath) (off lo len : Nat) (w : Word) (p : PageInfo) (a : Acc) (rg : Option (Nat × Nat)), s.Sound ∧ s.Calm ∧ s.Open off ∧ off < 0x1000000 ∧ off % 4 = 0 ∧ pageOf off = some p ∧ 0x40 ≤ off - pageBase off ∧ quantAt off = none ∧ State.special s.start path p (pageBase off) (off - pageBase off) w = none ∧ ((fieldsAt off).map (fun r => (r.1.fld.lo, r.1.fld.len, r.1.acc, r.1.range)) = [(lo, len, a, rg)]) ∧ (a = .rw ∨ a = .rws)) ∧
    (∃ (s : State) (path : HostPath), s.Sound ∧ s.Calm ∧ s.Open 0x3054 ∧ s.dev = .hold) ∧
    (∃ (s : State), s.Sound ∧ s.Calm ∧ s.dev = .hold ∧ s.boot.check = some []) ∧
    (∃ (s : State), s.boot.readyAt + 100 * ns ≤ s.up) ∧
    (∃ (s : State) (errs corrs : List Nat) (f : NextFix), s.img.next = some f ∧ f.held = false ∧ s.img.staged = none ∧ s.plumb.swapFix = false) ∧
    (∃ (s : State) (g : Staged), s.Sound ∧ s.img.staged = some g ∧ g.complete = false) ∧
    (∃ (s : State) (g : Staged), s.img.staged = some g ∧ g.armed = false ∧ g.complete = true) ∧
    (∃ (s : State) (path : HostPath) (τ req : Nat), s.Sound ∧ s.Calm ∧ τ < 128 ∧ s.Open (drivePg τ + 0x40) ∧ req % 4 = 2 ∧ s.tileMode τ = 1 ∧ s.dev.live = true) ∧
    (∃ (s : State) (τ kind k : Nat), s.Sound ∧ isChan kind τ k = true ∧ s.tileMode τ = 1 ∧ s.flag (shortFld kind τ k) = false) ∧
    (∃ (s : State) (x : Bench) (e : Episode) (T : Nat), s.Sound ∧ s.Calm ∧ s.gstate = 4 ∧ s.gan.ep = some e ∧ e.safe = false ∧ e.ext < s.maxExtend ∧ s.gan.ended = false ∧ s.gan.nextT = some T ∧ s.gan.live = some x ∧ s.gan.resync = none ∧ s.gan.jump = none ∧ s.gan.stop = false ∧ x.loopEnd = false ∧ x.stopAfter = false ∧ x.stream = true ∧ s.benchAt true (x.idx + 1) = none) ∧
    (∃ (s : State) (e : Episode), s.Sound ∧ s.Calm ∧ s.gstate = 4 ∧ s.dev = .run ∧ s.gan.ep = some e ∧ s.maxExtend ≤ s.extension e) ∧
    (∃ (s : State) (x b : Bench), s.Sound ∧ s.Calm ∧ s.gstate = 3 ∧ s.gan.live = some x ∧ s.gan.resync = none ∧ s.gan.jump = none ∧ s.gan.stop = false ∧ x.loopEnd = false ∧ x.stopAfter = false ∧ x.stream = false ∧ x.toStream = false ∧ x.idx + 1 < s.gan.limit ∧ s.entry (x.idx + 1) = b ∧ b.triggered = true ∧ s.trigQueued b.trigSrc = true) ∧
    (∃ (s : State) (path : HostPath) (k : Nat) (w : Word), s.Sound ∧ k < 16 ∧ s.Open (0x8210 + 0x20 * k) ∧ s.tev k = none ∧ getBits w 0 1 = 1 ∧ getBits w 1 1 = 0 ∧ getBits w 20 11 ≤ 1024 ∧ s.now < s.rdTime (0x8200 + 0x20 * k)) ∧
    (∃ (s : State) (k T : Nat), s.Sound ∧ s.Calm ∧ k < 16 ∧ s.dev ≠ .off ∧ s.dev ≠ .boot ∧ s.tev k = some ⟨k, T, false⟩ ∧ T ≤ s.now ∧ s.flag (Reg.TIME.TEV_CTRL.PERIODIC k) = false ∧ s.rd (Reg.TIME.TEV_CTRL.TARGETS k) = 0) ∧
    (∃ (s : State) (path : HostPath) (e : TsEntry) (r : List TsEntry), s.dev ≠ .off ∧ s.pageOn 0x8000 = true ∧ s.time.tsq = e :: r) ∧
    (∃ (s : State) (xs : List Sample), s.Sound ∧ s.Calm ∧ s.dev ≠ .off) ∧
    (∃ (s : State), s.Sound ∧ 2 ≤ s.zoneLevel 0 ∧ s.picStage = 1 ∧ s.throttleFree 0 = true ∧ s.gov.overTemp = false ∧ s.elemTotal ≤ s.rd Reg.BUDGET.HTR_BUDGET.W10 * 2500 * powUnit * 3) ∧
    (∃ (s : State) (k : Nat), s.Sound ∧ s.Calm ∧ k < 4 ∧ s.haltDue k = true ∧ s.dev = .safe) ∧
    (∃ (s : State) (p : Nat) (tr : List Nat), s.Sound ∧ s.portReady p = true ∧ s.linkUp p = false ∧ s.engState p = 0 ∧ s.activeEng = some (1 - p) ∧ s.flag (Reg.HDR.PG_CTRL.ENABLE (0x10000 + 0x1000 * p)) = true ∧ (s.engine p).trip = none) ∧
    (∃ (s : State) (p : Nat), s.Sound ∧ p < 2 ∧ s.linkUp p = true ∧ s.engState p ≠ 3) ∧
    (∃ (s : State) (p corr res : Nat) (d : List Byte), s.Sound ∧ p < 2 ∧ s.linkUp p = true ∧ 20 ≤ d.length ∧ d.length ≤ 9212 ∧ beAt d 12 2 = 0x8808) ∧
    (∃ (s : State) (p : Nat) (f : RxFrame) (fs : List RxFrame) (w : Walk), p < 2 ∧ s.parser.rob.length < 256 ∧ s.inQueue p = f :: fs ∧ w = s.pass f.data (s.rd Reg.PARSER.PARSE_CFG.START_NODE) 0 f.data.length ∧ w.reason ≠ 0) ∧
    (∃ (s : State) (l : Looked) (ls : List Looked) (w : Walk) (n : Nat), s.parser.again = l :: ls ∧ n = (match l.rule with | some r => r.2 / 2 ^ 24 % 64 | none => 63) ∧ w = s.pass l.frame.data n l.strip l.stop ∧ w.reason ≠ 0) ∧
    (∃ (s : State) (l : Looked) (ls : List Looked) (r : Nat × Nat), s.Sound ∧ s.parser.acts = l :: ls ∧ l.rule = some r ∧ l.reason = 0 ∧ bitOf r.2 3 = false ∧ kindOf r.2 = 0) ∧
    (∃ (s : State) (path : HostPath) (n : Nat) (v : Bool), s.Sound ∧ n < 48 ∧ s.Open (0x62007C + 0x80 * n) ∧ (s.flag (Reg.NODE.EXT.EN n) = false ∨ s.rd (Reg.NODE.EXT.SLOT n) + divUp (s.rd (Reg.NODE.EXT.LEN n)) 4 ≤ 8)) ∧
    (∃ (s : State) (path : HostPath) (i : Nat) (v : Bool), s.Sound ∧ i < 1024 ∧ s.Open (0x64007C + 0x80 * i)) ∧
    (∃ (s : State) (path : HostPath) (i : Nat), s.Sound ∧ i < 1024 ∧ s.Open (0x640068 + 0x80 * i)) :=
  ⟨witness_LocksAndWritesLead.1,
   witness_LocksAndWritesLead.2.2.2.1,
   witness_LocksAndWritesLead.2.2.2.2.1,
   witness_LocksAndWritesLead.2.2.2.2.2.1,
   witness_LocksAndWritesLead.2.2.2.2.2.2.2.2.1,
   witness_CommissioningLeads.1,
   witness_CommissioningLeads.2.1,
   witness_CommissioningLeads.2.2.2.2,
   witness_StagingLeads.1,
   witness_StagingLeads.2.1,
   witness_StagingLeads.2.2.1,
   witness_TileModesLead.1,
   witness_TileModesLead.2.2.2,
   witness_UnderflowsAndWaitsLead.1,
   witness_UnderflowsAndWaitsLead.2.1,
   witness_UnderflowsAndWaitsLead.2.2.1,
   witness_TimeEventsLead.1,
   witness_TimeEventsLead.2.2.1,
   witness_TimeEventsLead.2.2.2.2.1,
   witness_TemperatureLead.1,
   witness_TemperatureLead.2.2.1,
   witness_TemperatureLead.2.2.2.1,
   witness_RingPortsLead.1,
   witness_RingPortsLead.2.2.1,
   witness_RingPortsLead.2.2.2.2.1,
   witness_ParserPassesLead.1,
   witness_ParserPassesLead.2.2.1,
   witness_ParserPassesLead.2.2.2.2.1,
   witness_NodesAndRulesLead.1,
   witness_NodesAndRulesLead.2.2.1,
   witness_NodesAndRulesLead.2.2.2⟩

theorem witness_StrobeRingAndFaultCommandsComplete :
    (∃ (s : State) (T i : Nat), s.Calm ∧ s.gan.nextT = some T ∧ s.gan.fixed = none ∧ s.gstate = 1 ∧ s.gan.first = (false, i) ∧ s.gan.live = none ∧ s.gan.jump = none ∧ s.gan.ended = false ∧ s.gan.resync = none ∧ s.gan.resyncT = false) ∧
    (∃ (s : State) (T : Nat) (b : Bench) (g : Staged) (f : NextFix), s.Sound ∧ s.Calm ∧ s.gan.nextT = some T ∧ s.gan.fixed = some b ∧ s.gstate = 2 ∧ s.img.staged = some g ∧ g.armed = true ∧ s.img.next = some f ∧ s.plumb.swapFix = false ∧ s.gan.ep = none ∧ s.gan.stop = false ∧ s.gan.resync = none ∧ s.gan.resyncT = false ∧ s.gan.period = [] ∧ (s.dev = .armed ∨ s.dev = .run)) ∧
    (∃ (s : State) (g τ k shape : Nat), s.Sound ∧ τ < 128 ∧ k < 76 ∧ s.img.groups.contains g = true ∧ s.settling 1 τ = false ∧ s.img.firing = [(htrKey τ k, shape)] ∧ s.rd (groupFld 1 τ k) = g ∧ s.flag (markFld 1 τ k) = true) ∧
    (∃ (s : State) (τ k : Nat) (p : Play), s.Sound ∧ τ < 128 ∧ k < 76 ∧ s.settling 0 τ = false ∧ (s.drv.plays.find? (fun q => q.key == fastKey τ k) = some p)) ∧
    (∃ (s : State) (e : Nat), s.Sound ∧ e < numElem ∧ s.status e = stHold ∧ s.reason e = whyHoldoff ∧ s.img.live = none ∧ s.clusterRun (clusterOf e) = true ∧ s.playing (tileOf e) (chanOf e) = false ∧ s.marked e = false) ∧
    (∃ (s : State) (m : Image) (e : Nat), s.Sound ∧ s.img.live = some m ∧ s.img.release = [e] ∧ e < 512 ∧ s.awaits (shutEid 0 e) = true ∧ s.awaits (shutEid 1 e) = true ∧ s.status (shutEid 0 e) ≠ stQuar ∧ s.status (shutEid 1 e) ≠ stQuar ∧ s.tileMode (tileOf (shutEid 0 e)) ≠ 0 ∧ s.tileMode (tileOf (shutEid 1 e)) ≠ 0) ∧
    (∃ (s : State) (τ k code : Nat), s.Sound ∧ isChan 0 τ k = true ∧ s.clusterTested (τ / 32) = false ∧ s.tileMode τ ≠ 0 ∧ s.rangeCh τ = none ∧ s.playing τ k = false) ∧
    (∃ (s : State) (τ k c : Nat), s.Sound ∧ isChan 1 τ k = true ∧ s.settling 1 τ = false ∧ alGet s.drv.held (htrKey τ k) = some c) ∧
    (∃ (s : State) (τ : Nat) (v : Int), s.Sound ∧ τ < 128 ∧ s.tileMode τ = 2 ∧ s.rd (Reg.DRIVE.RB_STATUS.SLOT τ) < 159) ∧
    (∃ (s : State) (path : HostPath) (τ : Nat) (fast htr : Bool), s.Sound ∧ τ < 128 ∧ s.Open (drivePg τ + 0x48) ∧ s.rd (Reg.DRIVE.RANGE.FAST_RANGE τ) ≠ b2n fast ∧ s.rd (Reg.DRIVE.RANGE.HTR_RANGE τ) = b2n htr ∧ s.rangeRefusal τ (s.commitNear false) = none) ∧
    (∃ (s : State) (τ : Nat) (r : RangeCh), s.Sound ∧ τ < 128 ∧ s.rangeCh τ = some r ∧ r.fast = true ∧ r.htr = false) ∧
    (∃ (s : State) (r : Nat), s.Sound ∧ r < 16 ∧ ((∀ q ∈ List.range 16, s.capRunning q = decide (q = r))) ∧ s.mon.batch = [] ∧ s.capLevel < 1024 ∧ s.sdOnline = true ∧ s.capFill r + (s.ring r).waiting + 8 ≤ s.capSize r ∧ (s.ring r).part.length < 56) ∧
    (∃ (s : State) (path : HostPath) (r : Nat), s.Sound ∧ r < 16 ∧ s.Open (0xD400 + 0x40 * r) ∧ s.flag (Reg.CAPTURE.RING_CTRL.ENABLE r) = false ∧ 12 ≤ s.rd (Reg.CAPTURE.RING_CTRL.SIZE_LOG2 r) ∧ s.rd (Reg.CAPTURE.RING_CTRL.SIZE_LOG2 r) ≤ 34 ∧ s.inPartition 2 (s.rd64 (ringOff r + 4)) (2 ^ s.rd (Reg.CAPTURE.RING_CTRL.SIZE_LOG2 r)) = true) ∧
    (∃ (s : State) (path : HostPath) (r : Nat), s.Sound ∧ r < 16 ∧ s.Open (0xD400 + 0x40 * r) ∧ s.flag (Reg.CAPTURE.RING_CTRL.RUN r) = false ∧ s.flag (Reg.CAPTURE.RING_CTRL.ENABLE r) = true ∧ s.pageRun 0xD000 = true ∧ s.mon.batch = [] ∧ s.capLevel < 1024 ∧ s.sdOnline = true ∧ s.capFill r + (s.ring r).waiting + 8 ≤ s.capSize r ∧ (s.ring r).part = []) ∧
    (∃ (s : State) (r : Nat), s.Sound ∧ r < 16 ∧ s.mon.batch = [] ∧ (s.ring r).part ≠ []) ∧
    (∃ (s : State) (r : Nat) (b : List Byte) (rest : List (List Byte)), s.Sound ∧ r < 16 ∧ (s.ring r).bursts = b :: rest ∧ s.capFill r + b.length ≤ s.capSize r) ∧
    (∃ (s : State) (path : HostPath) (r v : Nat), s.Sound ∧ r < 16 ∧ s.Open (0xD414 + 0x40 * r) ∧ v < 2 * s.capSize r ∧ v < 2 ^ 35 ∧ (v + 2 * s.capSize r - s.capRd r % (2 * s.capSize r)) % (2 * s.capSize r) ≤ s.capFill r) ∧
    (∃ (s : State) (e : Nat) (thru drop : Int), s.Sound ∧ e < numElem ∧ isCell e = false ∧ s.working e = true ∧ s.clusterRun (clusterOf e) = true ∧ s.shutSeen e = some (thru, drop) ∧ ((s.inputs e).all (fun p => s.light (clusterOf e) p.1) = true) ∧ s.flag (Reg.ELEM.ELEM_STATUS.SH_NULL e) = false ∧ (s.elem e).soft = true) ∧
    (∃ (s : State) (b tg : Nat), s.Sound ∧ b < 128 ∧ alGet s.bram.ramps b = some tg ∧ s.clusterRun (b / 32) = true ∧ s.tileMode b ≠ 0 ∧ s.rangeCh b = none ∧ alGet s.drv.upd (htrKey b 76) = none) ∧
    (∃ (s : State) (mid : Nat), mid < 19968 ∧ s.lit mid = true ∧ s.loopMode (mid / 32) = true ∧ s.bram.guard.contains mid = false) ∧
    (∃ (s : State) (mid : Nat), s.Sound ∧ mid < 19968 ∧ s.lit mid = true) ∧
    (∃ (s : State) (mid cls : Nat), s.Sound ∧ mid < 19968 ∧ alGet s.bram.asked mid = some cls) ∧
    (∃ (s : State) (k : Nat), s.Sound ∧ k < 4) ∧
    (∃ (s : State) (path : HostPath), s.Sound ∧ s.Open 0xC084 ∧ s.flag Reg.PLUMB.ATLAS_CTRL.ENABLE = true ∧ s.flag Reg.PLUMB.ATLAS_CTRL.FREEZE = false) ∧
    (∃ (s : State), s.Sound ∧ s.plumb.freezing = true ∧ s.sdOnline = false) ∧
    (∃ (s : State) (path : HostPath), s.Sound ∧ s.Open 0xC084 ∧ s.flag Reg.PLUMB.ATLAS_CTRL.ENABLE = false ∧ s.flag Reg.PLUMB.ATLAS_CTRL.FREEZE = bitOf (s.rdW 0xC084).toNat 1 ∧ s.sdOnline = false) ∧
    (∃ (s : State) (path : HostPath) (g : Nat), s.Sound ∧ s.Open 0x4048 ∧ path ≠ .opRing ∧ s.flag Reg.FUSE.FUSE_STATUS.COMMIT_BUSY = false ∧ s.flag (Reg.HDR.PG_LOCK.LOCKED 0x4000) = false ∧ (s.dev = .hold ∨ s.dev = .armed ∨ s.dev = .run) ∧ s.runBusy = false ∧ s.zoneLevel 3 = 0 ∧ s.commitTarget = some g) ∧
    (∃ (s : State) (path : HostPath), s.Sound ∧ s.Open 0x4048 ∧ s.flag (Reg.HDR.PG_LOCK.LOCKED 0x4000) = false ∧ markPartial (s.validMark (s.rd Reg.FUSE.FUSE_STATUS.IN_FORCE)) = true ∧ s.rd Reg.FUSE.FUSE_STATUS.IN_FORCE = 0) ∧
    (∃ (s : State) (n : Nat) (image : List Byte), s.Sound ∧ s.plumb.commit = some image) ∧
    (∃ (s : State) (i : Nat) (burnt : List (Nat × Byte)) (f : Raised), s.Sound ∧ s.Calm ∧ f.src < 256 ∧ s.inbox[i]? = some f ∧ s.dev ≠ .off ∧ tabGet s.sump.winAt 0 f.src = 0 ∧ s.flag (Reg.SRC.SRC_CFG.MASK f.src) = true ∧ f.direct = false ∧ 2 ≤ s.rd (Reg.SRC.SRC_CFG.N f.src)) ∧
    (∃ (s : State) (r : RecReq), s.Sound ∧ s.Calm ∧ s.recQ = [r] ∧ s.recordOpen = false ∧ r.coal = 0 ∧ r.reaction < 8) ∧
    (∃ (s : State) (path : HostPath) (id : Nat), s.Sound ∧ s.Calm ∧ s.Open 0x7048 ∧ id < 2 ^ 32 ∧ s.recordOpen = true ∧ s.recordId = id ∧ s.sump.blanked = []) ∧
    (∃ (s : State) (b : List Byte) (bs : List (List Byte)), s.Sound ∧ s.sump.logQ = b :: bs ∧ s.sdOnline = true ∧ s.flag Reg.SUMP.LOG_CFG.ENABLE = true ∧ s.logFits (s.rd Reg.SUMP.LOG_CFG.SIZE_LOG2) = true) ∧
    (∃ (s : State) (path : HostPath), s.Sound ∧ s.Calm ∧ s.Open 0x704C ∧ s.dev = .safe ∧ s.recordOpen = false) ∧
    (∃ (s : State) (path : HostPath) (src : Nat), s.Open 0x7054 ∧ 240 ≤ src ∧ src < 256) :=
  ⟨witness_BenchesAndStrobesLead.1,
   witness_BenchesAndStrobesLead.2.2.1,
   witness_BenchesAndStrobesLead.2.2.2.1,
   witness_BenchesAndStrobesLead.2.2.2.2.2.1,
   witness_BenchesAndStrobesLead.2.2.2.2.2.2.1,
   witness_BenchesAndStrobesLead.2.2.2.2.2.2.2.2,
   witness_DriveUpdatesLead.1,
   witness_DriveUpdatesLead.2.2.2.2.2.1,
   witness_DriveUpdatesLead.2.2.2.2.2.2.1,
   witness_DriveUpdatesLead.2.2.2.2.2.2.2.1,
   witness_DriveUpdatesLead.2.2.2.2.2.2.2.2.2,
   witness_CaptureLeads.1,
   witness_CaptureLeads.2.1,
   witness_CaptureLeads.2.2.2.1,
   witness_CaptureLeads.2.2.2.2.2.1,
   witness_CaptureLeads.2.2.2.2.2.2.1,
   witness_CaptureLeads.2.2.2.2.2.2.2,
   witness_ShuttersAndBallastLead.1,
   witness_ShuttersAndBallastLead.2.1,
   witness_ShuttersAndBallastLead.2.2.1,
   witness_ShuttersAndBallastLead.2.2.2.1,
   witness_ShuttersAndBallastLead.2.2.2.2.1,
   witness_ShuttersAndBallastLead.2.2.2.2.2,
   witness_AtlasAndFusesLead.1,
   witness_AtlasAndFusesLead.2.1,
   witness_AtlasAndFusesLead.2.2.2.1,
   witness_AtlasAndFusesLead.2.2.2.2.1,
   witness_AtlasAndFusesLead.2.2.2.2.2.2.1,
   witness_AtlasAndFusesLead.2.2.2.2.2.2.2.2.1,
   witness_FaultsLead.1,
   witness_FaultsLead.2.2.2.1,
   witness_FaultsLead.2.2.2.2.2.1,
   witness_FaultsLead.2.2.2.2.2.2.2.1,
   witness_FaultsLead.2.2.2.2.2.2.2.2.2.1,
   witness_FaultsLead.2.2.2.2.2.2.2.2.2.2.2.1⟩

theorem witness_NodePastSlotSevenIsRefused :
    (∃ (s : State) (path : HostPath) (n : Nat) (v : Bool), s.Sound ∧ n < 48 ∧ s.Open (0x62007C + 0x80 * n) ∧ s.flag (Reg.NODE.EXT.EN n) = true ∧ 8 < s.rd (Reg.NODE.EXT.SLOT n) + divUp (s.rd (Reg.NODE.EXT.LEN n)) 4) :=
  ⟨(let s := base; (((s.put (Reg.NODE.EXT.EN 47) true).wr (Reg.NODE.EXT.SLOT 47) 7).wr (Reg.NODE.EXT.LEN 47) 9) : State), .pcie, 47, true, sound_of (by decide +kernel), by decide +kernel, open_of (by decide +kernel), by decide +kernel, by decide +kernel⟩

end Sys2Proof.Tests
end

section
/-! SUPPORT. Frames: how the effect of a command and the events after it make one, and what an answer needs. -/
namespace Sys2Proof.Machine

theorem EvtRel.kept_eq {s t : State} (h : EvtRel s t) : t.kept s = t := by
  unfold State.kept
  rw [← h.pending, ← h.unit]

theorem EvtRel.calm {s t : State} (h : EvtRel s t) (c : s.Calm) : t.Calm := by
  unfold State.Calm
  rw [h.boot, h.seam, h.cmd, h.test, h.plumb]
  exact c

theorem Frame.chg {ws pgs : List Nat} {s t : State} (h : Frame ws pgs s t) : Chg ws pgs s.regs s.sd t.regs t.sd :=
  ⟨h.words, fun n => h.sdram (by simpa [State.flag_eq] using n)⟩

/-- A command that begins has changed only what is sent out. -/
theorem Frame.start (ws pgs : List Nat) (s : State) : Frame ws pgs s s.start := ⟨rfl, fun _ _ _ => rfl, fun _ => rfl⟩

theorem Frame.wrW {ws pgs : List Nat} {s t : State} (h : Frame ws pgs s t) {off : Nat} (hm : off ∈ ws) (w : Word) : Frame ws pgs s (t.wrW off w) :=
  frame_of (h.rel.trans rfl) (h.chg.set off w hm)

theorem Frame.wr {ws pgs : List Nat} {s t : State} (h : Frame ws pgs s t) {f : Fld} (hm : f.off ∈ ws) (v : Nat) : Frame ws pgs s (t.wr f v) := h.wrW hm _

theorem Frame.err {ws pgs : List Nat} {s t : State} (h : Frame ws pgs s t) {pg : Nat} (hm : pg + 0x20 ∈ ws) (rel : Nat) : Frame ws pgs s (t.err pg rel) :=
  (h.wr (f := Reg.HDR.PG_ERRCNT.COUNT pg) hm _).wr (f := Reg.HDR.PG_ERRCNT.LAST_OFFSET pg) hm _

theorem Frame.posts {ws pgs : List Nat} {s t u : State} (ha : EqApart ws pgs) (h : Frame ws pgs s t) {pg : Nat} (hm : pg ∈ pgs) (k : Posts pg t u) : Frame ws pgs s u :=
  frame_of (h.rel.trans k.rel) (h.chg.posts ha k hm)

/-- A fault raised besides, in both states. -/
theorem Frame.raise {ws pgs : List Nat} {s t : State} (h : Frame ws pgs s t) (src data : Nat) : Frame ws pgs (s.raise src data) (t.raise src data) :=
  ⟨congrArg (fun x : State => x.raise src data) h.rel.eq, h.words, h.sdram⟩

theorem Posts.rd {pg : Nat} {s t : State} (k : Posts pg s t) (g : Fld) (h : ¬ EvtFoot pg g.off) : t.rd g = s.rd g := k.rdT g h

/-- A field that takes bits of a word of its own length reads as them. -/
theorem State.rd_wr_getBits {s : State} (h : s.RegsUp) (f : Fld) (hf : fldOk f) (w : Word) (lo : Nat) : (s.wr f (getBits w lo f.len)).rd f = getBits w lo f.len := by
  rw [State.rd_wr_same h f hf, Nat.mod_eq_of_lt (getBits_lt _ _ _)]

/-- The event queue's settings lie apart from the words of a header, of whatever page. -/
theorem eqApart_header {pg rel q : Nat} (hp : pg % 0x1000 = 0) (hr : rel < 0x40) (hq : q % 0x1000 = 0) : EqApart [pg + rel] [q] := by
  unfold EqApart
  simp only [List.mem_singleton, forall_eq]
  omega

/-- A command that has only its own effect, which changes no field that an event leaves. -/
theorem leads_only_rel {c : Instr} {s u : State} {f : State → State} {P : State → Prop} (hc : exec c s = s.only f) (hu : f s.start = u) (hr : EvtRel s u) (h : P u) : Leads c s P :=
  leads_only hc u hu (hr.kept_eq.symm ▸ h)

/-- A command from which more may follow, where nothing waits after its own effect u. The fields are compared with s', so that a frame can name one that the command sets (the fault raised, the words released). -/
theorem leads_whole_rel {c : Instr} {s s' u : State} {f : State → State} {P : State → Prop} (hc : exec c s = s.whole f) (hu : f s.start = u) (hk : ∀ t : State, t.kept s = t.kept s')
    (hr : EvtRel s' u) (hq : s'.Calm) (h : ∀ t, Posts 0 u t → P t) : Leads c s P :=
  leads_whole hc u hu (hr.calm hq) fun t k => by
    rw [hk, (hr.trans k.rel).kept_eq]
    exact h t k

end Sys2Proof.Machine
end

section
/-! SUPPORT. The pages of BAR0: their bases, their words, and a header write that acts at once. -/
namespace Sys2Proof.Machine

theorem pageInfos_base : ∀ p ∈ pageInfos, p.base % 0x1000 = 0 ∧ p.base + 0x1000 * p.count ≤ 0x10E000 := by decide +kernel

/-- A search finds the same where two tests agree on the list. -/
theorem find?_agree {α : Type} {p q : α → Bool} {l : List α} (h : ∀ a ∈ l, p a = q a) : l.find? p = l.find? q := by
  induction l with
  | nil => rfl
  | cons a l ih =>
    obtain ⟨ha, hl⟩ := List.forall_mem_cons.1 h
    rw [List.find?_cons, List.find?_cons, ha, ih hl]

/-- Every word of a page belongs to the page of its base. -/
theorem pageOf_pageBase (off : Nat) : pageOf (pageBase off) = pageOf off := by
  unfold pageOf pageBase
  refine find?_agree fun p hp => ?_
  have hb := (pageInfos_base p hp).1
  rw [Bool.eq_iff_iff]
  simp only [Bool.and_eq_true, decide_eq_true_eq]
  omega

theorem pageOf_lt {off : Nat} {p : PageInfo} (h : pageOf off = some p) : off < 0x10E000 := by
  have hb := (pageInfos_base p (List.mem_of_find?_eq_some h)).2
  have hf := List.find?_some h
  simp only [Bool.and_eq_true, decide_eq_true_eq] at hf
  omega

theorem isPage_aligned {pg : Nat} (h : isPage pg = true) : pg % 0x1000 = 0 := by
  unfold isPage at h
  simp only [Bool.and_eq_true, beq_iff_eq] at h
  exact h.2

theorem isPage_isSome {pg : Nat} (h : isPage pg = true) : (pageOf pg).isSome = true := by
  unfold isPage at h
  simp only [Bool.and_eq_true] at h
  exact h.1

theorem pageBase_add {pg rel : Nat} (h : pg % 0x1000 = 0) (hr : rel < 0x1000) : pageBase (pg + rel) = pg := by
  unfold pageBase
  omega

theorem State.reachable_page (s : State) {off : Nat} (h : (pageOf off).isSome = true) : s.reachable off = s.pageOn (pageBase off) := by
  obtain ⟨p, hp⟩ := Option.isSome_iff_exists.1 h
  unfold State.reachable
  rw [hp]

theorem State.Open.pageOn {s : State} {pg rel : Nat} (ho : s.Open (pg + rel)) (h : isPage pg = true) (hr : rel < 0x1000) : s.pageOn pg = true := by
  obtain ⟨-, -, hon⟩ := ho
  have hb := pageBase_add (isPage_aligned h) hr
  rw [State.reachable_page, hb] at hon
  · exact hon
  · rw [← pageOf_pageBase, hb]
    exact isPage_isSome h

/-- A write of a page's word where it acts at once. -/
theorem State.pageAct_open {s : State} {pg rel : Nat} (h : isPage pg = true) (ho : s.Open (pg + rel)) (path : HostPath) (w : Nat) (f : State → State) : s.pageAct path pg rel w f = f s := by
  unfold State.pageAct
  rw [if_pos h, State.regAct_open ho]

end Sys2Proof.Machine
end

section
/-! SUPPORT. The event words of a page (R435): a write of one word, then the events that are newly pending. -/
namespace Sys2Proof.Machine

/-- PG_EVT_EN written: the word, then postings. -/
theorem Posts.evtEnable (q : Nat) (s : State) (pg : Nat) (w : Word) : Posts q (s.wrW (pg + 0x14) (w &&& evtMask pg)) (s.evtEnable pg w) := .postNew q _ pg _

/-- PG_EVT_RAW with bits set. -/
def State.rawSet (s : State) (pg : Nat) (w : Word) : State := s.wrW (pg + 0x10) (s.rdW (pg + 0x10) ||| (w &&& evtMask pg))

/-- PG_EVT_SET written: the bits that the page has stand in PG_EVT_RAW, then postings and, on SUMP, its vector. -/
theorem Posts.evtSet (q : Nat) (s : State) (pg : Nat) (w : Word) : Posts q (s.rawSet pg w) (s.evtSet pg w) := by
  have hp : Posts q (s.rawSet pg w) ((s.rawSet pg w).postNew pg (s.pend pg)) := .postNew q _ pg _
  unfold State.evtSet
  dsimp only
  split
  · exact hp.trans (.msix q _ _ (State.rd_lt _ Reg.PCIE.IRQ_CFG.FAULT_VECTOR))
  · exact hp

/-- Hardware sets bits of a page that can be reached. -/
theorem State.hardSet_on {s : State} {pg : Nat} (h : isPage pg = true) (hon : s.pageOn pg = true) (set : Word) : s.hardSet pg set = s.evtSet pg set := by
  unfold State.hardSet
  rw [h, hon]
  rfl

/-- What is posted touches PG_EVT_RAW of no page but CMD. -/
theorem not_evtFoot_raw {pg : Nat} (h : pg % 0x1000 = 0) (n : pg ≠ 0xE000) : ¬ EvtFoot 0xE000 (pg + 0x10) := by
  unfold EvtFoot
  omega

/-- Nor a header word of any page other than PG_EVT_RAW. -/
theorem not_evtFoot_header {pg q rel : Nat} (h : pg % 0x1000 = 0) (hq : q % 0x1000 = 0) (hr : rel < 0x40) (h8 : 8 ≤ rel) (n : rel ≠ 0x10) : ¬ EvtFoot q (pg + rel) := by
  unfold EvtFoot
  omega

theorem State.rawSet_rdW {s : State} (h : s.RegsUp) (pg : Nat) (w : Word) : (s.rawSet pg w).rdW (pg + 0x10) = s.rdW (pg + 0x10) ||| (w &&& evtMask pg) :=
  State.rdW_wrW_same h _ _

/-- Bits set in PG_EVT_RAW, and what is posted for it: on CMD itself more bits can come to stand. -/
theorem evtSet_leaves {s u : State} {pg : Nat} (hp : pg % 0x1000 = 0) (hu : u.RegsUp) (hf : Frame [pg + 0x10] [0xE000] s u) (w : Word) :
    (pg = 0xE000 ∨ (u.evtSet pg w).rdW (pg + 0x10) = u.rdW (pg + 0x10) ||| (w &&& evtMask pg)) ∧ Frame [pg + 0x10] [0xE000] s (u.evtSet pg w) := by
  have k := Posts.evtSet 0xE000 u pg w
  refine ⟨Decidable.or_iff_not_imp_left.2 fun n => ?_, ?_⟩
  · rw [k.off _ (not_evtFoot_raw hp n), State.rawSet_rdW hu]
  · exact (hf.wrW List.mem_cons_self _).posts (eqApart_header hp (by decide) (by decide)) List.mem_cons_self k

theorem pgEvtRawClear_leads {s : State} (path : HostPath) {pg : Nat} (w set : Word) (hs : s.Sound) (h : isPage pg = true) (ho : s.Open (pg + 0x10)) :
    Leads (.pgEvtRawClear path pg w set) s fun t => (pg = 0xE000 ∨ t.rdW (pg + 0x10) = s.rdW (pg + 0x10) &&& ~~~ (w &&& ~~~ set) ||| (set &&& evtMask pg)) ∧ Frame [pg + 0x10] [0xE000] s t := by
  have hon : s.pageOn pg = true := ho.pageOn h (by decide)
  have hu : (s.start.evtClear pg (w &&& ~~~ set)).RegsUp := State.wrW_up (s := s.start) hs.up _ _
  have hf : Frame [pg + 0x10] [0xE000] s (s.start.evtClear pg (w &&& ~~~ set)) := (Frame.start _ _ s).wrW List.mem_cons_self _
  obtain ⟨hl, hlf⟩ := evtSet_leaves (isPage_aligned h) hu hf set
  have hr : (s.start.evtClear pg (w &&& ~~~ set)).rdW (pg + 0x10) = s.rdW (pg + 0x10) &&& ~~~ (w &&& ~~~ set) := State.rdW_wrW_same (s := s.start) hs.up _ _
  rw [hr] at hl
  refine leads_only_rel (f := fun s => (s.pageAct path pg 0x10 w.toNat fun s => s.evtClear pg (w &&& ~~~ set)).hardSet pg set) rfl ?_ hlf.rel ⟨hl, hlf⟩
  rw [State.pageAct_open h ho.start]
  exact State.hardSet_on (s := s.start.evtClear pg (w &&& ~~~ set)) h hon set

theorem pgEvtEnWrite_leads {s : State} (path : HostPath) {pg : Nat} (w : Word) (hs : s.Sound) (h : isPage pg = true) (ho : s.Open (pg + 0x14)) :
    Leads (.pgEvtEnWrite path pg w) s fun t => t.rdW (pg + 0x14) = w &&& evtMask pg ∧ Frame [pg + 0x14] [0xE000] s t := by
  have hp := isPage_aligned h
  have k := Posts.evtEnable 0xE000 s.start pg w
  have hf : Frame [pg + 0x14] [0xE000] s (s.start.evtEnable pg w) :=
    ((Frame.start _ _ s).wrW List.mem_cons_self _).posts (eqApart_header hp (by decide) (by decide)) List.mem_cons_self k
  refine leads_only_rel rfl (State.pageAct_open h ho.start _ _ _) hf.rel ⟨?_, hf⟩
  rw [k.off _ (not_evtFoot_header hp (by decide) (by decide) (by decide) (by decide))]
  exact State.rdW_wrW_same (s := s.start) hs.up _ _

theorem pgEvtSet_leads {s : State} (path : HostPath) {pg : Nat} (w : Word) (hs : s.Sound) (h : isPage pg = true) (ho : s.Open (pg + 0x1C)) :
    Leads (.pgEvtSet path pg w) s fun t => (pg = 0xE000 ∨ t.rdW (pg + 0x10) = s.rdW (pg + 0x10) ||| (w &&& evtMask pg)) ∧ Frame [pg + 0x10] [0xE000] s t := by
  obtain ⟨hl, hf⟩ := evtSet_leaves (isPage_aligned h) (u := s.start) hs.up (Frame.start _ _ s) w
  exact leads_only_rel rfl (State.pageAct_open h ho.start _ _ _) hf.rel ⟨hl, hf⟩

theorem pgErrcntClear_leads {s : State} (path : HostPath) {pg : Nat} (hs : s.Sound) (h : isPage pg = true) (ho : s.Open (pg + 0x20)) :
    Leads (.pgErrcntClear path pg) s fun t => t.rdW (pg + 0x20) = 0 ∧ Frame [pg + 0x20] [] s t := by
  have hf : Frame [pg + 0x20] [] s (s.start.errClear pg) := (Frame.start _ _ s).wrW List.mem_cons_self _
  exact leads_only_rel rfl (State.pageAct_open h ho.start _ _ _) hf.rel ⟨State.rdW_wrW_same (s := s.start) hs.up _ _, hf⟩

/-- Settles O21: each write is one word of the header, and what it posts lies in the footprint of the CMD page. -/
theorem pageEventsLead : Obligations.PageEventsLead :=
  ⟨fun _ path _ w set hs h ho => pgEvtRawClear_leads path w set hs h ho, fun _ path _ w hs h ho => pgEvtEnWrite_leads path w hs h ho,
   fun _ path _ w hs h ho => pgEvtSet_leads path w hs h ho, fun _ path _ hs h ho => pgErrcntClear_leads path hs h ho⟩

end Sys2Proof.Machine
end

section
/-! SUPPORT. The lock (R436), the counters that a page clears (R73), and the reads that latch (R8). -/
namespace Sys2Proof.Machine

theorem State.lockKey_unlock {s : State} {pg : Nat} {p : PageInfo} (hp : pageOf pg = some p) (hl : p.lock = true) : s.lockKey pg 0x4F5A = s.put (Reg.HDR.PG_LOCK.LOCKED pg) false := by
  simp [State.lockKey, hp, hl]

theorem State.lockKey_lock {s : State} {pg : Nat} {p : PageInfo} (hp : pageOf pg = some p) (hl : p.lock = true) : s.lockKey pg 0 = s.put (Reg.HDR.PG_LOCK.LOCKED pg) true := by
  simp [State.lockKey, hp, hl]

theorem State.lockKey_wrong {s : State} {pg key : Nat} {p : PageInfo} (hp : pageOf pg = some p) (hl : p.lock = true) (h1 : key ≠ 0x4F5A) (h0 : key ≠ 0) :
    s.lockKey pg key = (s.err pg 0x24).raise 55 (pg / 0x1000) := by
  simp [State.lockKey, hp, hl, h1, h0]

/-- A key that sets or clears the lock. -/
theorem pgLockKey_put {s : State} (path : HostPath) {pg key : Nat} (b : Bool) (hs : s.Sound) (hq : s.Calm) (h : isPage pg = true) (ho : s.Open (pg + 0x24))
    (hk : s.start.lockKey pg (key % 2 ^ 16) = s.start.put (Reg.HDR.PG_LOCK.LOCKED pg) b) :
    Leads (.pgLockKey path pg key) s fun t => t.flag (Reg.HDR.PG_LOCK.LOCKED pg) = b ∧ Frame [pg + 0x24] [0] s t := by
  have hp := isPage_aligned h
  have hf : Frame [pg + 0x24] [0] s (s.start.put (Reg.HDR.PG_LOCK.LOCKED pg) b) := (Frame.start _ _ s).wr (f := Reg.HDR.PG_LOCK.LOCKED pg) List.mem_cons_self _
  refine leads_whole_rel rfl ((State.pageAct_open h ho.start _ _ _).trans hk) (fun _ => rfl) hf.rel hq fun t k => ⟨?_, hf.posts (eqApart_header hp (by decide) (by decide)) List.mem_cons_self k⟩
  have e : t.flag (Reg.HDR.PG_LOCK.LOCKED pg) = (s.start.put (Reg.HDR.PG_LOCK.LOCKED pg) b).flag (Reg.HDR.PG_LOCK.LOCKED pg) := by
    rw [State.flag_eq, State.flag_eq, k.rdT _ (not_evtFoot_header hp (by decide) (by decide) (by decide) (by decide))]
  rw [e]
  exact State.flag_put_same (s := s.start) hs.up (Reg.HDR.PG_LOCK.LOCKED pg) (by show 16 + 1 ≤ 32; decide) rfl b

theorem State.rd_err_last {s : State} (h : s.RegsUp) (pg rel : Nat) : (s.err pg rel).rd (Reg.HDR.PG_ERRCNT.LAST_OFFSET pg) = rel % 0x1000 :=
  State.rd_wr_same (State.wr_up h _ _) (Reg.HDR.PG_ERRCNT.LAST_OFFSET pg) (by show 16 + 12 ≤ 32; decide) rel

theorem State.rdW_raise (s : State) (src data off : Nat) : (s.raise src data).rdW off = s.rdW off := rfl
theorem State.rd_raise (s : State) (src data : Nat) (f : Fld) : (s.raise src data).rd f = s.rd f := rfl

theorem pgLockKey_wrong {s : State} (path : HostPath) {pg key : Nat} {p : PageInfo} (hs : s.Sound) (hq : s.Calm) (h : isPage pg = true) (ho : s.Open (pg + 0x24))
    (hpg : pageOf pg = some p) (hl : p.lock = true) (h1 : key % 2 ^ 16 ≠ 0x4F5A) (h0 : key % 2 ^ 16 ≠ 0) :
    Leads (.pgLockKey path pg key) s fun t => t.flag (Reg.HDR.PG_LOCK.LOCKED pg) = s.flag (Reg.HDR.PG_LOCK.LOCKED pg) ∧ t.rd (Reg.HDR.PG_ERRCNT.LAST_OFFSET pg) = 0x24 ∧
      Frame [pg + 0x20] [0] { s with inbox := s.inbox ++ [⟨55, pg / 0x1000 % 2 ^ 32, false, false⟩] } t := by
  have hp := isPage_aligned h
  have hf : Frame [pg + 0x20] [0] (s.raise 55 (pg / 0x1000)) ((s.start.err pg 0x24).raise 55 (pg / 0x1000)) :=
    ((Frame.start _ _ s).err List.mem_cons_self 0x24).raise 55 (pg / 0x1000)
  refine leads_whole_rel (s' := s.raise 55 (pg / 0x1000)) rfl ((State.pageAct_open h ho.start _ _ _).trans (State.lockKey_wrong hpg hl h1 h0)) (fun _ => rfl) hf.rel hq fun t k => ⟨?_, ?_, hf.posts (eqApart_header hp (by decide) (by decide)) List.mem_cons_self k⟩
  · have hw : t.rdW (pg + 0x24) = s.rdW (pg + 0x24) := by
      rw [k.off _ (not_evtFoot_header hp (by decide) (by decide) (by decide) (by decide)), State.rdW_raise, State.rdW_err_ne _ _ _ _ (by omega)]
      rfl
    show (getBits (t.rdW (pg + 0x24)) 16 1 == 1) = (getBits (s.rdW (pg + 0x24)) 16 1 == 1)
    rw [hw]
  · rw [k.rd _ (not_evtFoot_header hp (by decide) (by decide) (by decide) (by decide)), State.rd_raise]
    exact State.rd_err_last (s := s.start) hs.up pg 0x24

/-! ### Counters -/

theorem tabGet_filter_drop {α : Type} {l : Tab α} {p : Nat × α → Bool} {k : Nat} {d : α} (h : ∀ v, p (k, v) = false) : tabGet (l.filter p) d k = d := by
  induction l with
  | nil => rfl
  | cons a l ih =>
    obtain ⟨j, v⟩ := a
    rw [List.filter_cons]
    split
    · next hj =>
      have hne : ¬ j = k := fun e => by rw [e, h] at hj; exact Bool.false_ne_true hj
      simp only [tabGet, hne, if_false, ih]
    · exact ih

/-- A word inside a cleared range is at its reset value. -/
theorem State.rdW_clearRange_in (s : State) (off n : Nat) {a : Nat} (h : off ≤ a ∧ a < off + n) : (s.clearRange off n).rdW a = resetWord a :=
  tabGet_filter_drop fun _ => by simp [h]

/-- The ranges of a page cleared one after another. -/
def State.clearSpans (s : State) (pg : Nat) (l : List (Nat × Nat)) : State := l.foldl (fun s r => s.clearRange (pg + r.1) r.2) s

theorem State.rdW_clearSpans_out {pg a : Nat} {l : List (Nat × Nat)} (h : ∀ r ∈ l, a < pg + r.1 ∨ pg + r.1 + r.2 ≤ a) (s : State) : (s.clearSpans pg l).rdW a = s.rdW a := by
  induction l generalizing s with
  | nil => rfl
  | cons r l ih =>
    obtain ⟨hr, hl⟩ := List.forall_mem_cons.1 h
    exact (ih hl _).trans (State.rdW_clearRange s _ _ _ hr)

theorem State.rdW_clearSpans_in {pg a : Nat} {l : List (Nat × Nat)} (h : ∃ r ∈ l, pg + r.1 ≤ a ∧ a < pg + r.1 + r.2) (s : State) : (s.clearSpans pg l).rdW a = resetWord a := by
  induction l generalizing s with
  | nil => simp at h
  | cons r l ih =>
    by_cases hl : ∃ r ∈ l, pg + r.1 ≤ a ∧ a < pg + r.1 + r.2
    · exact ih hl _
    · have hr : pg + r.1 ≤ a ∧ a < pg + r.1 + r.2 := by
        obtain ⟨q, hq, hin⟩ := h
        rcases List.mem_cons.1 hq with rfl | hq
        · exact hin
        · exact absurd ⟨q, hq, hin⟩ hl
      have hout : ∀ q ∈ l, a < pg + q.1 ∨ pg + q.1 + q.2 ≤ a := fun q hq => by
        have hn : ¬ (pg + q.1 ≤ a ∧ a < pg + q.1 + q.2) := fun hin => hl ⟨q, hq, hin⟩
        omega
      exact (State.rdW_clearSpans_out hout _).trans (State.rdW_clearRange_in s _ _ hr)

theorem State.clearSpans_regs (s : State) (pg : Nat) (l : List (Nat × Nat)) : s.clearSpans pg l = { s with regs := (s.clearSpans pg l).regs } :=
  foldl_keeps (fun t => t = { s with regs := t.regs }) rfl fun t r ht => by
    unfold State.clearRange
    rw [ht]

/-- A page whose counters are only words of its own clears nothing else. -/
theorem State.cntClear_words {s : State} {pg rel : Nat} {p : PageInfo} {l : List (Nat × Nat)} (hp : pageOf pg = some p) (hl : clearRanges p.type rel = some l)
    (hn : p.type ∉ [6, 8, 0x10, 0x15, 0x20]) : s.cntClear pg rel = s.clearSpans pg l := by
  have he : ∀ t : State, t.clearExtra p pg = t := fun t => by
    unfold State.clearExtra
    split
    case h_6 => rfl
    all_goals next ht => simp [ht] at hn
  unfold State.cntClear
  rw [hp]
  dsimp only
  rw [hl]
  dsimp only
  rw [he]
  exact ite_self _

theorem cntClear_leads {s : State} (path : HostPath) {pg rel : Nat} {p : PageInfo} {l : List (Nat × Nat)} (h : isPage pg = true) (ho : s.Open (pg + rel)) (hp : pageOf pg = some p)
    (hl : clearRanges p.type rel = some l) (hn : p.type ∉ [6, 8, 0x10, 0x15, 0x20]) :
    Leads (.cntClear path pg rel) s fun t => (∀ off, (∃ r ∈ l, pg + r.1 ≤ off ∧ off < pg + r.1 + r.2) → t.rdW off = resetWord off) ∧
      (∀ off, (∀ r ∈ l, off < pg + r.1 ∨ pg + r.1 + r.2 ≤ off) → t.rdW off = s.rdW off) ∧ t = { s with regs := t.regs, out := [] } := by
  have hu : s.start.where' ((pageOf pg).any fun p => (clearRanges p.type rel).isSome) (fun s => s.cntClear pg rel) = s.start.clearSpans pg l := by
    unfold State.where'
    rw [if_pos (by rw [hp]; simp [hl])]
    exact State.cntClear_words hp hl hn
  have hr := s.start.clearSpans_regs pg l
  have he : EvtRel s (s.start.clearSpans pg l) := by rw [hr]; rfl
  exact leads_only_rel rfl ((State.pageAct_open h ho.start _ _ _).trans hu) he ⟨fun _ hin => State.rdW_clearSpans_in hin _, fun _ hout => State.rdW_clearSpans_out hout s.start, hr⟩

/-! ### Latched words -/

/-- A key put with a value of its own reads as it was put, whatever the order of the table. -/
theorem tabGet_tabPut_kept {α : Type} [DecidableEq α] (t : Tab α) {d v : α} (d' : α) (k : Nat) (h : v ≠ d) : tabGet (tabPut t d k v) d' k = v := by
  induction t with
  | nil => simp [tabPut, h, tabGet]
  | cons a t ih =>
    obtain ⟨j, x⟩ := a
    simp only [tabPut, h, if_false]
    split
    · simp [tabGet]
    · next hk =>
      split
      · simp [tabGet]
      · next hne =>
        have hj : ¬ j = k := fun e => hne e.symm
        simp only [tabGet, hj, if_false, ih]

/-- The words above the lowest latched one after another, as a read of the lowest finds them. -/
def State.latchUpper (s : State) (path : HostPath) (off : Nat) (g : Nat → Word) (m : Nat) : State :=
  (List.range m).foldl (fun t j => t.latchPut path (off + 4 * (j + 1)) (g j)) s

theorem State.latchUpper_succ (s : State) (path : HostPath) (off : Nat) (g : Nat → Word) (m : Nat) :
    s.latchUpper path off g (m + 1) = (s.latchUpper path off g m).latchPut path (off + 4 * (m + 1)) (g m) := by
  unfold State.latchUpper
  rw [List.range_succ, List.foldl_append]
  rfl

theorem State.latchUpper_latch (s : State) (path : HostPath) (off : Nat) (g : Nat → Word) (m : Nat) : s.latchUpper path off g m = { s with latch := (s.latchUpper path off g m).latch } := by
  induction m with
  | zero => rfl
  | succ m ih =>
    rw [State.latchUpper_succ]
    unfold State.latchPut
    rw [ih]

theorem State.latchUpper_get (s : State) (path : HostPath) (off : Nat) (g : Nat → Word) {m j : Nat} (h : j < m) :
    tabGet (s.latchUpper path off g m).latch 0 (latchKey path (off + 4 * (j + 1))) = (g j).toNat + 1 := by
  induction m with
  | zero => omega
  | succ m ih =>
    rw [State.latchUpper_succ]
    by_cases e : j = m
    · subst e
      exact tabGet_tabPut_kept _ _ _ (by omega)
    · have hk : latchKey path (off + 4 * (j + 1)) ≠ latchKey path (off + 4 * (m + 1)) := by
        unfold latchKey
        omega
      exact (tabGet_tabPut_ne _ _ _ _ hk).trans (ih (by omega))

/-- A read of the lowest word of a quantity latches the words above it and answers the word. -/
theorem State.readOut_low {s : State} (path : HostPath) {off n : Nat} (hq : quantAt off = some (off, n, 0)) (ha : off % 4 = 0) (hd : s.dev ≠ .off) (hb : off < 0x1000000) (hn : off ≠ 0x80D0) :
    s.readOut path off = (s.latchUpper path off (fun j => s.viewWord (off + 4 * (j + 1))) (n - 1)).emit (.word path off (s.viewWord off)) := by
  have h1 : ¬ (s.dev = .off ∨ 0x1000000 ≤ off ∨ off % 4 ≠ 0) := by simp only [hd, false_or]; omega
  have h2 : ¬ (off = 0x80D0 ∧ s.pageOn timePg = true) := fun e => hn e.1
  unfold State.readOut State.busRead
  rw [if_neg h1, if_neg h2, hq]
  rfl

theorem State.viewWord_start (s : State) (off : Nat) : s.start.viewWord off = s.viewWord off := rfl

theorem multiwordLowRead_leads {s : State} (path : HostPath) {off n : Nat} (hq : quantAt off = some (off, n, 0)) (ha : off % 4 = 0) (hd : s.dev ≠ .off) (hb : off < 0x1000000) (hn : off ≠ 0x80D0) :
    Leads (.multiwordLowRead path off) s fun t => t.out = [.word path off (s.viewWord off)] ∧
      (∀ j < n, 0 < j → tabGet t.latch 0 (latchKey path (off + 4 * j)) = (s.viewWord (off + 4 * j)).toNat + 1) ∧ t.regs = s.regs ∧ t = { s with latch := t.latch, out := t.out } := by
  have hr := State.readOut_low (s := s.start) path hq ha hd hb hn
  simp only [State.viewWord_start] at hr
  have hu : s.start.where' ((quantAt off).any fun q => q.2.2 == 0) (fun s => s.readOut path off) = s.start.readOut path off := by
    unfold State.where'
    rw [if_pos (by rw [hq]; rfl)]
  have hl := s.start.latchUpper_latch path off (fun j => s.viewWord (off + 4 * (j + 1))) (n - 1)
  refine leads_only rfl _ (hu.trans hr) ⟨?_, ?_, ?_, ?_⟩
  · rw [hl]; rfl
  · intro j hj h0
    obtain ⟨i, rfl⟩ := Nat.exists_eq_add_of_lt h0
    rw [Nat.zero_add]
    exact State.latchUpper_get _ _ _ _ (by omega)
  · rw [hl]; rfl
  · rw [hl]; rfl

end Sys2Proof.Machine
end

section
/-! SUPPORT. A register write that acts at once (R5 to R8): the word it reaches, the field it sets, and the words held for it. -/
namespace Sys2Proof.Machine

theorem pageRows_fit : ∀ p ∈ pageInfos, ∀ r ∈ p.rows, r.fld.lo + r.fld.len ≤ 32 := by decide +kernel

/-- The one field of a word: its lowest bit, its length, its access code and its range. -/
def OneField (off lo len : Nat) (a : Acc) (rg : Option (Nat × Nat)) : Prop := (fieldsAt off).map (fun r => (r.1.fld.lo, r.1.fld.len, r.1.acc, r.1.range)) = [(lo, len, a, rg)]

/-- A field that a plain write stores (R7). -/
def Acc.Stores (a : Acc) : Prop := a = .rw ∨ a = .rws

theorem OneField.row {off lo len : Nat} {a : Acc} {rg : Option (Nat × Nat)} (h : OneField off lo len a rg) :
    ∃ r i, fieldsAt off = [(r, i)] ∧ r.fld.lo = lo ∧ r.fld.len = len ∧ r.acc = a ∧ r.range = rg := by
  obtain ⟨⟨r, i⟩, he, hx⟩ := List.map_eq_singleton_iff.1 h
  simp only [Prod.mk.injEq] at hx
  exact ⟨r, i, he, hx⟩

theorem OneField.fits {off lo len : Nat} {a : Acc} {rg : Option (Nat × Nat)} {p : PageInfo} (h : OneField off lo len a rg) (hp : pageOf off = some p) : lo + len ≤ 32 := by
  obtain ⟨r, i, he, rfl, rfl, -, -⟩ := h.row
  have hm : (r, i) ∈ fieldsAt off := he ▸ List.mem_cons_self
  rw [fieldsAt, hp] at hm
  obtain ⟨q, hq, hx⟩ := List.mem_filterMap.1 hm
  obtain ⟨j, -, hj⟩ := Option.map_eq_some_iff.1 hx
  obtain ⟨rfl, -⟩ := Prod.mk.inj hj
  exact pageRows_fit p (List.mem_of_find?_eq_some hp) q hq

/-- A word of one field that stores: the field takes the value kept to its range, and a value outside it is counted (R490). -/
theorem State.plain_one {off lo len : Nat} {a : Acc} {rg : Option (Nat × Nat)} (h : OneField off lo len a rg) (ha : a.Stores) (s : State) (pg rel : Nat) (w : Word) :
    s.plain pg rel off w = if keptTo rg (getBits w lo len) != getBits w lo len then (s.wr ⟨off, lo, len⟩ (keptTo rg (getBits w lo len))).errAt pg rel
      else s.wr ⟨off, lo, len⟩ (keptTo rg (getBits w lo len)) := by
  obtain ⟨r, i, he, rfl, rfl, rfl, rfl⟩ := h.row
  unfold State.plain
  rw [he]
  rcases ha with ha | ha <;> simp [ha, State.writeField, FRow.outside]

/-- The same for a field without a range. -/
theorem State.plain_free {off lo len : Nat} (h : OneField off lo len .rw none) (s : State) (pg rel : Nat) (w : Word) : s.plain pg rel off w = s.wr ⟨off, lo, len⟩ (getBits w lo len) := by
  rw [State.plain_one h (.inl rfl)]
  simp [keptTo]

theorem State.busWrite_now {s : State} {off : Nat} (hd : s.dev ≠ .off) (hb : off < 0x1000000) (ha : off % 4 = 0) (hc : s.boot.check = none ∨ pageBase off = 0x3000) (path : HostPath) (w : Word) :
    s.busWrite path off w = s.writeNow path off w := by
  have h1 : ¬ (s.dev = .off ∨ 0x1000000 ≤ off ∨ off % 4 ≠ 0) := by simp only [hd, false_or]; omega
  have h2 : ¬ (s.boot.check.isSome ∧ pageBase off ≠ 0x3000) := by rcases hc with hc | hc <;> simp [hc]
  unfold State.busWrite
  rw [if_neg h1, if_neg h2]

theorem State.writeNow_word {s : State} {off : Nat} (hr : s.reachable off = true) (hq : quantAt off = none) (path : HostPath) (w : Word) : s.writeNow path off w = s.wordWrite path off w := by
  unfold State.writeNow
  rw [hr, hq]
  rfl

theorem State.writeNow_high {s : State} {off lowest n j : Nat} (hr : s.reachable off = true) (hq : quantAt off = some (lowest, n, j)) (hn : j + 1 = n) (hw : quantWritable lowest = true)
    (path : HostPath) (w : Word) : s.writeNow path off w = s.quantWrite path lowest n off w := by
  unfold State.writeNow
  rw [hr, hq]
  simp [hw, hn]

/-- A word that its block's chapter gives no meaning of its own is written field by field. -/
theorem State.wordWrite_plain {s : State} {off : Nat} {path : HostPath} {w : Word} {p : PageInfo} (hp : pageOf off = some p) (hr : 0x40 ≤ off - pageBase off)
    (hs : s.special path p (pageBase off) (off - pageBase off) w = none) : s.wordWrite path off w = s.plain (pageBase off) (off - pageBase off) off w := by
  have h : ¬ off - pageBase off < 0x40 := Nat.not_lt.2 hr
  unfold State.wordWrite
  rw [hp]
  dsimp only
  rw [if_neg h, hs]

/-- A word of one field without a range, and without a meaning of its own. -/
theorem State.wordWrite_free {s : State} {off lo len : Nat} {path : HostPath} {w : Word} {p : PageInfo} (hp : pageOf off = some p) (hr : 0x40 ≤ off - pageBase off)
    (hs : s.special path p (pageBase off) (off - pageBase off) w = none) (hf : OneField off lo len .rw none) : s.wordWrite path off w = s.wr ⟨off, lo, len⟩ (getBits w lo len) := by
  rw [State.wordWrite_plain hp hr hs, State.plain_free hf]

/-! ### One register word -/

/-- The error count of a page other than DEVICE. -/
theorem State.errAt_page (s : State) {pg : Nat} (h : pg ≠ 0) (rel : Nat) : s.errAt pg rel = s.err pg rel := if_neg h

theorem exec_registerWrite_all (path : HostPath) (off : Nat) (w : Word) (s : State) : exec (.registerWrite path off w true) s = s.whole fun s => s.busWrite path off w := rfl
theorem exec_registerWrite_part (path : HostPath) (off : Nat) (w : Word) (s : State) : exec (.registerWrite path off w false) s = s.whole fun s => s.partWrite off := rfl

theorem pageBase_aligned (off : Nat) : pageBase off % 0x1000 = 0 := Nat.mul_mod_left _ _

theorem registerWrite_part {s : State} (path : HostPath) {off : Nat} (w : Word) (hs : s.Sound) (hq : s.Calm) (hd : s.dev ≠ .off) (hl : 0x1000 ≤ off) (hb : off < 0x1000000) (hp : (pageOf off).isSome = true) :
    Leads (.registerWrite path off w false) s fun t => t.rd (Reg.HDR.PG_ERRCNT.LAST_OFFSET (pageBase off)) = off % 0x1000 ∧ Frame [pageBase off + 0x20] [0] s t := by
  obtain ⟨p, hp⟩ := Option.isSome_iff_exists.1 hp
  have hn : pageBase off ≠ 0 := by unfold pageBase; omega
  have h1 : ¬ (s.start.dev = .off ∨ 0x1000000 ≤ off) := by simp only [State.start_dev, hd, false_or]; omega
  have hu : s.start.partWrite off = s.start.err (pageBase off) (off - pageBase off) := by
    unfold State.partWrite
    rw [if_neg h1, hp]
    exact State.errAt_page _ hn _
  have hf : Frame [pageBase off + 0x20] [0] s (s.start.err (pageBase off) (off - pageBase off)) := (Frame.start _ _ s).err List.mem_cons_self _
  refine leads_whole_rel (exec_registerWrite_part path off w s) hu (fun _ => rfl) hf.rel hq fun t k => ⟨?_, hf.posts (eqApart_header (pageBase_aligned off) (by decide) (by decide)) List.mem_cons_self k⟩
  rw [k.rd _ (not_evtFoot_header (pageBase_aligned off) (by decide) (by decide) (by decide) (by decide)), State.rd_err_last (s := s.start) hs.up]
  unfold pageBase
  omega

theorem registerWrite_commitCrc {s : State} (path : HostPath) (w : Word) (hs : s.Sound) (hq : s.Calm) (hd : s.dev ≠ .off) (hon : s.pageOn 0x3000 = true) :
    Leads (.registerWrite path 0x3050 w true) s fun t => t.rd Reg.BOOT.COMMIT_CRC.CRC = getBits w 0 32 ∧ Frame [0x3050] [0] s t := by
  have hu : s.start.busWrite path 0x3050 w = s.start.wr Reg.BOOT.COMMIT_CRC.CRC (getBits w 0 32) := by
    rw [State.busWrite_now (s := s.start) hd (by decide) (by decide) (.inr rfl), State.writeNow_word (s := s.start) (off := 0x3050) hon (by decide +kernel)]
    exact State.wordWrite_free rfl (by decide) rfl rfl
  have hf : Frame [0x3050] [0] s (s.start.wr Reg.BOOT.COMMIT_CRC.CRC (getBits w 0 32)) := (Frame.start _ _ s).wr (f := Reg.BOOT.COMMIT_CRC.CRC) List.mem_cons_self _
  refine leads_whole_rel (exec_registerWrite_all path 0x3050 w s) hu (fun _ => rfl) hf.rel hq fun t k => ⟨?_, hf.posts (by unfold EqApart; decide) List.mem_cons_self k⟩
  exact (k.rd _ (by unfold EvtFoot; decide)).trans (State.rd_wr_getBits (s := s.start) hs.up Reg.BOOT.COMMIT_CRC.CRC (by unfold fldOk; decide) w 0)

end Sys2Proof.Machine
end

section
/-! SUPPORT. A word of one field over the register path, and quantities of several words (R8). -/
namespace Sys2Proof.Machine

theorem eqApart_device {ws : List Nat} (h : 0xE308 ∉ ws) : EqApart ws [0] := ⟨h, by decide⟩

/-- An ignored write that is counted, with the event that DEVICE has for it. -/
theorem Frame.errAt {ws pgs : List Nat} {s t : State} (ha : EqApart ws pgs) (h : Frame ws pgs s t) {pg : Nat} (hm : pg + 0x20 ∈ ws) (h0 : 0 ∈ pgs) (rel : Nat) : Frame ws pgs s (t.errAt pg rel) := by
  unfold State.errAt
  split
  · exact (h.err hm rel).posts ha h0 (.evt _ 0 2 (by decide))
  · exact h.err hm rel

theorem State.rd_errAt (s : State) {pg : Nat} {f : Fld} (hn : f.off ≠ pg + 0x20) (hf : ¬ EvtFoot 0 f.off) (rel : Nat) : (s.errAt pg rel).rd f = s.rd f := by
  have he : (s.err pg rel).rd f = s.rd f := congrArg (getBits · f.lo f.len) (s.rdW_err_ne pg rel f.off hn)
  unfold State.errAt
  split
  · rw [State.rd_evt _ _ _ _ (by decide) hf, he]
  · exact he

/-- The words of a page's registers that an event changes are read-only. -/
theorem evtWords_ro : ∀ off ∈ [0xE30C, 0xE424, 0x1305C], ∀ r ∈ fieldsAt off, r.1.acc = .ro := by decide +kernel

/-- A field that a write stores lies in no word that an event of DEVICE changes. -/
theorem not_evtFoot_stored {off lo len : Nat} {a : Acc} {rg : Option (Nat × Nat)} {p : PageInfo} (hp : pageOf off = some p) (hr : 0x40 ≤ off - pageBase off)
    (h : OneField off lo len a rg) (ha : a.Stores) : ¬ EvtFoot 0 off := by
  have hro : off ∉ [0xE30C, 0xE424, 0x1305C] := fun hm => by
    obtain ⟨r, i, he, -, -, rfl, -⟩ := h.row
    have := evtWords_ro off hm (r, i) (he ▸ List.mem_cons_self)
    rcases ha with ha | ha <;> rw [ha] at this <;> exact Acc.noConfusion this
  have hl := pageOf_lt hp
  unfold pageBase at hr
  simp only [List.mem_cons, List.not_mem_nil, or_false, not_or] at hro
  unfold EvtFoot
  omega

/-- EQ_CFG has a meaning of its own. -/
theorem special_eqCfg {s : State} {path : HostPath} {off : Nat} {w : Word} {p : PageInfo} (hp : pageOf off = some p) (hs : s.special path p (pageBase off) (off - pageBase off) w = none) : off ≠ 0xE308 := by
  rintro rfl
  obtain rfl : (⟨0xE000, 1, 0x0F, rowsCmd, some 219, true, 1, false, false, 7⟩ : PageInfo) = p := Option.some.inj hp
  exact Option.some_ne_none _ hs

theorem registerWrite_one {s : State} {path : HostPath} {off lo len : Nat} {w : Word} {p : PageInfo} {a : Acc} {rg : Option (Nat × Nat)} (hs : s.Sound) (hq : s.Calm) (ho : s.Open off) (hb : off < 0x1000000)
    (h4 : off % 4 = 0) (hp : pageOf off = some p) (hr : 0x40 ≤ off - pageBase off) (hn : quantAt off = none) (hsp : State.special s.start path p (pageBase off) (off - pageBase off) w = none)
    (hf : OneField off lo len a rg) (ha : a.Stores) :
    Leads (.registerWrite path off w true) s fun t => t.rd ⟨off, lo, len⟩ = keptTo rg (getBits w lo len) % 2 ^ len ∧ t.dev = s.dev ∧ t.img = s.img ∧ t.gan = s.gan ∧ Frame [off, pageBase off + 0x20] [0] s t := by
  obtain ⟨hd, hc, hon⟩ := ho
  have hfoot := not_evtFoot_stored hp hr hf ha
  have hlow : off ≠ pageBase off + 0x20 := by omega
  have hap : EqApart [off, pageBase off + 0x20] [0] := by
    have hne := special_eqCfg hp hsp
    have hal := pageBase_aligned off
    refine eqApart_device ?_
    simp only [List.mem_cons, List.not_mem_nil, or_false]
    omega
  have hu : s.start.busWrite path off w = _ :=
    (State.busWrite_now (s := s.start) hd hb h4 (.inl hc) path w).trans
      ((State.writeNow_word (s := s.start) hon hn path w).trans ((State.wordWrite_plain hp hr hsp).trans (State.plain_one hf ha s.start (pageBase off) (off - pageBase off) w)))
  generalize hx : s.start.wr ⟨off, lo, len⟩ (keptTo rg (getBits w lo len)) = x at hu
  have hxf : Frame [off, pageBase off + 0x20] [0] s x := hx ▸ (Frame.start _ _ s).wr (f := ⟨off, lo, len⟩) List.mem_cons_self _
  have hxr : x.rd ⟨off, lo, len⟩ = keptTo rg (getBits w lo len) % 2 ^ len := hx ▸ State.rd_wr_same (s := s.start) hs.up ⟨off, lo, len⟩ (hf.fits hp) _
  generalize hy : s.start.busWrite path off w = y at hu
  have hyf : Frame [off, pageBase off + 0x20] [0] s y := by
    rw [hu]
    split
    · exact hxf.errAt hap (List.mem_cons_of_mem _ List.mem_cons_self) List.mem_cons_self _
    · exact hxf
  have hyr : y.rd ⟨off, lo, len⟩ = keptTo rg (getBits w lo len) % 2 ^ len := by
    rw [hu]
    split
    · exact (State.rd_errAt x hlow hfoot _).trans hxr
    · exact hxr
  refine leads_whole_rel (exec_registerWrite_all path off w s) hy (fun _ => rfl) hyf.rel hq fun t k => ?_
  have hr := hyf.rel.trans k.rel
  refine ⟨?_, hr.dev, hr.img, hr.gan, hyf.posts hap List.mem_cons_self k⟩
  rw [State.rd_eq, k.rdT _ hfoot]
  exact hyr

/-! ### Quantities -/

/-- The quantities that are neither bench descriptors, read pointers of capture rings nor words of time events. -/
def PlainQuant (lowest : Nat) : Prop := lowest < 0x8200 ∨ (0xE000 ≤ lowest ∧ lowest < 0x580000)

/-- The highest word written while every lower one is held: the words held are released and written in order, then the highest. -/
theorem State.quantWrite_held {s : State} {path : HostPath} {lowest n off : Nat} {l : List (Nat × Word)} (h : PlainQuant lowest)
    (hl : ((List.range (n - 1)).map fun j => (lowest + 4 * j, s.heldWord path (lowest + 4 * j))) = l.map fun e => (e.1, some e.2)) (w : Word) :
    s.quantWrite path lowest n off w = State.wordWrite (l.foldl (fun s e => s.wordWrite path e.1 e.2) (l.foldl (fun s e => s.hold path e.1 0) s)) path off w := by
  have h1 : ¬ (0x580000 ≤ lowest ∧ lowest < 0x5C0000) := by unfold PlainQuant at h; omega
  have h2 : ¬ (0xD400 ≤ lowest ∧ lowest < 0xD800 ∧ lowest % 0x40 = 0x14) := by unfold PlainQuant at h; omega
  have h3 (t : State) : ¬ (0x8000 ≤ lowest ∧ lowest < 0x9000 ∧ t.tevArmed (lowest - 0x8000) = true) := fun ⟨_, _, hx⟩ => by
    unfold PlainQuant at h
    unfold State.tevArmed at hx
    simp only [Bool.and_eq_true, decide_eq_true_eq] at hx
    omega
  unfold State.quantWrite
  rw [hl]
  dsimp only
  rw [if_neg h1, if_neg h2, if_neg (h3 _), List.foldl_map, List.foldl_map]

/-- The answer to a write of a quantity's highest word. -/
theorem multiwordHighWrite_acts {s : State} {path : HostPath} {off lowest n j : Nat} {w : Word} (hd : s.dev ≠ .off) (hc : s.boot.check = none) (hb : off < 0x1000000) (h4 : off % 4 = 0)
    (hr : s.reachable off = true) (hq : quantAt off = some (lowest, n, j)) (hj : j + 1 = n) (hw : quantWritable lowest = true) :
    s.where' ((quantAt off).any fun q => q.2.2 + 1 == q.2.1) (fun s => s.busWrite path off w) = s.quantWrite path lowest n off w := by
  unfold State.where'
  rw [if_pos (by rw [hq]; simp [hj])]
  exact (State.busWrite_now hd hb h4 (.inl hc) path w).trans (State.writeNow_high hr hq hj hw path w)

theorem sqBase_quant : ∀ k < 8, quantAt (0xE204 + 0x20 * k) = some (0xE200 + 0x20 * k, 2, 1) ∧ quantWritable (0xE200 + 0x20 * k) = true ∧ (pageOf (0xE204 + 0x20 * k)).isSome = true := by decide +kernel

/-- The numbers of the queue pairs (R381). -/
theorem lt_eight {k : Nat} (h : k < 8) : k = 0 ∨ k = 1 ∨ k = 2 ∨ k = 3 ∨ k = 4 ∨ k = 5 ∨ k = 6 ∨ k = 7 := by omega

theorem State.wordWrite_sqBaseLo {k : Nat} (hk : k < 8) (s : State) (path : HostPath) (w : Word) : s.wordWrite path (0xE200 + 0x20 * k) w = s.wr (Reg.CMD.SQ_BASE_LO.ADDR k) (getBits w 6 26) := by
  obtain rfl | rfl | rfl | rfl | rfl | rfl | rfl | rfl := lt_eight hk <;> exact State.wordWrite_free rfl (by decide) rfl rfl

theorem State.wordWrite_sqBaseHi {k : Nat} (hk : k < 8) (s : State) (path : HostPath) (w : Word) : s.wordWrite path (0xE204 + 0x20 * k) w = s.wr (Reg.CMD.SQ_BASE_HI.ADDR k) (getBits w 0 32) := by
  obtain rfl | rfl | rfl | rfl | rfl | rfl | rfl | rfl := lt_eight hk <;> exact State.wordWrite_free rfl (by decide) rfl rfl

theorem getBits_word (w : Word) : getBits w 0 32 = w.toNat := by
  unfold getBits bitsOf
  rw [Nat.pow_zero, Nat.div_one]
  exact Nat.mod_eq_of_lt w.isLt

theorem State.start_heldWord (s : State) (path : HostPath) (off : Nat) : s.start.heldWord path off = s.heldWord path off := rfl
theorem State.start_hold (s : State) (path : HostPath) (off v : Nat) : s.start.hold path off v = (s.hold path off v).start := rfl

theorem multiwordHighWrite_sqBase_acts {s : State} {path : HostPath} {k : Nat} {lo : Word} (w : Word) (hk : k < 8) (hd : s.dev ≠ .off) (hc : s.boot.check = none)
    (hon : s.pageOn 0xE000 = true) (hh : s.heldWord path (0xE200 + 0x20 * k) = some lo) :
    s.where' ((quantAt (0xE204 + 0x20 * k)).any fun q => q.2.2 + 1 == q.2.1) (fun s => s.busWrite path (0xE204 + 0x20 * k) w) =
      ((s.hold path (0xE200 + 0x20 * k) 0).wr (Reg.CMD.SQ_BASE_LO.ADDR k) (getBits lo 6 26)).wr (Reg.CMD.SQ_BASE_HI.ADDR k) (getBits w 0 32) := by
  obtain ⟨hqa, hqw, hpg⟩ := sqBase_quant k hk
  have hre : s.reachable (0xE204 + 0x20 * k) = true := by
    have hbase : pageBase (0xE204 + 0x20 * k) = 0xE000 := by unfold pageBase; omega
    rw [State.reachable_page s hpg, hbase, hon]
  have hl : ((List.range (2 - 1)).map fun j => (0xE200 + 0x20 * k + 4 * j, s.heldWord path (0xE200 + 0x20 * k + 4 * j))) = [(0xE200 + 0x20 * k, lo)].map fun e => (e.1, some e.2) := by
    simp [hh]
  rw [multiwordHighWrite_acts hd hc (by omega) (by omega) hre hqa rfl hqw, State.quantWrite_held (.inr (by omega)) hl]
  simp only [List.foldl_cons, List.foldl_nil]
  rw [State.wordWrite_sqBaseLo hk, State.wordWrite_sqBaseHi hk]

theorem exec_multiwordHighWrite (path : HostPath) (off : Nat) (w : Word) (s : State) :
    exec (.multiwordHighWrite path off w) s = s.whole fun s => s.where' ((quantAt off).any fun q => q.2.2 + 1 == q.2.1) fun s => s.busWrite path off w := rfl

theorem multiwordHighWrite_sqBase {s : State} {path : HostPath} {k : Nat} {lo : Word} (w : Word) (hs : s.Sound) (hq : s.Calm) (hk : k < 8) (hd : s.dev ≠ .off) (hc : s.boot.check = none)
    (hon : s.pageOn 0xE000 = true) (hh : s.heldWord path (0xE200 + 0x20 * k) = some lo) :
    Leads (.multiwordHighWrite path (0xE204 + 0x20 * k) w) s fun t => t.rd (Reg.CMD.SQ_BASE_LO.ADDR k) = getBits lo 6 26 ∧ t.rd (Reg.CMD.SQ_BASE_HI.ADDR k) = w.toNat ∧
      Frame [0xE200 + 0x20 * k, 0xE204 + 0x20 * k] [0] { s with heldW := tabPut s.heldW 0 (latchKey path (0xE200 + 0x20 * k)) 0 } t := by
  have hact := multiwordHighWrite_sqBase_acts (s := s.start) w hk hd hc hon ((s.start_heldWord _ _).trans hh)
  rw [State.start_hold] at hact
  have hr : (s.hold path (0xE200 + 0x20 * k) 0).start.RegsUp := hs.up
  have hf := ((Frame.start [0xE200 + 0x20 * k, 0xE204 + 0x20 * k] [0] (s.hold path (0xE200 + 0x20 * k) 0)).wr (f := Reg.CMD.SQ_BASE_LO.ADDR k) List.mem_cons_self (getBits lo 6 26)).wr
    (f := Reg.CMD.SQ_BASE_HI.ADDR k) (List.mem_cons_of_mem _ List.mem_cons_self) (getBits w 0 32)
  have hap : EqApart [0xE200 + 0x20 * k, 0xE204 + 0x20 * k] [0] := by
    refine eqApart_device ?_
    simp only [List.mem_cons, List.not_mem_nil, or_false]
    omega
  have hne : 0xE200 + 0x20 * k ≠ 0xE204 + 0x20 * k := by omega
  refine leads_whole_rel (s' := s.hold path (0xE200 + 0x20 * k) 0) (exec_multiwordHighWrite _ _ _ _) hact (fun _ => rfl) hf.rel hq fun t kp => ⟨?_, ?_, hf.posts hap List.mem_cons_self kp⟩
  · rw [kp.rd _ (show ¬ EvtFoot 0 (0xE200 + 0x20 * k) by unfold EvtFoot; omega), State.rd_wr_off _ _ _ _ hne]
    exact State.rd_wr_getBits hr (Reg.CMD.SQ_BASE_LO.ADDR k) (by show 6 + 26 ≤ 32; decide) lo 6
  · rw [kp.rd _ (show ¬ EvtFoot 0 (0xE204 + 0x20 * k) by unfold EvtFoot; omega), ← getBits_word w]
    exact State.rd_wr_getBits (State.wr_up hr _ _) (Reg.CMD.SQ_BASE_HI.ADDR k) (by show 0 + 32 ≤ 32; decide) w 0

theorem State.wordWrite_timeSetNs (s : State) (path : HostPath) (w : Word) : s.wordWrite path 0x8058 w = s.wr (Reg.TIME.TIME_SET.W 0) (getBits w 0 30) :=
  State.wordWrite_free rfl (by decide) rfl rfl

theorem State.wordWrite_timeSetSec (s : State) (path : HostPath) (w : Word) : s.wordWrite path 0x805C w = s.wr (Reg.TIME.TIME_SET.W 1) (getBits w 0 32) :=
  State.wordWrite_free rfl (by decide) rfl rfl

theorem State.wordWrite_timeSetSecHigh (s : State) (path : HostPath) (w : Word) : s.wordWrite path 0x8060 w = s.wr (Reg.TIME.TIME_SET.W 2) (getBits w 0 16) :=
  State.wordWrite_free rfl (by decide) rfl rfl

/-- TIME_SET written as a whole. -/
def State.setTime (s : State) (a b w : Word) : State :=
  ((s.wr (Reg.TIME.TIME_SET.W 0) (getBits a 0 30)).wr (Reg.TIME.TIME_SET.W 1) (getBits b 0 32)).wr (Reg.TIME.TIME_SET.W 2) (getBits w 0 16)

theorem multiwordHighWrite_timeSet_acts {s : State} {path : HostPath} {a b : Word} (w : Word) (ho : s.Open 0x8060) (ha : s.heldWord path 0x8058 = some a) (hb : s.heldWord path 0x805C = some b) :
    s.where' ((quantAt 0x8060).any fun q => q.2.2 + 1 == q.2.1) (fun s => s.busWrite path 0x8060 w) = ((s.hold path 0x8058 0).hold path 0x805C 0).setTime a b w := by
  obtain ⟨hd, hc, hr⟩ := ho
  have hl : ((List.range (3 - 1)).map fun j => (0x8058 + 4 * j, s.heldWord path (0x8058 + 4 * j))) = [(0x8058, a), (0x805C, b)].map fun e => (e.1, some e.2) := by
    simp [List.range_succ, ha, hb]
  have hq : quantAt 0x8060 = some (0x8058, 3, 2) := by decide +kernel
  rw [multiwordHighWrite_acts hd hc (by decide) (by decide) hr hq rfl (by decide +kernel), State.quantWrite_held (.inl (by decide)) hl]
  simp only [List.foldl_cons, List.foldl_nil]
  rw [State.wordWrite_timeSetNs, State.wordWrite_timeSetSec, State.wordWrite_timeSetSecHigh]
  rfl

theorem Frame.setTime {ws pgs : List Nat} {s t : State} (h : Frame ws pgs s t) (h0 : 0x8058 ∈ ws) (h1 : 0x805C ∈ ws) (h2 : 0x8060 ∈ ws) (a b w : Word) : Frame ws pgs s (t.setTime a b w) :=
  ((h.wr (f := Reg.TIME.TIME_SET.W 0) h0 _).wr (f := Reg.TIME.TIME_SET.W 1) h1 _).wr (f := Reg.TIME.TIME_SET.W 2) h2 _

theorem State.rd_setTime {s : State} (h : s.RegsUp) (a b w : Word) : (s.setTime a b w).rd (Reg.TIME.TIME_SET.W 0) = getBits a 0 30 ∧ (s.setTime a b w).rd (Reg.TIME.TIME_SET.W 1) = getBits b 0 32 ∧
    (s.setTime a b w).rd (Reg.TIME.TIME_SET.W 2) = getBits w 0 16 := by
  have h0 := State.wr_up h (Reg.TIME.TIME_SET.W 0) (getBits a 0 30)
  have h1 := State.wr_up h0 (Reg.TIME.TIME_SET.W 1) (getBits b 0 32)
  unfold State.setTime
  refine ⟨?_, ?_, ?_⟩
  · rw [State.rd_wr_off _ _ _ _ (by decide), State.rd_wr_off _ _ _ _ (by decide)]
    exact State.rd_wr_getBits h (Reg.TIME.TIME_SET.W 0) (by unfold fldOk; decide) a 0
  · rw [State.rd_wr_off _ _ _ _ (by decide)]
    exact State.rd_wr_getBits h0 (Reg.TIME.TIME_SET.W 1) (by unfold fldOk; decide) b 0
  · exact State.rd_wr_getBits h1 (Reg.TIME.TIME_SET.W 2) (by unfold fldOk; decide) w 0

theorem multiwordHighWrite_timeSet {s : State} {path : HostPath} {a b : Word} (w : Word) (hs : s.Sound) (hq : s.Calm) (ho : s.Open 0x8060) (ha : s.heldWord path 0x8058 = some a) (hb : s.heldWord path 0x805C = some b) :
    Leads (.multiwordHighWrite path 0x8060 w) s fun t => t.rd (Reg.TIME.TIME_SET.W 0) = getBits a 0 30 ∧ t.rd (Reg.TIME.TIME_SET.W 1) = getBits b 0 32 ∧ t.rd (Reg.TIME.TIME_SET.W 2) = getBits w 0 16 ∧
      t.now = s.now ∧ Frame [0x8058, 0x805C, 0x8060] [0] { s with heldW := tabPut (tabPut s.heldW 0 (latchKey path 0x8058) 0) 0 (latchKey path 0x805C) 0 } t := by
  have hact := multiwordHighWrite_timeSet_acts (s := s.start) w ho.start ((s.start_heldWord _ _).trans ha) ((s.start_heldWord _ _).trans hb)
  rw [State.start_hold, State.start_hold] at hact
  have hf := (Frame.start [0x8058, 0x805C, 0x8060] [0] ((s.hold path 0x8058 0).hold path 0x805C 0)).setTime (by decide) (by decide) (by decide) a b w
  obtain ⟨h0, h1, h2⟩ := State.rd_setTime (s := ((s.hold path 0x8058 0).hold path 0x805C 0).start) hs.up a b w
  refine leads_whole_rel (s' := (s.hold path 0x8058 0).hold path 0x805C 0) (exec_multiwordHighWrite _ _ _ _) hact (fun _ => rfl) hf.rel hq fun t k => ?_
  exact ⟨(k.rdT _ (by unfold EvtFoot; decide)).trans h0, (k.rdT _ (by unfold EvtFoot; decide)).trans h1, (k.rdT _ (by unfold EvtFoot; decide)).trans h2, (hf.rel.trans k.rel).now,
    hf.posts (eqApart_device (by decide)) List.mem_cons_self k⟩

/-- Settles O22, clause by clause: each command is one write of the register map, or one latching read, and what follows it is at most an event of DEVICE. -/
theorem locksAndWritesLead : Obligations.LocksAndWritesLead :=
  ⟨fun _ path _ _ _ hs hq h ho hp hl hk => pgLockKey_put path false hs hq h ho (by rw [hk]; exact State.lockKey_unlock hp hl),
   fun _ path _ _ _ hs hq h ho hp hl hk => pgLockKey_put path true hs hq h ho (by rw [hk]; exact State.lockKey_lock hp hl),
   fun _ path _ _ _ hs hq h ho hp hl h1 h0 => pgLockKey_wrong path hs hq h ho hp hl h1 h0,
   fun _ path _ _ _ _ _ h ho hp hl hn => cntClear_leads path h ho hp hl hn,
   fun _ path _ _ _ hq ha hd hb hn => multiwordLowRead_leads path hq ha hd hb hn,
   fun _ _ _ _ w hs hq hk hd hc hon hh => multiwordHighWrite_sqBase w hs hq hk hd hc hon hh,
   fun _ path w hs hq hd hon => registerWrite_commitCrc path w hs hq hd hon,
   fun _ path _ w hs hq hd hl hb hp => registerWrite_part path w hs hq hd hl hb hp,
   fun _ _ _ _ _ _ _ _ _ hs hq ho hb h4 hp hr hn hsp hf ha => registerWrite_one hs hq ho hb h4 hp hr hn hsp hf ha,
   fun _ _ _ _ w hs hq ho ha hb => multiwordHighWrite_timeSet w hs hq ho ha hb⟩

end Sys2Proof.Machine
end

section
/-! SUPPORT. The numbers of an element and of its taps (R13, R14, R17, R39): 4352 cells stand before the 512 shutters of a plane. -/
namespace Sys2Proof.Machine

theorem planeOf_cellEid {p x : Nat} (hx : x < 4352) : planeOf (cellEid p x) = p := by
  unfold planeOf cellEid
  omega

theorem cellEid_mod {p x : Nat} (hx : x < 4352) : cellEid p x % 4864 = x := by
  unfold cellEid
  omega

theorem isCell_cellEid {p x : Nat} (hx : x < 4352) : isCell (cellEid p x) = true := by
  simp [isCell, cellEid_mod hx, hx]

theorem placeOf_cellEid {p x : Nat} (hx : x < 4352) : placeOf (cellEid p x) = x := by
  rw [placeOf, if_pos (isCell_cellEid hx), cellEid_mod hx]

theorem cellTap_cellEid {p x : Nat} (hx : x < 4352) (j : Nat) : cellTap (cellEid p x) j = p * 9728 + 2 * x + j := by
  rw [cellTap, planeOf_cellEid hx, placeOf_cellEid hx]

/-- Settles O11: cell floor(w / 2) of stage s stands in its plane, and 2 * floor(w / 2) + w mod 2 is w. -/
theorem cellTapNumbering : Obligations.CellTapNumbering := by
  intro p s w hs hw
  have hx : 256 * s + w / 2 < 4352 := by omega
  calc cellTap (cellEid p (256 * s + w / 2)) (w % 2)
      = p * 9728 + 2 * (256 * s + w / 2) + w % 2 := cellTap_cellEid hx _
    _ = p * 9728 + 512 * s + w := by omega

end Sys2Proof.Machine
end

section
/-! SUPPORT. Bytes of board SDRAM read after a write of them, and the acceptance of a solve request by Seam (R51, R52, R68). -/
namespace Sys2Proof.Machine

theorem memGet_memWrite_below {m : List Host.Cell} {a c : Nat} (l : List Byte) (h : c < a) : memGet (memWrite m a l) c = memGet m c := by
  induction l generalizing m a with
  | nil => rfl
  | cons b l ih =>
    rw [memWrite, ih (by omega), memGet_memPut_ne _ _ (by omega)]

theorem memGet_memWrite {m : List Host.Cell} {a i : Nat} {l : List Byte} (h : i < l.length) : memGet (memWrite m a l) (a + i) = some l[i] := by
  induction l generalizing m a i with
  | nil => nomatch h
  | cons b l ih =>
    cases i with
    | zero => exact (memGet_memWrite_below l (by omega)).trans (memGet_memPut_same m a b)
    | succ i =>
      have hi : a + (i + 1) = a + 1 + i := by omega
      rw [hi]
      exact ih (Nat.lt_of_succ_lt_succ h)

/-- Board SDRAM reads as it was written. -/
theorem State.sdBytes_sdWrite (s : State) (a : Nat) {n : Nat} {l : List Byte} (hn : l.length = n) : (s.sdWrite a l).sdBytes a n = l := by
  subst hn
  refine List.ext_getElem (by simp [State.sdBytes]) fun i _ hi => ?_
  simp [State.sdBytes, State.sdByte, State.sdWrite, memGet_memWrite hi]

/-- Checks 1, 2 and 4 to 6 of R51 on the request of a descriptor b. -/
structure State.Takes (s : State) (b : List Byte) (dest : SolveDest) : Prop where
  opened : s.seamOpen = true
  room : s.seam.queue.length < 64
  fields : solveFault b = none
  ports : firstDup (resolvePerm (parseSolve b dest).perm (((s.baseImage (parseSolve b dest).base).map Image.assignment).getD [])) 0 [] = none
  slot : s.slotPending (parseSolve b dest).target = false

/-- A request that passes the checks is queued (R51). -/
theorem State.seamSubmit_takes {s : State} {b : List Byte} {dest : SolveDest} (h : s.Takes b dest) : s.seamSubmit (some b) dest = s.draw.seamQueue (parseSolve b dest) := by
  obtain ⟨opened, room, fields, ports, slot⟩ := h
  have hopen : s.draw.seamOpen = true := opened
  have hroom : ¬ 64 ≤ s.seam.queue.length := Nat.not_le.2 room
  have hslot : s.draw.slotPending (parseSolve b dest).target = false := slot
  unfold State.seamSubmit
  cases hbase : s.baseImage (parseSolve b dest).base with
  | none =>
    have hb : s.draw.baseImage (parseSolve b dest).base = none := hbase
    rw [hbase, Option.map_none, Option.getD_none] at ports
    simp [hopen, hroom, fields, hb, ports, hslot]
  | some m =>
    have hb : s.draw.baseImage (parseSolve b dest).base = some m := hbase
    rw [hbase, Option.map_some, Option.getD_some] at ports
    simp [hopen, hroom, fields, hb, ports, hslot]

/-- A state whose descriptor fetch has ended. -/
def State.unfetched (s : State) : State := s.modSeam fun q => { q with fetch := none }

/-- The descriptor fetched arrives without error, and its request is queued (R52). -/
theorem State.seamFetched_takes {s : State} {a d : Nat} (hf : s.seam.fetch = some (a, d)) (hon : s.sdOnline = true) (hin : a + 1088 ≤ s.sdSize) (h : s.Takes (s.sdBytes a 1088) (.reg d)) :
    s.seamFetched .ok = (s.unfetched.draw.seamQueue (parseSolve (s.sdBytes a 1088) (.reg d))).seamRegs := by
  have ht : s.unfetched.Takes (s.sdBytes a 1088) (.reg d) := { h with }
  have hok : (s.sdOnline && decide (a + 1088 ≤ s.sdSize)) = true := by simp [hon, hin]
  unfold State.seamFetched
  rw [hf]
  dsimp only
  rw [hok]
  exact congrArg State.seamRegs (State.seamSubmit_takes ht)

theorem State.wr_rel (s : State) (f : Fld) (v : Nat) : EvtRel s (s.wr f v) := rfl

/-- STATUS written changes nothing but the register map. -/
theorem State.seamRegs_rel (s : State) : EvtRel s s.seamRegs :=
  (((s.wr_rel _ _).trans (State.wr_rel _ _ _)).trans (State.wr_rel _ _ _)).trans (State.wr_rel _ _ _)

/-- The descriptor's request in the queue, before STATUS shows it. -/
def State.accepted (s : State) (r : SolveReq) : State :=
  (s.unfetched.draw.modSeam fun q => { q with queue := q.queue ++ [r] }).seamRaise

theorem State.accepted_calm {s : State} (r : SolveReq) (h : s.Calm) : (s.accepted r).Calm := by
  obtain ⟨held, lanes, probe, done, wait, run, plumb⟩ := h
  exact ⟨held, lanes, probe, done, wait, run, plumb⟩

/-- What the acceptance of a request does to the governor: its waiting jobs take the priorities of the requests that they now stand for (R68). -/
theorem seamRequestAccept_gov {s : State} {a d : Nat} (hq : s.Calm) (hf : s.seam.fetch = some (a, d)) (hon : s.sdOnline = true) (hin : a + 1088 ≤ s.sdSize) (h : s.Takes (s.sdBytes a 1088) (.reg d)) :
    Leads (.seamRequestAccept .ok) s fun t => t.gov = (s.accepted (parseSolve (s.sdBytes a 1088) (.reg d))).gov := by
  have hu : s.start.seamFetched .ok = (s.start.accepted (parseSolve (s.sdBytes a 1088) (.reg d))).seamRegs.seamRegs :=
    State.seamFetched_takes (s := s.start) hf hon hin { h with }
  generalize parseSolve (s.sdBytes a 1088) (.reg d) = r at hu ⊢
  have hr : EvtRel (s.start.accepted r) (s.start.accepted r).seamRegs.seamRegs := (State.seamRegs_rel _).trans (State.seamRegs_rel _)
  refine leads_whole (f := fun s => s.seamFetched .ok) rfl _ hu (hr.calm (State.accepted_calm r hq.start)) fun t k => ?_
  exact (hr.trans k.rel).gov

end Sys2Proof.Machine
end

section
/-! SUPPORT. A request with HIGH_PRI that arrives behind an ordinary one (R68): Seam's state and the descriptor. -/
namespace Sys2Proof.Machine

/-- An entry of the permutation of a descriptor that holds n bytes of FFH behind its header. -/
theorem leAt_unassigned {l : List Byte} {n e : Nat} (hl : l.length = 0x40) (he : 2 * e + 2 ≤ n) : leAt (l ++ List.replicate n 0xFF) (0x40 + 2 * e) 2 = 0xFFFF := by
  have hd : (l ++ List.replicate n 0xFF).drop (0x40 + 2 * e) = List.replicate (n - 2 * e) 0xFF := by
    rw [← hl, List.drop_length_add_append, List.drop_replicate]
  have ht : min 2 (n - 2 * e) = 2 := by omega
  unfold leAt bytesAt
  rw [hd, List.take_replicate, ht]
  rfl

theorem parseSolve_unassigned {l : List Byte} {n : Nat} (hl : l.length = 0x40) (hn : 1024 ≤ n) (dest : SolveDest) : (parseSolve (l ++ List.replicate n 0xFF) dest).perm = List.replicate 512 0xFFFF := by
  have he : ∀ e ∈ List.range 512, leAt (l ++ List.replicate n 0xFF) (0x40 + 2 * e) 2 = 0xFFFF := fun e he =>
    leAt_unassigned hl (by have := List.mem_range.1 he; omega)
  unfold parseSolve
  dsimp only
  rw [List.map_congr_left he, List.map_const', List.length_range]

/-- The header of R48 with HIGH_PRI: tag 7, no target, against the live image. -/
def highHeader : List Byte := [0x52, 0x53, 1, 0, 7, 0, 0, 0, 0xFF, 0xFF, 0xFF, 0xFF, 1, 0, 0, 0] ++ List.replicate 48 0

/-- A descriptor with HIGH_PRI that assigns no port. -/
def highDesc : List Byte := highHeader ++ List.replicate 1024 0xFF

theorem highDesc_length : highDesc.length = 1088 := by decide +kernel

theorem highDesc_perm (dest : SolveDest) : (parseSolve highDesc dest).perm = List.replicate 512 0xFFFF := by
  unfold highDesc
  exact parseSolve_unassigned rfl (Nat.le_refl 1024) dest

theorem replicate_getD {α : Type} {n e : Nat} (x d : α) (h : e < n) : (List.replicate n x).getD e d = x := by
  rw [List.getD_eq_getElem?_getD, List.getElem?_replicate, if_pos h, Option.getD_some]

/-- FFFFH is among the values that an entry may take (R49). -/
theorem unassigned_entries : (List.range 512).find? (fun e => decide (0x1FF < (List.replicate 512 0xFFFF).getD e 0) && decide ((List.replicate 512 0xFFFF).getD e 0 < 0xFFFE)) = none := by
  refine List.find?_eq_none.2 fun e he => ?_
  rw [replicate_getD _ _ (List.mem_range.1 he)]
  decide

theorem highDesc_fields : solveFault highDesc = none := by
  unfold solveFault
  dsimp only
  rw [highDesc_perm, unassigned_entries]
  decide +kernel

theorem resolvePerm_unassigned (assign : List (Option Nat)) : resolvePerm (List.replicate 512 0xFFFF) assign = List.replicate 512 none := by
  refine List.eq_replicate_iff.2 ⟨(List.length_map _).trans List.length_range, fun x hx => ?_⟩
  obtain ⟨e, he, rfl⟩ := List.mem_map.1 hx
  dsimp only
  rw [replicate_getD _ _ (List.mem_range.1 he)]
  rfl

theorem firstDup_unassigned (n e : Nat) (seen : List Nat) : firstDup (List.replicate n none) e seen = none := by
  induction n generalizing e with
  | zero => rfl
  | succ n ih => exact ih (e + 1)

/-- SEAM runs and board SDRAM is online with 64 GiB. -/
def seamReady : List (Fld × Nat) :=
  [(Reg.HDR.PG_CTRL.ENABLE 0xB000, 1), (Reg.HDR.PG_STATE.STATE 0xB000, 2)] ++ (List.range 4).flatMap fun c =>
    [(Reg.HDR.PG_STATE.STATE (0x14000 + 0x1000 * c), 2), (Reg.SDRAM.GEOMETRY.CAP_GIB c, 16), (Reg.SDRAM.TRAIN_STATUS.TRAINED c, 1)]

/-- An ordinary request, to no slot and with no port assigned. -/
def ordinaryReq : SolveReq := ⟨6, 0, 0xFFFF, 0xFFFF, false, false, 0, 0, 0, 0, List.replicate 512 0xFFFF, .reg 0⟩

/-- The device in ARMED with registers so set. -/
def armedWith (l : List (Fld × Nat)) : State := l.foldl (fun s e => s.wr e.1 e.2) { State.reset with dev := .armed, dom := [] }

theorem armedWith_sound (l : List (Fld × Nat)) : (armedWith l).Sound := by
  have h : State.Sound { State.reset with dev := .armed, dom := [] } :=
    ⟨rfl, tabWf_nil, tabWf_nil, by decide, tabWf_nil, tabWf_nil, tabWf_nil⟩
  exact (ok_foldl (h.ok (D := fun _ => True) trivial) fun _ e hs => State.wr_ok e.1 e.2 hs).sound

/-- An ordinary request waits, the job of lane 0 stands for it at JOB_PRIORITY, and a descriptor is being fetched. -/
def State.ordinaryWaits (s : State) : State :=
  { s with
    seam := { s.seam with queue := [ordinaryReq], fetch := some (0x2000, 0x1000) }
    gov := { s.gov with jobs := [⟨0, .seam 0, 4, 256, 0⟩], nextId := 1 } }

theorem State.ordinaryWaits_sound {s : State} (h : s.Sound) : s.ordinaryWaits.Sound := by
  obtain ⟨memory, words, domains, clock, parser, elements, capture⟩ := h
  exact ⟨memory, words, domains, clock, parser, elements, capture⟩

theorem State.ordinaryWaits_sdBytes (s : State) (a n : Nat) : s.ordinaryWaits.sdBytes a n = s.sdBytes a n := rfl

theorem State.sdWrite_sound {s : State} (h : s.Sound) (a : Nat) (l : List Byte) : (s.sdWrite a l).Sound := (State.sdWrite_ok a l (h.ok (D := fun _ => True) trivial)).sound

/-- The state in which a request with HIGH_PRI overtakes the one that waits. -/
def overtaken : State := ((armedWith seamReady).sdWrite 0x2000 highDesc).ordinaryWaits

theorem overtaken_sound : overtaken.Sound := State.ordinaryWaits_sound (State.sdWrite_sound (armedWith_sound seamReady) _ _)

theorem overtaken_calm : overtaken.Calm := ⟨rfl, rfl, rfl, rfl, rfl, rfl, rfl⟩

theorem overtaken_bytes : overtaken.sdBytes 0x2000 1088 = highDesc :=
  (State.ordinaryWaits_sdBytes _ _ _).trans (State.sdBytes_sdWrite _ _ highDesc_length)

theorem overtaken_takes : overtaken.Takes highDesc (.reg 0x1000) where
  opened := by decide +kernel
  room := by decide +kernel
  fields := highDesc_fields
  ports := by
    rw [highDesc_perm, resolvePerm_unassigned]
    exact firstDup_unassigned 512 0 []
  slot := by decide +kernel

theorem overtaken_raised : (overtaken.accepted (parseSolve highDesc (.reg 0x1000))).gov.jobs = [⟨0, .seam 0, 12, 256, 0⟩] := by decide +kernel

/-- Refutes O26: its clause on SEAM_REQUEST_ACCEPT leaves the governor as it was, but a request with HIGH_PRI that overtakes an ordinary one raises the job that waits from JOB_PRIORITY to HIGH_PRIORITY (R68). -/
theorem not_seamLeads : ¬ Obligations.SeamLeads := by
  unfold Obligations.SeamLeads
  rintro ⟨-, accept, -, -⟩
  have hf : overtaken.seam.fetch = some (0x2000, 0x1000) := rfl
  have hon : overtaken.sdOnline = true := by decide +kernel
  have hin : 0x2000 + 1088 ≤ overtaken.sdSize := by decide +kernel
  have ht : overtaken.Takes (overtaken.sdBytes 0x2000 1088) (.reg 0x1000) := overtaken_bytes ▸ overtaken_takes
  obtain ⟨t, he, -, -, -, hframe⟩ := accept overtaken 0x2000 0x1000 overtaken_sound overtaken_calm hf hon hin ht.opened ht.room ht.fields
    (by rw [overtaken_bytes, highDesc_perm, resolvePerm_unassigned]; exact firstDup_unassigned 512 0 []) ht.slot
  obtain ⟨t', he', hgov⟩ := seamRequestAccept_gov overtaken_calm hf hon hin ht
  obtain rfl : t = t' := Host.Outcome.next.inj (he.symm.trans he')
  have hkept : t.gov.jobs = [⟨0, .seam 0, 4, 256, 0⟩] := congrArg GovSt.jobs hframe.rel.gov
  rw [hgov, overtaken_bytes, overtaken_raised] at hkept
  exact absurd hkept (by decide)

end Sys2Proof.Machine
end
